-- ==== Sys2Proof/Word.lean ====
section
/-!
DEFINITION. The word types of the protection core and their plainest arithmetic (R6, R330 of spec/).
-/
namespace Sys2Proof

/-- A 64-bit data word of a token, a structure-memory word or a constant entry (R245, R365). -/
abbrev Word := BitVec 64

/-- One octet (R6). -/
abbrev Byte := BitVec 8

/-- A 32-bit register of the register map (R784). -/
abbrev Reg := BitVec 32

end Sys2Proof
end

