-- ==== Sys2Proof/Machine/Table.lean ====
section
/-!
DEFINITION. Sparse tables, in which the unit's numbered things (sessions, FIs, tiles, lanes, slots) are held, and lists in rising order.
-/
namespace Sys2Proof.Machine

/-- A sparse table: key and entry, keys strictly rising; an absent key has the table's default entry. -/
abbrev Tbl (α : Type) := List (Nat × α)

/-- The entry of a key, or the table's default. -/
def Tbl.get {α : Type} (d : α) : Tbl α → Nat → α
  | [], _ => d
  | (k, v) :: t, n => if n = k then v else Tbl.get d t n

/-- The entry of a key when it is listed. -/
def Tbl.find {α : Type} : Tbl α → Nat → Option α
  | [], _ => Option.none
  | (k, v) :: t, n => if n = k then some v else Tbl.find t n

/-- Lists an entry in its place. -/
def Tbl.set {α : Type} : Tbl α → Nat → α → Tbl α
  | [], n, x => [(n, x)]
  | (k, v) :: t, n, x =>
    if n < k then (n, x) :: (k, v) :: t
    else if n = k then (n, x) :: t
    else (k, v) :: Tbl.set t n x

/-- Unlists an entry. -/
def Tbl.del {α : Type} (t : Tbl α) (n : Nat) : Tbl α := t.filter (fun e => e.1 != n)

/-- Writes an entry, keeping only entries that differ from the default. -/
def Tbl.put {α : Type} [DecidableEq α] (d : α) (t : Tbl α) (n : Nat) (x : α) : Tbl α :=
  if x = d then t.del n else t.set n x

/-- The keys listed, in ascending order. -/
def Tbl.keys {α : Type} (t : Tbl α) : List Nat := t.map (·.1)

/-- The entries listed, in ascending order of their keys. -/
def Tbl.vals {α : Type} (t : Tbl α) : List α := t.map (·.2)

/-- Lists each natural number below n. -/
def upTo (n : Nat) : List Nat := List.range n

/-- Inserts a number in a rising list. -/
def insNat : List Nat → Nat → List Nat
  | [], n => [n]
  | k :: t, n => if n < k then n :: k :: t else if n = k then k :: t else k :: insNat t n

/-- The numbers of a list in rising order, each once. -/
def sortNats (l : List Nat) : List Nat := l.foldl insNat []

/-- Inserts an element after those whose key is not above its own. -/
def insBy {α : Type} (key : α → Nat) (x : α) : List α → List α
  | [] => [x]
  | y :: t => if key x < key y then x :: y :: t else y :: insBy key x t

/-- A list in rising order of a key, equal keys in the order they had. -/
def sortBy {α : Type} (key : α → Nat) (l : List α) : List α := l.foldl (fun a x => insBy key x a) []

end Sys2Proof.Machine
end

