-- ==== Sys2Proof/Parts/Basic.lean ====
section
/-!
DEFINITION. Plain data shared by every part of the state: printed fields of a Trevline line or a cairn detail (R62, R64, R728), stamps (R601),
fault classes (R708), outputs (R716).
-/
namespace Sys2Proof.Machine

/-- A printed value of a Trevline field (R62, R64) or of a cairn detail (R728). -/
inductive Val
  | sym (s : String)                 -- a keyword, printed as it stands
  | nat (n : Nat)                    -- decimal
  | int (i : Int)                    -- signed decimal
  | hex (digits n : Nat)             -- 0x and that many hexadecimal digits
  | raw (digits n : Nat)             -- hexadecimal digits without 0x
  | time (sec ns : Nat)              -- seconds, a point and nine digits
  | str (s : String)                 -- a quoted string
  | nats (l : List Nat)              -- numbers joined by commas
  | syms (l : List String)           -- keywords joined by commas
  | ranges (l : List (Nat × Nat))    -- numbers and ranges a-b joined by commas
  | pair (a : String) (n : Nat)      -- a keyword, a hyphen and a number, as in TRIP-2
  | ratio (a b : Nat)                -- two numbers joined by a slash
  | tenth (n : Int)                  -- a number of tenths printed with one decimal
  | dur (ns : Nat)                   -- a duration in its largest whole unit
  | none                             -- NONE (R64)
deriving DecidableEq, Repr

/-- `NAME=value`; an empty name prints the value alone. -/
structure Fld where
  name : String
  val : Val
deriving DecidableEq, Repr

/-- A line's or a detail's fields in their order. -/
abbrev Fields := List Fld

/-- A stamp: the anchor's seconds and nanoseconds and the quality bits of its cycle (R601, R609). -/
structure Stamp where
  sec : Nat
  ns : Nat
  q : BitVec 16
deriving DecidableEq, Repr

/-- Fault classes (R708, Table 18-1), in ascending order. -/
inductive Cls | corrected | degraded | fiFatal | unitFatal
deriving DecidableEq, Repr

/-- An output that belay can hold (R716): trip output, publisher or LED driver. -/
inductive OutId
  | trip (c : Nat)
  | pub (p : Nat)
  | led (l : Nat)
deriving DecidableEq, Repr

end Sys2Proof.Machine
end

