-- ==== Sys2Proof/Parts/Field.lean ====
section
/-!
DEFINITION. The state of the front panel and the field inputs and outputs (17_panel_and_field_io.md), with physical presence (R637).
-/
namespace Sys2Proof.Machine

/-- One key of the matrix (R671, R674, R676). -/
structure Key where
  raw : Bool                -- contact level
  pressed : Bool            -- accepted state
  since : Nat               -- cycle of the scan in which the accepted state was first seen
  stuck : Bool
deriving DecidableEq, Repr

/-- One touch channel (R677–R680). -/
structure Touch where
  count : Nat               -- the last count, 0 to 4,095
  base : Nat                -- baseline
  touched : Bool
  since : Nat               -- cycle of the scan in which the accepted state was first seen
  bad : Bool                -- in fault
deriving DecidableEq, Repr

/-- Readings of a presence input (R681, R684): active, inactive, a fault, or between bands. -/
inductive PresRead | inactive | active | fault | between
deriving DecidableEq, Repr

/-- One presence input (R681, R684). -/
structure Pres where
  active : Bool             -- the state it has, its last valid one while in fault
  fault : Bool
  since : Nat               -- cycle of the scan in which the state was first seen
deriving DecidableEq, Repr

/-- One binary input (R688–R690). -/
structure BinIn where
  raw : Bool                -- high
  filt : Bool               -- filtered raw state
  delivered : Bool          -- last delivered logical state
  accepted : List Nat       -- cycles of the accepted changes of the last second
  changes : Nat
  blocked : Bool
  lastRaw : Nat             -- cycle of the last change of the raw state
deriving DecidableEq, Repr

/-- SUP of SHOW TRIP (R693). -/
inductive Sup | ok | opened | off
deriving DecidableEq, Repr

/-- Who energized a trip output. -/
inductive Drive | off | fi | test
deriving DecidableEq, Repr

/-- One trip output (R691–R698). -/
structure Trip where
  drive : Drive
  onAt : Nat                -- cycle of energizing
  minPulse : Nat            -- minimum pulse that governs the pulse, cycles
  held : Bool               -- a de-energize is held
  latched : Bool            -- latched off after an overcurrent
  testEnd : Nat             -- cycle at which the test pulse ends
  testPulse : Nat           -- PULSE of the running test, in ns
  sup : Sup
  pulses : Nat
  readbackBad : Bool
deriving DecidableEq, Repr

/-- Settings of a touch channel, an input and a trip output. -/
structure TouchCfg where
  threshold : Nat
  drift : Bool
deriving DecidableEq, Repr
structure InputCfg where
  vnom : Nat
  filter : Nat              -- ns
  invert : Bool
deriving DecidableEq, Repr
structure TripCfg where
  minPulse : Nat            -- ns
  supervise : Bool
  plug : Option Nat
deriving DecidableEq, Repr

/-- The panel and field state. -/
structure Panel where
  /-- keys 0–63; contact, accepted state, stuck; R671, R674, R676; reset released -/
  keys : Tbl Key
  /-- touch channels 0–7; count, baseline and state; R677–R680; reset released, count and baseline 0 -/
  touch : Tbl Touch
  /-- presence inputs 0–15; state, fault and the cycle it was first seen; R681, R684; reset INACTIVE -/
  pres : Tbl Pres
  /-- commanded LED states 0–47; 2 bits each; R685, R687; reset OFF -/
  leds : Tbl Nat
  /-- LEDs that show OFF since a belay ended, until the FI's next LED instruction; list; R686; reset none -/
  ledOff : List Nat
  /-- text of display lines 0–3; 40 characters each; R687; reset 40 spaces -/
  text : Tbl (List Char)
  /-- binary inputs 0–15; raw, filtered and delivered state, window, count; R688–R690; reset low, 0 -/
  inputs : Tbl BinIn
  /-- trip outputs 0–15; drive, pulse, latch, supervision; R691–R698; reset de-energized -/
  trips : Tbl Trip
  /-- presence needs keys 62 and 63 released before it can begin again; 1 bit; R637; reset 0 -/
  presHeld : Bool
  /-- physical presence: end of its 120 s; cycle or none; R637; reset not active -/
  presence : Option Nat
deriving DecidableEq, Repr

end Sys2Proof.Machine
end

