-- ==== Sys2Proof/Parts/Frame.lean ====
section
/-!
DEFINITION. Ethernet frames as the parser of R509 hands them on, with the messages the codec decodes (13 and 14 of spec/). The octet encodings of
the messages stand outside the spec; `raw` carries the octets an authentication tag covers.
-/
namespace Sys2Proof.Machine

/-- One ASDU of a sampled-value message (R566, R571, R577). -/
structure Asdu where
  smpCnt : Nat
  confRev : Nat
  smpSynch : Nat
  smpRate : Option Nat
  members : List (BitVec 32 × BitVec 32)   -- value and quality
deriving DecidableEq, Repr

/-- A primitive member of a GOOSE data set (R566). -/
inductive GVal
  | bool (b : Bool)
  | int (octets : Nat) (i : Int)
  | uint (n : Nat)
  | f32 (w : BitVec 32)
  | bits (len : Nat) (w : Word)
  | utc (sec frac : Nat) (q : Nat)
  | other
deriving DecidableEq, Repr

/-- Messages of the subscribed protocols. -/
inductive Pdu
  | sv (svId : List Char) (asdus : List Asdu)
  | goose (gocbRef datSet goId : List Char) (tal stNum sqNum confRev : Nat) (test ndsCom : Bool) (t : Nat × Nat) (data : List GVal)
deriving DecidableEq, Repr

/-- An authentication tag: algorithm (1 HMAC, 2 GMAC), key identifier, octets (R592). -/
structure Tag where
  alg : Nat
  key : Nat
  octets : List Byte
deriving DecidableEq, Repr

/-- A subscribed message with its envelope. -/
structure Msg where
  wellFormed : Bool
  encrypted : Bool
  sim : Bool
  spdu : Option Nat         -- SPDU number of the R forms
  tag : Option Tag
  pdu : Pdu
deriving DecidableEq, Repr

/-- A PTP message (R558). -/
structure Ptp where
  typ : Nat                 -- message type, 0 to 15
  twoStep : Bool
  domain : Nat
  seq : Nat
  port : Nat                -- sourcePortIdentity
  corr : Int                -- correctionField, 2^-16 ns
  reqPort : Nat             -- requestingPortIdentity of the responses
  fields : Fields           -- header and timestamps as captured (R618)
deriving DecidableEq, Repr

/-- What a frame carries. -/
inductive Payload
  | l2 (goose : Bool) (appid : Nat) (m : Msg)
  | ip (v6 goose : Bool) (dst udp : Nat) (m : Msg)
  | ptp (p : Ptp)
  | ipv6nd
  | supervision                            -- a PRP or HSR supervision frame (R550)
  | other (ethertype : Nat)
deriving DecidableEq, Repr

/-- A frame (R509). Lengths run from the destination address to the FCS. -/
structure Frame where
  dst : Nat
  src : Nat
  vtag : Option (Nat × Nat)                -- PCP and VID
  hsr : Option Nat                         -- sequence number of an HSR tag
  prp : Option (Nat × Nat)                 -- LAN identifier and sequence number of a valid trailer
  len : Nat
  fcs : Bool                               -- the FCS is good
  payload : Payload
  raw : List Byte
deriving DecidableEq, Repr

end Sys2Proof.Machine
end

