-- ==== Sys2Proof/Parts/Image.lean ====
section
/-!
DEFINITION. Graph images as the steward holds them once their octets have passed the load-time checks (R330–R336, R367; 08 and 09 of spec/).
-/
namespace Sys2Proof.Machine

/-- Token kinds (R245, Table 6-2); 5–7 are reserved and never produced. -/
inductive Kind | data | void | poison | ctrl | time | rsv5 | rsv6 | rsv7
deriving DecidableEq, Repr

/-- An operand: kind and 64-bit data. -/
structure Opnd where
  kind : Kind
  data : Word
deriving DecidableEq, Repr

/-- A destination in the DEST0 form (R338, Table 8-4). -/
structure Dest where
  vt : Nat
  page : Nat
  off : Nat
  portR : Bool
deriving DecidableEq, Repr

/-- An input-port entry (R332). -/
structure InPort where
  declared : Bool
  required : Bool
  rope : Bool
  fallback : Bool
  dests : List Dest
deriving DecidableEq, Repr

/-- Kinds of output port (R332). -/
inductive OutKind | undeclared | trip | pub | event | chan | led | display | rope
deriving DecidableEq, Repr

/-- An output-port entry (R332). -/
structure OutPort where
  kind : OutKind
  required : Bool
deriving DecidableEq, Repr

/-- A ring descriptor (Table 9-3). -/
structure Ring where
  used : Bool
  base : Nat
  len : Nat
deriving DecidableEq, Repr

/-- A CRC descriptor (Table 9-8). -/
structure CrcDesc where
  used : Bool
  refin : Bool
  refout : Bool
  width : Nat
  poly : Nat
  init : Nat
  xorout : Nat
deriving DecidableEq, Repr

/-- The descriptor block (R367, Table 9-2). -/
structure Desc where
  smem : Nat
  priv : Nat
  cells : Nat
  banks : List Nat
  hwt : Nat
  rings : List Ring
  crcs : List CrcDesc
deriving DecidableEq, Repr

/-- A graph image (R330, Table 8-1) with its analysis record (R331, Table 8-2). -/
structure Image where
  compat : List Byte        -- the 96 octets of Table 4-1
  digest : Nat              -- SHA-256 of the image's octets (R187)
  v : Nat
  hwait : Bool
  c : Nat
  k : Nat
  l : Nat
  kloop : List Nat
  pg : List Nat
  w : List Nat
  f : List Nat
  inputs : List InPort
  outputs : List OutPort
  consts : List Opnd
  desc : Desc
  code : List (List (List Word))   -- virtual tile, page, used words
  sigAlg : Nat
deriving DecidableEq, Repr

end Sys2Proof.Machine
end

