-- ==== Sys2Proof/Parts/Fi.lean ====
section
/-!
DEFINITION. Function instances: their configured budget and bindings (R112, R199–R223) and their running state (R224–R242).
-/
namespace Sys2Proof.Machine

/-- Period sources (R210, Table 5-5). -/
inductive PeriodKind | sv | goose | timer
deriving DecidableEq, Repr

/-- FALLBACK of a roped FI (R240). -/
inductive Fallback | loc | stop
deriving DecidableEq, Repr

/-- Input binding sources (R218, Table 5-6). -/
inductive Source
  | sub (s : Nat) | chan (c : Nat) | key (k : Nat) | touch (t : Nat) | input (i : Nat) | point (p : Nat) | alive
deriving DecidableEq, Repr

/-- Output binding targets (R219, Table 5-7). -/
inductive Target
  | trip (c : Nat) | pub (p : Nat) | event (e : Nat) | chan (c : Nat) | led (l : Nat) | display (r : Nat)
deriving DecidableEq, Repr

/-- A command point (R118, R472). -/
structure Point where
  hitch : Nat
  window : Nat              -- cycles
deriving DecidableEq, Repr

/-- The committed settings of one FI (R112, Table 5-2). -/
structure FiCfg where
  image : Option Image
  cls : Nat                 -- 0–3 for P0–P3
  rank : Option Nat
  twin : Bool
  rope : Bool
  fallback : Fallback
  period : PeriodKind
  periodSet : Bool          -- PERIOD has been set
  psrc : Option Nat
  tick : Option Nat         -- ns
  deadline : Option Nat     -- ns
  tiles : Nat
  pages : Nat
  pinned : Nat
  hashed : Nat
  frames : Nat
  credit : Nat
  deep : Nat                -- MiB
  bw : Nat                  -- MB/s
  stall : Nat               -- ns
  misbehave : Nat
  ins : Tbl Source          -- by input port
  outs : Tbl Target         -- by output port
  points : Tbl Point
deriving DecidableEq, Repr

/-- FI states (R224, Table 5-8). -/
inductive FiSt | empty | loaded | admitted | armed | running | draining | stopped
deriving DecidableEq, Repr

/-- Counts of one copy (R327, R351, Table 21-5). -/
structure Cnt where
  stalegen : Nat
  orphans : Nat
  chandisc : Nat
  held : Nat
  spills : Nat
  fills : Nat
  deepmiss : Nat
  recirc : Nat
  deephold : Nat
  deeppeak : Nat
  pinpeak : Nat
  lookupslow : Nat
  sat : Nat
  divz : Nat
  finv : Nat
  fdz : Nat
  fovf : Nat
  voidmade : Nat
  voidsup : Nat
  defretry : Nat
  slowmem : Nat
  pageretry : Nat
deriving DecidableEq, Repr

/-- One copy of an FI (R234, R249, R310, R318). -/
structure Copy where
  cluster : Nat
  map : List Nat            -- tile number of each slot
  mapBad : List Nat         -- slots whose map entry is uncorrectable (R248a)
  credit : Nat
  standing : Option Nat     -- frame of the standing context
  prealloc : Option Nat     -- frame of the pre-allocated period context (R256)
  lastFire : Nat            -- cycle of the last firing, or of the time pending began
  cnt : Cnt
deriving DecidableEq, Repr

/-- An open period or sample count (R213, R256, R322). -/
structure Period where
  id : Nat                  -- sample count, message number or tick number
  frames : List (Option Nat) -- period context of each copy while it is held
  started : Bool
  startAt : Nat             -- cycle
  stamp : Stamp             -- start time
  deadline : Option Nat     -- cycle
  watched : Bool            -- on the deadline watch (P0)
  done : List Bool          -- PERIOD_DONE delivered by each copy
  overrun : Bool
deriving DecidableEq, Repr

/-- One token for an input port: port, entry of its destination list, operand, and whether its queueing starts the period (R210, R332). -/
structure Deliv where
  port : Nat
  idx : Nat
  op : Opnd
  start : Bool
deriving DecidableEq, Repr

/-- The burst allowance of an EVENT port (R401). -/
structure EvtPort where
  credit : Nat              -- one record is 1,000,000 cycles; 64 records at most
  at? : Nat
  dropped : Nat
deriving DecidableEq, Repr

/-- The running state of one FI. -/
structure Fi where
  /-- state; 3 bits; R224; reset EMPTY -/
  st : FiSt
  /-- generation; 3 bits; R226; reset 0 -/
  gen : Nat
  /-- live-token count of each generation; 8 counts; R226; reset 0 -/
  live : Tbl Nat
  /-- re-arm flag; 1 bit; R117, R230; reset 0 -/
  rearm : Bool
  /-- run intent (flash); 1 bit; R175; reset 0 -/
  intent : Bool
  /-- run intent kept through a rope fallback STOP, to be armed when the link is up; 1 bit; R240; reset 0 -/
  ropeStopped : Bool
  /-- copies A and B; each with tile map, credit, standing context, counts; R234, R249, R310, R327; reset none -/
  copies : List Copy
  /-- cycle of the last entry to ARMED; cycle count; R210, R275; reset 0 -/
  armedAt : Nat
  /-- PERIODS; 32 bits; R212; reset 0 -/
  periods : Nat
  /-- OVERRUNS; 32 bits; R217; reset 0 -/
  overruns : Nat
  /-- MISBEHAVE count; 16 bits; R241; reset 0 -/
  misbehave : Nat
  /-- alive condition of the FI failing; 1 bit; R217; reset 0 -/
  aliveFail : Bool
  /-- open periods and sample counts, oldest first; at most 4 counts; R213, R256, R322; reset none -/
  opens : List Period
  /-- PERIOD_DONE tokens of a P1–P3 FI counted; 32 bits; R211; reset 0 -/
  pdones : Nat
  /-- cycle of the last period start; cycle count; R216; reset 0 -/
  lastStart : Nat
  /-- source-loss fault raised and not resumed; 1 bit; R216; reset 0 -/
  sourceLost : Bool
  /-- pending GOOSE arrival: values to deliver and arrival cycle; one or none; R214; reset none -/
  pendGoose : Option (List Deliv × Nat)
  /-- number of the last sample count or message that took a period context; R256; reset 0 -/
  lastId : Nat
  /-- coalesced GOOSE arrivals; 32 bits; R214; reset 0 -/
  coalesced : Nat
  /-- TIMER ticks since ARMED; 64 bits; R250; reset 0 -/
  ticks : Nat
  /-- no-context count of a TIMER FI; 32 bits; R257; reset 0 -/
  noctx : Nat
  /-- unstarted counts released; 32 bits; R256; reset 0 -/
  unstarted : Nat
  /-- output tokens discarded at unbound ports; 32 bits; R220; reset 0 -/
  unbound : Nat
  /-- trip and publish tokens counted while belayed; 32 bits; R18, R19; reset 0 -/
  belayed : Nat
  /-- arriving or outgoing rope tokens discarded; 32 bits; R239, R240; reset 0 -/
  ropeDisc : Nat
  /-- event-port bursts EVENT-0 and EVENT-1; R401; reset full -/
  evts : Tbl EvtPort
  /-- events beyond the burst counted; 32 bits; R401; reset 0 -/
  evtDropped : Nat
  /-- characters replaced by DISP; 32 bits; R398; reset 0 -/
  dispRepl : Nat
  /-- cell exhaustions of SALLOC; 32 bits; R394; reset 0 -/
  cellExh : Nat
  /-- hitch writes ignored because the queue was full; 32 bits; R393; reset 0 -/
  hitchFull : Nat
  /-- the FI is in deep hold; 1 bit; R320; reset 0 -/
  deepHold : Bool
  /-- cycle at which DRAINING began; cycle count; R231; reset 0 -/
  drainAt : Nat
  /-- rope lost and the LOCAL fallback in force; 1 bit; R240; reset 0 -/
  fallenBack : Bool
  /-- fallback value to deliver at the next period start; 0 none, 1, 2; R240; reset 0 -/
  fallbackVal : Nat
  /-- the LED, event and channel tokens suppressed by VOID or POISON; 32 bits; Table 6-9; reset 0 -/
  suppressed : Nat
deriving DecidableEq, Repr

end Sys2Proof.Machine
end

