-- ==== Sys2Proof/Parts/Dataflow.lean ====
section
/-!
DEFINITION. Tokens, contexts, tiles with their queues and matching stores, the deep store, the token network and the memory requests in progress
(06, 07 and 09 of spec/), with the allocators and hitches they draw on (11).
-/
namespace Sys2Proof.Machine

/-- A token: tag fields and operand (R243, Table 6-1). -/
structure Token where
  fi : Nat
  gen : Nat
  epoch : Bool
  frame : Nat
  vt : Nat
  page : Nat
  off : Nat
  portR : Bool
  colour : Nat
  op : Opnd
deriving DecidableEq, Repr

/-- What a held source firing has been granted (R312). -/
structure Grant where
  credit : Bool
  frame : Option Nat
deriving DecidableEq, Repr

/-- A place of a class queue: a token, its partner once matched, its arrival. -/
structure QItem where
  tok : Token
  copy : Nat
  partner : Option Opnd     -- R operand of a matched firing
  matched : Bool            -- past its match stage
  arrival : Nat             -- arrival number
  grant : Grant
deriving DecidableEq, Repr

/-- Matching-store entry types (R280, Table 7-1). -/
inductive EntTyp | operand | guard | frame | queue | credit
deriving DecidableEq, Repr

/-- What a CREDIT or FRAME entry waits for. -/
inductive WaitFor
  | nothing
  | credit
  | frame
  | frameWord (w : Nat)     -- a FORM 11 operand (R263)
  | reply                   -- a deferred read held as a FRAME entry (R382)
  | hitch (h : Nat)         -- HPARK (R460)
deriving DecidableEq, Repr

/-- A matching-store entry (R281, Table 7-2). -/
structure Entry where
  id : Nat                  -- insertion number, which gives ORDER and ARRIVAL
  typ : EntTyp
  item : QItem
  cls : Nat
  set : Nat                 -- set of the hashed store; 0 in the pinned store
  wait : WaitFor
deriving DecidableEq, Repr

/-- A firing between fetch and the end of its reply. -/
structure Firing where
  tile : Nat
  copy : Nat
  tok : Token               -- the token on L, with the tag of the firing
  r : Opnd                  -- R operand, when the form has one
  word : Word               -- the instruction word
  grant : Grant
deriving DecidableEq, Repr

/-- A resident instruction page (R428–R430). -/
structure ResPage where
  fi : Nat
  copy : Nat
  vt : Nat
  page : Nat
  shared : Bool
  lastUse : Nat
deriving DecidableEq, Repr

/-- A page fetch (R429). -/
structure Fetch where
  fi : Nat
  copy : Nat
  vt : Nat
  page : Nat
  shared : Bool
  retryAt : Option Nat      -- waiting for a page to evict (R431)
  bad : Bool                -- the fetch met a poisoned line (R433)
deriving DecidableEq, Repr

/-- One tile's execution state (R264, R274, R280, R297, R301, R429). -/
structure Tile where
  /-- class queues 0–3 and their QUEUE links, oldest first; 4 × 256 places; R274, R313; reset empty -/
  q : Tbl (List QItem)
  /-- position in the pattern 1,2,1,2,1,2,1,3; 3 bits; R274; reset 0 -/
  slot : Nat
  /-- matching-store entries; 8,192; R280, R281; reset empty -/
  store : List Entry
  /-- fill-pending buffer; 32 places; R301; reset empty -/
  fill : List QItem
  /-- spill filter; 4,096 × 4 bits; R297; reset 0 -/
  filter : Tbl Nat
  /-- entries of this tile now in deep stores; count; R297; reset 0 -/
  inDeep : Nat
  /-- page-wait buffer; 32 places; R429; reset empty -/
  pageWait : List QItem
  /-- outstanding page fetches; 4; R429; reset none -/
  fetches : List Fetch
  /-- resident instruction pages; 16; R428; reset none -/
  pages : List ResPage
  /-- memory, hitch and allocate requests outstanding; 6 bits; R372; reset 0 -/
  reqs : Nat
  /-- firings between fetch and execute, oldest first; R264; reset none -/
  pipe : List Firing
deriving DecidableEq, Repr

/-- Context life: its frame is free, live, or released with its purge running. -/
inductive CtxSt | free | live | purging
deriving DecidableEq, Repr

/-- Kinds of context (R254). -/
inductive CtxKind | standing | period | child
deriving DecidableEq, Repr

/-- A context record with its frame memory (R253, R259, R311, R324). -/
structure Ctx where
  /-- free, live or being purged; R253, R259; reset free -/
  st : CtxSt
  kind : CtxKind
  fi : Nat
  copy : Nat
  gen : Nat
  /-- EPOCH; 1 bit; R253; reset 0 -/
  epoch : Bool
  /-- period served; R253; reset none -/
  period : Option Nat
  /-- deadline served, cycle; R253; reset none -/
  deadline : Option Nat
  /-- predicates p0–p7 of the context table; presence and value; R253, R268; reset empty -/
  preds : Tbl Bool
  /-- predicates present in every tile mirror; R268; reset empty -/
  mirror : Tbl Bool
  /-- predicate writes on their way to the mirrors: predicate, value, cycle due; R268; reset none -/
  updates : List (Nat × Bool × Nat)
  /-- live-token count; R253; reset 0 -/
  live : Nat
  /-- loop counters n(0)–n(7); R311; reset 0 -/
  loops : Tbl Nat
  /-- frame words present; 32 × 64 bits; R253, R384; reset empty -/
  words : Tbl Word
  /-- poisoned frame words; R409; reset none -/
  wpoison : List Nat
  /-- entries of the context in the deep store; R325; reset 0 -/
  inDeep : Nat
  /-- tiles whose purge sweep is not acknowledged; R324, R325; reset none -/
  sweeps : List Nat
  /-- a deep scan of the purge has not ended; 1 bit; R325; reset 0 -/
  scan : Bool
  /-- cycle of release; R324; reset 0 -/
  releasedAt : Nat
deriving DecidableEq, Repr

/-- A token on its way to a tile (R277, R278). -/
structure Flight where
  src : Nat                 -- source tile, or 416 for gateway deliveries
  dst : Nat
  copy : Nat
  tok : Token
  startsPeriod : Option Nat -- the period its queueing starts (R210)
  chan : Option Nat         -- the channel that sent it (R222)
deriving DecidableEq, Repr

/-- A reply on its way back (R377). -/
structure Reply where
  firing : Firing
  op : Option Opnd          -- nothing is emitted when none
  entry : Option Nat        -- the entry that held the firing meanwhile
deriving DecidableEq, Repr

/-- Where a deferred read waits (R382, R385). -/
inductive DeferAt
  | sword (w : Nat)         -- structure word number
  | fword (cluster frame w : Nat)
deriving DecidableEq, Repr

/-- A deferred read (R382, R383): the firings it answers with the entries that hold them. -/
structure Defer where
  at? : DeferAt
  empties : Bool            -- SLDE
  fs : List (Firing × Nat)
  retryAt : Option Nat      -- refused with RETRY, to be sent again (R385)
deriving DecidableEq, Repr

/-- A copy's DST merge entry (R420). -/
structure MergeEnt where
  fi : Nat
  copy : Nat
  line : Nat                -- DRAM line number
  words : Tbl Word          -- words held, by number 0 to 7
  last : Nat                -- cycle of the last DST that joined
  acks : List (Firing × Nat) -- stores to acknowledge, with their EA
deriving DecidableEq, Repr

/-- A deep-store entry (R295). -/
structure DeepEnt where
  tok : Token
  copy : Nat
  tile : Nat                -- the tile that spilled it
  written : Bool            -- its spill write has been made
deriving DecidableEq, Repr

/-- A deep-store line (R295, Table 7-4). -/
structure DeepLine where
  ents : List (Option DeepEnt)  -- three places
  link : Option Nat         -- next overflow line
  pos : Nat
  bad : Bool                -- poisoned, or reserved LINKED or POSITION
deriving DecidableEq, Repr

/-- The deep store of one FI (R294–R296). -/
structure Deep where
  home : Tbl DeepLine
  overflow : Tbl DeepLine       -- by line index
  pages : List Nat          -- overflow pages held
  reqs : List (Bool × QItem × Nat)  -- engine requests in arrival order: lookup flag, token, tile
deriving DecidableEq, Repr

/-- An unmatched action of one copy at the twin comparator (R235, R236). -/
structure TwinAct where
  firing : Firing
  at? : Nat
deriving DecidableEq, Repr

/-- One comparator stream of a twinned FI. -/
structure TwinStream where
  fi : Nat
  key : Nat                 -- 0–63 output port; 64 + vt memory; 128 + vt hitch; 192 + vt allocate
  a : List TwinAct
  b : List TwinAct
deriving DecidableEq, Repr

/-- A packet cell held by a requester (R442, R444). -/
structure Cell where
  owner : Nat               -- requester number of Table 11-1
  words : Tbl Word          -- 32 words, zero when not listed
deriving DecidableEq, Repr

/-- A hitch, group or region (R455, R457, R459). -/
structure Hitch where
  holder : Nat              -- master ID, 0 when free
  queue : List Nat
  broken : Bool
deriving DecidableEq, Repr

/-- A stalled HWAIT read, or a parked HPARK firing (R460). -/
structure HWaiter where
  hitch : Nat
  fs : List (Firing × Option Nat)   -- the firings answered, with the CREDIT entry of a parked one
  until? : Option Nat       -- end of HWT for HWAIT
deriving DecidableEq, Repr

/-- Cluster-wide frame allocation. -/
structure FramePool where
  lost : Nat
  ptr : Nat
  waiting : List (Nat × Nat)   -- held CNEW requests in arrival order: tile, entry
deriving DecidableEq, Repr

/-- Counts of a subscription's input binding (R256, R257). -/
structure BindCnt where
  late : Nat
  noctx : Nat
  unstarted : Nat
deriving DecidableEq, Repr

/-- The dataflow fabric. -/
structure Fabric where
  /-- execution state of tiles 0–415; R264–R317; reset empty -/
  tiles : Tbl Tile
  /-- context table and frame memory, keyed 32,768 × cluster + frame; 8 × 32,768 records of 32 words; R253; reset free, empty -/
  ctxs : Tbl Ctx
  /-- frame allocator of each cluster: lost elements, rotating pointer, held CNEW requests; R442, R448, R453; reset 0 -/
  frames : Tbl FramePool
  /-- tokens on VC0, oldest first; R277, R278; reset none -/
  net : List Flight
  /-- replies on VC1, oldest first; R377; reset none -/
  replies : List Reply
  /-- deferral tables, in arrival order; 2 × 8,192 and 8 × 4,096 entries; R382, R385; reset empty -/
  defers : List Defer
  /-- credit requests at G1 in arrival order: FI, copy, tile, entry; R312; reset none -/
  creditQ : List (Nat × Nat × Nat × Nat)
  /-- deep stores by FI; R294; reset empty -/
  deeps : Tbl Deep
  /-- deep-store pages: lost elements; R453; reset 0 -/
  deepLost : Nat
  /-- deep-store pages: rotating pointer; 3 bits; R448; reset 0 -/
  deepPtr : Nat
  /-- twin comparator streams; 16 actions per copy each; R235, R236; reset empty -/
  twins : List TwinStream
  /-- packet cells granted; 16,384; R442, R444; reset none -/
  cells : Tbl Cell
  /-- packet cells lost; R453; reset 0 -/
  cellLost : Nat
  /-- packet-cell rotating pointer; 11 bits; R448; reset 0 -/
  cellPtr : Nat
  /-- instruction pages lost; R453; reset 0 -/
  pageLost : Nat
  /-- hitches: 0–255 group hitches, 256 + 2^21 × region + word for region hitches; R455, R459; reset free -/
  hitches : Tbl Hitch
  /-- hitch regions broken with a structure-memory half that was forced off; 64 × 1 bit; R469, R777; reset none -/
  brokenRegions : List Nat
  /-- DST merge entries, one per copy; R420; reset none -/
  merges : List MergeEnt
  /-- stalled HWAIT reads and parked HPARK firings; R460; reset none -/
  hwaits : List HWaiter
  /-- next insertion or arrival number; ARRIVAL order of Table 7-2; R281; reset 0 -/
  nextId : Nat
  /-- PERIOD_DONE tokens on their way to the deadline watch: FI, copy, period; R258, R322; reset none -/
  dones : List (Nat × Nat × Nat)
  /-- slots a traverse or a repair has moved, whose tokens in flight are forwarded: FI, copy, old tile, new tile; R249, R746; reset none -/
  fwd : List (Nat × Nat × Nat × Nat)
  /-- LATE, NOCTX and UNSTARTED of each subscription; 3 × 32 bits; R256, R257, R594; reset 0 -/
  binds : Tbl BindCnt
  /-- tiles marked for test; 416 × 1 bit; R251, R252, R342; reset none -/
  marks : List Nat
  /-- channel windows: tokens sent and not delivered on channel c; 4,096 channels × 64; R221, R222; reset 0 -/
  chans : Tbl Nat
deriving DecidableEq, Repr

end Sys2Proof.Machine
end

