-- ==== Sys2Proof/Parts/Lanes.lean ====
section
/-!
DEFINITION. The state of lanes, management ports, cages, port counters and the rope link (12_lanes_ports_and_rope.md).
-/
namespace Sys2Proof.Machine

/-- Lane modes (Table 12-1). -/
inductive LaneMode | bp100 | cu100 | c2m100 | bp50 | cu50 | bp25 | cu25 | bp10 | sfi10 | bx1 | rope | off
deriving DecidableEq, Repr

/-- FEC of SET LANE (R128). -/
inductive Fec | auto | rs | baser | none
deriving DecidableEq, Repr

/-- A committed lane setting. -/
structure LaneCfg where
  mode : LaneMode
  fec : Fec
deriving DecidableEq, Repr

/-- Lane states (R480). -/
inductive LaneSt | off | training | up | down
deriving DecidableEq, Repr

/-- One lane. -/
structure Lane where
  st : LaneSt
  run : LaneCfg             -- the setting it runs
  since : Nat               -- cycle of its last entry to TRAINING or DOWN
  stopEnd : Option Nat      -- end of a stop phase
  next : LaneCfg            -- what it runs after the stop phase
  latched : Option LaneCfg  -- a change that waits (R483)
  los : Bool
  hwBad : Bool              -- calibration or PLL failed (R479)
  retrying : Bool           -- its entry to DOWN has been recorded (R482)
deriving DecidableEq, Repr

/-- One cage (R487–R489). -/
structure Cage where
  resetOut : Bool           -- ResetL released
  ready : Option Nat        -- cycle since which a module is present and the quad is ON
  intl : Bool               -- IntL asserted
  written : Tbl Nat         -- octets last written to module memory
deriving DecidableEq, Repr

/-- Counters of a port (Table 12-7). -/
structure PortCnt where
  rxf : Nat
  rxo : Nat
  txf : Nat
  txo : Nat
  fcs : Nat
  runt : Nat
  giant : Nat
  code : Nat
  nocell : Nat
  vlan : Nat
  learn : Nat
  linkdown : Nat
  abort : Nat
  dup : Nat
  learnev : Nat
  downs : Nat
  fecc : Nat
  fecu : Nat
deriving DecidableEq, Repr

/-- A token of a TOKENS frame (R493). -/
structure RopeTok where
  port : Nat
  tok : Token
deriving DecidableEq, Repr

/-- Body of a BEACON frame (Table 12-6). -/
structure Beacon where
  serial : List Char
  alive : Bool
  basecamp : Bool
  lane15 : Bool
  echoValid : Bool
  tx : Nat × Nat            -- TX_STAMP
  txFrac : Nat
  txq : BitVec 16
  echoSeq : Nat
  echoRx : Nat × Nat
  echoTx : Nat × Nat
deriving DecidableEq, Repr

/-- Content of a rope frame. -/
inductive RopeBody
  | tokens (l : List RopeTok)
  | mirror (inport len : Nat) (origin : Stamp) (f : Frame)
  | beacon (b : Beacon)
deriving DecidableEq, Repr

/-- A rope frame (Table 12-4): its header as received, TYPE checked against the body. -/
structure RopeFrame where
  version : Nat
  typ : Nat
  seq : Nat
  resv : Nat                -- octet 7
  body : RopeBody
deriving DecidableEq, Repr

/-- What is known of one rope lane's beacons (R498–R503). -/
structure RopeLane where
  rxAt : Option Nat         -- cycle of the last beacon received
  runFrom : Nat             -- cycle since which beacons have come without a gap above 15 us
  peerSeq : Nat             -- its SEQ
  peerTx : Nat × Nat        -- its TX_STAMP
  rxTime : Nat × Nat        -- anchor time of its arrival
  echoSeq : Nat             -- its ECHO_SEQ
  echoValid : Bool
  downNoted : Bool          -- its 60 s of ill health as the standby have been recorded (R754)
deriving DecidableEq, Repr

/-- Counts of the rope line (R505). -/
structure RopeCnt where
  txtok : Nat
  rxtok : Nat
  txdisc : Nat
  disc : Nat
  mirtx : Nat
  mirrx : Nat
  mirdrop : Nat
  lost : Nat
  stale : Nat
  badver : Nat
  badtype : Nat
  switch : Nat
deriving DecidableEq, Repr

/-- Lanes, ports and the rope link. -/
structure Links where
  /-- lanes 0–15; state, mode, FEC, latched change; R474, R480, R483; reset OFF -/
  lanes : Tbl Lane
  /-- links of management ports 16 and 17, UP; 2 bits; R486; reset DOWN -/
  mgmt : List Nat
  /-- cages X7–X10; ResetL, IntL, octets written; R487–R489; reset ResetL asserted -/
  cages : Tbl Cage
  /-- counters of ports 0–17; 18 × 64 bits each; R506, R507; reset 0 -/
  ports : Tbl PortCnt
  /-- PORT_PTP_LINKDLY of ports 0–17; 32 bits; R560; reset 0 -/
  linkDly : Tbl Nat
  /-- rope link UP; 1 bit; R503; reset LOST -/
  ropeUp : Bool
  /-- lane that carries this unit's tokens, 14 or 15; 1 bit; R502; reset 14 -/
  txLane : Nat
  /-- tokens queued at the framer, oldest first; 512; R493, R500; reset empty -/
  txQueue : List RopeTok
  /-- cycle at which the framer received the first of them; cycle count; R493; reset 0 -/
  txFirst : Nat
  /-- MIRROR frames queued; 64; R500; reset empty -/
  mirrors : List RopeFrame
  /-- last rope frame given to the transmit lane, and its lane; R493; reset none -/
  lastSent : Option (Nat × RopeFrame)
  /-- last beacon sent on each of lanes 14 and 15; R498; reset none -/
  lastBeacon : Tbl RopeFrame
  /-- SEQ last sent of TYPE 1, 2, 3; 3 × 16 bits; R492; reset 0 -/
  txSeq : Tbl Nat
  /-- SEQ last accepted of TYPE 1, 2, 3; 3 × 16 bits or none; R501; reset none -/
  rxSeq : Tbl Nat
  /-- cycle of the last beacon pair sent; cycle count or none; R498; reset none -/
  beaconAt : Option Nat
  /-- what each of lanes 14 and 15 received last; R499, R502, R503; reset none -/
  rlanes : Tbl RopeLane
  /-- last beacon received, for PEER, PEERALIVE and PEERBASECAMP; R505; reset none -/
  peer : Option Beacon
  /-- serial number last seen; 10 characters or none; R503; reset none -/
  peerSerial : Option (List Char)
  /-- OFFSET and DELAY in ns; signed; R499, R505; reset none -/
  offset : Option (Int × Int)
  /-- rope counters; 12 × 64 bits; R505, R507; reset 0 -/
  cnt : RopeCnt
deriving DecidableEq, Repr

end Sys2Proof.Machine
end

