-- ==== Sys2Proof/Parts/Repair.lean ====
section
/-!
DEFINITION. The state of repair: tiles, splices, the traverse, suspect rows, retired groups, links and flash wear (19_repair_and_ageing.md).
-/
namespace Sys2Proof.Machine

/-- Tile states of SHOW TILE (R119). -/
inductive TileSt | active | spare | testing | spliced
deriving DecidableEq, Repr

/-- Causes of a splice (Table 19-1). -/
inductive SpliceCause | bist | traverse | runtime | compare
deriving DecidableEq, Repr

/-- A tile's repair record. -/
structure TileRep where
  st : TileSt
  last : Option (Nat × Nat) -- LASTTEST
  passed : Bool             -- the last test passed
  suspect : Bool            -- target or candidate of a failed comparison (R751)
  dead : Bool               -- declared failed at run time (R750a)
deriving DecidableEq, Repr

/-- Phases of a traverse step (Table 19-2). -/
inductive Phase | prepare | copy | shadow | vacate | test
deriving DecidableEq, Repr

/-- A slot being migrated: FI, copy, periods completed since COPY, switched. -/
structure SlotMove where
  fi : Nat
  copy : Nat
  periods : Nat             -- PERIODS that the FI reaches when 8 periods begun after COPY have completed
  switched : Bool
deriving DecidableEq, Repr

/-- A traverse step (R742, R743). -/
structure Step where
  cand : Nat
  target : Option Nat
  phase : Phase
  since : Nat               -- cycle the phase began
  copied : Nat              -- cycle COPY ended
  lastSwitch : Nat          -- cycle of the last slot switch
  slots : List SlotMove
  scheduled : Bool
  accused : Option Nat      -- the candidate, while the target of a failed comparison is tested (R751)
deriving DecidableEq, Repr

/-- A mesh, ring or rope link (R753, R754). -/
structure Link where
  spares : Nat              -- spare bit-lanes used
  half : Bool
  out : Bool
  ends : List (Nat × Nat)   -- tiles at its ends, each with the side 0 N, 1 E, 2 S, 3 W, once it runs at half width
deriving DecidableEq, Repr

/-- What a scrub or a patrol pass finds: the error, its place and its kind are the hardware's. -/
inductive Finding
  | row (r : Nat) (tile : Option Nat)          -- a corrected error in an SRAM row, with the tile whose memory it lies in
  | word (w r : Nat)                           -- a corrected structure word, in an SRAM row
  | wordBad (w r : Nat)                        -- an uncorrectable structure word
  | frameBad (cluster frame w r : Nat)         -- an uncorrectable frame word
  | entryBad (tile id : Nat) (key : Bool)      -- an uncorrectable matching-store entry, its KEY trusted or not
  | mapBad (fi copy slot : Nat)                -- an uncorrectable tile-map entry
  | macBad (mac vlan : Nat)
  | subBad (typ port : Nat) (key : List Byte)
  | pfxBad (v6 : Bool) (addr len : Nat)
  | templBad (n : Nat)                         -- 0–255 decode, 256–511 encode
  | holdBad (n : Nat)                          -- an entry of the codec's hold buffer
  | hitchBad (h : Nat)
  | portCounter (p : Nat)
  | collector                                  -- the fault map or a collector counter
  | frameLost (cluster : Nat) | cellLost | deepPageLost | pageLost   -- an allocator's owner record
  | line (l row : Nat)                         -- a corrected DRAM line, in a DRAM row
  | lineBad (l row : Nat)                      -- an uncorrectable line of the private region
  | unitTag (l : Nat)                          -- a UNIT line whose tag fails under a unit engine
  | deepBad (fi : Nat) (home : Bool) (i : Nat)
  | recordBad (seq : Nat)                      -- a cairn record's line
deriving DecidableEq, Repr

/-- The repair state. -/
structure Repair where
  /-- repair record of tiles 0–415; state, LASTTEST; R119, R735; reset ACTIVE, local tiles 48–51 SPARE (R741) -/
  tiles : Tbl TileRep
  /-- soft splice records (flash); 416: cause and anchor time; R738; reset not spliced -/
  soft : Tbl (SpliceCause × Nat × Nat)
  /-- fuse splice records; 32: tile and cause; R738; reset none -/
  fuses : List (Nat × SpliceCause)
  /-- traverse steps in progress, by cluster; R743, R749; reset none -/
  steps : Tbl Step
  /-- cluster of the next scheduled step; 3 bits; R742; reset 0 -/
  next : Nat
  /-- cycle from which INTERVAL counts; cycle count; R120, R742; reset 0 -/
  from? : Nat
  /-- SRAM suspect rows (flash); 1,024; R736; reset none -/
  sram : List Nat
  /-- DRAM suspect rows (flash); 1,024; R736; reset none -/
  dram : List Nat
  /-- suspect rows not recorded for lack of a place; count; R737; reset 0 -/
  unrecorded : Nat
  /-- corrected errors by row: the cycle of the last one, SRAM rows then DRAM rows (2^32 +); R736; reset none -/
  rowErr : Tbl Nat
  /-- spare rows used by macro; R735, R747; reset 0 -/
  rows : Tbl Nat
  /-- row-repair resources used by stack; R736; reset 0 -/
  pprUsed : Tbl Nat
  /-- retired pseudo-channel groups 0–63; R752; reset none -/
  retired : List Nat
  /-- groups waiting to be copied and retired; R752; reset none -/
  retiring : List Nat
  /-- uncorrectable errors of a group, by cycle; R752; reset none -/
  groupErr : Tbl (List Nat)
  /-- relocation-reserve places used; 4; R415, R755; reset 0 -/
  reloc : Nat
  /-- private-region granules taken for retired groups; MiB; R415; reset 0 -/
  privTaken : Nat
  /-- links by number: spare bit-lanes used, half width, out; R753, R754; reset whole -/
  links : Tbl Link
  /-- writes of each flash area 0–6 of Table 19-5; R757; reset 0 -/
  wear : Tbl Nat
  /-- 10 % steps of USED recorded, by area; R758; reset 0 -/
  wearStep : Tbl Nat
  /-- tiles marked for test by a comparison; clusters whose REPAIR-MARGIN has been raised; R756; reset none -/
  margins : List Nat
deriving DecidableEq, Repr

end Sys2Proof.Machine
end

