-- ==== Sys2Proof/Parts/Codec.lean ====
section
/-!
DEFINITION. The state of the frame codec: templates, subscriptions, publishers (14_frame_codec.md).
-/
namespace Sys2Proof.Machine

/-- Types of subscriptions and publishers (Table 3-5). -/
inductive SubType | sv | goose | rsv | rgoose
deriving DecidableEq, Repr

/-- Authentication (R592). -/
inductive Auth | none | hmac | gmac
deriving DecidableEq, Repr

/-- An item of a decode template (R565, R566). -/
structure DItem where
  fmt : Nat
  voidbad : Bool
  index : Nat
deriving DecidableEq, Repr

/-- A decode template (Table 14-1). -/
structure DTempl where
  goose : Bool
  simOk : Bool
  newOnly : Bool
  rate : Nat
  asdus : Nat
  confRev : Nat
  ident : List Char          -- empty: not checked
  items : List DItem
deriving DecidableEq, Repr

/-- A member of an encode template (Table 14-7). -/
structure EMember where
  fmt : Nat
  bitlen : Nat
  dflt : Word
deriving DecidableEq, Repr

/-- An encode template (Table 14-7). -/
structure ETempl where
  goose : Bool
  appid : Nat
  dstMac : Nat
  confRev : Nat
  rate : Nat
  ref : List Char
  datSet : List Char
  goId : List Char
  dstIp : Nat
  srcIp : Nat
  udp : Nat
  members : List EMember
deriving DecidableEq, Repr

/-- A committed subscription (Table 3-5). -/
structure SubCfg where
  typ : SubType
  mac : Nat
  vlan : Nat
  appid : Nat
  v6 : Bool
  dst : Nat
  udp : Nat
  ports : List Nat
  template : Nat
  auth : Auth
  slot : Nat
deriving DecidableEq, Repr

/-- A committed publisher (Table 3-5). -/
structure PubCfg where
  typ : SubType
  template : Nat
  ports : List Nat
  auth : Auth
  slot : Nat
  vlan : Nat
  prio : Nat
  min : Nat                 -- cycles
  max : Nat
deriving DecidableEq, Repr

/-- Running state of a subscription (R572–R575, R594); LATE, NOCTX and UNSTARTED stand with the dataflow fabric. -/
structure SubSt where
  cnts : List Nat           -- the last 8 accepted smpCnt, newest first
  st : Option (Nat × Nat)   -- last accepted stNum and sqNum
  spdu : Option Nat
  ctrl : Word               -- CTRL data of the last accepted message
  talEnd : Option Nat       -- cycle at which timeAllowedToLive passes
  stale : Bool
  authAt : Option Nat       -- cycle of the last authentication fault
  accepted : Nat
  fcs : Nat
  malformed : Nat
  sim : Nat
  auth : Nat
  dup : Nat
  rep : Nat
  overload : Nat
  notarmed : Nat
  staleCnt : Nat
  mirrored : Nat
deriving DecidableEq, Repr

/-- A publication frame queued for building (R586, R591). -/
structure PubFrame where
  values : Tbl Word
  cell : Option (List Byte)
  stNum : Nat
  sqNum : Nat
  smpCnt : Nat
  test : Bool
  invalid : Bool            -- the belay frame (R590)
  again : Bool              -- a retransmission
  interval : Nat            -- cycles to the next scheduled frame
  due : Nat                 -- cycle it was asked for
deriving DecidableEq, Repr

/-- Running state of a publisher (R584–R591, R594). -/
structure PubSt where
  values : Tbl Word         -- member values that differ from the template's defaults
  cell : Option (List Byte) -- variable part handed over by a cell
  published : Option (Tbl Word × Option (List Byte))
  stNum : Nat
  sqNum : Nat
  smpCnt : Nat
  spdu : Nat
  stateTime : Nat × Nat     -- anchor time of the last new state
  building : Option PubFrame -- the frame queued for building
  pending : Option PubFrame -- the one that waits behind it (R400)
  stopped : Bool
  sentSince : Bool          -- a frame has been sent since the FI last entered ARMED
  interval : Nat            -- cycles to the next retransmission
  dueAt : Option Nat        -- cycle of the next retransmission
  test : Bool
  sent : Nat
  retrans : Nat
  unchanged : Nat
  belayed : Nat
  coalesced : Nat
  nocell : Nat
  noroute : Nat
  toobig : Nat
deriving DecidableEq, Repr

/-- A frame held for its tag check (R582). -/
structure AuthWait where
  sub : Nat
  port : Nat
  mirrored : Bool
  stamp : Stamp
  cycle : Nat
  msg : Msg
  raw : List Byte
deriving DecidableEq, Repr

/-- The frame codec. -/
structure Codec where
  /-- running state of subscriptions 0–4095; sequence state and counters; R572, R594; reset empty, 0 -/
  subs : Tbl SubSt
  /-- running state of publishers 0–1023; R586, R594; reset empty, 0 -/
  pubs : Tbl PubSt
  /-- decode bucket, 24 per 1,000 cycles; units of 1/1,000 ASDU; R573; reset full -/
  bucket : Nat
  /-- cycle the decode bucket was last brought forward; cycle count; R573; reset 0 -/
  bucketAt : Nat
  /-- build bucket, 8 per 1,000 cycles; units of 1/1,000 frame; R591; reset full -/
  build : Nat
  /-- cycle the build bucket was last brought forward; cycle count; R591; reset 0 -/
  buildAt : Nat
  /-- frames that wait for their tag check, oldest first; R582; reset empty -/
  waiting : List AuthWait
  /-- templates found uncorrectable: 0–255 decode, 256–511 encode; R570; reset none -/
  badTempl : List Nat
deriving DecidableEq, Repr

end Sys2Proof.Machine
end

