-- ==== Sys2Proof/Parts/Switch.lean ====
section
/-!
DEFINITION. The state of the switch and the forwarding tables (13_switching_and_tables.md).
-/
namespace Sys2Proof.Machine

/-- A MAC table entry (Table 13-3). -/
structure MacEnt where
  mac : Nat
  vlan : Nat
  static : Bool
  ports : List Nat
  stamp : Nat
deriving DecidableEq, Repr

/-- A subscription-table entry's payload (R538). -/
inductive SubPay
  | sub (n : Nat)
  | dup (remain arrival : Nat)
deriving DecidableEq, Repr

/-- A subscription-table entry (R538): TYPE and PORT with the rest of the key. -/
structure SubEnt where
  typ : Nat
  port : Nat
  key : List Byte
  pay : SubPay
deriving DecidableEq, Repr

/-- A prefix of an LPM table (R551). -/
structure Pfx where
  addr : Nat
  len : Nat
  port : Nat
  mac : Nat
deriving DecidableEq, Repr

/-- A pending two-step Sync (R562). -/
structure PtpPend where
  domain : Nat
  seq : Nat
  spi : Nat
  corr : Int
  at? : Nat
deriving DecidableEq, Repr

/-- A frame queued at an egress port (R514, R516). -/
structure EgFrame where
  prio : Nat
  vlan : Nat
  tagged : Bool
  frame : Frame
  cells : List Nat          -- packet cells it holds
  ingress : Nat             -- capture cycle at ingress, for residence time
  ingressPort : Nat         -- 18 codec, 19 steward
  corr : Bool               -- residence time is added at egress
deriving DecidableEq, Repr

/-- A committed port setting (Table 3-5). -/
inductive Redund | none | prpA | prpB | hsr
deriving DecidableEq, Repr
structure PortCfg where
  pvid : Nat
  vlans : List Nat
  prio : Nat
  learn : Nat
  flood : Bool              -- EXCESS=FLOOD
  redund : Redund
  peer : Option Nat
  ip : List Char
  gateway : List Char
deriving DecidableEq, Repr

/-- Counters of the FWD block (Table 21 of spec/, R512–R562). -/
structure FwdCnt where
  rsvdrop : Nat
  learnq : Nat
  learnfail : Nat
  staticsrc : Nat
  dupmiss : Nat
  wronglan : Nat
  noroute : Nat
  ptprsv : Nat
  ptpnomatch : Nat
deriving DecidableEq, Repr

/-- A learning request (R525, R528). -/
structure Learn where
  mac : Nat
  vlan : Nat
  port : Nat
deriving DecidableEq, Repr

/-- The switch. -/
structure Switch where
  /-- MAC table half 0 by slot; 32,768 entries; R519; reset empty -/
  half0 : Tbl MacEnt
  /-- MAC table half 1 by slot; 32,768 entries; R519; reset empty -/
  half1 : Tbl MacEnt
  /-- MAC table stash; 32 entries; R519; reset empty -/
  stash : List MacEnt
  /-- learning requests waiting; 64; R525; reset empty -/
  learnQ : List Learn
  /-- 4 s tick counter; 16 bits; R535; reset 0 -/
  tick : Nat
  /-- cycle of the last tick; cycle count; R535; reset 0 -/
  tickAt : Nat
  /-- ports at their learning limit since the count last stood below it; 18 × 1 bit; R529; reset none -/
  atLimit : List Nat
  /-- cycle of the last event 0x0E4; cycle count or none; R527; reset none -/
  failAt : Option Nat
  /-- subscription-table buckets; 3,840 × 4 entries; R538; reset empty -/
  buckets : Tbl (List SubEnt)
  /-- subscription-table overflow store; 1,024 entries; R538; reset empty -/
  overflow : List SubEnt
  /-- sequence counters of the redundant pairs, by lower port; 16 bits; R544; reset 0 -/
  pairSeq : Tbl Nat
  /-- live LPM4 prefixes (the trie's content); 16,384; R551, R556; reset empty -/
  lpm4 : List Pfx
  /-- live LPM6 prefixes; 4,096; R551, R556; reset empty -/
  lpm6 : List Pfx
  /-- FWD_LPM4_ROOT and FWD_LPM6_ROOT, the level-0 and result-table banks in use; 1 bit each; R557; reset 0 -/
  roots : Tbl Nat
  /-- generations of the tables MAC 0, LPM4 1, LPM6 2, SUB 3; 32 bits each; R130, R532; reset 0 -/
  gens : Tbl Nat
  /-- frames queued at egress ports 0–17, oldest first; 2,048 cells each; R514, R516; reset empty -/
  queues : Tbl (List EgFrame)
  /-- cycle until which a port transmits; cycle count; R515; reset 0 -/
  txUntil : Tbl Nat
  /-- last frame transmitted at each port; R514; reset none -/
  lastTx : Tbl EgFrame
  /-- frames delivered to the steward at port 19; count; R512; reset 0 -/
  toSteward : Nat
  /-- pending two-step Syncs of each egress port; 32 each; R562; reset empty -/
  syncs : Tbl (List PtpPend)
  /-- FWD block counters; 9 × 64 bits; R512–R562; reset 0 -/
  cnt : FwdCnt
  /-- static entries, subscription entries or prefixes lost to a memory error and not yet restored: kind and what was lost; R518; reset none -/
  lostMac : List MacEnt
  /-- subscription entries lost to a memory error; R518; reset none -/
  lostSub : List SubEnt
  /-- prefixes lost to a memory error, with the table; R518; reset none -/
  lostPfx : List (Bool × Pfx)
deriving DecidableEq, Repr

end Sys2Proof.Machine
end

