-- ==== Sys2Proof/Parts/Time.lean ====
section
/-!
DEFINITION. The state of the clock, the anchor, its discipline, its captures and the time inputs (15_anchor_time.md).
-/
namespace Sys2Proof.Machine

/-- One copy of the anchor and the rate word (R599 Table 15-2, R600, R602). -/
structure Anchor where
  sec : Nat      -- 48 bits
  ns : Nat       -- 30 bits, below 10^9
  sub : Nat      -- 48 bits: the fraction (16) and the extension (32), in units of 2^-48 ns
  rate : Int     -- the total rate R in parts per 10^12
deriving DecidableEq, Repr

/-- References of the core clock (R595). -/
inductive RefClk | int25 | ext10
deriving DecidableEq, Repr

/-- The discipline state, bits [1:0] of the quality bits (R609). -/
inductive Disc | disciplined | holdover | undisciplined
deriving DecidableEq, Repr

/-- What an ADJUST line does beside its rate (R603). -/
inductive Jump
  | step (neg : Bool) (sec ns : Nat)
  | set (sec ns : Nat)
deriving DecidableEq, Repr

/-- One accepted ADJUST (R603, R604). -/
structure Adjust where
  rate : Option Int
  jump : Option Jump
  at? : Option (Nat × Nat)
deriving DecidableEq, Repr

/-- A capture record (R618, Table 15-7). -/
structure Capture where
  src : String          -- PTP, IRIG or PPS
  port : Nat
  seq : Nat
  stamp : Stamp
  fields : Fields
deriving DecidableEq, Repr

/-- State of a time input for event 0x08D (R622): no record yet since it was switched on, or the last recorded state. -/
inductive InState | unknown | present | absent | invalid
deriving DecidableEq, Repr

/-- The clock and time state. -/
structure Clk where
  /-- core-clock cycles since the power-on, the MONO count; 64 bits; R9, R96; reset 0 -/
  cycle : Nat
  /-- anchor and rate word, copy 0 (the voted copy); 126 bits and rate; R599, R600, R602; reset 0 (R734 first start) -/
  anchor : Anchor
  /-- anchor and rate word, copy 1; as copy 0; R602; reset 0 -/
  anchor1 : Anchor
  /-- anchor and rate word, copy 2; as copy 0; R602; reset 0 -/
  anchor2 : Anchor
  /-- discipline STATE; 2 bits; R609, R610; reset UNDISCIPLINED (R177) -/
  disc : Disc
  /-- cycle of the last accepted ADJUST; cycle count or none; R610; reset none -/
  lastAdjCycle : Option Nat
  /-- LASTADJ, the anchor time of the last accepted ADJUST; sec and ns or NONE; R607; reset NONE -/
  lastAdj : Option (Nat × Nat)
  /-- a reference change holds STATE at HOLDOVER until the next ADJUST; 1 bit; R610; reset 0 -/
  refHold : Bool
  /-- ADJUST lines without AT accepted in the present cycle, due in the next one; list; R604; reset empty -/
  dueNext : List Adjust
  /-- the pending ADJUST with AT; one or none; R138, R605; reset none -/
  pendingAdj : Option Adjust
  /-- cycle of the last STEP or SET applied, for STEPPED; cycle count or none; R609; reset none -/
  lastStep : Option Nat
  /-- the reference in use, for EXTREF; 1 bit; R595, R609; reset INT25 -/
  refIn : RefClk
  /-- EXT10 valid at its input pin; 1 bit; R598; reset 0 -/
  extValid : Bool
  /-- UNSETTLED, warm-up or a reference change running; 1 bit; R609; reset 1 (R596, at a power-on) -/
  unsettled : Bool
  /-- cycle at which UNSETTLED ends; cycle count; R596, R597; reset 300 s after step 1 -/
  unsettledEnd : Nat
  /-- capture store, newest first; at most 1,024 records; R618; reset empty -/
  captures : List Capture
  /-- state of the IRIG-B input for event 0x08D; 2 bits; R622; reset unknown -/
  irig : InState
  /-- cycle of the last valid IRIG-B frame, or of the input's switching on; cycle count; R622; reset 0 -/
  irigLast : Nat
  /-- sequence count of IRIG-B captures; 16 bits; R618; reset 0 -/
  irigSeq : Nat
  /-- IRIG decode count of the TIME block (invalid frames); 32 bits; R620, R800; reset 0 -/
  irigBad : Nat
  /-- state of the 1PPS input for event 0x08D; 2 bits; R622; reset unknown -/
  pps : InState
  /-- cycle of the last captured 1PPS edge, or of the input's switching on; cycle count or none; R621, R622; reset 0 -/
  ppsLast : Nat
  /-- an edge has been captured since the input was switched on; 1 bit; R621; reset 0 -/
  ppsSeen : Bool
  /-- sequence count of 1PPS captures; 16 bits; R618; reset 0 -/
  ppsSeq : Nat
  /-- glitch count of the TIME block; 32 bits; R621, R800; reset 0 -/
  ppsGlitch : Nat
deriving DecidableEq, Repr

end Sys2Proof.Machine
end

