-- ==== Sys2Proof/Parts/Cfg.lean ====
section
/-!
DEFINITION. The committed configuration: every setting that SET, ADD, DELETE and LOAD lines stage and COMMIT applies (R76, R100–R151).
-/
namespace Sys2Proof.Machine

/-- LEAP of SET TIME (R613). -/
inductive Leap | none | insert | delete
deriving DecidableEq, Repr

/-- SET TIME (R137, R142). -/
structure TimeCfg where
  /-- REF; 1 bit; R137; reset INT25 (default) -/
  ref : RefClk
  /-- PTP, ports whose messages are captured; 18 bits; R137, R618; reset NONE -/
  ptp : List Nat
  /-- IRIG; 1 bit; R137; reset OFF -/
  irig : Bool
  /-- PPS; 1 bit; R137; reset OFF -/
  pps : Bool
  /-- UTCOFFSET in s; signed; R137, R612; reset 37 (default) -/
  utcOffset : Int
  /-- LEAP; 2 bits; R137, R613; reset NONE -/
  leap : Leap
  /-- LEAPAT; sec and ns or NONE; R137, R613; reset NONE -/
  leapAt : Option (Nat × Nat)
  /-- HOLDOVER in cycles; R137, R610; reset 60 s (default) -/
  holdover : Nat
deriving DecidableEq, Repr

/-- A channel (R219, R221). -/
structure Chan where
  sender : Nat
  peer : Nat
deriving DecidableEq, Repr

/-- Access of a hitch group (R144, R455). -/
structure HGroup where
  fis : List Nat
  level : Nat               -- 0 VIEW, 1 OPERATE, 2 CONFIGURE, 3 SECURE
deriving DecidableEq, Repr

/-- A hitch region (R459, R801). -/
structure HRegion where
  base : Nat
  len : Nat                 -- octets
deriving DecidableEq, Repr

/-- Parity of the serial session (R36). -/
inductive Parity | none | even | odd
deriving DecidableEq, Repr

/-- A login account (R101, R104). -/
structure Account where
  user : List Char
  level : Nat
  slot : Nat
deriving DecidableEq, Repr

/-- The committed configuration. -/
structure Cfg where
  /-- settings of each FI; 1,024; R112; reset EMPTY defaults -/
  fis : Tbl FiCfg
  /-- channels; 4,096; R219, R221; reset none -/
  chans : Tbl Chan
  /-- time settings; R137; reset defaults -/
  time : TimeCfg
  /-- hitch groups 1–15; R144; reset FIS NONE, LEVEL OPERATE (R801) -/
  groups : Tbl HGroup
  /-- hitch regions 0–63; R459; reset none -/
  regions : Tbl HRegion
  /-- reaction map where it differs from the defaults; 1,024 × 2 bits; R710; reset defaults -/
  faultMap : Tbl Cls
  /-- BOOKTEMP=HOT; 1 bit; R101, R434; reset HOT -/
  bookHot : Bool
  /-- BOOKRESERVE; 6 bits; R101, R434; reset 2 -/
  bookReserve : Nat
  /-- BAUD; rate of R36; R36, R101; reset 115,200 -/
  baud : Nat
  /-- PARITY; 2 bits; R36, R101; reset NONE -/
  parity : Parity
  /-- idle limits of serial, USB and TCP sessions, cycles; R40, R101; reset 900 s each -/
  idle : Nat × Nat × Nat
  /-- NAME; at most 40 characters; R101; reset empty -/
  name : List Char
  /-- GRAPHKEY; slot or NONE; R101, R105; reset NONE -/
  graphKey : Option Nat
  /-- login accounts; 32; R104; reset none -/
  users : List Account
  /-- traverse ON; 1 bit; R112, R742; reset ON -/
  traverse : Bool
  /-- traverse INTERVAL in cycles; R112, R742; reset 900 s -/
  interval : Nat
  /-- switched domains committed OFF or ON by SET DOMAIN; 24 × 1 bit; R124, R769; reset none set -/
  doms : Tbl Bool
  /-- lanes 0–15; mode and FEC; R127, R128; reset OFF, AUTO -/
  lanes : Tbl LaneCfg
  /-- ports 0–17; R127, R511; reset the defaults of Table 3-5 -/
  ports : Tbl PortCfg
  /-- static MAC entries, in the order added; R130, R519; reset none -/
  macs : List MacEnt
  /-- committed LPM4 prefixes; R551; reset none -/
  lpm4 : List Pfx
  /-- committed LPM6 prefixes; R551; reset none -/
  lpm6 : List Pfx
  /-- AGE of the MAC table in s; R127, R535; reset 300 -/
  age : Nat
  /-- subscriptions 0–4095; R135; reset none -/
  subs : Tbl SubCfg
  /-- publishers 0–1023; R587; reset none -/
  pubs : Tbl PubCfg
  /-- decode templates 0–255; R565; reset none -/
  dtempl : Tbl DTempl
  /-- encode templates 0–255; R583; reset none -/
  etempl : Tbl ETempl
  /-- DEBOUNCE in ns; R143, R671; reset 20 ms -/
  debounce : Nat
  /-- touch channels 0–7; THRESHOLD, DRIFT; R143, R677; reset 64, ON -/
  touch : Tbl TouchCfg
  /-- FAULT pattern of LEDs 0–47; 2 bits each; R143, R686; reset FAST -/
  ledFault : Tbl Nat
  /-- trip outputs 0–15; R143; reset 100 ms, ON, NONE -/
  trips : Tbl TripCfg
  /-- binary inputs 0–15; R143; reset 110, 3 ms, NO -/
  inputs : Tbl InputCfg
deriving DecidableEq, Repr

end Sys2Proof.Machine
end

