-- ==== Sys2Proof/Parts/Keys.lean ====
section
/-!
DEFINITION. The state of the life cycle, the key store and the crypto engine (16_keys_life_cycle_and_engine.md).
-/
namespace Sys2Proof.Machine

/-- Life-cycle states (R630). -/
inductive Life | factory | issued | field | return | scrapped
deriving DecidableEq, Repr

/-- Algorithms of key slots (Table 16-3). -/
inductive Alg | aes256 | hmac256 | ecp256 | ecp384
deriving DecidableEq, Repr

/-- States of a key slot (R639). -/
inductive SlotSt | free | valid | revoked
deriving DecidableEq, Repr

/-- A key slot (Table 16-3); `key` is its material, held wrapped in the hardware. -/
structure Slot where
  st : SlotSt
  alg : Alg
  authtag : Bool
  login : Bool
  graph : Bool
  session : Bool
  sealgen : Nat
  fi : Option Nat           -- none: ANY
  from? : Nat × Nat
  until? : Nat × Nat
  key : List Byte
  revokedAt : Option (Nat × Nat)
  bad : Bool                -- unusable (R650)
deriving DecidableEq, Repr

/-- A K_seal generation in OTP (R627, R631). -/
inductive Seal | blank | held (key : Nat) | destroyed
deriving DecidableEq, Repr

/-- Operations of the crypto engine (Table 16-7). -/
inductive EngOp | gmac | hmac | extract | sha256 | sha384 | wrap
deriving DecidableEq, Repr

/-- What an engine request is for. -/
inductive EngUse
  | check (w : AuthWait)
  | tag (pub : Nat)
  | steward
deriving DecidableEq, Repr

/-- A request to the engine (R656). -/
structure EngReq where
  codec : Bool              -- master 0x901, else the steward 0xA00
  slot : Option Nat
  op : EngOp
  left : Nat                -- octets of the message not yet processed
  resumed : Bool            -- has a saved state
  arrival : Nat             -- cycle
  use : EngUse
deriving DecidableEq, Repr

/-- Keys, life cycle and engine. -/
structure Keys where
  /-- life-cycle state (OTP); 3 bits; R630; reset FACTORY (R169: a unit begins in FACTORY) -/
  life : Life
  /-- K_dev (factory fuses); 256 bits or destroyed; R625; reset a free value -/
  kdev : Option Nat
  /-- K_seal generations 0–3 (OTP); 4 × 256 bits; R627; reset blank -/
  seals : List Seal
  /-- KEK register; 256 bits or empty; R625, R626; reset empty -/
  kek : Option Nat
  /-- K_id in the steward workspace; scalar or none; R625; reset none -/
  kid : Option Nat
  /-- K_tr in the steward workspace; scalar or none; R625; reset none -/
  ktr : Option Nat
  /-- key slots 0–4095 (flash); 192 octets each; R639; reset FREE -/
  slots : Tbl Slot
  /-- FIELD to ISSUED transitions made; count; R628; reset 0 -/
  toIssued : Nat
  /-- destructions and erasures begun and not yet done (OTP done bits); list; R632; reset none -/
  owed : List String
  /-- the key store is unusable until the next start; 1 bit; R629, R636; reset 0 -/
  storeBad : Bool
  /-- working key register: the slot whose key it holds; 256 bits, OCCUPIED and slot; R651; reset zero -/
  work : Option Nat
  /-- a zeroization failed its verify: no keyed request until a cold restart or power-on; 1 bit; R654; reset 0 -/
  workBad : Bool
  /-- request the engine serves; one or none; R656; reset none -/
  cur : Option EngReq
  /-- cycle at which the engine granted it; cycle count; R662; reset 0 -/
  granted : Nat
  /-- cycle at which the running turn ends; cycle count; R658; reset 0 -/
  turnEnd : Nat
  /-- requests that wait, in arrival order; at most one of each master; R656, R658; reset none -/
  waiters : List EngReq
  /-- publications that wait for a tag, in the order of R656; 64; R656; reset empty -/
  tagQ : List Nat
  /-- tag checks done and not yet acted on by the codec gate; R582; reset none -/
  checked : List (AuthWait × Bool)
  /-- cycle since which the engine has been idle; cycle count; R652; reset 0 -/
  idleSince : Nat
  /-- cycle until which the engine is in reset after a timeout; cycle count; R662; reset 0 -/
  resetEnd : Nat
deriving DecidableEq, Repr

end Sys2Proof.Machine
end

