-- ==== Sys2Proof/Parts/Session.lean ====
section
/-!
DEFINITION. Sessions, their answers and their staged sets (02_trevline_language.md, 03_trevline_reference.md).
-/
namespace Sys2Proof.Machine

/-- A line the unit sends (R64, R65): a data line, a final line, or an asynchronous one. -/
inductive Line
  | data (fs : Fields)
  | ok
  | err (code : String) (fs : Fields)
  | async (kind : String) (fs : Fields)
deriving DecidableEq, Repr

/-- Fields a SET UNIT line stages (Table 3-3). -/
inductive UnitField
  | baud (n : Nat) | parity (p : Parity) | idleSerial (n : Nat) | idleUsb (n : Nat) | idleTcp (n : Nat) | name (s : List Char)
  | bookHot (b : Bool) | bookReserve (n : Nat) | graphKey (k : Option Nat)
deriving DecidableEq, Repr

/-- Fields a SET FI line stages (Table 3-4). -/
inductive FiField
  | cls (n : Nat) | rank (n : Nat) | twin (b : Bool) | rope (b : Bool) | fallback (f : Fallback) | period (p : PeriodKind) | psrc (n : Nat)
  | tick (n : Nat) | deadline (n : Nat) | tiles (n : Nat) | pages (n : Nat) | pinned (n : Nat) | hashed (n : Nat) | frames (n : Nat)
  | credit (n : Nat) | deep (n : Nat) | bw (n : Nat) | stall (n : Nat) | misbehave (n : Nat)
deriving DecidableEq, Repr

/-- Fields a SET PORT line stages (Table 3-5). -/
inductive PortField
  | pvid (n : Nat) | vlans (l : List Nat) | prio (n : Nat) | learn (n : Nat) | flood (b : Bool) | redund (r : Redund) | peer (n : Nat)
  | ip (s : List Char) | gateway (s : List Char)
deriving DecidableEq, Repr

/-- Fields a SET TIME line stages (Table 3-6). -/
inductive TimeField
  | ref (r : RefClk) | ptp (l : List Nat) | irig (b : Bool) | pps (b : Bool) | utcOffset (n : Nat) | leap (l : Leap) | leapAt (t : Nat × Nat)
  | holdover (n : Nat)
deriving DecidableEq, Repr

/-- A value of an argument in its type (Table 2-1). Keywords stand in capitals. -/
inductive AVal
  | int (i : Int)
  | hex (n : Nat)
  | kw (s : String)
  | str (s : List Char)
  | dur (ns : Int)
  | time (sec ns : Nat)
  | list (l : List (Int × Int))      -- integers, and ranges with both ends
  | kws (l : List String)
deriving DecidableEq, Repr

/-- An argument of a line (R30). -/
structure Arg where
  name : String
  val : AVal
deriving DecidableEq, Repr

abbrev Args := List Arg

/-- A selector: ALL, or integers and ranges (R31). -/
inductive Selector
  | all
  | items (l : List (Int × Int))
deriving DecidableEq, Repr

/-- What comes with every line: the session it arrives on and, in script mode, its number and check code as received, none when the line does not
have the script form; then the line's text (R28, R55). -/
structure Hdr where
  sess : Nat
  num : Option Nat
  crc : Nat
  text : List Char
deriving DecidableEq, Repr

/-- What one accepted staging line changes (Tables 3-3 to 3-8). -/
inductive Edit
  | unit (fs : List UnitField)
  | addUser (a : Account)
  | delUser (u : List Char)
  | loadFi (n : Nat) (i : Image)
  | fi (n : Nat) (fs : List FiField)
  | addIn (n port : Nat) (s : Source)
  | addOut (n port : Nat) (t : Target)
  | addChan (n c peer : Nat)
  | addPoint (n p hitch window : Nat)
  | delFi (n : Nat)
  | delIn (n port : Nat)
  | delOut (n port : Nat)
  | delChan (n c : Nat)
  | delPoint (n p : Nat)
  | repair (traverse : Option Bool) (interval : Option Nat)
  | domain (n : Nat) (on : Bool)
  | lane (n : Nat) (mode : Option LaneMode) (fec : Option Fec)
  | port (n : Nat) (fs : List PortField)
  | addMac (mac vlan : Nat) (ports : List Nat) (gen : Option Nat)
  | delMac (mac vlan : Nat) (gen : Option Nat)
  | addPfx (v6 : Bool) (p : Pfx) (gen : Option Nat)
  | delPfx (v6 : Bool) (addr len : Nat) (gen : Option Nat)
  | age (n : Nat)
  | loadTable (v6 : Bool) (ps : List Pfx)
  | addSub (n : Nat) (s : SubCfg)
  | addPub (n : Nat) (p : PubCfg)
  | delSub (n : Nat)
  | delPub (n : Nat)
  | loadSub (n : Nat) (t : DTempl)
  | loadPub (n : Nat) (t : ETempl)
  | time (fs : List TimeField)
  | group (g : Nat) (fis : Option (List Nat)) (level : Option Nat)
  | addRegion (r base len : Nat)
  | delRegion (r : Nat)
  | debounce (n : Nat)
  | touch (t : Nat) (threshold : Option Nat) (drift : Option Bool)
  | led (l pattern : Nat)
  | trip (n : Nat) (minPulse : Option Nat) (supervise : Option Bool) (plug : Option (Option Nat))
  | input (n : Nat) (vnom : Option Nat) (filter : Option Nat) (invert : Option Bool)
  | faultCls (n : Nat) (k : Cls)
deriving DecidableEq, Repr

/-- A staged line: what it changes and the level it required (R74). -/
structure Staged where
  edits : List Edit
  level : Nat
  extra : List String       -- arguments the line carries that do not apply (R93)
deriving DecidableEq, Repr

/-- Objects of a bulk load. -/
inductive LoadWhat
  | image (warden : Bool) (bank : Bool)     -- bank A is false
  | fi (l : List Nat)
  | table (v6 : Bool)
  | sub (t : Nat)
  | pub (t : Nat)
  | key (slots : List Nat) (alg : Alg) (use : List Bool) (fi : Option Nat) (from? until? : Nat × Nat)
deriving DecidableEq, Repr

/-- A bulk load in progress (R68–R73). -/
structure Bulk where
  what : LoadWhat
  length : Nat
  data : List Byte
  discarding : Bool         -- records are discarded until one has the offset NEXT (R72)
  last : Nat                -- cycle of the LOAD line or the last record
  level : Nat
deriving DecidableEq, Repr

/-- What a session waits for. -/
inductive Waiting
  | nothing
  | commit (ifn : Option Nat) (until? : Nat)
  | take (h wait until? : Nat) (rest : List Nat) (data : List (List Fld))   -- hitch, WAIT, end, hitches still to take, lines so far
deriving DecidableEq, Repr

/-- A login challenge (R663). -/
structure Challenge where
  num : Nat
  user : List Char
  level : Nat
  nonce : List Byte
  at? : Nat
  answered : Bool
deriving DecidableEq, Repr

/-- A stored response (R58, R62). -/
structure Stored where
  num : Nat
  crc : Nat
  resp : List Line
deriving DecidableEq, Repr

/-- A selection (R118). -/
structure Sel where
  fi : Nat
  point : Nat
  hitch : Nat
  value : Nat               -- Table 17-3
  until? : Nat
deriving DecidableEq, Repr

/-- One session. -/
structure Sess where
  /-- in use; 1 bit; R35; reset 0 -/
  active : Bool
  /-- access level 0–3, none for a TCP session not logged in; R43, R44; reset VIEW on sessions 0 and 1, none on others -/
  level : Option Nat
  /-- account of the level; at most 32 characters; R102; reset none -/
  user : Option (List Char)
  /-- the level came from LOGIN PRESENCE in FIELD or RETURN; 1 bit; R665; reset 0 -/
  present : Bool
  /-- script mode; 1 bit; R53; reset interactive -/
  script : Bool
  /-- ECHO; 1 bit; R54; reset ON -/
  echo : Bool
  /-- WAIT in cycles; R54; reset 30 s -/
  wait : Nat
  /-- line being typed; 1,024 characters; R48, R49; reset empty -/
  line : List Char
  /-- pending rejection; 1 bit; R49; reset 0 -/
  rejected : Bool
  /-- the line being received has passed 1,024 characters and is discarded; 1 bit; R34; reset 0 -/
  tooLong : Bool
  /-- history, newest first; 16 lines; R50; reset empty -/
  history : List (List Char)
  /-- place in the history shown by the last recall; R49; reset 0 -/
  histAt : Nat
  /-- number of the last executed script line; R57; reset none -/
  lastNum : Option Nat
  /-- replay store, newest first; 16 responses of 256 data lines; R58, R62; reset empty -/
  store : List Stored
  /-- response to the last line answered; R64; reset empty -/
  answer : List Line
  /-- number the answer's final line carries in script mode; R59; reset none -/
  answerNum : Option Nat
  /-- asynchronous lines queued; 256; R66; reset empty -/
  queue : List Line
  /-- asynchronous lines discarded since room was last found; count; R66; reset 0 -/
  lost : Nat
  /-- cycle of the last line; cycle count; R40; reset the session's begin -/
  lastLine : Nat
  /-- !SESSION IDLE has been sent; 1 bit; R40; reset 0 -/
  warned : Bool
  /-- a transaction is open; 1 bit; R74; reset 0 -/
  txn : Bool
  /-- staged set; 8,192 lines; R75, R81; reset empty -/
  staged : List Staged
  /-- octets of loaded data staged; 64 MiB; R81; reset 0 -/
  loaded : Nat
  /-- bulk load in progress; R68; reset none -/
  bulk : Option Bulk
  /-- what the session waits for; R76, R145; reset nothing -/
  waiting : Waiting
  /-- pending login challenge; R663; reset none -/
  challenge : Option Challenge
  /-- selections made and not ended; R118; reset none -/
  sels : List Sel
  /-- hitches taken with TAKE HITCH or SELECT stand in the hitch table; events routed by NOTIFY EVENT; 1,024 + 2,048 bits; R153; reset none -/
  events : List Nat
  /-- fault sources whose routing NOTIFY changed: source and ON; R153, R727; reset none -/
  faults : Tbl Bool
  /-- characters received while the session's line waits for its answer; 8 KiB; R41; reset 0 -/
  inputHeld : Nat
  /-- characters discarded since room was last found; count; R41; reset 0 -/
  overrun : Nat
  /-- characters last sent to the host: a response, an asynchronous line, an echo; R48, R52, R59, R64; reset empty -/
  sent : List Char
deriving DecidableEq, Repr

/-- A commit that has been answered OK and has parts to apply (R76, R77). -/
structure Commit where
  session : Nat
  number : Nat
  cfg : Cfg                 -- the configuration it leads to
  touched : List Edit
  fiParts : List Nat        -- FIs whose part has not applied
  edge : Option (Nat × Nat) -- the edge, once crossed
  edgeAt : Nat              -- cycle of the edge
  alive : Bool              -- its session has not ended since
  place : List (Nat × Nat × List Nat) -- the placement it was admitted with: FI, copy, tile of each slot
  raised : List Nat         -- domains its unit-wide parts wait for (R772)
  applied : Bool            -- !CFG APPLIED has been sent
deriving DecidableEq, Repr

/-- Sessions, and the commit in progress. -/
structure Trev where
  /-- sessions 0–15; R35; reset not in use -/
  sess : Tbl Sess
  /-- commit number of the last successful COMMIT; 32 bits; R79; reset 0 -/
  commitNum : Nat
  /-- the commit being applied; one or none; R76; reset none -/
  commit : Option Commit
  /-- failed logins of each carrier (0 serial, 1 USB, 2 TCP) by cycle; R46; reset none -/
  fails : Tbl (List Nat)
  /-- end of each carrier's login lock; cycle count; R46; reset 0 -/
  locks : Tbl Nat
  /-- challenges issued per carrier; 16 bits; R663; reset 0 -/
  challenges : Tbl Nat
  /-- COUNT and LAST of event IDs; 4,096 × (32 bits + stamp); R154; reset 0, NONE -/
  evCount : Tbl (Nat × Stamp)
deriving DecidableEq, Repr

end Sys2Proof.Machine
end

