-- ==== Sys2Proof/Parts/Unit.lean ====
section
/-!
DEFINITION. The state of the start sequence, the image banks and base camp (04_start_up_and_base_camp.md), and the register-map latches
(21_register_map.md).
-/
namespace Sys2Proof.Machine

/-- A compatibility set, decoded (Table 4-1). -/
structure Compat where
  kind : Nat
  major : Nat
  minor : Nat
  build : Nat
  steppings : List (List Char)
  partners : List (Nat × Nat × Nat)   -- kind, major, minor
  isa : Nat × Nat
deriving DecidableEq, Repr

/-- What a bank holds (R159–R161). -/
structure Bank where
  present : Bool
  sigGood : Bool
  set : Compat
deriving DecidableEq, Repr

/-- Base camp causes (Table 4-6). -/
inductive Camp | noimage | warden | steward | isa | graph | seal
deriving DecidableEq, Repr

/-- An accepted pairing (R187). -/
structure Pairing where
  cause : Camp
  a : Nat × Nat × Nat       -- major, minor, build of the first image of the pair
  b : Nat × Nat × Nat
  digest : Nat              -- SHA-256 of a graph image, else 0
deriving DecidableEq, Repr

/-- Kinds of start (Table 4-8). -/
inductive StartKind | powerOn | warm | cold | life | watchdog
deriving DecidableEq, Repr

/-- Registers of the register map that no other part of the state gives (21_register_map.md). -/
structure Regs where
  /-- UNIT_SCRATCH; 32 bits; R796; reset 0 -/
  scratch : Nat
  /-- FMT and VALID of TIME_IRIG; 3 and 16 bits; R806; reset 0 -/
  irig : Nat × Nat
  /-- LOSSES of TIME_EXT10; 16 bits; R598, R806; reset 0 -/
  extLosses : Nat
  /-- KEY_ENG_SWITCH, engine switches since start; 32 bits; R807; reset 0 -/
  engSwitches : Nat
  /-- KEY_ENG_MAXWAIT, longest codec grant wait since start; 16 bits; R807; reset 0 -/
  engMaxWait : Nat
  /-- REPAIR_LASTSTEP of clusters 0–7; 32 bits each; R810; reset 0 -/
  lastStep : Tbl Nat
  /-- CORR of TILE_REPAIR, tiles 0–415; 16 bits each; R798; reset 0 -/
  tileCorr : Tbl Nat
  /-- MEM_SRAM_PASSES; 32 bits; R799; reset 0 -/
  sramPasses : Nat
  /-- hold-buffer discards of CODEC_cnt 4; 64 bits; R805; reset 0 -/
  holdDisc : Nat
deriving DecidableEq, Repr

/-- The unit as a whole. -/
structure UnitSt where
  /-- serial number; 10 characters; R102, R626; reset a design choice -/
  serial : List Char
  /-- factory MAC addresses of ports 16 and 17; 48 bits each; R512, R585; reset a design choice -/
  mac : Nat × Nat
  /-- warden and steward banks: 0 warden A, 1 warden B, 2 steward A, 3 steward B; R159; reset warden 2.3.0112 and steward 4.1.0217 in A and B (R1, Table 0-2) -/
  banks : Tbl Bank
  /-- running bank of the warden and of the steward, B when true; none while it does not run; R161; reset none -/
  runW : Option Bool
  /-- running bank of the steward; R161; reset none -/
  runS : Option Bool
  /-- next-bank selections (flash), B when true: warden, steward; R159; reset A, A -/
  nextW : Bool
  /-- next-bank selection of the steward (flash); R159; reset A -/
  nextS : Bool
  /-- accepted pairings (flash); 16; R187; reset none -/
  accepted : List Pairing
  /-- base camp causes in force, with their detail fields; R183, R185; reset none -/
  camp : List (Camp × Fields)
  /-- step 4 is complete: session 0 is served; 1 bit; R169, R176; reset 0 -/
  open0 : Bool
  /-- step 7 is complete and the start edge is to come; 1 bit; R176; reset 0 -/
  edgeDue : Bool
  /-- step 8 is complete; 1 bit; R176; reset 0 -/
  started : Bool
  /-- kind of the start in progress or last made; R194; reset POWERON -/
  startKind : StartKind
  /-- a restart is pending: its kind; R195; reset none -/
  restart : Option StartKind
  /-- the steward runs; 1 bit; R190, R198; reset 0 -/
  steward : Bool
  /-- the warden has left the steward stopped; 1 bit; R198; reset 0 -/
  stewardStopped : Bool
  /-- cycles of the watchdog restarts of the last 3,600 s; R198; reset none -/
  watchdogs : List Nat
  /-- both copies of the configuration store fail; 1 bit; R181; reset 0 -/
  cfgBad : Bool
  /-- holding latches of the coupled pairs 0 fault injection, 1 LPM4 root, 2 LPM6 root, and FAULT_INJ_SEL in effect (3); 32 bits each; R791–R793; reset empty -/
  latches : Tbl Nat
  regs : Regs
deriving DecidableEq, Repr

/-- What the hardware finds at a start: outcomes of BIST (Table 4-5), of the entropy source (R174) and of the store (R181). -/
structure StartFindings where
  tiles : List Nat            -- tiles that fail BIST
  rows : List Nat             -- SRAM macros whose rows are replaced
  macroBad : Bool             -- a structure- or frame-memory macro beyond repair
  ppr : List Nat              -- groups with a DRAM row repaired
  groups : List Nat           -- groups that fail
  stackMods : List Nat           -- stacks that fail training or BIST
  entropyBad : Bool           -- health tests fail three times, or no generation can be programmed
  cfgBad : Bool               -- neither copy of the configuration store verifies
  badImages : List Nat        -- FIs whose stored image fails its signature or its checks
  badBanks : List Nat         -- banks 0–3 whose image fails its signature now
  ext10 : Bool                -- the EXT10 input is valid (R598)
deriving DecidableEq, Repr

end Sys2Proof.Machine
end

