-- ==== Sys2Proof/Syntax.lean ====
section
/-!
DEFINITION. The commands the unit takes: one constructor per row of spec/opcode_table.json, in the order of the table, each with the operands its
rule gives it. A line of Trevline comes with its header, its selector and its arguments; an event comes with the place it happens at and with what
the hardware outside the model finds.
-/
namespace Sys2Proof

open Machine

inductive Instr
  /-- MODE, R54: Session switches between interactive and script mode and sets ECHO and the WAIT limit. -/
  | modeLine (h : Hdr) (word : Option Bool) (args : Args)
  /-- LOGIN_USER, R663: Starts an account login and answers with a challenge nonce. -/
  | loginUser (h : Hdr) (args : Args)
  /-- LOGIN_ANSWER, R664: Checks the answer to a pending challenge and raises the session level when it matches. -/
  | loginAnswer (h : Hdr) (args : Args)
  /-- LOGIN_PRESENCE, R665: Grants a level on session 0 or 1 without a challenge while physical presence is active. -/
  | loginPresence (h : Hdr) (args : Args)
  /-- LOGOUT, R45: Ends the session; on sessions 0 and 1 a new session begins at VIEW. -/
  | logoutLine (h : Hdr)
  /-- BEGIN, R74: Opens a transaction in the session. -/
  | beginTxn (h : Hdr)
  /-- COMMIT, R76: Takes the configuration hitch, validates the staged set, optionally checks IF=, prepares it and answers OK. -/
  | commitLine (h : Hdr) (args : Args)
  /-- COMMIT_HITCH_GRANTED, R76: A waiting COMMIT receives the configuration hitch, then validates and prepares its staged set. -/
  | commitHitchGranted (sess : Fin 16)
  /-- COMMIT_WAIT_TIMEOUT, R86: The wait limit for the configuration hitch expires and COMMIT is answered 0404 with the transaction left open. -/
  | commitWaitTimeout (sess : Fin 16)
  /-- COMMIT_EDGE, R78: The anchor crosses the next 1 ms boundary after a commit and the unit-wide parts apply, with !CFG APPLIED. -/
  | commitEdge (ext10 : Bool)
  /-- CFG_FI_APPLY, R77: An FI-affecting part applies at the FI's next period boundary at or after the edge and !CFG FI is sent. -/
  | cfgFiApply (fi : Fin 1024)
  /-- CFG_FORCED_APPLY, R77: An FI part not yet applied 100 ms or 1 s after the edge is applied, the latter recorded as event 0x0A5 FORCED. -/
  | cfgForcedApply (fi : Fin 1024)
  /-- ABORT, R80: Discards the staged set and closes the transaction. -/
  | abortLine (h : Hdr)
  /-- END, R71: Completes a bulk load, checks its length and content and answers with LENGTH and SHA256. -/
  | endLoad (h : Hdr) (flashOk : Bool)
  /-- END_CANCEL, R71: Discards the bulk load in progress. -/
  | endCancel (h : Hdr)
  /-- BULK_RECORD, R69: One bulk data record is received, checked for form, check code and offset, and accepted or answered 010E. -/
  | bulkRecord (sess : Fin 16) (text : List Char)
  /-- LOAD_IDLE_CANCEL, R73: No record or END arrives for 30 s and the load is cancelled with !LOAD CANCELLED. -/
  | loadIdleCancel (sess : Fin 16)
  /-- EMPTY_LINE, R33: An empty or all-space line produces no response and the prompt is shown again. -/
  | emptyLine (sess : Fin 16)
  /-- LONG_LINE, R34: A line over 1,024 characters is discarded and answered 0102 at its terminator. -/
  | longLine (sess : Fin 16) (num : Option (Fin 10000))
  /-- SCRIPT_LINE_REPLAY, R58: A script line with a stored number and matching check code is not executed and its stored response is resent. -/
  | scriptLineReplay (h : Hdr)
  /-- ERASE_CHAR, R49: Backspace or Delete erases the last character of the line being typed. -/
  | eraseChar (sess : Fin 16)
  /-- ERASE_LINE, R49: Ctrl-U erases the line and clears a pending rejection. -/
  | eraseLine (sess : Fin 16)
  /-- ERASE_WORD, R49: Ctrl-W erases trailing spaces, the last word and the spaces before it. -/
  | eraseWord (sess : Fin 16)
  /-- CTRL_C, R49: Ctrl-C discards the line and any pending rejection and shows the prompt. -/
  | ctrlC (sess : Fin 16)
  /-- HISTORY_PREVIOUS, R49: Up arrow or Ctrl-P replaces the line with the previous history line. -/
  | historyPrevious (sess : Fin 16)
  /-- HISTORY_NEXT, R49: Down arrow or Ctrl-N replaces the line with the next history line. -/
  | historyNext (sess : Fin 16)
  /-- REJECTED_CONTROL_CHAR, R49: A rejected control character is not placed in the line and sets a pending rejection. -/
  | rejectedControlChar (sess : Fin 16)
  /-- OVERRUN_REPORT, R41: When room returns the unit sends !OVERRUN with the count of discarded characters. -/
  | overrunReport (sess : Fin 16)
  /-- LOST_REPORT, R66: When room returns in a full asynchronous queue the unit sends one !LOST line with the count. -/
  | lostReport (sess : Fin 16)
  /-- USB_DTR_ASSERT, R35: The host asserts DTR on USB and session 1 begins at VIEW. -/
  | usbDtrAssert
  /-- USB_DETACH, R683: DTR drops, USB detaches or VBUS goes inactive and session 1 ends. -/
  | usbDetach
  /-- TLS_HANDSHAKE, R668: A TLS 1.3 handshake on port 5410 completes or fails, opening a TCP session or refusing it. -/
  | tlsHandshake (ok : Bool) (cause : String)
  /-- TCP_CLOSE, R42: A TCP connection closes or a TLS record fails and its session ends. -/
  | tcpClose (conn : Fin 14) (cause : String)
  /-- SESSION_IDLE_WARNING, R40: 60 s before the idle limit the unit sends !SESSION IDLE. -/
  | sessionIdleWarning (sess : Fin 16)
  /-- SESSION_IDLE_TIMEOUT, R40: A session receives no line for its idle limit and ends. -/
  | sessionIdleTimeout (sess : Fin 16)
  /-- LOGIN_LOCK_EXPIRY, R46: The 300 s login lock on a carrier ends. -/
  | loginLockExpiry (carrier : Fin 3)
  /-- SHOW_UNIT, R102: Reports versions, status or sessions. -/
  | showUnit (h : Hdr) (args : Args)
  /-- SET_UNIT, R101: Stages baud, parity, idle limits, name, booking assumptions and GRAPHKEY. -/
  | setUnit (h : Hdr) (args : Args)
  /-- ADD_UNIT, R104: Stages a login account with its level and key slot. -/
  | addUnit (h : Hdr) (args : Args)
  /-- DELETE_UNIT, R104: Stages removal of a login account. -/
  | deleteUnit (h : Hdr) (args : Args)
  /-- RESTART_UNIT, R111: Answers OK and restarts the unit warm or cold once answered commits have applied. -/
  | restartUnit (h : Hdr) (args : Args)
  /-- SHOW_IMAGE, R161: Reports the warden and steward images of both banks. -/
  | showImage (h : Hdr) (args : Args)
  /-- LOAD_IMAGE, R106: Opens a bulk load of a warden or steward image into a non-running bank. -/
  | loadImage (h : Hdr) (args : Args)
  /-- SWITCH_IMAGE, R159: Writes the next-bank selection for the next start. -/
  | switchImage (h : Hdr) (args : Args)
  /-- ACCEPT_IMAGE_UNTESTED, R187: Records the untested pairings behind the current causes as accepted, in ISSUED only. -/
  | acceptImageUntested (h : Hdr)
  /-- SHOW_LIFE, R628: Reports life-cycle state, seal generations, presence and the transport public key. -/
  | showLife (h : Hdr) (args : Args)
  /-- MOVE_LIFE, R632: Performs a life-cycle transition, destroys the named keys and restarts cold. -/
  | moveLife (h : Hdr) (args : Args) (otpOk : Bool)
  /-- READ_REG, R786: Reads COUNT registers in one cycle and answers each value. -/
  | readReg (h : Hdr) (args : Args) (wins : List (Option Nat))
  /-- WRITE_REG, R108: Writes a register that has no row of its own, refused whole for unassigned, reserved or read-only targets. -/
  | writeReg (h : Hdr) (args : Args) (ack : Bool)
  /-- FAULT_INJ_SEL_WRITE, R792: Writes the fault-injection selection into the holding latch of the coupled pair, ISSUED only. -/
  | faultInjSelWrite (h : Hdr) (v : BitVec 32)
  /-- FAULT_INJ_GO_WRITE, R794: Completes the fault-injection pair and delivers a raise to the fault collector. -/
  | faultInjGoWrite (h : Hdr) (v : BitVec 32)
  /-- PORT_CAGE_WR_WRITE, R489: Writes one octet to a module over the cage's two-wire bus. -/
  | portCageWrWrite (h : Hdr) (cage : Fin 4) (v : BitVec 32) (ack : Bool)
  /-- CAGE_WINDOW_READ, R489: Reads four octets of module memory over the cage's two-wire bus. -/
  | cageWindowRead (h : Hdr) (cage : Fin 4) (word : Fin 64) (answer : Option (BitVec 32))
  /-- SHOW_FI, R113: Reports an FI's state, budget, bindings or counts. -/
  | showFi (h : Hdr) (sel : Selector) (args : Args)
  /-- LOAD_FI, R115: Opens a bulk load of a graph image that is checked at END and staged. -/
  | loadFi (h : Hdr) (sel : Selector) (args : Args)
  /-- SET_FI, R112: Stages an FI's class, rank, twin, rope, period and budget fields. -/
  | setFi (h : Hdr) (sel : Selector) (args : Args)
  /-- ADD_FI, R219: Stages an input or output binding, a channel or a command point of an FI. -/
  | addFi (h : Hdr) (sel : Selector) (args : Args)
  /-- DELETE_FI, R122: Stages removal of a binding or return of the whole FI to EMPTY. -/
  | deleteFi (h : Hdr) (sel : Selector) (args : Args)
  /-- ARM_FI, R116: Moves an ADMITTED or STOPPED FI to ARMED, or sets the re-arm flag of a DRAINING FI. -/
  | armFi (h : Hdr) (sel : Selector)
  /-- STOP_FI, R227: Moves an ARMED or RUNNING FI to DRAINING, closing its inputs. -/
  | stopFi (h : Hdr) (sel : Selector)
  /-- CLEAR_FI_POISON, R126: Marks the FI's poisoned DRAM lines for the scrubber. -/
  | clearFiPoison (h : Hdr) (sel : Selector)
  /-- CLEAR_FI_COUNTS, R327: Resets the FI's counters and misbehaviour count. -/
  | clearFiCounts (h : Hdr) (sel : Selector)
  /-- SELECT_FI, R118: Takes a command point's hitch without waiting and opens its window. -/
  | selectFi (h : Hdr) (sel : Selector) (args : Args)
  /-- EXECUTE_FI, R699: Delivers the selected value to the point's FI and releases the hitch. -/
  | executeFi (h : Hdr) (sel : Selector) (args : Args)
  /-- CANCEL_FI, R118: Releases a point's hitch without delivering. -/
  | cancelFi (h : Hdr) (sel : Selector) (args : Args)
  /-- SELECT_EXPIRY, R123: A select window ends without EXECUTE or CANCEL and the hitch is released with CAUSE=EXPIRY. -/
  | selectExpiry (sess : Fin 16) (fi : Fin 1024) (point : Fin 256)
  /-- SHOW_TILE, R119: Reports a tile's state, cluster, FIs and last test. -/
  | showTile (h : Hdr) (sel : Selector) (args : Args)
  /-- TEST_TILE, R119: Runs the 20 ms tile test on a SPARE tile. -/
  | testTile (h : Hdr) (sel : Selector) (outcome : Option Nat)
  /-- SHOW_REPAIR, R120: Reports spares, splices, fuses and margin per cluster. -/
  | showRepair (h : Hdr) (args : Args)
  /-- SET_REPAIR, R742: Stages traverse on or off and its interval. -/
  | setRepair (h : Hdr) (args : Args)
  /-- START_REPAIR, R120: Runs one traverse step in a cluster now. -/
  | startRepair (h : Hdr) (args : Args)
  /-- SHOW_DOMAIN, R121: Reports a power domain's state, latch and power. -/
  | showDomain (h : Hdr) (sel : Selector) (args : Args)
  /-- SET_DOMAIN, R124: Stages a power domain ON or OFF. -/
  | setDomain (h : Hdr) (sel : Selector) (args : Args)
  /-- SHOW_LANE, R129: Reports a lane's mode, FEC, state, LOS, module and latched mode. -/
  | showLane (h : Hdr) (sel : Selector) (args : Args)
  /-- SET_LANE, R128: Stages a lane's mode and FEC. -/
  | setLane (h : Hdr) (sel : Selector) (args : Args)
  /-- SHOW_PORT, R506: Reports a port's configuration or counters, with the rope line on port 14. -/
  | showPort (h : Hdr) (sel : Selector) (args : Args)
  /-- SET_PORT, R511: Stages a port's VLANs, priority, learning limit, redundancy and IP settings. -/
  | setPort (h : Hdr) (sel : Selector) (args : Args)
  /-- CLEAR_PORT, R507: Zeroes the counters of the selected ports in one cycle. -/
  | clearPort (h : Hdr) (sel : Selector)
  /-- ADD_TABLE, R130: Stages a static MAC or LPM entry, optionally guarded by GEN. -/
  | addTable (h : Hdr) (args : Args)
  /-- DELETE_TABLE, R130: Stages removal of a static MAC or LPM entry, optionally guarded by GEN. -/
  | deleteTable (h : Hdr) (args : Args)
  /-- SET_TABLE, R537: Stages the MAC ageing time. -/
  | setTable (h : Hdr) (args : Args)
  /-- DUMP_TABLE, R563: Snapshots a table in one cycle and answers its generation and entries. -/
  | dumpTable (h : Hdr) (args : Args)
  /-- LOAD_TABLE, R555: Opens a bulk load that replaces a whole LPM table. -/
  | loadTable (h : Hdr) (args : Args)
  /-- SHOW_SUB, R594: Reports a subscription's counters. -/
  | showSub (h : Hdr) (sel : Selector) (args : Args)
  /-- SHOW_PUB, R594: Reports a publisher's state and counters. -/
  | showPub (h : Hdr) (sel : Selector) (args : Args)
  /-- ADD_SUB, R135: Stages a subscription with its key, ports, template and authentication. -/
  | addSub (h : Hdr) (sel : Selector) (args : Args)
  /-- ADD_PUB, R587: Stages a publisher with its template, ports, VLAN, priority and retransmission limits. -/
  | addPub (h : Hdr) (sel : Selector) (args : Args)
  /-- DELETE_SUB, R127: Stages removal of a subscription. -/
  | deleteSub (h : Hdr) (sel : Selector) (args : Args)
  /-- DELETE_PUB, R127: Stages removal of a publisher. -/
  | deletePub (h : Hdr) (sel : Selector) (args : Args)
  /-- LOAD_SUB, R565: Opens a bulk load of a decode template. -/
  | loadSub (h : Hdr) (args : Args)
  /-- LOAD_PUB, R583: Opens a bulk load of an encode template. -/
  | loadPub (h : Hdr) (args : Args)
  /-- SHOW_TIME, R139: Reports the anchor, its quality and rate, or recent captures. -/
  | showTime (h : Hdr) (args : Args)
  /-- SET_TIME, R137: Stages reference, time inputs, UTC offset, leap and holdover. -/
  | setTime (h : Hdr) (args : Args)
  /-- ADJUST_TIME, R603: Changes the rate word, steps or sets the anchor, now or at AT, and counts as discipline. -/
  | adjustTime (h : Hdr) (args : Args)
  /-- ADJUST_AT_DUE, R604: A pending ADJUST with AT becomes due and acts on the anchor. -/
  | adjustAtDue
  /-- SHOW_KEYSLOT, R140: Reports a key slot's state, algorithm, usage, FI and window. -/
  | showKeyslot (h : Hdr) (sel : Selector) (args : Args)
  /-- LOAD_KEYSLOT, R644: Opens a bulk load of a transport blob that is unwrapped and written to a FREE slot at END. -/
  | loadKeyslot (h : Hdr) (sel : Selector) (args : Args)
  /-- REVOKE_KEYSLOT, R647: Revokes a VALID key slot in flash. -/
  | revokeKeyslot (h : Hdr) (sel : Selector) (flashOk : Bool)
  /-- SHOW_HITCH, R471: Reports a hitch's holder, queue, broken flag and group access. -/
  | showHitch (h : Hdr) (sel : Selector) (args : Args)
  /-- SET_HITCH, R144: Stages a hitch group's FI mask and minimum level. -/
  | setHitch (h : Hdr) (args : Args)
  /-- ADD_HITCH, R459: Stages a hitch region in structure memory. -/
  | addHitch (h : Hdr) (args : Args)
  /-- DELETE_HITCH, R467: Stages removal of a hitch region. -/
  | deleteHitch (h : Hdr) (args : Args)
  /-- TAKE_HITCH, R145: Writes the session's master ID to a hitch and waits up to WAIT to hold it. -/
  | takeHitch (h : Hdr) (sel : Selector) (args : Args)
  /-- TAKE_HITCH_TIMEOUT, R145: A TAKE HITCH wait ends and the session is withdrawn and answered HELD=NO. -/
  | takeHitchTimeout (sess : Fin 16)
  /-- RELEASE_HITCH, R458: The holding session releases a hitch, which passes to the head of its queue. -/
  | releaseHitch (h : Hdr) (sel : Selector)
  /-- SHOW_PANEL, R836: Reports keys, touch, presence, LEDs or display lines. -/
  | showPanel (h : Hdr) (args : Args)
  /-- SET_PANEL, R151: Stages debounce, touch thresholds and LED fault patterns. -/
  | setPanel (h : Hdr) (args : Args)
  /-- WRITE_PANEL, R148: Replaces one display line from a session. -/
  | writePanel (h : Hdr) (args : Args)
  /-- SHOW_TRIP, R146: Reports a trip output's state, supervision, belay, plug and pulses. -/
  | showTrip (h : Hdr) (sel : Selector) (args : Args)
  /-- SET_TRIP, R691: Stages a trip output's minimum pulse, supervision and plug input. -/
  | setTrip (h : Hdr) (sel : Selector) (args : Args)
  /-- TEST_TRIP, R147: Energizes a trip output for PULSE when no bound FI is armed and it is not belayed. -/
  | testTrip (h : Hdr) (sel : Selector) (args : Args)
  /-- TEST_PULSE_END, R147: A test pulse reaches PULSE and the output de-energizes. -/
  | testPulseEnd (trip : Fin 16)
  /-- SHOW_INPUT, R836: Reports a binary input's state, raw level, block and settings. -/
  | showInput (h : Hdr) (sel : Selector) (args : Args)
  /-- SET_INPUT, R688: Stages a binary input's nominal voltage, filter and inversion. -/
  | setInput (h : Hdr) (sel : Selector) (args : Args)
  /-- SHOW_EVENT, R154: Reports an event ID's count, last stamp and routing. -/
  | showEvent (h : Hdr) (sel : Selector) (args : Args)
  /-- NOTIFY_EVENT, R153: Routes or unroutes events to the issuing session. -/
  | notifyEvent (h : Hdr) (sel : Selector) (args : Args)
  /-- SHOW_FAULT, R154: Reports a fault source's name, floor, class, count and latch. -/
  | showFault (h : Hdr) (sel : Selector) (args : Args)
  /-- NOTIFY_FAULT, R153: Routes or unroutes faults to the issuing session. -/
  | notifyFault (h : Hdr) (sel : Selector) (args : Args)
  /-- SET_FAULT, R709: Stages a fault source's class at or above its floor. -/
  | setFault (h : Hdr) (sel : Selector) (args : Args)
  /-- CLEAR_FAULT, R158: Resets a source's count and latch and records event 0x114. -/
  | clearFault (h : Hdr) (sel : Selector)
  /-- SHOW_LOG, R155: Reports cairn records or the held range. -/
  | showLog (h : Hdr) (args : Args)
  /-- RESERVED_VERB, R89: PATCH, TRACE, DEBUG or FORCE is answered 010D. -/
  | reservedVerb (h : Hdr)
  /-- TOKEN_QUEUED, R274: A token arrives at a tile and is queued in its class queue or placed as a QUEUE entry. -/
  | tokenQueued (flight : Nat)
  /-- TOKEN_SELECT, R264: The scheduler selects one token and its match stage hits, inserts, spills or recirculates. -/
  | tokenSelect (tile : Fin 416)
  /-- GUARD_REQUEUE, R269: A parked guard-wait entry is re-queued after its predicate becomes present. -/
  | guardRequeue (tile : Fin 416)
  /-- PREDICATE_MIRROR_UPDATE, R268: A predicate write becomes present in every tile mirror of the copy 24 cycles later. -/
  | predicateMirrorUpdate (cluster : Fin 8) (frame : Fin 32768)
  /-- DEEP_SPILL_WRITE, R296: The deep-store engine writes a spilled entry into its bucket chain. -/
  | deepSpillWrite (fi : Fin 1024)
  /-- DEEP_LOOKUP_REPLY, R301: A deep-store lookup returns to the tile and pairs or inserts the fill-pending token. -/
  | deepLookupReply (fi : Fin 1024)
  /-- CREDIT_GRANT, R312: G1 grants a waiting CREDIT entry credit as credit returns. -/
  | creditGrant (fi : Fin 1024) (copy : Fin 2)
  /-- FRAME_GRANT, R312: The frame allocator grants a held CNEW a frame and it is re-queued. -/
  | frameGrant (cluster : Fin 8)
  /-- MEMORY_REPLY, R377: A memory, frame, hitch or allocate reply is queued at its destination. -/
  | memoryReply (reply : Nat)
  /-- DEFERRAL_RETRY, R385: A read refused with RETRY is sent again 64 cycles later. -/
  | deferralRetry
  /-- FRAME_WORD_RELEASE, R384: A FWR release notice re-queues FORM 11 operands waiting for the word. -/
  | frameWordRelease (tile : Fin 416)
  /-- PAGE_INSTALL, R429: A demand page fetch completes and waiting firings are re-queued. -/
  | pageInstall (tile : Fin 416) (good : Bool)
  /-- PAGE_RETRY, R431: A slot that could evict no page retries after 64 cycles. -/
  | pageRetry (tile : Fin 416)
  /-- SHARED_PAGE_RETURN, R430: A shared-pool page unused for 10 µs returns to the pool. -/
  | sharedPageReturn (tile : Fin 416)
  /-- PAGE_BACKING_REWRITE, R433: The steward rewrites a poisoned instruction page from the image and the fetch is repeated. -/
  | pageBackingRewrite (tile : Fin 416)
  /-- DST_MERGE_EXPIRY, R420: A DST merge window of 8 cycles expires and one read-modify-write is made. -/
  | dstMergeExpiry (fi : Fin 1024) (copy : Fin 2)
  /-- PURGE_SWEEP, R324: A tile sweeps its stores for a released context's entries and acknowledges. -/
  | purgeSweep (tile : Fin 416)
  /-- PURGE_COMPLETE, R325: All tiles acknowledge and any deep scan ends, so the frame returns to the pool. -/
  | purgeComplete (cluster : Fin 8) (frame : Fin 32768)
  /-- TIMER_TICK, R250: A TIMER period source delivers a CTRL token and starts a period every TICK. -/
  | timerTick (fi : Fin 1024)
  /-- PERIOD_DONE_ARRIVE, R322: A PERIOD_DONE reaches the deadline watch and completes its period. -/
  | periodDoneArrive
  /-- DEADLINE_OVERRUN, R217: A P0 deadline passes without PERIOD_DONE and the period-overrun fault is raised. -/
  | deadlineOverrun (fi : Fin 1024)
  /-- SOURCE_LOSS, R216: No SV period starts for 4 nominal periods and the source-loss fault is raised. -/
  | sourceLoss (fi : Fin 1024)
  /-- STALL_DETECT, R319: A pending copy has no firing for STALL and the stall fault stops the FI. -/
  | stallDetect (fi : Fin 1024) (copy : Fin 2)
  /-- DRAIN_PURGE, R231: A drain without progress for STALL or 100 ms purges its contexts. -/
  | drainPurge (fi : Fin 1024)
  /-- DRAIN_COMPLETE, R227: Every context is released and no bound pulse runs, so the FI goes STOPPED or re-arms. -/
  | drainComplete (fi : Fin 1024)
  /-- REARM_COMPLETE, R117: A pending re-arm completes when the target generation's live count reaches zero. -/
  | rearmComplete (fi : Fin 1024)
  /-- TWIN_COMPARE, R235: The comparator pairs both copies' actions and performs a matching pair once. -/
  | twinCompare (fi : Fin 1024) (stream : Nat)
  /-- TWIN_PARTNER_TIMEOUT, R236: An action's partner is missing after 10 µs or the deadline, raising twin mismatch. -/
  | twinPartnerTimeout (fi : Fin 1024) (stream : Nat)
  /-- HWAIT_TIMEOUT, R460: A stalled HWAIT read exceeds HWT and the FI is withdrawn from the queue. -/
  | hwaitTimeout (fi : Fin 1024)
  /-- HITCH_BROKEN, R469: An uncorrectable hitch state breaks the hitch, withdrawing waiters and releasing the holder. -/
  | hitchBroken (hitch : Nat)
  /-- HITCH_RESTORE, R469: The steward restores a broken group 0 hitch within 1 ms. -/
  | hitchRestore (hitch : Nat)
  /-- MOV, R353: Emits L unchanged. -/
  | mov (tile : Fin 416)
  /-- STEER, R353: Routes L to DEST0 or DEST1 by R[0]. -/
  | steer (tile : Fin 416)
  /-- GATE, R353: Emits L once R has synchronised. -/
  | gate (tile : Fin 416)
  /-- SINK, R353: Consumes L and emits nothing. -/
  | sink (tile : Fin 416)
  /-- KSET, R355: Emits L's data with the kind R[2:0]. -/
  | kset (tile : Fin 416)
  /-- KTEST, R354: Emits DATA holding L's kind. -/
  | ktest (tile : Fin 416)
  /-- TREAD, R353: Emits a TIME token of the anchor in the execute cycle. -/
  | tread (tile : Fin 416)
  /-- LIT, R353: Emits a constant with its own kind when L arrives. -/
  | lit (tile : Fin 416)
  /-- TQUAL, R353: Emits the anchor quality bits of the execute cycle. -/
  | tqual (tile : Fin 416)
  /-- ADD, R357: Emits L + R modulo 2^64. -/
  | add (tile : Fin 416)
  /-- SUB, R357: Emits L − R modulo 2^64. -/
  | sub (tile : Fin 416)
  /-- MUL, R357: Emits the low 64 bits of L × R. -/
  | mul (tile : Fin 416)
  /-- MULH, R357: Emits the high 64 bits of the signed product. -/
  | mulh (tile : Fin 416)
  /-- MULHU, R357: Emits the high 64 bits of the unsigned product. -/
  | mulhu (tile : Fin 416)
  /-- DIV, R358: Emits the signed quotient, counting DIVZ on zero. -/
  | div (tile : Fin 416)
  /-- DIVU, R358: Emits the unsigned quotient, counting DIVZ on zero. -/
  | divu (tile : Fin 416)
  /-- REM, R358: Emits the signed remainder. -/
  | rem (tile : Fin 416)
  /-- REMU, R358: Emits the unsigned remainder. -/
  | remu (tile : Fin 416)
  /-- AND, R357: Emits L AND R. -/
  | and (tile : Fin 416)
  /-- OR, R357: Emits L OR R. -/
  | or (tile : Fin 416)
  /-- XOR, R357: Emits L XOR R. -/
  | xor (tile : Fin 416)
  /-- ANDN, R357: Emits L AND NOT R. -/
  | andn (tile : Fin 416)
  /-- SHL, R357: Emits L shifted left by R[5:0]. -/
  | shl (tile : Fin 416)
  /-- SHR, R357: Emits L shifted right with zeros in. -/
  | shr (tile : Fin 416)
  /-- SAR, R357: Emits L shifted right with the sign in. -/
  | sar (tile : Fin 416)
  /-- ROL, R357: Emits L rotated left. -/
  | rol (tile : Fin 416)
  /-- ROR, R357: Emits L rotated right. -/
  | ror (tile : Fin 416)
  /-- MIN, R357: Emits the signed minimum. -/
  | min (tile : Fin 416)
  /-- MAX, R357: Emits the signed maximum. -/
  | max (tile : Fin 416)
  /-- MINU, R357: Emits the unsigned minimum. -/
  | minu (tile : Fin 416)
  /-- MAXU, R357: Emits the unsigned maximum. -/
  | maxu (tile : Fin 416)
  /-- NEG, R357: Emits 0 − L. -/
  | neg (tile : Fin 416)
  /-- NOT, R357: Emits the bitwise complement of L. -/
  | not (tile : Fin 416)
  /-- ABS, R357: Emits the absolute value of L. -/
  | abs (tile : Fin 416)
  /-- SEXT, R357: Emits L sign-extended from bit R[5:0]. -/
  | sext (tile : Fin 416)
  /-- ZEXT, R357: Emits L with bits above R[5:0] cleared. -/
  | zext (tile : Fin 416)
  /-- EXTR, R357: Emits a right-aligned bit field of L. -/
  | extr (tile : Fin 416)
  /-- ADDS, R358: Emits the saturated signed sum, counting SAT. -/
  | adds (tile : Fin 416)
  /-- SUBS, R358: Emits the saturated signed difference, counting SAT. -/
  | subs (tile : Fin 416)
  /-- ADD32, R357: Emits the I32 sum modulo 2^32. -/
  | add32 (tile : Fin 416)
  /-- SUB32, R357: Emits the I32 difference modulo 2^32. -/
  | sub32 (tile : Fin 416)
  /-- MUL32, R357: Emits the low 32 bits of the I32 product. -/
  | mul32 (tile : Fin 416)
  /-- QADD, R359: Emits the saturated Q31 sum. -/
  | qadd (tile : Fin 416)
  /-- QSUB, R359: Emits the saturated Q31 difference. -/
  | qsub (tile : Fin 416)
  /-- QMUL, R359: Emits the rounded, saturated Q31 product. -/
  | qmul (tile : Fin 416)
  /-- QNEG, R359: Emits the saturated Q31 negation. -/
  | qneg (tile : Fin 416)
  /-- QABS, R359: Emits the saturated Q31 absolute value. -/
  | qabs (tile : Fin 416)
  /-- QSHL, R359: Emits the saturated Q31 left shift. -/
  | qshl (tile : Fin 416)
  /-- QSHR, R359: Emits the rounded Q31 right shift. -/
  | qshr (tile : Fin 416)
  /-- HADD, R359: Emits the saturated Q15 sum. -/
  | hadd (tile : Fin 416)
  /-- HSUB, R359: Emits the saturated Q15 difference. -/
  | hsub (tile : Fin 416)
  /-- HMUL, R359: Emits the rounded Q15 product. -/
  | hmul (tile : Fin 416)
  /-- HNEG, R359: Emits the saturated Q15 negation. -/
  | hneg (tile : Fin 416)
  /-- HABS, R359: Emits the saturated Q15 absolute value. -/
  | habs (tile : Fin 416)
  /-- HSHL, R359: Emits the saturated Q15 left shift. -/
  | hshl (tile : Fin 416)
  /-- HSHR, R359: Emits the rounded Q15 right shift. -/
  | hshr (tile : Fin 416)
  /-- Q2H, R359: Converts Q31 to Q15 with rounding. -/
  | q2h (tile : Fin 416)
  /-- H2Q, R359: Converts Q15 to Q31 exactly. -/
  | h2q (tile : Fin 416)
  /-- QMUL64, R359: Emits the Q63 product of two Q31 values. -/
  | qmul64 (tile : Fin 416)
  /-- QRND, R359: Rounds a Q63 value to Q31. -/
  | qrnd (tile : Fin 416)
  /-- FADD, R360: Emits the FP32 sum. -/
  | fadd (tile : Fin 416)
  /-- FSUB, R360: Emits the FP32 difference. -/
  | fsub (tile : Fin 416)
  /-- FMUL, R360: Emits the FP32 product. -/
  | fmul (tile : Fin 416)
  /-- FDIV, R360: Emits the FP32 quotient. -/
  | fdiv (tile : Fin 416)
  /-- FSQRT, R360: Emits the FP32 square root. -/
  | fsqrt (tile : Fin 416)
  /-- FMIN, R360: Emits the FP32 minimumNumber. -/
  | fmin (tile : Fin 416)
  /-- FMAX, R360: Emits the FP32 maximumNumber. -/
  | fmax (tile : Fin 416)
  /-- FNEG, R360: Inverts the FP32 sign bit. -/
  | fneg (tile : Fin 416)
  /-- FABS, R360: Clears the FP32 sign bit. -/
  | fabs (tile : Fin 416)
  /-- FMOV, R360: Emits L[31:0] with the upper bits zero. -/
  | fmov (tile : Fin 416)
  /-- FCLT, R360: Emits 1 when L < R in FP32. -/
  | fclt (tile : Fin 416)
  /-- FCLE, R360: Emits 1 when L ≤ R in FP32. -/
  | fcle (tile : Fin 416)
  /-- FCEQ, R360: Emits 1 when L = R in FP32. -/
  | fceq (tile : Fin 416)
  /-- F2I, R360: Converts FP32 to saturated I64. -/
  | f2i (tile : Fin 416)
  /-- I2F, R360: Converts I64 to FP32. -/
  | i2f (tile : Fin 416)
  /-- F2Q, R360: Converts FP32 to saturated Q31. -/
  | f2q (tile : Fin 416)
  /-- Q2F, R360: Converts Q31 to FP32. -/
  | q2f (tile : Fin 416)
  /-- F2D, R360: Converts FP32 to FP64 exactly. -/
  | f2d (tile : Fin 416)
  /-- D2F, R360: Converts FP64 to FP32 with rounding. -/
  | d2f (tile : Fin 416)
  /-- FHYPOT, R360: Emits the FP32 hypotenuse of L and R. -/
  | fhypot (tile : Fin 416)
  /-- DADD, R360: Emits the FP64 sum. -/
  | dadd (tile : Fin 416)
  /-- DSUB, R360: Emits the FP64 difference. -/
  | dsub (tile : Fin 416)
  /-- DMUL, R360: Emits the FP64 product. -/
  | dmul (tile : Fin 416)
  /-- DDIV, R360: Emits the FP64 quotient. -/
  | ddiv (tile : Fin 416)
  /-- DSQRT, R360: Emits the FP64 square root. -/
  | dsqrt (tile : Fin 416)
  /-- DMIN, R360: Emits the FP64 minimumNumber. -/
  | dmin (tile : Fin 416)
  /-- DMAX, R360: Emits the FP64 maximumNumber. -/
  | dmax (tile : Fin 416)
  /-- DNEG, R360: Inverts the FP64 sign bit. -/
  | dneg (tile : Fin 416)
  /-- DABS, R360: Clears the FP64 sign bit. -/
  | dabs (tile : Fin 416)
  /-- DCLT, R360: Emits 1 when L < R in FP64. -/
  | dclt (tile : Fin 416)
  /-- DCLE, R360: Emits 1 when L ≤ R in FP64. -/
  | dcle (tile : Fin 416)
  /-- DCEQ, R360: Emits 1 when L = R in FP64. -/
  | dceq (tile : Fin 416)
  /-- D2I, R360: Converts FP64 to saturated I64. -/
  | d2i (tile : Fin 416)
  /-- I2D, R360: Converts I64 to FP64. -/
  | i2d (tile : Fin 416)
  /-- CEQ, R362: Emits 1 when L equals R. -/
  | ceq (tile : Fin 416)
  /-- CNE, R362: Emits 1 when L differs from R. -/
  | cne (tile : Fin 416)
  /-- CLT, R362: Emits 1 when L < R signed. -/
  | clt (tile : Fin 416)
  /-- CLE, R362: Emits 1 when L ≤ R signed. -/
  | cle (tile : Fin 416)
  /-- CLTU, R362: Emits 1 when L < R unsigned. -/
  | cltu (tile : Fin 416)
  /-- CLEU, R362: Emits 1 when L ≤ R unsigned. -/
  | cleu (tile : Fin 416)
  /-- CTST, R362: Emits 1 when L AND R is not zero. -/
  | ctst (tile : Fin 416)
  /-- PSET, R363: Writes predicate L[0], raising predicate-rewrite if already present. -/
  | pset (tile : Fin 416)
  /-- PSETW, R271: Writes or overwrites predicate L[0]. -/
  | psetw (tile : Fin 416)
  /-- PEQ, R363: Writes a predicate with L = R. -/
  | peq (tile : Fin 416)
  /-- PLT, R363: Writes a predicate with L < R signed. -/
  | plt (tile : Fin 416)
  /-- PLTU, R363: Writes a predicate with L < R unsigned. -/
  | pltu (tile : Fin 416)
  /-- PTST, R363: Writes a predicate with L AND R not zero. -/
  | ptst (tile : Fin 416)
  /-- QCHK, R363: Writes a predicate that is 1 when L AND the quality-mask constant is zero. -/
  | qchk (tile : Fin 416)
  /-- SLD, R376: Loads a structure or cell word, deferring on an empty word. -/
  | sld (tile : Fin 416)
  /-- SST, R376: Stores a structure or cell word, sets presence and serves deferred reads. -/
  | sst (tile : Fin 416)
  /-- SLDE, R383: Loads a structure word and empties it, deferring while empty. -/
  | slde (tile : Fin 416)
  /-- SCLR, R384: Makes a structure word empty. -/
  | sclr (tile : Fin 416)
  /-- DLD, R376: Loads a private-DRAM word. -/
  | dld (tile : Fin 416)
  /-- DST, R420: Stores a private-DRAM word through the merge window. -/
  | dst (tile : Fin 416)
  /-- KLD, R376: Emits a constant entry selected by L. -/
  | kld (tile : Fin 416)
  /-- AGEN, R376: Emits the effective address without access. -/
  | agen (tile : Fin 416)
  /-- CRCW, R388: Advances a CRC register over 8 octets of R. -/
  | crcw (tile : Fin 416)
  /-- CRCB, R388: Advances a CRC register over one octet. -/
  | crcb (tile : Fin 416)
  /-- CRCF, R388: Emits the final CRC of a register. -/
  | crcf (tile : Fin 416)
  /-- PAR, R387: Emits the parity of L or of L AND R. -/
  | par (tile : Fin 416)
  /-- BREV, R387: Reverses the low n bits of L. -/
  | brev (tile : Fin 416)
  /-- POPC, R387: Emits the count of ones in L. -/
  | popc (tile : Fin 416)
  /-- BSWAP, R387: Reverses the octet order of L. -/
  | bswap (tile : Fin 416)
  /-- CLZ, R387: Emits the count of leading zeros of L. -/
  | clz (tile : Fin 416)
  /-- CTZ, R387: Emits the count of trailing zeros of L. -/
  | ctz (tile : Fin 416)
  /-- CNEW, R258: Allocates a child context, taking credit and a frame or holding as a CREDIT entry. -/
  | cnew (tile : Fin 416)
  /-- CSELF, R258: Emits the firing context's CTX. -/
  | cself (tile : Fin 416)
  /-- CPUT, R258: Re-addresses L into the context named by R. -/
  | cput (tile : Fin 416)
  /-- CREL, R259: Releases the firing context, bumping its epoch and starting its purge. -/
  | crel (tile : Fin 416)
  /-- PDONE, R258: Sends PERIOD_DONE for the context's period to the deadline watch. -/
  | pdone (tile : Fin 416)
  /-- INEXT, R311: Advances the colour, gating or retiring a loop iteration. -/
  | inext (tile : Fin 416)
  /-- ISET, R258: Sets the colour from R, optionally retiring an iteration. -/
  | iset (tile : Fin 416)
  /-- FRD, R376: Reads a frame word, deferring while empty. -/
  | frd (tile : Fin 416)
  /-- FWR, R376: Writes a frame word, sets presence and releases waiting reads. -/
  | fwr (tile : Fin 416)
  /-- HWR, R457: Writes the FI's master ID to a hitch, taking it or joining its queue. -/
  | hwr (tile : Fin 416)
  /-- HRD, R391: Reads a hitch's holder and the FI's queue place. -/
  | hrd (tile : Fin 416)
  /-- HWAIT, R460: Stalled read that completes when the FI becomes holder or HWT passes. -/
  | hwait (tile : Fin 416)
  /-- HPARK, R460: Parks the firing until the FI becomes holder and a wake token is sent. -/
  | hpark (tile : Fin 416)
  /-- HREL, R458: Releases a held hitch to the head of its queue. -/
  | hrel (tile : Fin 416)
  /-- SALLOC, R391: Takes one zeroed packet cell or emits VOID on exhaustion. -/
  | salloc (tile : Fin 416)
  /-- SFREE, R391: Frees an owned packet cell. -/
  | sfree (tile : Fin 416)
  /-- TRIP, R691: Energizes or de-energizes a bound trip output under the minimum pulse. -/
  | trip (tile : Fin 416)
  /-- PUB, R584: Sets a publisher member or hands it a cell, and publishes on SEND. -/
  | pub (tile : Fin 416)
  /-- EVT, R396: Writes a cairn record with the FI's bound event ID. -/
  | evt (tile : Fin 416)
  /-- CHAN, R221: Sends L on a bound channel to its peer FI. -/
  | chan (tile : Fin 416)
  /-- LED, R396: Sets a bound LED's state. -/
  | led (tile : Fin 416)
  /-- DISP, R398: Writes characters to a bound display line. -/
  | disp (tile : Fin 416)
  /-- ROPE, R493: Sends L to the twin over the rope link. -/
  | rope (tile : Fin 416)
  /-- RESERVED_OPCODE, R342: A fetched reserved or corrupt word raises the instruction-integrity fault. -/
  | reservedOpcode (tile : Fin 416) (corrupt : Bool)
  /-- FRAME_RECEIVE, R509: A frame on ports 0–17 passes parse, classify, redundancy, subscription and address stages and is forwarded. -/
  | frameReceive (port : Fin 18) (frame : Frame)
  /-- FRAME_TRANSMIT, R514: A queued frame starts at an egress port in priority order. -/
  | frameTransmit (port : Fin 18)
  /-- MAC_LEARN, R528: The insertion engine learns, refreshes or moves a source address. -/
  | macLearn
  /-- STASH_RETURN, R526: A stash entry moves back to a freed slot. -/
  | stashReturn
  /-- AGE_SWEEP, R535: At each 4 s tick the ager removes expired learned entries. -/
  | ageSweep
  /-- PTP_SYNC_EXPIRY, R562: A pending two-step Sync unmatched for 1 s is removed. -/
  | ptpSyncExpiry (port : Fin 18)
  /-- TABLE_ENTRY_RESTORE, R518: The steward rewrites a lost static table entry within 1 ms. -/
  | tableEntryRestore
  /-- CODEC_AUTH_DONE, R582: The engine finishes a tag check and the codec gate opens or the frame fails. -/
  | codecAuthDone
  /-- GOOSE_TAL_EXPIRY, R575: timeAllowedToLive passes and a STALE CTRL token goes to the bound FIs. -/
  | gooseTalExpiry (sub : Fin 4096)
  /-- PUBLISH_BUILD, R591: The codec builds and sends a queued publication frame. -/
  | publishBuild
  /-- GOOSE_RETRANSMIT, R587: A retransmission interval expires and the GOOSE frame is resent. -/
  | gooseRetransmit (pub : Fin 1024)
  /-- ENGINE_REQUEST, R656: A master presents a request to the crypto engine. -/
  | engineRequest (request : Option (EngOp × Option Nat × Nat)) (unwraps : Bool)
  /-- ENGINE_SEGMENT_END, R658: An engine turn ends and it continues, switches to a waiter or completes. -/
  | engineSegmentEnd (unwraps : Bool)
  /-- ENGINE_IDLE_ZEROIZE, R652: 1 ms of engine idleness zeroizes the working key register. -/
  | engineIdleZeroize (ok : Bool)
  /-- ENGINE_TIMEOUT, R662: A granted request not completed in 10 µs fails and the engine resets. -/
  | engineTimeout (unwraps : Bool)
  /-- LANE_TRAINED, R480: A lane completes training and lock and goes UP. -/
  | laneTrained (lane : Fin 16)
  /-- LANE_TRAIN_TIMEOUT, R480: The training limit passes without UP and the lane goes DOWN. -/
  | laneTrainTimeout (lane : Fin 16)
  /-- LANE_LOSS, R480: Loss of signal or lock takes an UP lane DOWN. -/
  | laneLoss (lane : Fin 16) (los : Bool)
  /-- LANE_RETRY, R480: Every 100 ms in DOWN with signal the lane re-enters TRAINING. -/
  | laneRetry (lane : Fin 16)
  /-- LANE_STOP_PHASE_END, R481: The stop phase completes and the lane is OFF or trains in its new mode. -/
  | laneStopPhaseEnd (lane : Fin 16)
  /-- LANE_HARDWARE_FAIL, R479: SerDes calibration or PLL lock fails and the lane stays DOWN. -/
  | laneHardwareFail (lane : Fin 16)
  /-- MGMT_LINK_CHANGE, R486: A management port link goes up or down. -/
  | mgmtLinkChange (port : Fin 2) (up : Bool)
  /-- MODULE_RESET_RELEASE, R487: ResetL is released 10 ms after a module is present and the quad is ON. -/
  | moduleResetRelease (cage : Fin 4)
  /-- CAGE_INTL_CHANGE, R488: A cage's IntL asserts or releases and is recorded. -/
  | cageIntlChange (cage : Fin 4) (asserted : Bool)
  /-- ROPE_FRAME_CLOSE, R493: The framer closes a TOKENS frame at 4 tokens or after 4 cycles. -/
  | ropeFrameClose
  /-- ROPE_FRAME_RECEIVE, R501: A rope frame is checked for version, type and sequence and its entries are delivered. -/
  | ropeFrameReceive (lane : Fin 2) (frame : RopeFrame)
  /-- BEACON_SEND, R498: Every 10 µs a beacon is sent on both rope lanes. -/
  | beaconSend
  /-- BEACON_RECEIVE, R499: A peer beacon is received and OFFSET and DELAY are computed. -/
  | beaconReceive (lane : Fin 2) (seq : Fin 65536) (body : Beacon)
  /-- ROPE_LANE_SWITCH, R502: An unhealthy transmit lane is replaced by the healthy standby lane. -/
  | ropeLaneSwitch
  /-- ROPE_LINK_LOST, R24: 30 µs without a beacon on either lane declares the link LOST. -/
  | ropeLinkLost
  /-- ROPE_FALLBACK, R240: At the next period boundary each roped FI acts on FALLBACK. -/
  | ropeFallback (fi : Fin 1024)
  /-- ROPE_STANDBY_DOWN, R754: A standby rope lane unhealthy for 60 s is recorded. -/
  | ropeStandbyDown
  /-- EXT10_LOSS, R598: The external reference is lost and the clock moves to INT25. -/
  | ext10Loss
  /-- ANCHOR_VOTE_FAULT, R602: A copy of the anchor disagrees and is corrected, or all differ. -/
  | anchorVoteFault (x0 x1 x2 : Option Anchor)
  /-- HOLDOVER_ENTRY, R610: 4 s after the last ADJUST STATE becomes HOLDOVER. -/
  | holdoverEntry
  /-- UNDISCIPLINED_ENTRY, R610: HOLDOVER passes and STATE becomes UNDISCIPLINED. -/
  | undisciplinedEntry
  /-- STEPPED_EXPIRY, R609: The STEPPED bit clears 1 s after the last step. -/
  | steppedExpiry
  /-- WARMUP_END, R609: The UNSETTLED bit clears at the end of warm-up or reference change. -/
  | warmupEnd
  /-- LEAP_DUE, R613: A committed leap reaches LEAPAT and UTCOFFSET changes. -/
  | leapDue
  /-- IRIG_FRAME, R620: A valid IRIG-B frame produces one capture. -/
  | irigFrame (valid : Bool) (fmt : Fin 8) (back : Nat) (fields : Fields)
  /-- PPS_EDGE, R621: A 1PPS rising edge produces a capture or a glitch count. -/
  | ppsEdge
  /-- TIME_INPUT_ABSENT, R622: IRIG-B or 1PPS is absent for its limit and an event is recorded. -/
  | timeInputAbsent (irig : Bool)
  /-- PRESENCE_ACTIVE, R637: Door open with keys 62 and 63 held for 3 s activates physical presence. -/
  | presenceActive
  /-- PRESENCE_END, R637: Physical presence ends after 120 s, door close or a start. -/
  | presenceEnd
  /-- KEY_CHANGE, R674: A debounced key change is recorded and delivered. -/
  | keyChange (key : Fin 64) (down : Bool)
  /-- KEY_STUCK, R676: A key pressed for 120 s is declared stuck and a release delivered. -/
  | keyStuck (key : Fin 64)
  /-- TOUCH_CHANGE, R677: A debounced touch change is recorded and delivered. -/
  | touchChange (channel : Fin 8) (count : Fin 4096)
  /-- TOUCH_DRIFT, R678: Every 256 scans a released channel's baseline moves one count. -/
  | touchDrift (channel : Fin 8)
  /-- TOUCH_RECAL, R679: A channel touched for 60 s is recalibrated and released. -/
  | touchRecal (channel : Fin 8)
  /-- TOUCH_FAULT, R680: A count at 0 or 4,095 for 16 scans puts the channel in fault. -/
  | touchFault (channel : Fin 8) (high : Bool)
  /-- PRESENCE_INPUT_CHANGE, R681: A debounced presence input change is recorded. -/
  | presenceInputChange (input : Fin 16) (reading : PresRead)
  /-- BOARD_REMOVE, R673: The front panel board is removed and keys and touch are released. -/
  | boardRemove
  /-- BOARD_RETURN, R673: The front panel board returns and the panel is recalibrated and redrawn. -/
  | boardReturn
  /-- BINARY_INPUT_CHANGE, R689: A filtered binary input change is recorded and delivered. -/
  | binaryInputChange (input : Fin 16) (high : Bool)
  /-- INPUT_UNBLOCK, R690: A blocked input stable for 10 s is unblocked. -/
  | inputUnblock (input : Fin 16)
  /-- MINPULSE_END, R691: The minimum pulse ends and a held de-energize applies. -/
  | minpulseEnd (trip : Fin 16)
  /-- SUP_CHANGE, R693: Supervision current below or above 1.5 mA for 20 ms changes SUP. -/
  | supChange (trip : Fin 16) (low : Bool)
  /-- TRIP_OVERCURRENT, R697: Driver current exceeds its limit and the output latches off. -/
  | tripOvercurrent (trip : Fin 16)
  /-- TRIP_READBACK_FAULT, R698: Driver readback differs from its input for 20 µs. -/
  | tripReadbackFault (trip : Fin 16)
  /-- FAULT_RAISE, R705: A raise reaches the fault collector and is classified and acted on. -/
  | faultRaise (raise : Option (Nat × Nat × Option Nat))
  /-- LOCKSTEP_MISMATCH, R707: The safety core's lockstep outputs disagree and source 384 is raised. -/
  | lockstepMismatch
  /-- STEWARD_HEARTBEAT, R722: The steward sends its 50 ms heartbeat to the warden. -/
  | stewardHeartbeat
  /-- HEARTBEAT_LOSS, R722: No heartbeat for 250 ms fails alive condition 5. -/
  | heartbeatLoss
  /-- STEWARD_WATCHDOG, R198: Heartbeat absent for 2 s starts a watchdog warm restart. -/
  | stewardWatchdog
  /-- ALIVE_STOP, R723: An alive condition fails and ALIVE_OUT is driven low. -/
  | aliveStop
  /-- ALIVE_RESUME, R723: All conditions hold for 10 ms and ALIVE_OUT resumes toggling. -/
  | aliveResume
  /-- ALIVE_MONITOR_FORCE, R723: The hardware monitor forces ALIVE_OUT low when no half-period completes in 1 ms. -/
  | aliveMonitorForce
  /-- ALIVE_IN_CHANGE, R724: ALIVE_IN becomes TOGGLING or STOPPED. -/
  | aliveInChange (toggling : Bool)
  /-- ALIVE_READBACK_FAULT, R725: ALIVE_OUT read-back differs for 20 µs. -/
  | aliveReadbackFault
  /-- CAIRN_WRITE, R729: The cairn writer numbers and writes held records to the ring. -/
  | cairnWrite
  /-- TAIL_SAVE_COMPLETE, R731: A flash-tail save ends and is recorded or raises CAIRN-TAIL. -/
  | tailSaveComplete (ok : Bool)
  /-- POWER_ON, R169: The supply comes into range and the start sequence runs. -/
  | powerOn (found : StartFindings)
  /-- START_EDGE, R176: At the first 1 ms boundary after step 7 FIs with run intent arm. -/
  | startEdge
  /-- WARM_RESTART, R190: The steward alone restarts and rechecks graph pairings. -/
  | warmRestart
  /-- COLD_RESTART, R191: The tail is saved, outputs belayed and steps 2–8 run. -/
  | coldRestart (found : StartFindings)
  /-- SUPPLY_WARNING, R763: The supply-failing warning begins and the tail save starts. -/
  | supplyWarning
  /-- SHUTDOWN, R764: The hold-up store reaches its floor and all switched domains lose power. -/
  | shutdown
  /-- SUPPLY_RESTORED, R765: The input recovers before shutdown and the warning ends. -/
  | supplyRestored (ms : Nat)
  /-- SUPPLY_DIP, R766: A short dip before the warning is recorded. -/
  | supplyDip (ms : Nat)
  /-- DOMAIN_RISE_DONE, R773: A domain completes RISING and the steward restores its content. -/
  | domainRiseDone (domain : Fin 24)
  /-- DOMAIN_FALL_DONE, R773: A domain completes FALLING and a latched request applies. -/
  | domainFallDone (domain : Fin 24)
  /-- DOMAIN_FAULT, R777: A domain rail fault forces it OFF with its consequences. -/
  | domainFault (domain : Fin 24)
  /-- DOMAIN_RETRY, R777: 1 s after a domain fault the steward tries RISING once. -/
  | domainRetry (domain : Fin 24)
  /-- SENSOR_READ, R778: Each 1 ms sensor reading updates its state and the throttle step. -/
  | sensorRead (sensor : Fin 22) (reading : Option Int)
  /-- STACK_COOL, R435: A stack below 85 °C for 10 s returns to COOL. -/
  | stackCool (stack : Fin 4)
  /-- GOVERNOR_REFILL, R436: Every 1,024 cycles each copy's bandwidth credit is refilled. -/
  | governorRefill
  /-- SRAM_SCRUB, R425: The scrubber reads and corrects every on-die SRAM word each 30 s. -/
  | sramScrub (found : List Finding)
  /-- DRAM_PATROL, R426: The patrol reads every DRAM line each 24 h. -/
  | dramPatrol (found : List Finding)
  /-- POISON_CLEAR_DONE, R427: Every marked poisoned line is rewritten and event 0x0B2 recorded. -/
  | poisonClearDone (fi : Fin 1024)
  /-- TRAVERSE_STEP, R742: Every INTERVAL a traverse step chooses a candidate tile and migrates or tests it. -/
  | traverseStep
  /-- SLOT_SWITCH, R746: A slot under shadow switches to the target tile. -/
  | slotSwitch (cluster : Fin 8) (fi : Fin 1024) (copy : Fin 2)
  /-- TILE_TEST_DONE, R747: A 20 ms tile test ends with PASS, ROWS or FAIL. -/
  | tileTestDone (cluster : Fin 8) (outcome : Option Nat)
  /-- TRAVERSE_COMPARE_FAIL, R751: A shadow mismatch ends the step and marks the tiles for test. -/
  | traverseCompareFail (cluster : Fin 8)
  /-- DRAM_GROUP_RETIRE, R752: A failing group is copied to relocation and retired. -/
  | dramGroupRetire (group : Fin 64)
  /-- BIT_LANE_SPARE, R753: A bit-lane with 16 retransmissions in 1 ms is replaced by a spare. -/
  | bitLaneSpare (link : Nat)
  /-- LINK_HALF_WIDTH, R754: A link without a spare bit-lane runs at half width. -/
  | linkHalfWidth (link : Nat) (ends : List (Fin 416 × Fin 4))
  /-- ACCEPTED_CHARACTER, R48: A printable character typed in interactive mode is placed in the partial line and echoed. -/
  | acceptedCharacter (sess : Fin 16) (ch : Char)
  /-- MALFORMED_LINE, R34: A line that breaks a lexical, framing or script-mode rule (0101, 0103–0109, 010A) or names no known verb is answered with one error line and executes nothing. -/
  | malformedLine (h : Hdr)
  /-- ROPE_RECOVERY_ARM, R240: At the next 1 ms boundary of anchor time after the rope link comes back UP, each roped FI with FALLBACK=STOP and run intent is armed. -/
  | ropeRecoveryArm (fi : Fin 1024)
  /-- TEMPLATE_REWRITE, R570: The steward rewrites an unusable template from the configuration store within 1 ms and its subscriptions decode again. -/
  | templateRewrite (template : Fin 512)
  /-- WARDEN_RESTART, R707: After a lockstep mismatch resets the safety core, the warden restarts from its running bank within 100 ms. -/
  | wardenRestart
  /-- TRAVERSE_PHASE_END, R743: A phase of a migrating traverse step ends (PREPARE's page fetches, COPY's 512 cycles, the 10 µs pairing window, VACATE) and the next phase begins. -/
  | traversePhaseEnd (cluster : Fin 8)
deriving DecidableEq, Repr

end Sys2Proof
end

