-- ==== Sys2Proof/Decode.lean ====
section
/-!
DEFINITION. Commands spelled by the bits of spec/opcode_table.json. Its rows give no bits: a command comes as an event or a line, not as a word.
-/
namespace Sys2Proof

/-- The command a word spells by the table's bits: none, since no row of the table has bits. -/
def decodeTableWord (_nbits _w : Nat) : Option Instr := none

end Sys2Proof
end

