-- ==== Sys2Proof/Machine/Flags.lean ====
section
/-!
DEFINITION. The counts a compute instruction can raise beside its result (R351): saturations, divisions by zero, floating-point invalid operations,
divisions by zero and overflows. The unit has no flag register: these counters are its flags.
-/
namespace Sys2Proof.Machine

/-- A result with the counts of R351 it raises. -/
structure Res where
  data : Word
  sat : Bool := false
  divz : Bool := false
  finv : Bool := false
  fdz : Bool := false
  fovf : Bool := false
deriving DecidableEq, Repr

/-- A result that counts nothing. -/
def Res.pure (w : Word) : Res := { data := w }

/-- A counter that stops at 2^32 - 1, raised when the flag says so. -/
def bump (n : Nat) (b : Bool) : Nat := if b then (if n < 4294967295 then n + 1 else 4294967295) else n

/-- Adds a result's counts to a copy's counters (R351). -/
def Cnt.addRes (k : Cnt) (r : Res) : Cnt :=
  { k with sat := bump k.sat r.sat, divz := bump k.divz r.divz, finv := bump k.finv r.finv, fdz := bump k.fdz r.fdz,
           fovf := bump k.fovf r.fovf }

end Sys2Proof.Machine
end

