-- ==== Sys2Proof/Machine/Operands.lean ====
section
/-!
DEFINITION. The operands of an Elvit instruction: word fields (R337, R338), token kinds (R245), operand views (R349), kind combination (R270) and
addressing modes (R373).
-/
namespace Sys2Proof.Machine

/-! ### Kinds -/

/-- The 3-bit code of a kind (Table 6-2). -/
def Kind.code : Kind → Nat
  | .data => 0 | .void => 1 | .poison => 2 | .ctrl => 3 | .time => 4 | .rsv5 => 5 | .rsv6 => 6 | .rsv7 => 7

/-- The kind of a 3-bit code. -/
def Kind.ofCode : Nat → Kind
  | 0 => .data | 1 => .void | 2 => .poison | 3 => .ctrl | 4 => .time | 5 => .rsv5 | 6 => .rsv6 | _ => .rsv7

/-- A kind of 5–7 (R245). -/
def Kind.reserved (k : Kind) : Bool := 5 ≤ k.code

def Opnd.data' (w : Word) : Opnd := ⟨.data, w⟩
def Opnd.void : Opnd := ⟨.void, 0⟩
/-- POISON whose data holds a fault source in [11:0] (Table 6-2). -/
def Opnd.poison (src : Nat) : Opnd := ⟨.poison, BitVec.ofNat 64 (src % 4096)⟩

/-! ### Fields of the instruction word (Table 8-3, Table 8-4) -/

/-- Bits hi down to lo of a word. -/
def field (w : Word) (hi lo : Nat) : Nat := w.toNat / 2 ^ lo % 2 ^ (hi - lo + 1)

def Word.op (w : Word) : Nat := field w 63 56
def Word.ge (w : Word) : Bool := field w 55 55 == 1
def Word.gs (w : Word) : Bool := field w 54 54 == 1
def Word.gp (w : Word) : Nat := field w 53 51
def Word.vq (w : Word) : Bool := field w 50 50 == 1
def Word.form (w : Word) : Nat := field w 49 48
def Word.aux (w : Word) : Nat := field w 47 40
def Word.dest0 (w : Word) : Nat := field w 39 16
def Word.dest1 (w : Word) : Nat := field w 15 0

/-- The destination of a 24-bit field in the DEST0 form. -/
def Dest.of24 (n : Nat) : Dest := ⟨n / 32768, n / 2048 % 16, n / 2 % 1024, n % 2 == 1⟩

/-- DEST1 with the virtual tile of DEST0 (R338), none when it is not valid. -/
def Word.second (w : Word) : Option Dest :=
  let n := Word.dest1 w
  if n / 32768 == 1 then some ⟨Word.dest0 w / 32768, n / 1024 % 16, n % 1024, n / 16384 % 2 == 1⟩ else none

/-- The destinations of a word, DEST0 first (R265). -/
def Word.dests (w : Word) : List Dest :=
  Dest.of24 (Word.dest0 w) :: (match Word.second w with | some d => [d] | none => [])

/-! ### Views (R349, Table 8-9) -/

def i64 (w : Word) : Int := w.toInt
def i32 (w : Word) : Int := (w.setWidth 32).toInt
def i16 (w : Word) : Int := (w.setWidth 16).toInt
/-- An integer in the 64-bit result field, narrower views sign-extended. -/
def ofI (i : Int) : Word := BitVec.ofInt 64 i
/-- The low 32 bits sign-extended. -/
def sx32 (i : Int) : Word := (BitVec.ofInt 32 i).signExtend 64

/-! ### Kind combination (R270, Table 6-9) -/

/-- What compute instructions do with VOID and POISON operands: none when every operand is data. -/
def combine (l : Opnd) (r : Option Opnd) : Option Opnd :=
  if l.kind = .poison then some l
  else match r with
    | some r' => if r'.kind = .poison then some r'
                 else if l.kind = .void ∨ r'.kind = .void then some Opnd.void else none
    | none => if l.kind = .void then some Opnd.void else none

/-- What the control operand of a steering instruction does: VOID or POISON to every destination. -/
def controlKind (r : Opnd) : Option Opnd :=
  match r.kind with
  | .void => some Opnd.void
  | .poison => some r
  | _ => none

/-! ### Addressing modes (R373, R374, Table 9-4) -/

/-- The low n bits of a number in reverse order. -/
def revBits : Nat → Nat → Nat
  | 0, _ => 0
  | n + 1, x => (x % 2) * 2 ^ n + revBits n (x / 2)

/-- The effective address of mode, parameter and address operand; none for a reserved mode or a descriptor not in use (R342). -/
def effAddr (d : Desc) (aux : Nat) (l : Word) : Option Nat :=
  let par := aux % 32
  let ring := (d.rings[par % 16]?).getD ⟨false, 0, 0⟩
  let idx := (i64 l % (ring.len : Int)).toNat
  match aux / 32 with
  | 0 => if par = 0 then some (l.toNat % 1099511627776) else none
  | 1 => if par < 4 then some ((65536 * (d.banks[par]?).getD 0 + l.toNat % 65536) % 1099511627776) else none
  | 2 => if par < 16 ∧ ring.used then some ((ring.base + 8 * idx) % 1099511627776) else none
  | 3 => if par < 16 ∧ ring.used then some ((ring.base + 8 * revBits ring.len.log2 idx) % 1099511627776) else none
  | _ => none

end Sys2Proof.Machine
end

