-- ==== Sys2Proof/Machine/Integer.lean ====
section
/-!
DEFINITION. What the integer, fixed-point, compare and bit instructions compute (R357–R359, R362, R387, R388; Tables 8-11, 8-12, 9-7).
-/
namespace Sys2Proof.Machine

/-! ### Integer (Table 8-11) -/

def sh6 (r : Word) : Nat := r.toNat % 64

def aMulh (l r : Word) : Word := ofI (i64 l * i64 r / 18446744073709551616)
def aMulhu (l r : Word) : Word := BitVec.ofNat 64 (l.toNat * r.toNat / 18446744073709551616)

/-- Truncated signed quotient; zero and overflow as R358 sets out. -/
def aDiv (l r : Word) : Res :=
  if r = 0 then { data := BitVec.allOnes 64, divz := true } else .pure (ofI (Int.tdiv (i64 l) (i64 r)))
def aDivu (l r : Word) : Res :=
  if r = 0 then { data := BitVec.allOnes 64, divz := true } else .pure (BitVec.ofNat 64 (l.toNat / r.toNat))
def aRem (l r : Word) : Res :=
  if r = 0 then { data := l, divz := true } else .pure (ofI (Int.tmod (i64 l) (i64 r)))
def aRemu (l r : Word) : Res :=
  if r = 0 then { data := l, divz := true } else .pure (BitVec.ofNat 64 (l.toNat % r.toNat))

def aSext (l r : Word) : Word :=
  let b := sh6 r
  ofI (let x : Int := l.toNat % 2 ^ (b + 1); if x < 2 ^ b then x else x - 2 ^ (b + 1))
def aZext (l r : Word) : Word := BitVec.ofNat 64 (l.toNat % 2 ^ (sh6 r + 1))
/-- Field of L at position R[5:0], length R[11:6] with 0 meaning 64. -/
def aExtr (l r : Word) : Word :=
  let len := r.toNat / 64 % 64
  BitVec.ofNat 64 (l.toNat / 2 ^ sh6 r % 2 ^ (if len = 0 then 64 else len))

/-- An integer saturated to the n-bit signed range, counted when it saturates. -/
def satI (n : Nat) (i : Int) : Res :=
  if i > 2 ^ (n - 1) - 1 then { data := ofI (2 ^ (n - 1) - 1), sat := true }
  else if i < -(2 ^ (n - 1)) then { data := ofI (-(2 ^ (n - 1))), sat := true }
  else .pure (ofI i)

/-! ### Fixed point (Table 8-12): n is 32 for Q31 and 16 for Q15 -/

/-- The n-bit signed view. -/
def qv (n : Nat) (w : Word) : Int := if n = 32 then i32 w else i16 w

/-- Half of the discarded weight added, then an arithmetic shift (R359). -/
def roundShift (i : Int) (n : Nat) : Int := if n = 0 then i else (i + 2 ^ (n - 1)) / 2 ^ n

def qAdd (n : Nat) (l r : Word) : Res := satI n (qv n l + qv n r)
def qSub (n : Nat) (l r : Word) : Res := satI n (qv n l - qv n r)
def qMul (n : Nat) (l r : Word) : Res := satI n (roundShift (qv n l * qv n r) (n - 1))
def qNeg (n : Nat) (l : Word) : Res := satI n (-(qv n l))
def qAbs (n : Nat) (l : Word) : Res := satI n (Int.natAbs (qv n l))
def qShl (n : Nat) (l r : Word) : Res := satI n (qv n l * 2 ^ (r.toNat % n))
def qShr (n : Nat) (l r : Word) : Res := satI n (roundShift (qv n l) (r.toNat % n))
def q2h (l : Word) : Res := satI 16 (roundShift (i32 l) 16)
def h2q (l : Word) : Res := .pure (ofI (i16 l * 65536))
def qMul64 (l r : Word) : Res := satI 64 (i32 l * i32 r * 2)
def qRnd (l : Word) : Res := satI 32 (roundShift (i64 l) 32)

/-! ### Compare (R362) -/

def bit (b : Bool) : Word := if b then 1 else 0

/-! ### Bits (R387, R388) -/

def popc (w : Word) : Nat := (List.range 64).foldl (fun n i => n + w.toNat / 2 ^ i % 2) 0
def parity (w : Word) : Word := BitVec.ofNat 64 (popc w % 2)
def brev (l r : Word) : Word :=
  let n := if sh6 r = 0 then 64 else sh6 r
  BitVec.ofNat 64 (revBits n (l.toNat % 2 ^ n))
/-- The octets of a word, most significant first. -/
def octets (w : Word) : List Nat := (List.range 8).map (fun i => w.toNat / 2 ^ (8 * (7 - i)) % 256)
/-- The word of eight octets, most significant first. -/
def ofOctets (l : List Nat) : Word := BitVec.ofNat 64 (l.foldl (fun a b => a * 256 + b % 256) 0)
def bswap (l : Word) : Word := ofOctets (octets l).reverse
def clz (l : Word) : Word := if l = 0 then 64 else BitVec.ofNat 64 (63 - l.toNat.log2)
/-- Trailing zero bits of a number below 2^n, n when it is zero. -/
def ctzAux : Nat → Nat → Nat
  | 0, _ => 0
  | n + 1, x => if x % 2 = 1 then 0 else 1 + ctzAux n (x / 2)
def ctz (l : Word) : Word := BitVec.ofNat 64 (ctzAux 64 l.toNat)

/-- Eight steps of the CRC register (R388). -/
def crcSteps (w poly : Nat) : Nat → Nat → Nat
  | 0, reg => reg
  | n + 1, reg =>
    crcSteps w poly n (if reg / 2 ^ (w - 1) % 2 = 1 then (reg * 2 ^^^ poly) % 2 ^ w else reg * 2 % 2 ^ w)

/-- The register advanced over one octet. -/
def crcOctet (d : CrcDesc) (reg b : Nat) : Nat :=
  let b := if d.refin then revBits 8 b else b
  crcSteps d.width d.poly 8 (reg ^^^ (b * 2 ^ (d.width - 8)))

/-- The register a token holds, INIT for the start form. -/
def crcReg (d : CrcDesc) (l : Word) : Nat := if l.toNat / 2 ^ 63 = 1 then d.init else l.toNat % 2 ^ d.width
def crcW (d : CrcDesc) (l r : Word) : Word := BitVec.ofNat 64 ((octets r).foldl (crcOctet d) (crcReg d l))
def crcB (d : CrcDesc) (l r : Word) : Word := BitVec.ofNat 64 (crcOctet d (crcReg d l) (r.toNat % 256))
def crcF (d : CrcDesc) (l : Word) : Word :=
  let reg := crcReg d l
  BitVec.ofNat 64 ((if d.refout then revBits d.width reg else reg) ^^^ d.xorout)

end Sys2Proof.Machine
end

