-- ==== Sys2Proof/Config.lean ====
section
/-!
DEFINITION. Constants the spec fixes and the free values it leaves open. An opaque constant has no body that a proof can see: a statement
that holds of it holds of every value it could have.
-/
namespace Sys2Proof.Config

/-- Core-clock cycles in a millisecond: one cycle is 1 ns (R9). -/
def ms : Nat := 1000000

/-- Core-clock cycles in a second. -/
def sec : Nat := 1000000000

/-- Core-clock cycles in a microsecond. -/
def us : Nat := 1000

/-- A value the spec leaves open, for the n-th use of the counter that State holds (nonces, octets a device answers, measured quantities). -/
opaque freeValue : Nat → Word

/-- Event IDs of records the spec asks for and gives no ID: 0 session start and end, 1 login lock, 2 source resumption. -/
opaque openEvent : Nat → Nat

/-- Length in octets of a publication frame: publisher, member values and variable part; the protocols' octet encodings stand outside the spec. -/
opaque frameLength : Nat → List Word → List Byte → Nat

/-- The compatibility set, 96 octets, that a warden or steward image carries; where it stands in the image is outside the spec. -/
opaque imageCompat : List Byte → List Byte

/-- K_dev as the factory fused it (R625), and the key the boot ROM takes from the entropy source at its n-th K_seal generation (R174). -/
opaque deviceKey : Nat
opaque sealKey : Nat → Nat

/-- HKDF-SHA-256: key, salt, info, octets of output (R626); the function stands outside the spec. -/
opaque hkdf : Nat → String → String → Nat → Nat

/-- SHA-256 of an octet string, as a number; the function stands outside the spec. -/
opaque sha256 : List Byte → Nat

/-- Whether a signature or a response verifies: algorithm code, key, message and signature; the functions stand outside the spec. -/
opaque verifies : Nat → List Byte → List Byte → List Byte → Bool

/-- Message authentication and authenticated encryption of a key's algorithm over octets: key, nonce, text; outside the spec. -/
opaque mac : List Byte → List Byte → List Byte → List Byte

/-- The octets of a publication frame that its tag covers: publisher, numbers and member values, variable part; outside the spec. -/
opaque frameOctets : Nat → List Word → List Byte → List Byte

/-- ECDH of a private scalar and a public point (x-coordinate), and whether a point lies on the curve of its size; outside the spec. -/
opaque ecdh : Nat → List Byte → Nat
opaque onCurve : Nat → List Byte → Bool

/-- Opens AES-256-GCM: key, nonce, additional data, text with its tag; none when the tag fails (R643); outside the spec. -/
opaque gcmOpen : Nat → List Byte → List Byte → List Byte → Option (List Byte)

/-- Whether a warden or steward image is signed by the image-signing key that the factory fused (R160); outside the spec. -/
opaque imageSigned : List Byte → Bool

/-- The public point of a private scalar, by curve: its coordinates; outside the spec. -/
opaque publicPoint : Nat → Nat → Nat × Nat

end Sys2Proof.Config
end

