-- ==== Sys2Proof/Parts/Faults.lean ====
section
/-!
DEFINITION. The state of the fault collector, belay, the alive logic and the cairn log (18_faults_belay_and_alive.md).
-/
namespace Sys2Proof.Machine

/-- A raise on its way to the collector or in it (R703). -/
structure Raise where
  src : Nat                 -- 0 to 1023
  inst : Nat                -- instance number, for the order of R706
  fi : Option Nat           -- the FI it names
  stamp : Stamp             -- of the detection cycle
  cycle : Nat               -- the detection cycle
  arrival : Nat             -- the cycle of arrival at the collector
  detail : Fields           -- after CLASS= and FI=
deriving DecidableEq, Repr

/-- What the collector keeps of one source (R711, R712). -/
structure SrcState where
  count : Nat               -- 32 bits, stops at 2^32 - 1
  latched : Bool
  last : Option Stamp
  credit : Nat              -- record allowance: one record is 62,500,000 cycles, 16 records at most
  creditAt : Nat            -- the cycle credit was last brought forward
  dropped : Nat             -- raises not recorded since its last record
deriving DecidableEq, Repr

/-- A cairn record, held or in the ring (R728, Table 18-9). -/
structure Rec where
  seq : Nat                 -- 0 while not numbered
  id : Nat
  inst : Nat                -- instance, for the order of R729
  stamp : Stamp
  cycle : Nat               -- stamp cycle
  arrival : Nat             -- cycle of arrival at the writer
  detail : Fields
  tail : Bool               -- FLAGS bit 1
  trunc : Bool := false     -- FLAGS bit 0: detail cut at 100 characters
  kept : Bool               -- may use the 256 kept places (R730)
  cls : Option Cls          -- class of a fault record
  fi : Option Nat           -- FI of a fault record
deriving DecidableEq, Repr

/-- A flash-tail area (R731). -/
structure TailArea where
  written : Bool
  valid : Bool
  recs : List Rec           -- the newest 8,192 records
  anchorSec : Nat
  anchorNs : Nat
  rate : Int
  highSeq : Nat
  order : Nat               -- which of the two was written later
deriving DecidableEq, Repr

/-- A tail save in progress or not yet recorded as event 0x115 (R731). -/
structure TailSave where
  cause : String            -- SUPPLY, COLD or LIFE
  from? : Nat
  to? : Nat
  began : Nat
  complete : Bool
  bad : Bool                -- its verification failed
deriving DecidableEq, Repr

/-- The fault collector (R703–R715). -/
structure Collector where
  /-- raises detected and not yet classified; list; R703–R706; reset empty -/
  inbound : List Raise
  /-- per-source COUNT, LATCHED, LAST, burst allowance and dropped count; 1,024 sources, 32+1+stamp bits; R711, R712; reset 0, NO, NONE, 16, 0 -/
  srcs : Tbl SrcState
  /-- raise queue of records the warden has not yet written; 1,024 places, 64 kept; R706; reset empty -/
  queue : List Rec
  /-- FAULT_UNRECORDED; 32 bits; R706; reset 0 -/
  unrecorded : Nat
  /-- the safety core is held in reset after a lockstep mismatch, until its restart by this cycle; cycle count or none; R707; reset none -/
  wardenDown : Option Nat
deriving DecidableEq, Repr

/-- Belay causes (R716, Table 18-3). -/
structure Belay where
  /-- cause START holds every output; 1 bit; R716; reset 1 (from step 3 of Table 4-4) -/
  start : Bool
  /-- cause BASECAMP holds every output; 1 bit; R716; reset 0 -/
  basecamp : Bool
  /-- cause UNIT holds every output; 1 bit; R716; reset 0 -/
  unit : Bool
  /-- outputs held by cause FAULT (the belay latches); 16 trips, 1,024 publishers, 48 LEDs; R716; reset none -/
  fault : List OutId
deriving DecidableEq, Repr

/-- The alive logic (R722–R725). -/
structure Alive where
  /-- ALIVE_OUT is toggling; 1 bit; R722; reset 0 (low) -/
  toggling : Bool
  /-- cycle at which the present toggling began (it resumes with a rising edge); cycle count; R722, R723; reset 0 -/
  since : Nat
  /-- condition 1 failed: a UNIT-FATAL classification since the last cold restart or power-on; 1 bit; R722; reset 0 -/
  unitFatal : Bool
  /-- cycle of the last steward heartbeat; cycle count or none; R722; reset none -/
  heartbeat : Option Nat
  /-- STEWARD-HEARTBEAT has been raised for the present loss; 1 bit; R722; reset 0 -/
  heartbeatLost : Bool
  /-- ALIVE_IN state TOGGLING; 1 bit; R724; reset STOPPED -/
  inToggling : Bool
  /-- ALIVE_OUT read-back fault present; 1 bit; R725; reset 0 -/
  readbackBad : Bool
deriving DecidableEq, Repr

/-- The cairn log and its writer (R726–R734). -/
structure Cairn where
  /-- number the next record takes; 64 bits; R729; reset 1 -/
  next : Nat
  /-- ring of numbered records by slot; 1,048,576 records of 128 octets in the unit DRAM region; R728; reset empty -/
  ring : Tbl Rec
  /-- sequence numbers whose record's CHECK fails or whose line is poisoned; list; R733; reset empty -/
  corrupt : List Nat
  /-- held, not yet numbered records; 4,096 places, 256 kept; R730; reset empty -/
  held : List Rec
  /-- records discarded since room was last found; count; R730; reset 0 -/
  lost : Nat
  /-- lowest number still answered (OLDEST); 64 bits; R157, R733; reset 1 -/
  oldest : Nat
  /-- the two flash-tail areas; R731; reset never written -/
  tails : List TailArea
  /-- a tail save that runs or waits to be recorded; one or none; R731; reset none -/
  save : Option TailSave
  /-- numbering is stopped by a tail save; 1 bit; R731; reset 0 -/
  stopped : Bool
deriving DecidableEq, Repr

end Sys2Proof.Machine
end

