-- ==== Sys2Proof/Parts/Memory.lean ====
section
/-!
DEFINITION. The addressed memories of the unit: structure memory and the private region of DRAM (10_memory_and_bandwidth.md).
Structured stores that no octet address reaches from an instruction (the cairn ring, deep-store buckets, frames, cells) stand in their own parts.
-/
namespace Sys2Proof.Machine

/-- Owner of a structure-memory granule (R406). -/
inductive GranOwner | free | unit | fi (n : Nat)
deriving DecidableEq, Repr

/-- OWNER and OKIND of a private-region granule's lines (R416 Table 10-3). -/
inductive LineOwner | free | priv (fi : Nat)
deriving DecidableEq, Repr

/-- Structure memory and DRAM. -/
structure Mem where
  /-- structure memory data octets; 64 MiB at 0x0000_0000–0x03FF_FFFF; R403; reset zero (R773) -/
  sram : List Host.Cell
  /-- structure words whose presence bit is set, by word number, rising; 8 Mi words; R403; reset empty (R773) -/
  present : List Nat
  /-- poisoned structure words: word number and the fault source its POISON carries; R409; reset none -/
  spoison : Tbl Nat
  /-- owner record of each 4 KiB granule; 16,384 records; R406; reset FREE, UNIT for 0x03E0_0000–0x03FF_FFFF -/
  granules : Tbl GranOwner
  /-- DRAM data octets reached by DLD and DST; 32 GiB at 0x0_0000_0000–0x7_FFFF_FFFF; R410, R412; reset zero (R414) -/
  dram : List Host.Cell
  /-- DRAM lines with POISON set, by line number, with the fault source; R416, R421; reset none -/
  dpoison : Tbl Nat
  /-- halves A 0 and B 1 whose every word reads as poisoned since their domain was forced off; 2 bits; R409, R777; reset none -/
  sbad : List Nat
  /-- words of those halves written since, by word number, rising; R409, R777; reset none -/
  sclean : List Nat
  /-- pseudo-channel groups 0–63 whose every line is poisoned since their stack was forced off; R752, R777; reset none -/
  dbad : List Nat
  /-- lines of those groups written whole since, by line number, rising; R424, R777; reset none -/
  dclean : List Nat
  /-- owner of each 1 MiB granule of the private region, by granule number of the address space; R413, R416; reset FREE -/
  pgranules : Tbl LineOwner
deriving DecidableEq, Repr

/-- Guaranteed rate and credit of a copy at the governor (R436, R438, R439). -/
structure Gov where
  credit : Int              -- units of 1/1,024 line
  rate : Nat                -- guaranteed rate, in MB/s
deriving DecidableEq, Repr

/-- A page fetch or a page-wait firing is held with its tile; here stands what the memory controllers keep. -/
structure MemCtl where
  /-- granule map of each FI's structure area: structure granules in EA order; R404; reset none -/
  smap : Tbl (List Nat)
  /-- granule map of each FI's private area: 1 MiB granules of the DRAM space in EA order; R413; reset none -/
  pmap : Tbl (List Nat)
  /-- corrected-error counts of the structure-memory halves A, B; 32 bits each; R409; reset 0 -/
  halfCorr : Tbl Nat
  /-- corrected-error counts of the DRAM groups; 64 × 32 bits; R419; reset 0 -/
  groupCorr : Tbl Nat
  /-- FIs whose poisoned lines CLEAR FI POISON marked, with the marked lines; R427; reset none -/
  marked : Tbl (List Nat)
  /-- cycle of the last completed SRAM scrub pass; cycle count; R425; reset 0 -/
  scrubAt : Nat
  /-- cycle of the last completed DRAM patrol pass; cycle count; R426; reset 0 -/
  patrolAt : Nat
  /-- governor state of each copy, keyed 2 × FI + copy; R436–R439; reset credit 0, rate 0 -/
  gov : Tbl Gov
  /-- cycle of the last credit refill; cycle count; R436; reset 0 -/
  refillAt : Nat
  /-- Cap last recorded by event 0x0B0; MB/s; R434, R441; reset 1,024,000 -/
  cap : Nat
  /-- shedding state last recorded by event 0x0B1: P3 zeroed, f2 and f1 as fractions; R439, R441; reset full -/
  p3Zero : Bool
  /-- f2 of the last recomputation, numerator over denominator; R439; reset 1/1 -/
  f2 : Nat × Nat
  /-- f1 of the last recomputation; R439; reset 1/1 -/
  f1 : Nat × Nat
  /-- P0 FIs the last recomputation stopped; list; R439, R441; reset none -/
  p0Stop : List Nat
deriving DecidableEq, Repr

end Sys2Proof.Machine
end

