-- ==== Sys2Proof/Parts/Supply.lean ====
section
/-!
DEFINITION. The state of the supply input, the power domains and the temperature sensors (20_supply_and_power_domains.md).
-/
namespace Sys2Proof.Machine

/-- States of a power domain (R773). -/
inductive DomSt | off | rising | on | falling
deriving DecidableEq, Repr

/-- One switched domain D0–D23 (R769, R773, R775, R777). -/
structure Dom where
  st : DomSt
  since : Nat               -- cycle of the last change of state
  latched : Option Bool     -- latched request: some true ON, some false OFF
  forced : Bool             -- forced OFF until a cold restart or power-on, or until the retry
  retryAt : Option Nat      -- 1 s after a domain fault the steward tries RISING once
  retried : Bool            -- that attempt has been made
  cause : String            -- CAUSE of the transition in progress
  power : Nat               -- POWER in mW, mean over 10 ms, as measured
deriving DecidableEq, Repr

/-- States of a temperature sensor (R778). -/
inductive TempSt | normal | warm | overTemp | limit
deriving DecidableEq, Repr

/-- One temperature sensor (R778, R781). -/
structure Sensor where
  st : TempSt
  temp : Int                -- last reading in whole degrees C
  bad : Bool                -- reads outside -55 to 150, or does not answer
  readAt : Nat              -- cycle of the last reading
  since : List (Option Nat) -- cycles since which readings have stayed 5 degrees below WARM, OVER and LIMIT
deriving DecidableEq, Repr

/-- The supply, the domains and the throttle. -/
structure Supply where
  /-- the supply is in range and the unit powered; 1 bit; R761; reset 0 (before the power-on) -/
  powered : Bool
  /-- supply-failing warning present; 1 bit; R763, R765; reset 0 -/
  warning : Bool
  /-- cycle at which the warning began; cycle count; R763, R765; reset 0 -/
  warnAt : Nat
  /-- shutdown has begun; 1 bit; R764, R768; reset 0 -/
  shutdown : Bool
  /-- input power of the POWER block; mW; R782; reset 0 -/
  inputPower : Nat
  /-- power of the always-on domain of the POWER block; mW; R782; reset 0 -/
  aoPower : Nat
  /-- switched domains 0–23; state, latch, power; R769, R773; reset OFF (rails off before step 2 of Table 4-4) -/
  doms : Tbl Dom
  /-- sensors: 0–15 die, 16–19 stack, 20 supply module, 21 board; R778; reset NORMAL -/
  sensors : Tbl Sensor
  /-- throttle step; 2 bits; R779; reset 0 -/
  step : Nat
  /-- throttle step 3 has been reached and holds; 1 bit; R780; reset 0 -/
  limitHeld : Bool
deriving DecidableEq, Repr

end Sys2Proof.Machine
end

