-- ==== Sys2Proof/Machine/Reset.lean ====
section
/-!
DEFINITION. The reset content of each part of the state: what a start leaves where Table 4-7 keeps nothing, and a unit's first state. Values the spec
does not give are named in the assumption log.
-/
namespace Sys2Proof.Machine

def Anchor.reset : Anchor := { sec := 0, ns := 0, sub := 0, rate := 0 }

/-- Time at a power-on: undisciplined, warming up for 300 s (R177, R596). -/
def Clk.reset : Clk :=
  { cycle := 0, anchor := Anchor.reset, anchor1 := Anchor.reset, anchor2 := Anchor.reset, disc := .undisciplined, lastAdjCycle := none, lastAdj := none,
    refHold := false, dueNext := [], pendingAdj := none, lastStep := none, refIn := .int25, extValid := false, unsettled := true,
    unsettledEnd := 300000000000, captures := [], irig := .unknown, irigLast := 0, irigSeq := 0, irigBad := 0, pps := .unknown, ppsLast := 0,
    ppsSeen := false, ppsSeq := 0, ppsGlitch := 0 }

def Supply.reset : Supply :=
  { powered := false, warning := false, warnAt := 0, shutdown := false, inputPower := 0, aoPower := 0, doms := [], sensors := [], step := 0,
    limitHeld := false }

/-- Memories at reset: zero, empty, every granule free (R406, R414, R773). -/
def Mem.reset : Mem :=
  { sram := [], present := [], spoison := [], granules := [], dram := [], dpoison := [], sbad := [], sclean := [], dbad := [], dclean := [],
    pgranules := [] }

def MemCtl.reset : MemCtl :=
  { smap := [], pmap := [], halfCorr := [], groupCorr := [], marked := [], scrubAt := 0, patrolAt := 0, gov := [], refillAt := 0, cap := 1024000,
    p3Zero := false, f2 := (1, 1), f1 := (1, 1), p0Stop := [] }

def Collector.reset : Collector := { inbound := [], srcs := [], queue := [], unrecorded := 0, wardenDown := none }
def Belay.reset : Belay := { start := true, basecamp := false, unit := false, fault := [] }
def Alive.reset : Alive :=
  { toggling := false, since := 0, unitFatal := false, heartbeat := none, heartbeatLost := false, inToggling := false, readbackBad := false }
def Cairn.reset : Cairn :=
  { next := 1, ring := [], corrupt := [], held := [], lost := 0, oldest := 1, tails := [], save := none, stopped := false }

def TimeCfg.reset : TimeCfg :=
  { ref := .int25, ptp := [], irig := false, pps := false, utcOffset := 37, leap := .none, leapAt := none, holdover := 60000000000 }

/-- No committed configuration: the defaults of Tables 3-3 to 3-8 and 1-2. -/
def Cfg.reset : Cfg :=
  { fis := [], chans := [], time := TimeCfg.reset, groups := [], regions := [], faultMap := [], bookHot := true, bookReserve := 2, baud := 115200,
    parity := .none, idle := (900000000000, 900000000000, 900000000000), name := [], graphKey := none, users := [], traverse := true,
    interval := 900000000000, doms := [], lanes := [], ports := [], macs := [], lpm4 := [], lpm6 := [], age := 300, subs := [], pubs := [],
    dtempl := [], etempl := [], debounce := 20000000, touch := [], ledFault := [], trips := [], inputs := [] }

def Fabric.reset : Fabric :=
  { tiles := [], ctxs := [], frames := [], net := [], replies := [], defers := [], creditQ := [], deeps := [], deepLost := 0, deepPtr := 0, twins := [],
    cells := [], cellLost := 0, cellPtr := 0, pageLost := 0, hitches := [], brokenRegions := [], merges := [], hwaits := [], nextId := 0, dones := [],
    fwd := [], binds := [], marks := [], chans := [] }

def RopeCnt.reset : RopeCnt :=
  { txtok := 0, rxtok := 0, txdisc := 0, disc := 0, mirtx := 0, mirrx := 0, mirdrop := 0, lost := 0, stale := 0, badver := 0, badtype := 0, switch := 0 }
def Links.reset : Links :=
  { lanes := [], mgmt := [], cages := [], ports := [], linkDly := [], ropeUp := false, txLane := 14, txQueue := [], txFirst := 0, mirrors := [],
    lastSent := none, lastBeacon := [], txSeq := [], rxSeq := [], beaconAt := none, rlanes := [], peer := none, peerSerial := none, offset := none,
    cnt := RopeCnt.reset }

def Switch.reset : Switch :=
  { half0 := [], half1 := [], stash := [], learnQ := [], tick := 0, tickAt := 0, atLimit := [], failAt := none, buckets := [], overflow := [],
    pairSeq := [], lpm4 := [], lpm6 := [], roots := [], gens := [], queues := [], txUntil := [], lastTx := [], toSteward := 0, syncs := [],
    cnt := { rsvdrop := 0, learnq := 0, learnfail := 0, staticsrc := 0, dupmiss := 0, wronglan := 0, noroute := 0, ptprsv := 0, ptpnomatch := 0 },
    lostMac := [], lostSub := [], lostPfx := [] }

def Codec.reset : Codec := { subs := [], pubs := [], bucket := 256000, bucketAt := 0, build := 64000, buildAt := 0, waiting := [], badTempl := [] }

def Panel.reset : Panel :=
  { keys := [], touch := [], pres := [], leds := [], ledOff := [], text := [], inputs := [], trips := [], presHeld := false, presence := none }

def Keys.reset : Keys :=
  { life := .factory, kdev := some Config.deviceKey, seals := [.blank, .blank, .blank, .blank], kek := none, kid := none, ktr := none, slots := [],
    toIssued := 0, owed := [], storeBad := false, work := none, workBad := false, cur := none, granted := 0, turnEnd := 0, waiters := [], tagQ := [],
    checked := [], idleSince := 0, resetEnd := 0 }

def Trev.reset : Trev :=
  { sess := [], commitNum := 0, commit := none, fails := [], locks := [], challenges := [], evCount := [] }

def Repair.reset : Repair :=
  { tiles := [], soft := [], fuses := [], steps := [], next := 0, from? := 0, sram := [], dram := [], unrecorded := 0, rowErr := [], rows := [],
    pprUsed := [], retired := [], retiring := [], groupErr := [], reloc := 0, privTaken := 0, links := [], wear := [], wearStep := [], margins := [] }

def Regs.reset : Regs :=
  { scratch := 0, irig := (0, 0), extLosses := 0, engSwitches := 0, engMaxWait := 0, lastStep := [], tileCorr := [], sramPasses := 0, holdDisc := 0 }

/-- The warden and steward images of Table 0-2 (R1, R3): warden 2.3 and steward 4.1, tested with each other and the steward with ISA 1.0 to 1.4 (R4).
The build numbers are those of the transcript of 00_scope.md. DESIGN CHOICE. -/
def factoryWarden : Compat :=
  { kind := 1, major := 2, minor := 3, build := 112, steppings := [['C', '1']], partners := [(2, 4, 1)], isa := (0, 0) }
def factorySteward : Compat :=
  { kind := 2, major := 4, minor := 1, build := 217, steppings := [['C', '1']],
    partners := [(1, 2, 3), (4, 1, 0), (4, 1, 1), (4, 1, 2), (4, 1, 3), (4, 1, 4)], isa := (0, 0) }

/-- A unit as it leaves manufacture, the images of Table 0-2 in banks A and B (R1, R159, R169). -/
def UnitSt.reset : UnitSt :=
  { serial := "HXN0000000".toList, mac := (0x020000000010, 0x020000000011),
    banks := [(0, ⟨true, true, factoryWarden⟩), (1, ⟨true, true, factoryWarden⟩), (2, ⟨true, true, factorySteward⟩), (3, ⟨true, true, factorySteward⟩)], runW := none, runS := none, nextW := false, nextS := false,
    accepted := [], camp := [], open0 := false, edgeDue := false, started := false, startKind := .powerOn, restart := none, steward := false,
    stewardStopped := false, watchdogs := [], cfgBad := false, latches := [], regs := Regs.reset }

end Sys2Proof.Machine
end

