-- ==== Sys2Proof/Machine/State.lean ====
section
/-!
DEFINITION. The state of the unit: its registers, tables and queues (Chip), its addressed memories (Mem) and the commands that wait.
-/
namespace Sys2Proof.Machine

/-- Every register, table, queue and mode of the unit but the addressed memories. -/
structure Chip where
  clk : Clk
  sup : Supply
  mctl : MemCtl
  coll : Collector
  belay : Belay
  alive : Alive
  cairn : Cairn
  cfg : Cfg
  /-- running state of FIs 0–1023; R224; reset EMPTY -/
  fis : Tbl Fi
  fab : Fabric
  links : Links
  sw : Switch
  codec : Codec
  panel : Panel
  keys : Keys
  trev : Trev
  rep : Repair
  unit : UnitSt
  /-- uses made of the free values; the model's own counter; DESIGN CHOICE; reset 0 -/
  free : Nat
deriving DecidableEq, Repr

/-- A unit that has never been powered (R169: the power-on is a command). -/
def Chip.reset : Chip :=
  { clk := Clk.reset, sup := Supply.reset, mctl := MemCtl.reset, coll := Collector.reset, belay := Belay.reset, alive := Alive.reset,
    cairn := Cairn.reset, cfg := Cfg.reset, fis := [], fab := Fabric.reset, links := Links.reset, sw := Switch.reset, codec := Codec.reset,
    panel := Panel.reset, keys := Keys.reset, trev := Trev.reset, rep := Repair.reset, unit := UnitSt.reset, free := 0 }

/-- The machine: the unit, its addressed memories, and the commands that wait, oldest first. -/
structure State where
  u : Chip
  mem : Mem
  /-- commands that wait, first in, first out; the model's own queue; reset empty -/
  pending : List Instr
deriving DecidableEq, Repr

/-- Reasons for which a step ends in a fault. There is none: the spec gives every command an effect, and a fault of the unit is a state that it goes
on from. -/
inductive Fault
deriving DecidableEq, Repr

/-- Reasons for which a step is refused. -/
inductive Refusal
  /-- raised by exec for a command whose meaning is not written; safe -/
  | notModelled (mnemonic : String)
deriving DecidableEq, Repr

/-- The machine right after its manufacture, before its first power-on (R169); no command waits. -/
def State.reset : State := { u := Chip.reset, mem := Mem.reset, pending := [] }

end Sys2Proof.Machine
end

