-- ==== Sys2Proof/Machine/Ops.lean ====
section
/-!
DEFINITION. The operations every meaning shares: the clock and the anchor (R600, R604), stamps (R601), cairn records (R726, R730), raises (R703), and the
lifting of an operation on the chip to the state.
-/
namespace Sys2Proof.Machine

def Chip.unit' (c : Chip) (g : UnitSt → UnitSt) : Chip := { c with unit := g c.unit }

/-! ### The anchor and the clock -/

/-- D of R600: the rate word's addition per cycle in units of 2^-48 ns, rounded to nearest. -/
def Anchor.perCycle (rate : Int) : Int := (2 * rate * 281474976710656 + 1000000000000) / 2000000000000

/-- The anchor's value in units of 2^-48 ns. -/
def Anchor.units (a : Anchor) : Nat := 281474976710656 * (1000000000 * a.sec + a.ns) + a.sub

/-- The anchor that holds a value in units of 2^-48 ns; the seconds keep 48 bits (R599). -/
def Anchor.ofUnits (u : Nat) (rate : Int) : Anchor :=
  { sec := u / 281474976710656 / 1000000000 % 281474976710656, ns := u / 281474976710656 % 1000000000,
    sub := u % 281474976710656, rate := rate }

/-- The anchor after n cycles at its rate word (R600). -/
def Anchor.after (a : Anchor) (n : Nat) : Anchor :=
  Anchor.ofUnits ((a.units : Int) + (n : Int) * (281474976710656 + Anchor.perCycle a.rate)).toNat a.rate

/-- Writes the voted anchor into the three copies (R602). -/
def Clk.setAnchor (k : Clk) (a : Anchor) : Clk := { k with anchor := a, anchor1 := a, anchor2 := a }

/-- STEPPED of Table 15-4. -/
def Clk.stepped (k : Clk) : Bool :=
  match k.lastStep with
  | some s => k.cycle - s ≤ 1000000000
  | none => false

/-- STATE of Table 15-4 as its two bits. -/
def Disc.code : Disc → Nat
  | .disciplined => 0
  | .holdover => 1
  | .undisciplined => 2

/-- The name of a discipline state in event 0x08B. -/
def Disc.name : Disc → String
  | .disciplined => "DISCIPLINED"
  | .holdover => "HOLDOVER"
  | .undisciplined => "UNDISCIPLINED"

/-- The quality bits of the present cycle (R609, Table 15-4). -/
def Chip.quality (c : Chip) : BitVec 16 :=
  BitVec.ofNat 16 (c.clk.disc.code + (if c.cfg.time.leap = .none then 0 else 4) + (if c.clk.stepped then 8 else 0)
    + (if c.clk.refIn = .ext10 then 16 else 0) + (if c.clk.unsettled then 32 else 0))

/-- The stamp of the present cycle (R601). -/
def Chip.stamp (c : Chip) : Stamp := { sec := c.clk.anchor.sec, ns := c.clk.anchor.ns, q := c.quality }

/-- The stamp of n cycles ago, for sources with a fixed capture delay (R616); it carries the quality bits of the present cycle. -/
def Chip.stampBefore (c : Chip) (n : Nat) : Stamp :=
  let t := 1000000000 * c.clk.anchor.sec + c.clk.anchor.ns - n
  { sec := t / 1000000000, ns := t % 1000000000, q := c.quality }

/-- Comparison of two times in seconds and nanoseconds. -/
def timeLe (a b : Nat × Nat) : Bool := a.1 < b.1 || (a.1 == b.1 && a.2 ≤ b.2)

/-- The anchor's time. -/
def Chip.now (c : Chip) : Nat × Nat := (c.clk.anchor.sec, c.clk.anchor.ns)

/-- The fewest cycles after which the anchor is at or past a time (R604). -/
def Chip.cyclesUntil (c : Chip) (t : Nat × Nat) : Nat :=
  let target := 281474976710656 * (1000000000 * t.1 + t.2)
  let step := (281474976710656 + Anchor.perCycle c.clk.anchor.rate).toNat
  (target - c.clk.anchor.units + step - 1) / step

/-! ### Cairn records (R726, R730) -/

/-- A record of a held kind: fault records of FI-FATAL and UNIT-FATAL and events 0x110–0x113 may take the 256 kept places (R730). -/
def Cairn.keptId (id : Nat) (cls : Option Cls) : Bool :=
  (272 ≤ id && id ≤ 275) || cls == some .fiFatal || cls == some .unitFatal

/-- Places a record with the writer, or counts it as discarded when it finds its places full (R730). -/
def Cairn.hold (k : Cairn) (r : Rec) : Cairn :=
  if r.kept then
    if k.held.length < 4096 then { k with held := k.held ++ [r] } else { k with lost := k.lost + 1 }
  else if (k.held.filter (fun x => !x.kept)).length < 3840 && k.held.length < 4096 then { k with held := k.held ++ [r] }
  else { k with lost := k.lost + 1 }

/-- Records an event of the present cycle (R726). -/
def Chip.record (c : Chip) (id inst : Nat) (detail : Fields) : Chip :=
  { c with cairn := c.cairn.hold { seq := 0, id := id, inst := inst, stamp := c.stamp, cycle := c.clk.cycle, arrival := c.clk.cycle,
                                    detail := detail, tail := false, kept := Cairn.keptId id none, cls := none, fi := none } }

/-- Records an event whose stamp lies n cycles back (R616). -/
def Chip.recordBefore (c : Chip) (n id inst : Nat) (detail : Fields) : Chip :=
  { c with cairn := c.cairn.hold { seq := 0, id := id, inst := inst, stamp := c.stampBefore n, cycle := c.clk.cycle - n,
                                    arrival := c.clk.cycle, detail := detail, tail := false, kept := Cairn.keptId id none,
                                    cls := none, fi := none } }

/-! ### Raises (R703) -/

/-- Sends a raise of the present cycle to the fault collector (R703, R704). -/
def Chip.raise (c : Chip) (src inst : Nat) (fi : Option Nat) (detail : Fields) : Chip :=
  { c with coll := { c.coll with inbound := c.coll.inbound ++
      [{ src := src, inst := inst, fi := fi, stamp := c.stamp, cycle := c.clk.cycle, arrival := c.clk.cycle, detail := detail }] } }

/-- Field builders. -/
def fNat (n : String) (v : Nat) : Fld := ⟨n, .nat v⟩
def fSym (n v : String) : Fld := ⟨n, .sym v⟩
def fYes (n : String) (b : Bool) : Fld := ⟨n, .sym (if b then "YES" else "NO")⟩
def fOn (n : String) (b : Bool) : Fld := ⟨n, .sym (if b then "ON" else "OFF")⟩
def fTime (n : String) (t : Nat × Nat) : Fld := ⟨n, .time t.1 t.2⟩
def fStamp (s : Stamp) : Fields := [⟨"T", .time s.sec s.ns⟩, ⟨"Q", .raw 4 s.q.toNat⟩]
def fOpt (n : String) (v : Option Nat) : Fld := ⟨n, match v with | some k => .nat k | none => .none⟩

/-- A counter that stops at 2^32 - 1. -/
def sat32 (n : Nat) : Nat := if n < 4294967295 then n + 1 else 4294967295

/-! ### ADJUST (R603, R606, R607) -/

/-- Seconds and nanoseconds moved by a signed duration, none when the seconds leave 0 to 2^48 - 1 (R606). -/
def stepTime (sec ns : Nat) (neg : Bool) (dsec dns : Nat) : Option (Nat × Nat) :=
  let t : Int := (sec : Int) * 1000000000 + ns
  let d : Int := (dsec : Int) * 1000000000 + dns
  let r := if neg then t - d else t + d
  if r < 0 then none
  else if r.toNat / 1000000000 < 281474976710656 then some (r.toNat / 1000000000, r.toNat % 1000000000) else none

/-- The rate word limited to its range (R600, R606). -/
def clampRate (r : Int) : Int := if r > 200000000 then 200000000 else if r < -200000000 then -200000000 else r

/-- Applies one ADJUST that is due: RATE, then STEP or SET, with the records of R606 and R607. -/
def Chip.applyAdjust (c : Chip) (a : Adjust) : Chip :=
  let a0 := c.clk.anchor
  let total := match a.rate with | some r => a0.rate + r | none => a0.rate
  let c1 := { c with clk := c.clk.setAnchor { a0 with rate := clampRate total } }
  let c1 := if clampRate total = total then c1 else c1.record 140 0 [fSym "CAUSE" "RANGE"]
  let a1 := c1.clk.anchor
  let done (c : Chip) (b : Anchor) : Chip :=
    let c := { c with clk := { c.clk.setAnchor b with lastStep := some c.clk.cycle } }
    c.record 140 1 [fSym "CAUSE" "STEP", fTime "FROM" (a1.sec, a1.ns), fTime "TO" (b.sec, b.ns)]
  match a.jump with
  | none => c1
  | some (.set s n) => if s < 281474976710656 then done c1 { a1 with sec := s, ns := n, sub := 0 }
                        else c1.record 140 0 [fSym "CAUSE" "RANGE"]
  | some (.step neg ds dn) =>
    match stepTime a1.sec a1.ns neg ds dn with
    | some (s, n) => done c1 { a1 with sec := s, ns := n }
    | none => c1.record 140 0 [fSym "CAUSE" "RANGE"]

/-! ### Time passing -/

/-- n cycles in which nothing is due: the cycle count and the anchor move (R600). -/
def Chip.passCycles (c : Chip) (n : Nat) : Chip :=
  { c with clk := { c.clk.setAnchor (c.clk.anchor.after n) with cycle := c.clk.cycle + n } }

/-- n cycles, an ADJUST without AT taking effect in the first of them (R604). -/
def Chip.advance (c : Chip) (n : Nat) : Chip :=
  match n with
  | 0 => c
  | n + 1 =>
    let c1 := c.passCycles 1
    let due := c1.clk.dueNext
    let c2 := due.foldl Chip.applyAdjust { c1 with clk := { c1.clk with dueNext := [] } }
    c2.passCycles n

/-- Brings the clock forward to a cycle that has not passed. -/
def Chip.advanceTo (c : Chip) (cyc : Nat) : Chip := c.advance (cyc - c.clk.cycle)

/-- Brings the clock forward until the anchor is at or past a time. -/
def Chip.advanceToTime (c : Chip) (t : Nat × Nat) : Chip :=
  let c1 := if c.clk.dueNext.isEmpty || timeLe t c.now then c else c.advance 1
  c1.advance (c1.cyclesUntil t)

/-- The next millisecond boundary of the anchor, strictly after the present time (R78). -/
def Chip.nextMs (c : Chip) : Nat × Nat :=
  let n := 1000000 * (c.clk.anchor.ns / 1000000 + 1)
  if n < 1000000000 then (c.clk.anchor.sec, n) else (c.clk.anchor.sec + 1, 0)

/-- A free value, and the counter moved past it. -/
def Chip.takeFree (c : Chip) : Word × Chip := (Config.freeValue c.free, { c with free := c.free + 1 })

end Sys2Proof.Machine
end

