-- ==== Sys2Proof/Machine/Fabric.lean ====
section
/-!
DEFINITION. The operations of the dataflow fabric on tokens, contexts, frames and credit (06, 07, 11 of spec/): creation and end of tokens,
emission, allocation and release of contexts, hitches.
-/
namespace Sys2Proof.Machine

/-! ### Entries of the tables and their reset values -/

def Cnt.init : Cnt := ⟨0,0,0,0,0,0,0,0,0,0,0,0,0,0,0,0,0,0,0,0,0,0⟩
def Copy.init : Copy := { cluster := 0, map := [], mapBad := [], credit := 0, standing := none, prealloc := none, lastFire := 0, cnt := Cnt.init }
def EvtPort.init : EvtPort := { credit := 64000000, at? := 0, dropped := 0 }
def Fi.init : Fi :=
  { st := .empty, gen := 0, live := [], rearm := false, intent := false, ropeStopped := false, copies := [], armedAt := 0, periods := 0,
    overruns := 0, misbehave := 0, aliveFail := false, opens := [], pdones := 0, lastStart := 0, sourceLost := false, pendGoose := none, lastId := 0, coalesced := 0,
    ticks := 0, noctx := 0, unstarted := 0, unbound := 0, belayed := 0, ropeDisc := 0, evts := [], evtDropped := 0, dispRepl := 0,
    cellExh := 0, hitchFull := 0, deepHold := false, drainAt := 0, fallenBack := false, fallbackVal := 0, suppressed := 0 }
/-- The settings of an FI before any SET FI: the defaults of Table 3-4; 4 and 0 stand for a class and a budget not given. -/
def FiCfg.init : FiCfg :=
  { image := none, cls := 4, rank := none, twin := false, rope := false, fallback := .stop, period := .timer, periodSet := false, psrc := none,
    tick := none, deadline := none, tiles := 0, pages := 0, pinned := 0, hashed := 0, frames := 0, credit := 0, deep := 16, bw := 0, stall := 1000000,
    misbehave := 16, ins := [], outs := [], points := [] }
def Tile.init : Tile :=
  { q := [], slot := 0, store := [], fill := [], filter := [], inDeep := 0, pageWait := [], fetches := [], pages := [], reqs := 0, pipe := [] }
def Ctx.init : Ctx :=
  { st := .free, kind := .standing, fi := 0, copy := 0, gen := 0, epoch := false, period := none, deadline := none, preds := [], mirror := [],
    updates := [], live := 0, loops := [], words := [], wpoison := [], inDeep := 0, sweeps := [], scan := false, releasedAt := 0 }
def FramePool.init : FramePool := { lost := 0, ptr := 0, waiting := [] }
def DeepLine.init : DeepLine := { ents := [none, none, none], link := none, pos := 0, bad := false }
def Deep.init : Deep := { home := [], overflow := [], pages := [], reqs := [] }
def BindCnt.init : BindCnt := ⟨0, 0, 0⟩
def Hitch.init : Hitch := { holder := 0, queue := [], broken := false }
def Gov.init : Gov := { credit := 0, rate := 0 }
def Image.empty : Image :=
  { compat := [], digest := 0, v := 0, hwait := false, c := 0, k := 0, l := 0, kloop := [], pg := [], w := [], f := [], inputs := [], outputs := [], consts := [],
    desc := { smem := 0, priv := 0, cells := 0, banks := [], hwt := 0, rings := [], crcs := [] }, code := [], sigAlg := 0 }

def Chip.fi (c : Chip) (n : Nat) : Fi := c.fis.get Fi.init n
def Chip.setFi (c : Chip) (n : Nat) (x : Fi) : Chip := { c with fis := c.fis.put Fi.init n x }
def Chip.modFi (c : Chip) (n : Nat) (g : Fi → Fi) : Chip := c.setFi n (g (c.fi n))
def Chip.fiCfg (c : Chip) (n : Nat) : FiCfg := c.cfg.fis.get FiCfg.init n
def Chip.image (c : Chip) (n : Nat) : Image := (c.fiCfg n).image.getD Image.empty
def Chip.fab' (c : Chip) (g : Fabric → Fabric) : Chip := { c with fab := g c.fab }
def Chip.tile (c : Chip) (t : Nat) : Tile := c.fab.tiles.get Tile.init t
def Chip.modTile (c : Chip) (t : Nat) (g : Tile → Tile) : Chip :=
  { c with fab := { c.fab with tiles := c.fab.tiles.put Tile.init t (g (c.tile t)) } }
/-- The key of a context: 32,768 frames per cluster (R253). -/
def ctxKey (cluster frame : Nat) : Nat := 32768 * cluster + frame
def Chip.ctx (c : Chip) (k : Nat) : Ctx := c.fab.ctxs.get Ctx.init k
def Chip.modCtx (c : Chip) (k : Nat) (g : Ctx → Ctx) : Chip :=
  { c with fab := { c.fab with ctxs := c.fab.ctxs.put Ctx.init k (g (c.ctx k)) } }
def Chip.copy (c : Chip) (fi k : Nat) : Copy := ((c.fi fi).copies[k]?).getD Copy.init
def Chip.modCopy (c : Chip) (fi k : Nat) (g : Copy → Copy) : Chip := c.modFi fi (fun x => { x with copies := x.copies.modify k g })
def Chip.count (c : Chip) (fi k : Nat) (g : Cnt → Cnt) : Chip := c.modCopy fi k (fun x => { x with cnt := g x.cnt })
def Chip.framePool (c : Chip) (k : Nat) : FramePool := c.fab.frames.get FramePool.init k
def Chip.modPool (c : Chip) (k : Nat) (g : FramePool → FramePool) : Chip :=
  { c with fab := { c.fab with frames := c.fab.frames.put FramePool.init k (g (c.framePool k)) } }
def Chip.deep (c : Chip) (fi : Nat) : Deep := c.fab.deeps.get Deep.init fi
def Chip.modDeep (c : Chip) (fi : Nat) (g : Deep → Deep) : Chip :=
  { c with fab := { c.fab with deeps := c.fab.deeps.put Deep.init fi (g (c.deep fi)) } }
def Chip.hitch (c : Chip) (h : Nat) : Hitch :=
  let x := c.fab.hitches.get Hitch.init h
  if h ≥ 256 && c.fab.brokenRegions.contains ((h - 256) / 2097152) then { x with broken := true } else x
def Chip.modHitch (c : Chip) (h : Nat) (g : Hitch → Hitch) : Chip :=
  { c with fab := { c.fab with hitches := c.fab.hitches.put Hitch.init h (g (c.hitch h)) } }

/-- The word an unused place of an instruction page holds (R345). -/
def unusedWord : Word := 0xF000000000000000#64

/-- The instruction word of a virtual tile and address. -/
def Image.word (i : Image) (vt page off : Nat) : Word :=
  (((i.code[vt]?).bind (fun p => p[page]?)).bind (fun w => w[off]?)).getD unusedWord

/-- The instruction word a token names. -/
def Chip.wordOf (c : Chip) (t : Token) : Word := (c.image t.fi).word t.vt t.page t.off

/-- A fresh insertion or arrival number. -/
def Chip.freshId (c : Chip) : Nat × Chip := (c.fab.nextId, c.fab' (fun f => { f with nextId := f.nextId + 1 }))

/-- Marks a tile for test (R251, R252, R342). -/
def Chip.markTile (c : Chip) (t : Nat) : Chip := c.fab' (fun f => { f with marks := if f.marks.contains t then f.marks else f.marks ++ [t] })

/-- The FI's name field. -/
def fFi (n : Nat) : Fld := fNat "FI" n
def copyName (k : Nat) : String := if k = 0 then "A" else "B"

/-! ### Misbehaviour (R241, R242) -/

/-- Counts one toward the misbehaviour limit, and raises the limit fault when it is reached. -/
def Chip.misbehaves (c : Chip) (fi : Nat) : Chip :=
  let n := (c.fi fi).misbehave + 1
  let c1 := c.modFi fi (fun x => { x with misbehave := min n 65535 })
  if n = (c.fiCfg fi).misbehave then c1.raise 16 fi (some fi) [] else c1

/-- The instruction-integrity fault of a tile, which is marked for test (R251, R267, R342). -/
def Chip.instrIntegrity (c : Chip) (fi tile : Nat) (d : Fields) : Chip :=
  (c.raise 0 fi (some fi) (fNat "TILE" tile :: d)).markTile tile

/-! ### Live tokens (R226, R253) -/

/-- Changes the live-token counts of a token's generation and of its context. -/
def Chip.liveCount (c : Chip) (t : Token) (k : Nat) (g : Nat → Nat) : Chip :=
  let c1 := c.modFi t.fi (fun x => { x with live := x.live.put 0 t.gen (g (x.live.get 0 t.gen)) })
  let key := ctxKey (c.copy t.fi k).cluster t.frame
  let x := c1.ctx key
  if x.st ≠ .free ∧ x.fi = t.fi ∧ x.copy = k then c1.modCtx key (fun x => { x with live := g x.live }) else c1

/-- Tokens an item holds: one, or the two of a matched pair. -/
def Chip.itemTokens (c : Chip) (i : QItem) : Nat := if i.matched && Word.form (c.wordOf i.tok) == 0 then 2 else 1

/-- Live tokens of a copy's current generation other than the OPERAND, GUARD and FRAME entries of its standing context (R318). -/
def Chip.pendingTokens (c : Chip) (fi k : Nat) : Nat :=
  let all := c.fab.ctxs.foldl (fun n e =>
    if e.2.st ≠ .free ∧ e.2.fi = fi ∧ e.2.copy = k ∧ e.2.gen = (c.fi fi).gen then n + e.2.live else n) 0
  match (c.copy fi k).standing with
  | none => all
  | some f =>
    let still (e : Entry) : Bool := (e.typ == .operand || e.typ == .guard || e.typ == .frame) && e.item.tok.fi == fi && e.item.copy == k
      && e.item.tok.frame == f && e.item.tok.gen == (c.fi fi).gen
    all - c.fab.tiles.foldl (fun n t => n + (t.2.store.filter still).foldl (fun n e => n + c.itemTokens e.item) 0) 0

/-- A copy that was not pending becomes pending: the progress watch counts from now (R318, R319). -/
def Chip.watchFrom (c : Chip) (fi k : Nat) : Chip :=
  if c.pendingTokens fi k = 0 then c.modCopy fi k (fun p => { p with lastFire := c.clk.cycle }) else c

/-- A token comes into being; a VOID token is counted (R272). -/
def Chip.born (c : Chip) (t : Token) (k : Nat) : Chip :=
  let c1 := (c.watchFrom t.fi k).liveCount t k (· + 1)
  if t.op.kind = .void then c1.count t.fi k (fun n => { n with voidmade := sat32 n.voidmade }) else c1

/-- A token is consumed or discarded. -/
def Chip.died (c : Chip) (t : Token) (k : Nat) : Chip := c.liveCount t k (· - 1)

/-- The context a token names in its copy's cluster. -/
def Chip.ctxOf (c : Chip) (t : Token) (k : Nat) : Nat := ctxKey (c.copy t.fi k).cluster t.frame

/-- The token's context is live, owned by its copy, in the token's epoch. -/
def Chip.ctxLive (c : Chip) (t : Token) (k : Nat) : Bool :=
  let x := c.ctx (c.ctxOf t k)
  x.st == .live && x.fi == t.fi && x.copy == k && x.epoch == t.epoch

/-! ### The network (R244, R249, R251, R277) -/

/-- Sends a token to its virtual tile through the copy's map, checking the destination (R249, R251, R248a). The token is already live. -/
def Chip.send (c : Chip) (src : Nat) (t : Token) (k : Nat) (start chan : Option Nat) : Chip :=
  let cp := c.copy t.fi k
  let slot := t.vt % (max cp.map.length 1)
  match cp.map[slot]? with
  | some dst =>
    if t.vt < (c.image t.fi).v ∧ ¬ cp.mapBad.contains slot then
      c.fab' (fun f => { f with net := f.net ++ [{ src := src, dst := dst, copy := k, tok := t, startsPeriod := start, chan := chan }] })
    else (c.died t k).instrIntegrity t.fi src [fNat "VT" t.vt]
  | none => (c.died t k).instrIntegrity t.fi src [fNat "VT" t.vt]

/-- Emits one result token of a firing to each of the given destinations, DEST0 first (R244, R265). -/
def Chip.emitTo (c : Chip) (f : Firing) (ds : List Dest) (o : Opnd) (colour : Nat) (epoch : Bool) (frame : Nat) : Chip :=
  ds.foldl (fun c d =>
    let t : Token := { fi := f.tok.fi, gen := f.tok.gen, epoch := epoch, frame := frame, vt := d.vt, page := d.page, off := d.off,
                       portR := d.portR, colour := colour, op := o }
    (c.born t f.copy).send f.tile t f.copy none none) c

/-- Emits a result to every destination of the word, in the firing's context and colour. -/
def Chip.emit (c : Chip) (f : Firing) (o : Opnd) : Chip :=
  c.emitTo f (Word.dests f.word) o f.tok.colour f.tok.epoch f.tok.frame

/-- Consumes the operand tokens of a firing: L, and R of FORM 00. -/
def Chip.consume (c : Chip) (f : Firing) : Chip :=
  let c1 := c.died f.tok f.copy
  if Word.form f.word = 0 then c1.died f.tok f.copy else c1

/-! ### Allocators (R442, R443, R448) -/

/-- The rule of R443: reserved minimum, elements held, and free elements beyond every owner's unused reserve. -/
def grantable (m h free rsvUnused : Nat) : Bool := h < m || free > rsvUnused

/-- The copies placed in a cluster: FI and copy. -/
def Chip.copiesIn (c : Chip) (cluster : Nat) : List (Nat × Nat) :=
  c.fis.flatMap (fun e => (List.range e.2.copies.length).filterMap (fun k =>
    if ((e.2.copies[k]?).getD Copy.init).cluster = cluster then some (e.1, k) else none))

/-- Frames a copy holds. -/
def Chip.framesHeld (c : Chip) (cluster fi k : Nat) : Nat :=
  (c.fab.ctxs.filter (fun e => e.1 / 32768 == cluster && e.2.st != .free && e.2.fi == fi && e.2.copy == k)).length

/-- Frames of a cluster that are free: neither held nor lost. -/
def Chip.framesFree (c : Chip) (cluster : Nat) : Nat :=
  32768 - (c.framePool cluster).lost - (c.fab.ctxs.filter (fun e => e.1 / 32768 == cluster && e.2.st != .free)).length

/-- The reserved and unused frames of a cluster, RSVUNUSED of Table 21-8. -/
def Chip.framesRsv (c : Chip) (cluster : Nat) : Nat :=
  (c.copiesIn cluster).foldl (fun n p => n + ((c.fiCfg p.1).frames - c.framesHeld cluster p.1 p.2)) 0

/-- The lowest number below n for which a test holds. -/
def firstBelow (n : Nat) (p : Nat → Bool) : Option Nat := (List.range n).find? p

/-- Grants a frame of the copy's cluster under R443; the lowest free frame is taken. -/
def Chip.allocFrame (c : Chip) (fi k : Nat) : Option Nat :=
  let cl := (c.copy fi k).cluster
  if grantable (c.fiCfg fi).frames (c.framesHeld cl fi k) (c.framesFree cl) (c.framesRsv cl) then
    firstBelow 32768 (fun f => (c.ctx (ctxKey cl f)).st == .free)
  else none

/-- Makes a frame a live context, with its words, predicates and loop counters empty (R253, R268, R311). -/
def Chip.openCtx (c : Chip) (fi k frame : Nat) (kind : CtxKind) (period deadline : Option Nat) : Chip :=
  c.modCtx (ctxKey (c.copy fi k).cluster frame) (fun x =>
    { Ctx.init with st := .live, kind := kind, fi := fi, copy := k, gen := (c.fi fi).gen, epoch := x.epoch, period := period, deadline := deadline })

/-- Releases a context: EPOCH inverts, the purge begins, its credit returns (R259, R310, R324, R386). -/
def Chip.releaseCtx (c : Chip) (key : Nat) : Chip :=
  let x := c.ctx key
  if x.st = .live then
    let cp := c.copy x.fi x.copy
    let back := if x.kind = .standing then 0 else 1 + x.loops.foldl (fun n e => n + e.2) 0
    let frame := key % 32768
    let c1 := c.modCtx key (fun x => { x with st := .purging, epoch := !x.epoch, sweeps := cp.map.eraseDups, scan := x.inDeep > 0,
                                              releasedAt := c.clk.cycle, updates := [] })
    let c2 := c1.modCopy x.fi x.copy (fun p => { p with
        credit := p.credit + back,
        standing := if p.standing = some frame then none else p.standing,
        prealloc := if p.prealloc = some frame then none else p.prealloc })
    let c3 := c2.modFi x.fi (fun i => { i with opens := i.opens.map (fun p =>
        { p with frames := p.frames.mapIdx (fun j fr => if j = x.copy ∧ fr = some frame then none else fr) }) })
    c3.fab' (fun f => { f with
      defers := f.defers.filter (fun d => !d.fs.any (fun y => y.1.tok.fi == x.fi && y.1.copy == x.copy && y.1.tok.frame == frame)) })
  else c

/-- Closes open counts whose contexts every copy has released. A watched period stays until its deadline has passed or PERIOD_DONE has arrived. -/
def Chip.closePeriods (c : Chip) (fi : Nat) : Chip :=
  c.modFi fi (fun x => { x with opens := x.opens.filter (fun p => p.frames.any Option.isSome || (p.watched && !p.overrun && !p.done.all (fun b => b))) })

/-- Returns what a held source firing had been granted. -/
def Chip.ungrant (c : Chip) (fi k : Nat) (g : Grant) : Chip :=
  let c1 := if g.credit then c.modCopy fi k (fun p => { p with credit := p.credit + 1 }) else c
  match g.frame with
  | some fr => c1.modCtx (ctxKey (c.copy fi k).cluster fr) (fun x => { x with st := .free })
  | none => c1

/-- Discards a queued or held item with its operands, and what it had been granted. -/
def Chip.dropItem (c : Chip) (i : QItem) : Chip :=
  let c1 := c.died i.tok i.copy
  let c2 := if i.matched && Word.form (c.wordOf i.tok) == 0 then c1.died i.tok i.copy else c1
  c2.ungrant i.tok.fi i.copy i.grant

/-! ### Hitches (R454–R470) -/

/-- Master ID of an FI and of a session (Table 11-5). -/
def masterFi (n : Nat) : Nat := n + 1
def masterSess (n : Nat) : Nat := 2048 + n

/-- The field HOLDER= or MASTER=: three hexadecimal digits. -/
def fMaster (n : String) (m : Nat) : Fld := ⟨n, .hex 3 m⟩

/-- Waiters of region hitches, who share 4,096 places (R455). -/
def Chip.regionWaiters (c : Chip) : Nat := c.fab.hitches.foldl (fun n e => if e.1 ≥ 256 then n + e.2.queue.length else n) 0

/-- What a write of a master ID to a hitch comes to (R457, R465). -/
inductive HitchWrite | already | full | done
deriving DecidableEq, Repr

/-- A write of a master ID to a hitch that is not broken. -/
def Chip.hitchWrite (c : Chip) (h m : Nat) : HitchWrite × Chip :=
  let x := c.hitch h
  if x.holder = m ∨ x.queue.contains m then (.already, c)
  else if x.holder = 0 then (.done, c.modHitch h (fun x => { x with holder := m }))
  else if x.queue.length ≥ 32 ∨ (h ≥ 256 ∧ c.regionWaiters ≥ 4096) then (.full, c)
  else (.done, c.modHitch h (fun x => { x with queue := x.queue ++ [m] }))

/-- The data of HRD for an FI's master ID (Table 9-11): holder, queued, places ahead. -/
def Hitch.read (x : Hitch) (m : Nat) : Word :=
  BitVec.ofNat 64 (x.holder + (if x.queue.contains m then 4096 + 8192 * x.queue.idxOf m else 0))

end Sys2Proof.Machine
end

