-- ==== Sys2Proof/Machine/Match.lean ====
section
/-!
DEFINITION. Class queues, the matching store, spill order and the deep store (R274, R280–R306, R313, R320; Tables 7-1 to 7-4).
-/
namespace Sys2Proof.Machine

/-- Class of an FI. -/
def Chip.cls (c : Chip) (fi : Nat) : Nat := (c.fiCfg fi).cls

/-- KEY of Table 7-2: tag bits [63:12] followed by tag bits [7:0]. -/
def Token.key (t : Token) : Nat :=
  256 * (1024 * (16 * (512 * (32768 * ((t.fi * 8 + t.gen) * 2 + (if t.epoch then 1 else 0)) + t.frame) + t.vt) + t.page) + t.off) + t.colour

/-- h of R282. -/
def Token.hash (t : Token) : Nat := t.key * 0x9E3779B97F4A7C15 % 18446744073709551616 / 4294967296

/-- The set index of R282. -/
def Token.set (t : Token) : Nat := 1792 * t.hash / 4294967296

/-- The match key of R263 is equal: the tag without PORT and KIND. -/
def Token.sameKey (a b : Token) : Bool := a.key == b.key

/-! ### The governor's charge (R436) -/

/-- Charges lines to a copy's credit; an access beyond the credit is one beyond the maxima (R302, R377). -/
def Chip.charge (c : Chip) (fi k lines : Nat) : Chip :=
  let key := 2 * fi + k
  let g := c.mctl.gov.get Gov.init key
  let left := g.credit - (lines : Int) * 1024
  let c1 := { c with mctl := { c.mctl with gov := c.mctl.gov.put Gov.init key { g with credit := left } } }
  if left < 0 then c1.count fi k (fun n => { n with slowmem := sat32 n.slowmem }) else c1

/-! ### Deep store (R294–R299, R320) -/

/-- Home bucket of a key (R294). -/
def Chip.homeBucket (c : Chip) (t : Token) : Nat := 16384 * (c.fiCfg t.fi).deep * t.hash / 4294967296

/-- Deep-store pages of the unit that are free; `taken` is capacity used under R415. -/
def Chip.deepFree (c : Chip) : Nat :=
  262144 - c.fab.deepLost
    - c.fis.foldl (fun n e => if e.2.copies.isEmpty || (c.fiCfg e.1).cls == 0 then n else n + (c.fiCfg e.1).deep * 16) 0
    - c.fab.deeps.foldl (fun n e => n + e.2.pages.length) 0

/-- The lines of a bucket's chain, home line first: `none` is the home line, a number an overflow line. -/
def Deep.chain (d : Deep) (b : Nat) : List (Option Nat) :=
  let rec go : Nat → Option Nat → List (Option Nat)
    | 0, _ => []
    | _, none => []
    | n + 1, some l => some l :: go n (d.overflow.get DeepLine.init l).link
  none :: go 3 (d.home.get DeepLine.init b).link

/-- A line of a bucket. -/
def Deep.line (d : Deep) (b : Nat) : Option Nat → DeepLine
  | none => d.home.get DeepLine.init b
  | some l => d.overflow.get DeepLine.init l

/-- Writes a line of a bucket. -/
def Deep.setLine (d : Deep) (b : Nat) (x : DeepLine) : Option Nat → Deep
  | none => { d with home := d.home.put DeepLine.init b x }
  | some l => { d with overflow := d.overflow.put DeepLine.init l x }

/-- What placing an entry in the deep store comes to: placed, on a corrupt chain (lost with the line), or refused with the cause of R320. -/
inductive DeepPut | placed (d : Deep) | lost | refused (cause : String)

/-- The lowest overflow line that no chain uses, in the pages held. -/
def Deep.freeLine (d : Deep) : Option Nat :=
  (d.pages.flatMap (fun p => (List.range 1024).map (fun i => 1024 * p + i))).find? (fun l => (d.overflow.find l).isNone)

/-- The first free entry of the chain, home line first, with an overflow line added when every entry is in use (R296, R320). -/
def Chip.deepPut (c : Chip) (e : DeepEnt) : DeepPut :=
  let fi := e.tok.fi
  let d := c.deep fi
  let deep := (c.fiCfg fi).deep
  if deep = 0 then .refused "CAP" else
  let b := c.homeBucket e.tok
  let ch := d.chain b
  if ch.any (fun l => (d.line b l).bad) then .lost else
  match ch.find? (fun l => (d.line b l).ents.any Option.isNone) with
  | some l =>
    let x := d.line b l
    let i := x.ents.findIdx Option.isNone
    .placed (d.setLine b { x with ents := x.ents.set i (some e) } l)
  | none =>
    if ch.length ≥ 4 then .refused "CHAIN" else
    let grow : Except String Deep :=
      match d.freeLine with
      | some _ => .ok d
      | none =>
        if d.pages.length ≥ deep * 16 then .error "CAP"
        else if c.deepFree = 0 then .error "POOL"
        else
          let used := c.fab.deeps.flatMap (fun e => e.2.pages)
          match firstBelow 262144 (fun p => !used.contains p) with
          | some p => .ok { d with pages := d.pages ++ [p] }
          | none => .error "POOL"
    match grow with
    | .error s => .refused s
    | .ok d =>
      match d.freeLine with
      | none => .refused "POOL"
      | some n =>
        let lastL := ch.getLastD none
        let d1 := d.setLine b { d.line b lastL with link := some n } lastL
        .placed (d1.setLine b { ents := [some e, none, none], link := none, pos := ch.length, bad := false } (some n))

/-- Entries an FI holds in its deep store. -/
def Deep.size (d : Deep) : Nat :=
  let n (t : Tbl DeepLine) := t.foldl (fun n e => n + (e.2.ents.filter Option.isSome).length) 0
  n d.home + n d.overflow

/-- Evicts an item to its FI's deep store from a tile (R291); none when the spill fails, with the FI in deep hold (R320). -/
def Chip.spill (c : Chip) (tile : Nat) (i : QItem) : Option Chip × Chip :=
  let fi := i.tok.fi
  let idx := i.tok.hash % 4096
  match c.deepPut { tok := i.tok, copy := i.copy, tile := tile, written := false } with
  | .refused cause =>
    if (c.fi fi).deepHold then (none, c)
    else
      let c1 := (c.modFi fi (fun x => { x with deepHold := true })).count fi i.copy (fun n => { n with deephold := sat32 n.deephold })
      (none, c1.record 163 fi [fFi fi, fSym "CAUSE" cause])
  | .lost =>
    let c1 := c.died i.tok i.copy
    (some ((c1.modDeep fi (fun d => { d with reqs := d.reqs ++ [(false, i, tile)] })).count fi i.copy
      (fun n => { n with spills := sat32 n.spills })), c)
  | .placed d =>
    let c1 := c.modDeep fi (fun _ => { d with reqs := d.reqs ++ [(false, i, tile)] })
    let c2 := c1.modTile tile (fun t => { t with inDeep := t.inDeep + 1, filter := t.filter.put 0 idx (min 15 (t.filter.get 0 idx + 1)) })
    let c3 := c2.modCtx (c.ctxOf i.tok i.copy) (fun x => { x with inDeep := x.inDeep + 1 })
    (some (c3.count fi i.copy (fun n => { n with spills := sat32 n.spills, deeppeak := max n.deeppeak d.size })), c)

/-! ### Placement and spill order (R283–R285, R290–R292) -/

/-- Entries of a P0 copy in its pinned partition on a tile. -/
def Tile.pinned (t : Tile) (fi k : Nat) : Nat :=
  (t.store.filter (fun e => e.cls == 0 && e.item.tok.fi == fi && e.item.copy == k)).length
/-- Hashed entries on a tile, and those of one FI. -/
def Tile.hashed (t : Tile) : Nat := (t.store.filter (fun e => e.cls != 0)).length
def Tile.hashedOf (t : Tile) (fi : Nat) : Nat := (t.store.filter (fun e => e.cls != 0 && e.item.tok.fi == fi)).length
def Tile.inSet (t : Tile) (s : Nat) : Nat := (t.store.filter (fun e => e.cls != 0 && e.set == s)).length

/-- The victim of Table 7-3 among stored candidates and, last in age, the arriving item: none when no candidate remains. -/
def Chip.victim (c : Chip) (tile arrFi : Nat) (cands : List Entry) (arriving : Option Entry) : Option Entry :=
  let t := c.tile tile
  let all := cands ++ arriving.toList
  let s1 := all.filter (fun e => e.item.tok.fi == arrFi || decide (t.hashedOf e.item.tok.fi > (c.fiCfg e.item.tok.fi).hashed))
  let s2 := s1.filter (fun e => !(c.fi e.item.tok.fi).deepHold)
  let top := s2.foldl (fun n e => max n e.cls) 0
  (s2.filter (fun e => e.cls == top)).foldl (fun a e => match a with
    | none => some e
    | some b => if e.id < b.id then some e else a) none

/-- What placing an entry comes to. -/
inductive Placed | ok (c : Chip) | full (c : Chip)

/-- Raises PINPEAK. -/
def Chip.pinPeak (c : Chip) (tile fi k : Nat) : Chip :=
  c.count fi k (fun n => { n with pinpeak := max n.pinpeak ((c.tile tile).pinned fi k) })

/-- Places an entry on a tile: in the copy's pinned partition for P0, in its set for a hashed OPERAND, in the free way of the lowest set for any other
hashed entry, with the spill order where no way is free. `full` answers when no place is found. -/
def Chip.place (c : Chip) (tile : Nat) (typ : EntTyp) (i : QItem) (w : WaitFor) : Placed :=
  let fi := i.tok.fi
  let cls := c.cls fi
  let (id, c0) := c.freshId
  let t := c0.tile tile
  let put (c : Chip) (s : Nat) : Chip :=
    c.modTile tile (fun t => { t with store := t.store ++ [{ id := id, typ := typ, item := i, cls := cls, set := s, wait := w }] })
  if cls = 0 then
    if t.pinned fi i.copy < (c0.fiCfg fi).pinned then .ok ((put c0 0).pinPeak tile fi i.copy) else .full c0
  else
    let isOp := typ == .operand
    let free : Option Nat :=
      if isOp then (if t.inSet i.tok.set < 4 then some i.tok.set else none)
      else if t.hashed < 7168 then firstBelow 1792 (fun s => t.inSet s < 4) else none
    match free with
    | some s => .ok (put c0 s)
    | none =>
      let arr : Option Entry := if isOp then some { id := id, typ := typ, item := i, cls := cls, set := i.tok.set, wait := w } else none
      let cands := t.store.filter (fun e => e.typ == .operand && e.cls != 0 && (!isOp || e.set == i.tok.set))
      match c0.victim tile fi cands arr with
      | none => .full c0
      | some v =>
        match c0.spill tile v.item with
        | (none, c1) => .full c1
        | (some c1, _) =>
          if v.id = id then .ok c1
          else .ok (put (c1.modTile tile (fun t => { t with store := t.store.filter (fun e => e.id != v.id) })) v.set)

/-! ### Class queues (R274, R292, R313, R314) -/

/-- Puts an item at the tail of its class queue. -/
def Chip.enqueue (c : Chip) (tile : Nat) (i : QItem) : Chip :=
  c.modTile tile (fun t => { t with q := t.q.put [] (c.cls i.tok.fi) (t.q.get [] (c.cls i.tok.fi) ++ [i]) })

/-- Returns an item to the tail of its class queue, counted as a recirculation (R292, R293). -/
def Chip.recirculate (c : Chip) (tile : Nat) (i : QItem) : Chip :=
  (c.enqueue tile i).count i.tok.fi i.copy (fun n => { n with recirc := sat32 n.recirc })

/-- The pinned-overflow fault of a P0 entry that finds its partition full (R309). -/
def Chip.pinnedOverflow (c : Chip) (tile : Nat) (i : QItem) : Chip :=
  (c.dropItem i).raise 8 i.tok.fi (some i.tok.fi) [fNat "TILE" tile]

/-- Places of a class queue taken: its items less those that stand in QUEUE entries. -/
def Tile.queued (t : Tile) (cls : Nat) : Nat :=
  (t.q.get [] cls).length - (t.store.filter (fun e => e.typ == .queue && e.cls == cls)).length

/-- An item that arrives at its tile takes a place of its class queue, or a QUEUE entry when the queue is full (R313, R314). -/
def Chip.arrive (c : Chip) (tile : Nat) (i : QItem) : Chip :=
  let cls := c.cls i.tok.fi
  if (c.tile tile).queued cls < 256 then c.enqueue tile i
  else
    match c.place tile .queue i .nothing with
    | .ok c1 => c1.enqueue tile i
    | .full c1 =>
      if cls = 0 then c1.pinnedOverflow tile i
      else (c1.dropItem i).raise 9 i.tok.fi (some i.tok.fi) [fNat "TILE" tile]

/-- Takes an entry out of a tile's store and re-queues its item (R269, R312, R384). -/
def Chip.requeueEntry (c : Chip) (tile id : Nat) (g : QItem → QItem) : Chip :=
  match (c.tile tile).store.find? (fun e => e.id == id) with
  | none => c
  | some e => ((c.watchFrom e.item.tok.fi e.item.copy).modTile tile (fun t => { t with store := t.store.filter (fun x => x.id != id) })).enqueue tile (g e.item)

end Sys2Proof.Machine
end

