-- ==== Sys2Proof/Machine/Periods.lean ====
section
/-!
DEFINITION. FI state changes, period contexts, period starts and the delivery of input tokens (R210–R217, R224–R226, R250, R255–R257, R322).
-/
namespace Sys2Proof.Machine

/-- Keyword of an FI state (Table 5-8). -/
def FiSt.name : FiSt → String
  | .empty => "EMPTY" | .loaded => "LOADED" | .admitted => "ADMITTED" | .armed => "ARMED" | .running => "RUNNING"
  | .draining => "DRAINING" | .stopped => "STOPPED"

/-- The FI's inputs are delivered (Table 5-8). -/
def FiSt.active (s : FiSt) : Bool := s == .armed || s == .running
/-- The FI's outputs act (Table 5-8). -/
def FiSt.acts (s : FiSt) : Bool := s == .armed || s == .running || s == .draining
/-- The FI has resources (Table 5-8). -/
def FiSt.placed (s : FiSt) : Bool := s == .admitted || s.acts || s == .stopped

/-- A change of state with its event 0x0A0 (R225). -/
def Chip.fiState (c : Chip) (n : Nat) (dest : FiSt) (cause : String) : Chip :=
  let old := (c.fi n).st
  if old = dest then c
  else (c.modFi n (fun x => { x with st := dest })).record 160 n
    [fFi n, fSym "FROM" old.name, fSym "TO" dest.name, fNat "GEN" (c.fi n).gen, fSym "CAUSE" cause]

/-- A period on the deadline watch (R322). -/
def Period.onWatch (p : Period) : Bool := p.watched && p.started && !p.overrun && !p.done.all (fun b => b)

/-- Counts a binding event against a subscription. -/
def Chip.bindCount (c : Chip) (s : Nat) (g : BindCnt → BindCnt) : Chip :=
  c.fab' (fun f => { f with binds := f.binds.put BindCnt.init s (g (f.binds.get BindCnt.init s)) })

/-- Counts a no-context event against the subscription, or the FI for TIMER (R257). -/
def Chip.noContext (c : Chip) (fi : Nat) (sub : Option Nat) : Chip :=
  match sub with
  | some s => c.bindCount s (fun b => { b with noctx := sat32 b.noctx })
  | none => c.modFi fi (fun x => { x with noctx := sat32 x.noctx })

/-- Number of copies of an FI. -/
def Chip.nCopies (c : Chip) (fi : Nat) : Nat := (c.fi fi).copies.length

/-- A frame for a period context of one copy: the pre-allocated one, or one taken now with a credit (R256, R257, R310, R321). -/
def Chip.takeFrame (c : Chip) (fi k : Nat) : Option (Nat × Chip) :=
  let p := c.copy fi k
  match p.prealloc with
  | some f => some (f, c.modCopy fi k (fun p => { p with prealloc := none }))
  | none =>
    if p.credit = 0 ∨ (c.fi fi).deepHold then none
    else match c.allocFrame fi k with
      | some f => some (f, (c.modCopy fi k (fun p => { p with credit := p.credit - 1 })).openCtx fi k f .period none none)
      | none => none

/-- Holds one period context ready for the next period of a copy, when a frame and a credit are there (R256). -/
def Chip.preallocate (c : Chip) (fi k : Nat) : Chip :=
  if (c.copy fi k).prealloc.isSome then c
  else match c.takeFrame fi k with
    | some (f, c1) => c1.modCopy fi k (fun p => { p with prealloc := some f })
    | none => c

/-- Releases the contexts of a period. -/
def Chip.releasePeriod (c : Chip) (fi : Nat) (p : Period) : Chip :=
  let c1 := (List.range p.frames.length).foldl (fun c k =>
    match (p.frames[k]?).join with
    | some f => c.releaseCtx (ctxKey (c.copy fi k).cluster f)
    | none => c) c
  c1.closePeriods fi

/-- Releases an open count that never started, counted as unstarted (R256). -/
def Chip.dropUnstarted (c : Chip) (fi : Nat) (p : Period) : Chip :=
  let c1 := (c.releasePeriod fi p).modFi fi (fun x => { x with unstarted := sat32 x.unstarted, opens := x.opens.filter (fun q => q.id != p.id) })
  match (c.fiCfg fi).psrc with
  | some s => c1.bindCount s (fun b => { b with unstarted := sat32 b.unstarted })
  | none => c1

/-- What the first token of a count finds (R256, R257). -/
inductive Took | got (c : Chip) | late (c : Chip) | noctx (c : Chip)

/-- Takes a period context for a count in every copy (R256). -/
def Chip.takePeriod (c : Chip) (fi id : Nat) : Took :=
  let opens := (c.fi fi).opens
  if opens.any (fun p => p.id == id) then .got c
  else if !opens.isEmpty && opens.all (fun p => decide (id < p.id)) then .late c
  else
    let room : Option Chip :=
      if opens.length < 4 then some c
      else match opens.find? (fun p => !p.started) with
        | some p => some (c.dropUnstarted fi p)
        | none => none
    match room with
    | none => .noctx c
    | some c1 =>
      let take := (List.range (c1.nCopies fi)).foldl (fun (a : Option (List Nat × Chip)) k =>
        match a with
        | none => none
        | some (l, c) => match c.takeFrame fi k with
          | some (f, c') => some (l ++ [f], c')
          | none => none) (some ([], c1))
      match take with
      | none => .noctx c1
      | some (frames, c2) =>
        let per : Period := { id := id, frames := frames.map some, started := false, startAt := 0, stamp := c.stamp, deadline := none,
                              watched := (c.fiCfg fi).cls == 0, done := frames.map (fun _ => false), overrun := false }
        let c3 := c2.modFi fi (fun x => { x with opens := x.opens ++ [per], lastId := id })
        let c4 := (List.range frames.length).foldl (fun c k =>
          c.modCtx (ctxKey (c.copy fi k).cluster (frames.getD k 0)) (fun x => { x with period := some id })) c3
        .got ((List.range frames.length).foldl (fun c k => c.preallocate fi k) c4)

/-- Delivers a token to one copy of an FI at an input port's destination, in the context of a frame (R255, R332). -/
def Chip.deliverTo (c : Chip) (fi k frame : Nat) (d : Deliv) (colour : Nat) (start chan : Option Nat) : Chip :=
  match ((c.image fi).inputs[d.port]?).bind (fun p => p.dests[d.idx]?) with
  | none => c
  | some dest =>
    let t : Token := { fi := fi, gen := (c.fi fi).gen, epoch := (c.ctx (ctxKey (c.copy fi k).cluster frame)).epoch, frame := frame,
                       vt := dest.vt, page := dest.page, off := dest.off, portR := dest.portR, colour := colour, op := d.op }
    (c.born t k).send 416 t k start chan

/-- Delivers a token to the standing context of every copy (Table 6-5). -/
def Chip.deliverStanding (c : Chip) (fi : Nat) (d : Deliv) (colour : Nat) (chan : Option Nat) : Chip :=
  (List.range (c.nCopies fi)).foldl (fun c k =>
    match (c.copy fi k).standing with
    | some f => c.deliverTo fi k f d colour none chan
    | none => c) c

/-- Delivers tokens to the period contexts of a count (Table 6-5). -/
def Chip.deliverPeriod (c : Chip) (fi id : Nat) (ds : List Deliv) : Chip :=
  match (c.fi fi).opens.find? (fun p => p.id == id) with
  | none => c
  | some p => (List.range p.frames.length).foldl (fun c k =>
      match (p.frames[k]?).join with
      | some f => ds.foldl (fun c d => c.deliverTo fi k f d 0 (if d.start then some id else none) none) c
      | none => c) c

/-- Every input port of active FIs bound to a source (R218). -/
def Chip.boundTo (c : Chip) (s : Source) : List (Nat × Nat) :=
  c.cfg.fis.flatMap (fun e => (e.2.ins.filter (fun b => b.2 == s)).map (fun b => (e.1, b.1)))

/-- Delivers a DATA token to every active FI bound to a panel, field, point or ALIVE source (Table 5-6). -/
def Chip.deliverSource (c : Chip) (s : Source) (data : Word) : Chip :=
  (c.boundTo s).foldl (fun c b =>
    if (c.fi b.1).st.active then c.deliverStanding b.1 { port := b.2, idx := 0, op := ⟨.data, data⟩, start := false } 0 none else c) c

/-- The fallback port of an image (R336). -/
def Image.fallbackPort (i : Image) : Option Nat :=
  let n := i.inputs.findIdx (fun p => p.declared && p.fallback)
  if n < i.inputs.length then some n else none

/-- What a period start delivers to the fallback port (R240). -/
def Chip.fallbackToken (c : Chip) (fi : Nat) : Chip :=
  match (c.fi fi).fallbackVal, (c.image fi).fallbackPort with
  | 0, _ => c
  | v + 1, some p =>
    let c1 := c.deliverStanding fi { port := p, idx := 0, op := ⟨.ctrl, BitVec.ofNat 64 (v + 1)⟩, start := false } 0 none
    if v = 1 then c1.modFi fi (fun x => { x with fallbackVal := 0, fallenBack := false }) else c1
  | _, none => c

/-- A period starts (R210–R212, R216, R240, R322): its deadline is set, an ARMED FI goes RUNNING, a lost source has resumed. When it would be a fifth
watched period it does not start, and its contexts are released. -/
def Chip.startPeriod (c : Chip) (fi id : Nat) : Chip :=
  let x := c.fi fi
  match x.opens.find? (fun p => p.id == id) with
  | none => c
  | some p =>
    if p.started || !x.st.active then c
    else if p.watched && decide ((x.opens.filter Period.onWatch).length ≥ 4) then
      ((c.releasePeriod fi p).modFi fi (fun x => { x with opens := x.opens.filter (fun q => q.id != id) })).noContext fi (c.fiCfg fi).psrc
    else
      let dl : Option Nat := match p.deadline with
        | some d => some d
        | none => if p.watched then some (c.clk.cycle + (c.fiCfg fi).deadline.getD 0) else none
      let c1 := c.modFi fi (fun x => { x with
        opens := x.opens.map (fun q => if q.id = id then { q with started := true, startAt := c.clk.cycle, stamp := c.stamp, deadline := dl } else q),
        lastStart := c.clk.cycle })
      let c2 := (List.range p.frames.length).foldl (fun c k =>
        match (p.frames[k]?).join with
        | some f => c.modCtx (ctxKey (c.copy fi k).cluster f) (fun y => { y with deadline := dl })
        | none => c) c1
      let c3 := if x.st = .armed then c2.fiState fi .running "PERIOD" else c2
      let c4 := if x.sourceLost then (c3.modFi fi (fun x => { x with sourceLost := false })).record (Config.openEvent 2) fi [fFi fi] else c3
      c4.fallbackToken fi

/-- The oldest unstarted counts that PSRC's count has passed by 4 are released (R256). -/
def Chip.passCounts (c : Chip) (fi id : Nat) : Chip :=
  ((c.fi fi).opens.filter (fun p => !p.started && decide (p.id + 4 ≤ id))).foldl (fun c p => c.dropUnstarted fi p) c

/-- The pending GOOSE arrival's period starts (R214): it takes a context and its tokens are delivered, its deadline counted from its arrival. -/
def Chip.startPendGoose (c : Chip) (fi : Nat) : Chip :=
  match (c.fi fi).pendGoose with
  | none => c
  | some (ds, at?) =>
    if !(c.fi fi).st.active then c.modFi fi (fun x => { x with pendGoose := none }) else
    let id := (c.fi fi).lastId + 1
    let c0 := c.modFi fi (fun x => { x with pendGoose := none })
    match c0.takePeriod fi id with
    | .got c1 =>
      let dl := (c1.fiCfg fi).deadline
      let c2 := c1.modFi fi (fun x => { x with opens := x.opens.map (fun q =>
        if q.id = id then { q with deadline := if q.watched then dl.map (fun d => at? + d) else none } else q) })
      c2.deliverPeriod fi id ds
    | .late c1 | .noctx c1 => c1.noContext fi (c1.fiCfg fi).psrc

/-- A period is open: started and neither completed nor, for P1–P3, released (R214). -/
def Chip.periodOpen (c : Chip) (fi : Nat) : Bool :=
  (c.fi fi).opens.any (fun p => if (c.fiCfg fi).cls = 0 then !p.done.all (fun b => b) && p.frames.any Option.isSome else p.frames.any Option.isSome)

/-- What follows the release of a period's contexts: PERIODS of P1–P3 and the pending GOOSE arrival (R212, R214). -/
def Chip.afterRelease (c : Chip) (fi : Nat) : Chip :=
  let gone := (c.fi fi).opens.filter (fun p => p.started && !p.frames.any Option.isSome)
  let c1 := if (c.fiCfg fi).cls = 0 then c
            else c.modFi fi (fun x => { x with periods := (x.periods + gone.length) % 4294967296 })
  let c2 := c1.closePeriods fi
  if (c2.fiCfg fi).period = .goose ∧ (c2.fiCfg fi).cls ≠ 0 ∧ ¬ c2.periodOpen fi then c2.startPendGoose fi else c2

end Sys2Proof.Machine
end

