-- ==== Sys2Proof/Machine/Select.lean ====
section
/-!
DEFINITION. The firing pipeline of a tile up to execute (R263–R269, R274, R286–R288, R300–R305, R428–R432), predicates (R268, R271), and the purge of a
released context (R324–R326).
-/
namespace Sys2Proof.Machine

/-! ### Instruction words -/

/-- Opcodes that emit no token (R339). -/
def opSilent (op : Nat) : Bool := op == 3 || op == 0xD3 || op == 0xD4 || (0x98 ≤ op && op ≤ 0x9E) || (0xE8 ≤ op && op ≤ 0xEE)
/-- The predicate writers (R363). -/
def opPred (op : Nat) : Bool := 0x98 ≤ op && op ≤ 0x9E

/-! ### Predicates (R268, R271) -/

/-- A predicate write of a firing: the context table takes it, and the mirrors change 24 cycles later. -/
def Chip.predWrite (c : Chip) (t : Token) (k p : Nat) (v overwrite : Bool) : Chip :=
  if !c.ctxLive t k then c
  else
    let key := c.ctxOf t k
    if ((c.ctx key).preds.find p).isSome && !overwrite then c.raise 4 t.fi (some t.fi) [fNat "P" p]
    else c.modCtx key (fun x => { x with preds := x.preds.set p v, updates := x.updates ++ [(p, v, c.clk.cycle + 24)] })

/-- The oldest predicate write of a context reaches every mirror (R268). -/
def Chip.mirrorUpdate (c : Chip) (key : Nat) : Chip :=
  match (c.ctx key).updates with
  | [] => c
  | (p, v, due) :: rest =>
    (c.advanceTo due).modCtx key (fun x => { x with mirror := x.mirror.set p v, updates := rest })

/-! ### Pages (R428–R432) -/

/-- The reserved pages of a slot (R203). -/
def FiCfg.slotPages (f : FiCfg) (slot : Nat) : Nat :=
  let n := max f.tiles 1
  if f.cls < 2 then
    ((List.range ((f.image.getD Image.empty).v)).filter (fun v => v % n == slot)).foldl
      (fun s v => s + (f.image.getD Image.empty).pg.getD v 0) 0
  else f.pages / n + (if slot < f.pages % n then 1 else 0)

/-- Pages a slot of a copy holds on a tile, fetches included. -/
def Tile.slotHeld (t : Tile) (n fi k slot : Nat) : Nat :=
  (t.pages.filter (fun p => p.fi == fi && p.copy == k && p.vt % n == slot)).length +
  (t.fetches.filter (fun p => p.fi == fi && p.copy == k && p.vt % n == slot && p.retryAt.isNone)).length

/-- The slots on a tile: FI, copy, slot. -/
def Chip.slotsOn (c : Chip) (tile : Nat) : List (Nat × Nat × Nat) :=
  c.fis.flatMap (fun e => (List.range e.2.copies.length).flatMap (fun k =>
    let m := ((e.2.copies[k]?).getD Copy.init).map
    ((List.range m.length).filter (fun s => m[s]? == some tile)).map (fun s => (e.1, k, s))))

/-- Where the page of a fetch goes: a free reserved page, a page of the shared pool, or the slot's least recently used page; none when nothing can be
evicted (R430). The Boolean says that a shared page is taken. -/
def Chip.pageRoom (c : Chip) (tile fi k vt : Nat) : Option (Bool × Option ResPage) :=
  let t := c.tile tile
  let n := max (c.fiCfg fi).tiles 1
  let slot := vt % n
  let held := t.slotHeld n fi k slot
  let want := (c.fiCfg fi).slotPages slot
  let used := t.pages.length + (t.fetches.filter (fun f => f.retryAt.isNone)).length
  let rsv := (c.slotsOn tile).foldl (fun s o => s + ((c.fiCfg o.1).slotPages o.2.2 - t.slotHeld (max (c.fiCfg o.1).tiles 1) o.1 o.2.1 o.2.2)) 0
  if held < want then some (false, none)
  else if 16 - used > rsv then some (true, none)
  else
    let mine := t.pages.filter (fun p => p.fi == fi && p.copy == k && p.vt % n == slot &&
      !t.pipe.any (fun f => f.tok.fi == fi && f.copy == k && f.tok.vt == p.vt && f.tok.page == p.page) &&
      !t.pageWait.any (fun i => i.tok.fi == fi && i.copy == k && i.tok.vt == p.vt && i.tok.page == p.page))
    match mine.foldl (fun (a : Option ResPage) p => match a with
      | none => some p
      | some b => if p.lastUse < b.lastUse then some p else a) none with
    | some p => some (p.shared, some p)
    | none => none

/-- Starts or retries the fetch of a page (R429–R431). -/
def Chip.startFetch (c : Chip) (tile fi k vt page : Nat) : Chip :=
  match c.pageRoom tile fi k vt with
  | some (sh, ev) =>
    c.modTile tile (fun t => { t with
      pages := match ev with
        | some p => t.pages.filter (fun q => q != p)
        | none => t.pages,
      fetches := t.fetches ++ [{ fi := fi, copy := k, vt := vt, page := page, shared := sh, retryAt := none, bad := false }] })
  | none =>
    (c.modTile tile (fun t => { t with
      fetches := t.fetches ++ [{ fi := fi, copy := k, vt := vt, page := page, shared := false, retryAt := some (c.clk.cycle + 64), bad := false }] })).count
      fi k (fun n => { n with pageretry := sat32 n.pageretry })

/-- Fetches for page-wait firings whose page no fetch brings, while fewer than four are outstanding (R429). -/
def Chip.fetchWaiting (c : Chip) (tile : Nat) : Chip :=
  (c.tile tile).pageWait.foldl (fun c i =>
    let t := c.tile tile
    if t.fetches.length < 4 && !t.fetches.any (fun f => f.fi == i.tok.fi && f.copy == i.copy && f.vt == i.tok.vt && f.page == i.tok.page)
    then c.startFetch tile i.tok.fi i.copy i.tok.vt i.tok.page else c) c

/-! ### Fetch and guard (R264, R269) -/

/-- A matched item that finds no place returns as the token it came from (R292), P0 entries excepted (R309). -/
def Chip.noPlace (c : Chip) (tile : Nat) (back : QItem) : Chip :=
  if c.cls back.tok.fi = 0 then c.pinnedOverflow tile back else c.recirculate tile back

/-- The fetch and guard stage of a complete firing. `before` is the state in which the arriving token is still unmatched, and `arr` that token: a
GUARD entry that finds no place leaves the match undone. -/
def Chip.fetchGuard (before c : Chip) (tile : Nat) (arr i : QItem) : Chip :=
  let fi := i.tok.fi
  let t := c.tile tile
  let here (p : ResPage) : Bool := p.fi == fi && p.copy == i.copy && p.vt == i.tok.vt && p.page == i.tok.page
  let item := { i with matched := true }
  if !t.pages.any here then
    if c.cls fi < 2 then (c.dropItem item).instrIntegrity fi tile [fSym "CAUSE" "PAGE"]
    else if t.pageWait.length < 32 then (c.modTile tile (fun t => { t with pageWait := t.pageWait ++ [item] })).fetchWaiting tile
    else c.recirculate tile item
  else
    let c := c.modTile tile (fun t => { t with pages := t.pages.map (fun p => if here p then { p with lastUse := c.clk.cycle } else p) })
    let w := c.wordOf i.tok
    let f : Firing := { tile := tile, copy := i.copy, tok := i.tok, r := i.partner.getD Opnd.void, word := w, grant := i.grant }
    let fire := (c.modCopy fi i.copy (fun p => { p with lastFire := c.clk.cycle })).modTile tile (fun t => { t with pipe := t.pipe ++ [f] })
    if !Word.ge w then fire
    else
      match (c.ctx (c.ctxOf i.tok i.copy)).mirror.find (Word.gp w) with
      | none =>
        match c.place tile .guard item .nothing with
        | .ok c1 => c1
        | .full _ => before.noPlace tile arr
      | some v =>
        if v != Word.gs w then fire
        else
          let c1 := (c.modCopy fi i.copy (fun p => { p with lastFire := c.clk.cycle })).consume f
          if Word.vq w then c1
          else if opPred (Word.op w) then c1.predWrite i.tok i.copy (Word.dest1 w % 8) false (Word.op w == 0x99)
          else if opSilent (Word.op w) then c1
          else c1.emit f Opnd.void

/-! ### Match (R263, R266, R286–R288, R300, R301) -/

/-- The complete item of two operands of one key: L's token with R's operand as partner. -/
def pairItem (a b : QItem) : QItem :=
  let (l, r) := if a.tok.portR then (b, a) else (a, b)
  { l with partner := some r.tok.op, matched := true, arrival := a.arrival }

/-- The duplicate-operand fault: the arriving token is discarded (R288). -/
def Chip.duplicate (c : Chip) (tile : Nat) (i : QItem) : Chip :=
  (c.dropItem i).raise 6 i.tok.fi (some i.tok.fi) [fNat "TILE" tile, fNat "VT" i.tok.vt]

/-- Inserts an operand whose partner is absent (R283, R300, R309, R292). -/
def Chip.insertOperand (c : Chip) (tile : Nat) (i : QItem) : Chip :=
  match c.place tile .operand i .nothing with
  | .ok c1 => c1
  | .full c1 => c1.noPlace tile i

/-- The match stage of a dyadic token. -/
def Chip.matchDyadic (c : Chip) (tile : Nat) (i : QItem) : Chip :=
  let t := c.tile tile
  let same (j : QItem) : Bool := j.copy == i.copy && j.tok.sameKey i.tok
  match t.store.find? (fun e => e.typ == .operand && same e.item) with
  | some e =>
    if e.item.tok.portR = i.tok.portR then c.duplicate tile i
    else c.fetchGuard (c.modTile tile (fun t => { t with store := t.store.filter (fun x => x.id != e.id) })) tile i (pairItem i e.item)
  | none =>
    match t.fill.find? same with
    | some j =>
      if j.tok.portR = i.tok.portR then c.duplicate tile i
      else c.fetchGuard (c.modTile tile (fun t => { t with fill := t.fill.filter (fun x => x.arrival != j.arrival) })) tile i (pairItem i j)
    | none =>
      if c.cls i.tok.fi = 0 ∨ t.filter.get 0 (i.tok.hash % 4096) = 0 then c.insertOperand tile i
      else if t.fill.length < 32 then
        (c.modTile tile (fun t => { t with fill := t.fill ++ [i] })).modDeep i.tok.fi (fun d => { d with reqs := d.reqs ++ [(true, i, tile)] })
      else c.recirculate tile i

/-! ### Selection (R274, R275) -/

/-- The deadline of a token (R275), as a cycle; a token without one is last. -/
def Chip.tokDeadline (c : Chip) (t : Token) (k : Nat) : Nat :=
  let x := c.ctx (c.ctxOf t k)
  match x.deadline with
  | some d => d
  | none =>
    let f := c.fi t.fi
    match (f.opens.filter (fun p => p.started)).foldl (fun (a : Option Period) p => match a with
        | none => some p
        | some q => if p.startAt ≥ q.startAt then some p else a) none with
    | some p => p.deadline.getD (f.armedAt + (c.fiCfg t.fi).deadline.getD 0)
    | none => f.armedAt + (c.fiCfg t.fi).deadline.getD 0

/-- Earliest deadline, then lower rank, then earlier arrival (R274). -/
def Chip.earlier (c : Chip) (a b : QItem) : Bool :=
  let da := c.tokDeadline a.tok a.copy
  let db := c.tokDeadline b.tok b.copy
  let ra := (c.fiCfg a.tok.fi).rank.getD 0
  let rb := (c.fiCfg b.tok.fi).rank.getD 0
  da < db || (da == db && (ra < rb || (ra == rb && a.arrival < b.arrival)))

/-- The pattern of eight slots (R274). -/
def slotPattern : List Nat := [1, 2, 1, 2, 1, 2, 1, 3]

/-- The queue served by a slot of the pattern: its own, or the next that is not empty. -/
def Tile.served (t : Tile) (slot : Nat) : Option Nat :=
  let s := slotPattern.getD (slot % 8) 1
  [s, s % 3 + 1, (s + 1) % 3 + 1].find? (fun q => !(t.q.get [] q).isEmpty)

/-- The item the scheduler selects, and the tile without it (R274). -/
def Chip.selectItem (c : Chip) (tile : Nat) : Option (QItem × Chip) :=
  let t := c.tile tile
  let out (q : Nat) (i : QItem) (adv : Nat) : QItem × Chip :=
    (i, c.modTile tile (fun t => { t with
      q := t.q.put [] q ((t.q.get [] q).filter (fun j => j.arrival != i.arrival)),
      slot := (t.slot + adv) % 8,
      store := t.store.filter (fun e => !(e.typ == .queue && e.item.arrival == i.arrival)) }))
  match t.q.get [] 0 with
  | i :: rest => some (out 0 (rest.foldl (fun a b => if c.earlier b a then b else a) i) 0)
  | [] =>
    match t.served t.slot with
    | none => none
    | some q => match t.q.get [] q with
      | i :: _ => some (out q i 1)
      | [] => none

/-- One selection of a tile: the token is discarded, matched, inserted, spilled, recirculated, parked or made ready to execute (R264). -/
def Chip.select (c : Chip) (tile : Nat) : Chip :=
  match c.selectItem tile with
  | none => c
  | some (i, c) =>
    let fi := i.tok.fi
    if i.tok.gen ≠ (c.fi fi).gen then (c.dropItem i).count fi i.copy (fun n => { n with stalegen := sat32 n.stalegen })
    else if !c.ctxLive i.tok i.copy then (c.dropItem i).count fi i.copy (fun n => { n with orphans := sat32 n.orphans })
    else
      let w := c.wordOf i.tok
      if i.matched then c.fetchGuard c tile i i
      else if Word.form w = 0 then c.matchDyadic tile i
      else if i.tok.portR then (c.dropItem i).instrIntegrity fi tile [fSym "CAUSE" "PORT"]
      else if Word.form w = 1 then c.fetchGuard c tile i i
      else if Word.form w = 2 then c.fetchGuard c tile i { i with partner := some (((c.image fi).consts[Word.aux w]?).getD Opnd.void) }
      else
        let n := Word.aux w % 32
        let x := c.ctx (c.ctxOf i.tok i.copy)
        if x.wpoison.contains n then c.fetchGuard c tile i { i with partner := some (Opnd.poison 65) }
        else match x.words.find n with
          | some v => c.fetchGuard c tile i { i with partner := some ⟨.data, v⟩ }
          | none => match c.place tile .frame i (.frameWord n) with
            | .ok c1 => c1
            | .full c1 => c1.noPlace tile i

/-! ### Arrival at a tile (R247, R251, R252, R262, R278) -/

/-- Whether a flight is the oldest from its source to its destination (R278). -/
def Chip.flightReady (c : Chip) (n : Nat) : Bool :=
  match c.fab.net[n]? with
  | none => false
  | some x => !(c.fab.net.take n).any (fun y => y.src == x.src && y.dst == x.dst)

/-- A token reaches its tile and is checked and queued (R274); when it is the period source's CTRL token its period starts (R210). -/
def Chip.queueToken (c : Chip) (dst k : Nat) (t : Token) (start : Option Nat) : Chip :=
  let fi := t.fi
  let drop := c.died t k
  if t.op.kind.reserved then drop.raise 3 fi (some fi) [fNat "TILE" dst]
  else if !(c.copy fi k).map.contains dst then
    (drop.raise 1 dst none [fNat "TILE" dst]).markTile dst
  else if t.page ≥ (c.image fi).pg.getD t.vt 0 then drop.instrIntegrity fi dst [fNat "VT" t.vt]
  else if !c.ctxLive t k then
    let x := c.ctx (c.ctxOf t k)
    if x.st ≠ .free ∧ (x.fi ≠ fi ∨ x.copy ≠ k) then drop.raise 2 fi (some fi) [fNat "TILE" dst]
    else drop.count fi k (fun n => { n with orphans := sat32 n.orphans })
  else
    let (a, c1) := c.freshId
    let c2 := c1.arrive dst { tok := t, copy := k, partner := none, matched := false, arrival := a, grant := ⟨false, none⟩ }
    match start with
    | some id => c2.startPeriod fi id
    | none => c2

/-- The n-th token of the network arrives; at a tile its slot has left it is forwarded to the new tile (R249). -/
def Chip.tokenArrives (c : Chip) (n : Nat) : Chip :=
  if !c.flightReady n then c
  else match c.fab.net[n]? with
  | none => c
  | some x =>
    let c0 := c.fab' (fun f => { f with net := f.net.eraseIdx n })
    let c1 := match x.chan with
      | some ch => c0.fab' (fun f => { f with chans := f.chans.put 0 ch (f.chans.get 0 ch - 1) })
      | none => c0
    match c.fab.fwd.find? (fun m => m.1 == x.tok.fi && m.2.1 == x.copy && m.2.2.1 == x.dst) with
    | some m =>
      if (c.copy x.tok.fi x.copy).map.contains x.dst then c1.queueToken x.dst x.copy x.tok x.startsPeriod
      else c0.fab' (fun f => { f with net := f.net ++ [{ x with src := x.dst, dst := m.2.2.2 }] })
    | none => c1.queueToken x.dst x.copy x.tok x.startsPeriod

/-! ### Waking parked entries -/

/-- The oldest GUARD entry whose predicate the mirror holds is re-queued (R269). -/
def Chip.guardRequeue (c : Chip) (tile : Nat) : Chip :=
  match (c.tile tile).store.find? (fun e => e.typ == .guard &&
    ((c.ctx (c.ctxOf e.item.tok e.item.copy)).mirror.find (Word.gp (c.wordOf e.item.tok))).isSome) with
  | some e => c.requeueEntry tile e.id (fun i => i)
  | none => c

/-- The first held request of a copy is granted a credit; a CNEW then takes a frame, or waits for one (R312, R321). -/
def Chip.creditGrant (c : Chip) (fi k : Nat) : Chip :=
  if (c.copy fi k).credit = 0 ∨ (c.fi fi).deepHold then c
  else match c.fab.creditQ.find? (fun r => r.1 == fi && r.2.1 == k) with
  | none => c
  | some r =>
    let tile := r.2.2.1
    let id := r.2.2.2
    let c1 := c.fab' (fun f => { f with creditQ := f.creditQ.filter (fun q => q != r) })
    match (c1.tile tile).store.find? (fun e => e.id == id) with
    | none => c1
    | some e =>
      let w := c1.wordOf e.item.tok
      let l := Word.aux w / 32
      -- a gate INEXT whose loop stands at its k bound is not granted, nor is any later request of the copy (R311, R312)
      if Word.op w = 0xD5 ∧ (c1.ctx (c1.ctxOf e.item.tok k)).loops.get 0 l ≥ (c1.image fi).kloop.getD l 0 then c else
      let c2 := c1.modCopy fi k (fun p => { p with credit := p.credit - 1 })
      if Word.op (c2.wordOf e.item.tok) = 0xD0 then
        match c2.allocFrame fi k with
        | some f => (c2.openCtx fi k f .child none none).requeueEntry tile id (fun i => { i with grant := ⟨true, some f⟩ })
        | none =>
          (c2.modTile tile (fun t => { t with store := t.store.map (fun x =>
            if x.id = id then { x with item := { x.item with grant := ⟨true, none⟩ }, wait := .frame } else x) })).modPool
            (c2.copy fi k).cluster (fun p => { p with waiting := p.waiting ++ [(tile, id)] })
      else c2.requeueEntry tile id (fun i => { i with grant := ⟨true, none⟩ })

/-- The first held CNEW of a cluster is granted a frame (R312, Table 11-3). -/
def Chip.frameGrant (c : Chip) (cluster : Nat) : Chip :=
  match (c.framePool cluster).waiting with
  | [] => c
  | (tile, id) :: rest =>
    match (c.tile tile).store.find? (fun e => e.id == id) with
    | none => c.modPool cluster (fun p => { p with waiting := rest })
    | some e =>
      if (c.fi e.item.tok.fi).deepHold then c
      else match c.allocFrame e.item.tok.fi e.item.copy with
      | none => c
      | some f =>
        ((c.modPool cluster (fun p => { p with waiting := rest })).openCtx e.item.tok.fi e.item.copy f .child none none).requeueEntry tile id
          (fun i => { i with grant := { i.grant with frame := some f } })

/-! ### Deep-store replies (R296, R301–R304, R329) -/

/-- The deep-store integrity fault (R329). -/
def Chip.deepIntegrity (c : Chip) (fi : Nat) : Chip := c.raise 12 fi (some fi) []

/-- The deep-store engine makes the oldest request of an FI when it is a spill write. -/
def Chip.deepSpillWrite (c : Chip) (fi : Nat) : Chip :=
  match (c.deep fi).reqs with
  | (false, i, _) :: rest =>
    let b := c.homeBucket i.tok
    let d := c.deep fi
    let mark (l : DeepLine) : DeepLine :=
      { l with ents := l.ents.map (fun e => e.map (fun x => if x.tok.sameKey i.tok && x.copy == i.copy && x.tok.portR == i.tok.portR
                                                            then { x with written := true } else x)) }
    let d1 : Deep := { home := d.home.map (fun e => if e.1 = b then (e.1, mark e.2) else e), overflow := d.overflow.map (fun e => (e.1, mark e.2)),
                       pages := d.pages, reqs := rest }
    let c1 := (c.modDeep fi (fun _ => d1)).charge fi i.copy 2
    if (d.chain b).any (fun l => (d.line b l).bad) then c1.deepIntegrity fi else c1
  | _ => c

/-- Takes an entry out of a bucket: an overflow line left empty is freed, and a page whose lines are all free is returned (R296). -/
def Deep.remove (d : Deep) (b : Nat) (l : Option Nat) (e : DeepEnt) : Deep :=
  let x := d.line b l
  let y := { x with ents := x.ents.map (fun z => if z = some e then none else z) }
  match l with
  | none => d.setLine b y none
  | some n =>
    if y.ents.any Option.isSome then d.setLine b y (some n)
    else
      let relink (z : DeepLine) : DeepLine := if z.link = some n then { z with link := x.link } else z
      let overflow := (d.overflow.del n).map (fun z => (z.1, relink z.2))
      { d with home := d.home.map (fun z => if z.1 = b then (z.1, relink z.2) else z), overflow := overflow,
               pages := d.pages.filter (fun p => overflow.any (fun z => z.1 / 1024 == p)) }

/-- Counts an entry as gone from the deep store: the spill filter of its tile (R297), its context's count (R325). -/
def Chip.deepLeft (c : Chip) (e : DeepEnt) : Chip :=
  let idx := e.tok.hash % 4096
  (c.modTile e.tile (fun t =>
    let n := t.inDeep - 1
    { t with inDeep := n, filter := if n = 0 then [] else if t.filter.get 0 idx = 15 then t.filter else t.filter.put 0 idx (t.filter.get 0 idx - 1) })).modCtx
    (c.ctxOf e.tok e.copy) (fun x => { x with inDeep := x.inDeep - 1 })

/-- The oldest request of an FI, a lookup, is answered to its tile. -/
def Chip.deepLookupReply (c : Chip) (fi : Nat) : Chip :=
  match (c.deep fi).reqs with
  | (true, i, tile) :: rest =>
    let b := c.homeBucket i.tok
    let d : Deep := { c.deep fi with reqs := rest }
    let ch := d.chain b
    let c0 := (c.modDeep fi (fun _ => d)).charge fi i.copy ch.length
    let slow := decide ((c0.mctl.gov.get Gov.init (2 * fi + i.copy)).credit < 0)
    let c0 := if slow then c0.count fi i.copy (fun n => { n with lookupslow := sat32 n.lookupslow }) else c0
    if ch.any (fun l => (d.line b l).bad) then c0.deepIntegrity fi
    else
      let hit : Option (Option Nat × DeepEnt) := ch.findSome? (fun l => ((d.line b l).ents.filterMap (fun e => e)).findSome? (fun e =>
        if e.written && e.copy == i.copy && e.tok.sameKey i.tok then some (l, e) else none))
      let waiting := (c0.tile tile).fill.any (fun j => j.arrival == i.arrival)
      let c1 := c0.modTile tile (fun t => { t with fill := t.fill.filter (fun j => j.arrival != i.arrival) })
      match hit with
      | some (l, e) =>
        let c2 := ((c1.modDeep fi (fun d => d.remove b l e)).deepLeft e).count fi e.copy (fun n => { n with fills := sat32 n.fills })
        let c3 := c2.modFi fi (fun x => { x with deepHold := false })
        let (a, c4) := c3.freshId
        let j : QItem := { tok := e.tok, copy := e.copy, partner := none, matched := false, arrival := a, grant := ⟨false, none⟩ }
        if !waiting then c4.duplicate tile j
        else if e.tok.portR = i.tok.portR then c4.duplicate tile j
        else c4.fetchGuard c4 tile i (pairItem i j)
      | none =>
        if waiting then
          (c1.count fi i.copy (fun n => { n with deepmiss := sat32 n.deepmiss })).insertOperand tile i
        else c1
  | _ => c

/-! ### Pages: completion, retry, return (R429–R433) -/

/-- The oldest page fetch in progress ends; a poisoned page is not installed (R433). -/
def Chip.pageInstall (c : Chip) (tile : Nat) (good : Bool) : Chip :=
  match (c.tile tile).fetches.find? (fun f => f.retryAt.isNone && !f.bad) with
  | none => c
  | some f =>
    if !good then
      (c.modTile tile (fun t => { t with fetches := t.fetches.map (fun g => if g = f then { g with bad := true } else g) })).raise 69 f.fi (some f.fi)
        [fNat "VT" f.vt, fNat "PAGE" f.page]
    else
      let mine (i : QItem) : Bool := i.tok.fi == f.fi && i.copy == f.copy && i.tok.vt == f.vt && i.tok.page == f.page
      let waiting := (c.tile tile).pageWait.filter mine
      let c1 := c.modTile tile (fun t => { t with
        fetches := t.fetches.erase f,
        pages := t.pages ++ [{ fi := f.fi, copy := f.copy, vt := f.vt, page := f.page, shared := f.shared, lastUse := c.clk.cycle }],
        pageWait := t.pageWait.filter (fun i => !mine i) })
      let c2 := c1.charge f.fi f.copy 128
      (waiting.foldl (fun c i => c.enqueue tile i) c2).fetchWaiting tile

/-- A slot that could evict no page asks again after 64 cycles (R431). -/
def Chip.pageRetry (c : Chip) (tile : Nat) : Chip :=
  match (c.tile tile).fetches.find? (fun f => f.retryAt.isSome) with
  | none => c
  | some f =>
    let c1 := c.advanceTo (f.retryAt.getD 0)
    (c1.modTile tile (fun t => { t with fetches := t.fetches.erase f })).startFetch tile f.fi f.copy f.vt f.page

/-- A shared page its slot has not used for 10 µs returns to the pool (R430). -/
def Chip.sharedReturn (c : Chip) (tile : Nat) : Chip :=
  let free (t : Tile) (p : ResPage) : Bool := p.shared &&
    !t.pipe.any (fun f => f.tok.fi == p.fi && f.copy == p.copy && f.tok.vt == p.vt && f.tok.page == p.page)
  match ((c.tile tile).pages.filter (free (c.tile tile))).foldl (fun (a : Option ResPage) p => match a with
    | none => some p
    | some b => if p.lastUse < b.lastUse then some p else a) none with
  | none => c
  | some p => (c.advanceTo (10000 + p.lastUse)).modTile tile (fun t => { t with pages := t.pages.filter (fun q => q != p) })

/-- The steward rewrites a poisoned page from the image, and its fetch is repeated (R433). -/
def Chip.pageRewrite (c : Chip) (tile : Nat) : Chip :=
  c.modTile tile (fun t => { t with fetches := t.fetches.map (fun f => { f with bad := false }) })

/-! ### The purge (R324–R326) -/

/-- A token of a context that is being purged: the epoch is the released one. -/
def Chip.purged (c : Chip) (t : Token) (k : Nat) : Bool :=
  let x := c.ctx (c.ctxOf t k)
  x.st == .purging && x.fi == t.fi && x.copy == k && x.epoch != t.epoch

/-- A purged item: removed, its token ended, counted as a purged orphan. -/
def Chip.purgeItem (c : Chip) (i : QItem) : Chip :=
  (c.dropItem i).count i.tok.fi i.copy (fun n => { n with orphans := sat32 n.orphans })

/-- A tile sweeps its stores for the released contexts that wait on it, at most 16, and acknowledges (R324). -/
def Chip.purgeSweep (c : Chip) (tile : Nat) : Chip :=
  let t := c.tile tile
  let keys := ((c.fab.ctxs.filter (fun e => e.2.st == .purging && e.2.sweeps.contains tile)).map (·.1)).take 16
  let hit (i : QItem) : Bool := c.purged i.tok i.copy && keys.contains (c.ctxOf i.tok i.copy)
  let gone := (t.store.filter (fun e => hit e.item)).map (·.item) ++ t.fill.filter hit
  let links := (t.store.filter (fun e => e.typ == .queue && hit e.item)).map (fun e => e.item.arrival)
  let c1 := c.modTile tile (fun t => { t with
    store := t.store.filter (fun e => !hit e.item),
    fill := t.fill.filter (fun i => !hit i),
    q := t.q.map (fun e => (e.1, e.2.filter (fun i => !links.contains i.arrival))) })
  let c2 := gone.foldl Chip.purgeItem c1
  keys.foldl (fun c k => c.modCtx k (fun x => { x with sweeps := x.sweeps.filter (· != tile) })) c2

/-- Every tile has acknowledged: the deep scan removes what the context holds in the deep store, and the frame returns to the pool once its last live
token is gone (R259, R325). -/
def Chip.purgeComplete (c : Chip) (key : Nat) : Chip :=
  let x := c.ctx key
  if x.st ≠ .purging ∨ x.sweeps ≠ [] then c
  else
    let d := c.deep x.fi
    let mine (e : DeepEnt) : Bool := e.copy == x.copy && e.tok.frame == key % 32768 && e.tok.epoch != x.epoch
    let ents (t : Tbl DeepLine) : List DeepEnt := t.flatMap (fun l => (l.2.ents.filterMap (fun e => e)).filter mine)
    let bad := x.scan && (d.home.any (fun l => l.2.bad) || d.overflow.any (fun l => l.2.bad))
    let found := if x.scan then ents d.home ++ ents d.overflow else []
    let c1 := found.foldl (fun c e =>
      let d := c.deep x.fi
      let b := c.homeBucket e.tok
      match (d.chain b).find? (fun l => (d.line b l).ents.contains (some e)) with
      | some l => (((c.modDeep x.fi (fun d => d.remove b l e)).deepLeft e).died e.tok e.copy).count x.fi x.copy
                    (fun n => { n with orphans := sat32 n.orphans })
      | none => c) c
    let c2 := (if bad then c1.deepIntegrity x.fi else c1).modCtx key (fun y => { y with scan := false })
    if (c2.ctx key).live = 0 then
      c2.modCtx key (fun y => { Ctx.init with epoch := y.epoch })
    else c2

end Sys2Proof.Machine
end

