-- ==== Sys2Proof/Machine/Execute.lean ====
section
/-!
DEFINITION. The execute stage: the head firing of a tile (R264), the run-time check of its word (R342), the steering, compute, compare, predicate
and context instructions (R258–R261, R310–R312, R353–R364; Tables 6-6, 8-10).
-/
namespace Sys2Proof.Machine

/-! ### FORMs and the legality of a word (Tables 8-3 to 8-14, 9-5, 9-7, 9-11, 9-12) -/

/-- The FORMs an opcode permits; none for a reserved opcode (Tables 8-6, 8-7). -/
def opForms (op : Nat) : List Nat :=
  let u := [1]
  let b := [0, 2, 3]
  if op ≤ 0x08 then (if op == 1 || op == 2 || op == 4 then b else if op == 7 then [2] else u)
  else if op < 0x10 then []
  else if op ≤ 0x30 then (if 0x26 ≤ op && op ≤ 0x28 then u else b)
  else if op < 0x40 then []
  else if op ≤ 0x4E then (if op == 0x47 then [] else if op == 0x43 || op == 0x44 || op == 0x4B || op == 0x4C then u else b)
  else if op == 0x4F then []
  else if op ≤ 0x53 then (if op == 0x52 then b else u)
  else if op < 0x60 then []
  else if op ≤ 0x73 then
    (if op == 0x64 || (0x67 ≤ op && op ≤ 0x69) || (0x6D ≤ op && op ≤ 0x72) then u else b)
  else if op < 0x80 then []
  else if op ≤ 0x8D then (if op == 0x84 || op == 0x87 || op == 0x88 || 0x8C ≤ op then u else b)
  else if op < 0x90 then []
  else if op ≤ 0x96 then b
  else if op == 0x98 || op == 0x99 then u
  else if 0x9A ≤ op && op ≤ 0x9D then b
  else if op == 0x9E then [2]
  else if op == 0xA1 || op == 0xA5 then [0]
  else if 0xA0 ≤ op && op ≤ 0xA4 then [0, 1]
  else if op == 0xA6 || op == 0xA7 then u
  else if op == 0xC0 || op == 0xC1 then [0]
  else if op == 0xC3 then [1, 0, 2, 3]
  else if op == 0xC4 then b
  else if op == 0xC2 || (0xC5 ≤ op && op ≤ 0xC8) then u
  else if op == 0xD2 || op == 0xD6 || op == 0xD8 then [0]
  else if op == 0xD7 then [0, 1]
  else if 0xD0 ≤ op && op ≤ 0xD5 then u
  else if 0xE0 ≤ op && op ≤ 0xE6 then u
  else if 0xE8 ≤ op && op ≤ 0xEE then [0, 2]
  else []

/-- AUX is one of the values of Table 8-5 for the opcode and FORM (R340, R341, R368, R375, R387). -/
def auxOk (i : Image) (op form aux : Nat) : Bool :=
  if form = 2 then aux < i.consts.length
  else if form = 3 then aux < 32
  else if (0xA0 ≤ op && op ≤ 0xA5) || op == 0xA7 then
    (effAddr i.desc aux 0).isSome &&
    (aux / 32 != 3 || (let n := ((i.desc.rings[aux % 32]?).getD ⟨false, 0, 0⟩).len; n == 2 ^ n.log2 && 4 ≤ n && n ≤ 65536))
  else if op == 0xC0 || op == 0xC1 || op == 0xC2 then aux < 8 && ((i.desc.crcs[aux]?).map CrcDesc.used).getD false
  else if op == 0xD5 || op == 0xD6 then
    let role := aux / 8 % 4
    aux % 8 == 0 && role != 3 && (role == 0 || i.kloop.getD (aux / 32) 0 != 0) && !(op == 0xD6 && role == 1)
  else aux == 0

/-- Whether a fetched word holds no reserved value (R342). -/
def wordOk (i : Image) (w : Word) : Bool :=
  let op := Word.op w
  (opForms op).contains (Word.form w) &&
  (Word.ge w || (!Word.gs w && Word.gp w == 0 && !Word.vq w)) &&
  auxOk i op (Word.form w) (Word.aux w) &&
  (if opPred op then Word.dest0 w == 0 && Word.dest1 w < 8
   else if opSilent op then Word.dest0 w == 0 && Word.dest1 w == 0
   else Word.dest1 w == 0 || Word.dest1 w ≥ 32768)

/-- The firing at the head of a tile's pipeline, when its word is this opcode and legal, with the tile past it (R264). -/
def Chip.takeFiring (c : Chip) (tile op : Nat) : Option (Firing × Chip) :=
  match (c.tile tile).pipe with
  | f :: rest =>
    if Word.op f.word = op ∧ wordOk (c.image f.tok.fi) f.word then some (f, c.modTile tile (fun t => { t with pipe := rest })) else none
  | [] => none

/-- An instruction that consumes its operands and then acts. -/
def Chip.execute (c : Chip) (tile op : Nat) (g : Firing → Chip → Chip) : Chip :=
  match c.takeFiring tile op with
  | none => c
  | some (f, c1) => g f (c1.consume f)

/-- The R operand as Table 6-9 sees it: absent in FORM 01. -/
def Firing.rOpnd (f : Firing) : Option Opnd := if Word.form f.word = 1 then none else some f.r

/-- A compute instruction (R270, R349–R352): VOID and POISON combine, otherwise DATA with the counts of R351. -/
def Chip.compute (c : Chip) (tile op : Nat) (g : Word → Word → Res) : Chip :=
  c.execute tile op (fun f c =>
    match combine f.tok.op f.rOpnd with
    | some o => c.emit f o
    | none =>
      let r := g f.tok.op.data f.r.data
      (c.count f.tok.fi f.copy (fun n => n.addRes r)).emit f ⟨.data, r.data⟩)

/-- The value a predicate writer writes: 0 for a VOID or POISON operand (R270, Table 8-14). -/
def Firing.predValue (f : Firing) (g : Word → Word → Bool) : Bool :=
  match combine f.tok.op f.rOpnd with
  | some _ => false
  | none => g f.tok.op.data f.r.data

/-- A predicate writer (R270, R363, R364). -/
def Chip.predicate (c : Chip) (tile op : Nat) (overwrite : Bool) (g : Word → Word → Bool) : Chip :=
  c.execute tile op (fun f c => c.predWrite f.tok f.copy (Word.dest1 f.word % 8) (f.predValue g) overwrite)

/-- A reserved or corrupt word at the head of the pipeline: the operands are consumed, nothing is emitted (R342). -/
def Chip.reservedWord (c : Chip) (tile : Nat) (corrupt : Bool) : Chip :=
  match (c.tile tile).pipe with
  | [] => c
  | f :: rest =>
    if corrupt || !wordOk (c.image f.tok.fi) f.word then
      ((c.modTile tile (fun t => { t with pipe := rest })).consume f).instrIntegrity f.tok.fi tile [⟨"WORD", .hex 16 f.word.toNat⟩]
    else c

/-! ### Steering (Table 8-10) -/

def Chip.steer (c : Chip) (tile : Nat) : Chip :=
  c.execute tile 0x01 (fun f c =>
    match controlKind f.r with
    | some o => c.emit f o
    | none =>
      let ds := if f.r.data.toNat % 2 = 1 then [Dest.of24 (Word.dest0 f.word)] else (Word.second f.word).toList
      c.emitTo f ds f.tok.op f.tok.colour f.tok.epoch f.tok.frame)

def Chip.gate (c : Chip) (tile : Nat) : Chip :=
  c.execute tile 0x02 (fun f c => c.emit f ((controlKind f.r).getD f.tok.op))

/-- KSET (R354–R356, R247): a VOID or POISON data operand is routed as it is, for KTEST alone turns those kinds into DATA. -/
def Chip.kset (c : Chip) (tile : Nat) : Chip :=
  c.execute tile 0x04 (fun f c =>
    match controlKind f.r with
    | some o => c.emit f o
    | none =>
      let k := Kind.ofCode (f.r.data.toNat % 8)
      if k.reserved then (c.misbehaves f.tok.fi).raise 3 f.tok.fi (some f.tok.fi) [fNat "KIND" k.code]
      else if f.tok.op.kind = .void ∨ f.tok.op.kind = .poison then c.emit f f.tok.op
      else match k with
        | .void => c.emit f Opnd.void
        | .poison => c.emit f ⟨.poison, BitVec.ofNat 64 (f.tok.op.data.toNat % 4096)⟩
        | k => c.emit f ⟨k, f.tok.op.data⟩)

/-- TIME data of the present cycle (Table 6-2). -/
def Chip.timeData (c : Chip) : Word := BitVec.ofNat 64 (1073741824 * (c.clk.anchor.sec % 17179869184) + c.clk.anchor.ns)

/-- LIT: the constant with its own kind; L only triggers. -/
def Chip.lit (c : Chip) (tile : Nat) : Chip :=
  c.execute tile 0x07 (fun f c => c.emit f ((controlKind f.tok.op).getD f.r))

/-! ### Contexts and iteration (Table 6-6) -/

/-- CPUT: L re-addressed into the context R names (R258, R261, R262). -/
def Chip.cput (c : Chip) (tile : Nat) : Chip :=
  c.execute tile 0xD2 (fun f c =>
    match controlKind f.r with
    | some o => c.emit f ⟨o.kind, if o.kind = .void then 0 else f.tok.op.data⟩
    | none =>
      let n := f.r.data.toNat
      let frame := n % 32768
      let x := c.ctx (ctxKey (c.copy f.tok.fi f.copy).cluster frame)
      if x.st ≠ .free ∧ (x.fi ≠ f.tok.fi ∨ x.copy ≠ f.copy) then c.raise 2 f.tok.fi (some f.tok.fi) [fNat "TILE" tile]
      else c.emitTo f (Word.dests f.word) f.tok.op 0 (n / 32768 % 2 == 1) frame)

/-- CREL: releases the firing's context; one already released is a refused free (R258, R259, R451). -/
def Chip.crel (c : Chip) (tile : Nat) : Chip :=
  c.execute tile 0xD3 (fun f c =>
    if c.ctxLive f.tok f.copy then (c.releaseCtx (c.ctxOf f.tok f.copy)).afterRelease f.tok.fi
    else (c.misbehaves f.tok.fi).raise 128 f.tok.fi (some f.tok.fi) [fNat "FRAME" f.tok.frame])

/-- The credit of a loop: retire of a live iteration returns one; one that would make n(l) negative is discarded with the loop-count fault. -/
def Chip.retire (c : Chip) (f : Firing) (l : Nat) : Chip :=
  let key := c.ctxOf f.tok f.copy
  if !c.ctxLive f.tok f.copy then c
  else if (c.ctx key).loops.get 0 l = 0 then (c.misbehaves f.tok.fi).raise 10 f.tok.fi (some f.tok.fi) [fNat "LOOP" l]
  else (c.modCtx key (fun x => { x with loops := x.loops.put 0 l (x.loops.get 0 l - 1) })).modCopy f.tok.fi f.copy
    (fun p => { p with credit := p.credit + 1 })

/-- Holds a source firing as a CREDIT entry with its credit request (R312); with no place it returns as the token it came from (R292). -/
def Chip.holdSource (c : Chip) (f : Firing) (credit frame : Bool) : Chip :=
  let item : QItem := { tok := f.tok, copy := f.copy, partner := some f.r, matched := true, arrival := c.fab.nextId, grant := f.grant }
  let c0 := c.freshId.2
  match c0.place f.tile .credit item (if credit then .credit else .frame) with
  | .full c1 => c1.noPlace f.tile item
  | .ok c1 =>
    let id := ((c1.tile f.tile).store.getLast?.map Entry.id).getD 0
    let c2 := c1.count f.tok.fi f.copy (fun n => { n with held := sat32 n.held })
    if credit then c2.fab' (fun g => { g with creditQ := g.creditQ ++ [(f.tok.fi, f.copy, f.tile, id)] })
    else if frame then c2.modPool (c.copy f.tok.fi f.copy).cluster (fun p => { p with waiting := p.waiting ++ [(f.tile, id)] })
    else c2

/-- INEXT (R258, R273, R310–R312): the gate role needs n(l) < k and a credit. -/
def Chip.inext (c : Chip) (tile : Nat) : Chip :=
  match c.takeFiring tile 0xD5 with
  | none => c
  | some (f, c1) =>
    let aux := Word.aux f.word
    let l := aux / 32
    let fi := f.tok.fi
    let next (c : Chip) : Chip := c.emitTo f (Word.dests f.word) f.tok.op ((f.tok.colour + 1) % 256) f.tok.epoch f.tok.frame
    match aux / 8 % 4 with
    | 1 =>
      let key := c1.ctxOf f.tok f.copy
      let k := (c1.image fi).kloop.getD l 0
      if (c1.ctx key).loops.get 0 l ≥ k then
        -- the k bound holds the firing; the credit it may hold already returns (R311, R312)
        ((c1.ungrant fi f.copy f.grant).holdSource { f with grant := ⟨false, none⟩ } true false)
      else if f.grant.credit then
        next ((c1.consume f).modCtx key (fun x => { x with loops := x.loops.put 0 l (x.loops.get 0 l + 1) }))
      else if (c1.copy fi f.copy).credit = 0 ∨ (c1.fi fi).deepHold ∨ c1.fab.creditQ.any (fun q => q.1 == fi && q.2.1 == f.copy) then
        c1.holdSource f true false
      else
        next (((c1.consume f).modCopy fi f.copy (fun p => { p with credit := p.credit - 1 })).modCtx key
          (fun x => { x with loops := x.loops.put 0 l (x.loops.get 0 l + 1) }))
    | 2 => next ((c1.consume f).retire f l)
    | _ => next (c1.consume f)

/-- ISET (R258, R310): colour R[7:0], optionally retiring an iteration. -/
def Chip.iset (c : Chip) (tile : Nat) : Chip :=
  c.execute tile 0xD6 (fun f c =>
    let aux := Word.aux f.word
    let c1 := if aux / 8 % 4 = 2 then c.retire f (aux / 32) else c
    match controlKind f.r with
    | some o => c1.emit f o
    | none => c1.emitTo f (Word.dests f.word) f.tok.op (f.r.data.toNat % 256) f.tok.epoch f.tok.frame)

/-- The CTX field of a context. -/
def ctxField (epoch : Bool) (frame : Nat) : Word := BitVec.ofNat 64 ((if epoch then 32768 else 0) + frame)

/-- A granted CNEW: the child inherits period and deadline, and its CTX is emitted (R254, R258). -/
def Chip.cnewDone (c : Chip) (f : Firing) (frame : Nat) : Chip :=
  let key := ctxKey (c.copy f.tok.fi f.copy).cluster frame
  let p := c.ctx (c.ctxOf f.tok f.copy)
  let c1 := c.modCtx key (fun x => { x with kind := .child, period := p.period, deadline := p.deadline })
  c1.emit f ⟨.data, ctxField (c1.ctx key).epoch frame⟩

/-- CNEW (R258, R260, R310, R312): credit, then a frame; what it lacks it waits for as a CREDIT entry. -/
def Chip.cnew (c : Chip) (tile : Nat) : Chip :=
  match c.takeFiring tile 0xD0 with
  | none => c
  | some (f, c1) =>
    let fi := f.tok.fi
    match combine f.tok.op none with
    | some o => ((c1.consume f).ungrant fi f.copy f.grant).emit f o
    | none =>
      match f.grant.frame with
      | some fr => (c1.consume f).cnewDone f fr
      | none =>
        if (c1.copy fi f.copy).credit = 0 ∨ (c1.fi fi).deepHold ∨ c1.fab.creditQ.any (fun q => q.1 == fi && q.2.1 == f.copy) then
          c1.holdSource f true false
        else
          let c2 := c1.modCopy fi f.copy (fun p => { p with credit := p.credit - 1 })
          match (if (c2.framePool (c2.copy fi f.copy).cluster).waiting.isEmpty then c2.allocFrame fi f.copy else none) with
          | some fr => ((c2.consume f).openCtx fi f.copy fr .child none none).cnewDone f fr
          | none => c2.holdSource { f with grant := ⟨true, none⟩ } false true

/-- PERIOD_DONE messages at the deadline watch: FI, copy, period (R258, R322). -/
def Chip.pdone (c : Chip) (tile : Nat) : Chip :=
  c.execute tile 0xD4 (fun f c =>
    match (c.ctx (c.ctxOf f.tok f.copy)).period with
    | some p => c.fab' (fun g => { g with dones := g.dones ++ [(f.tok.fi, f.copy, p)] })
    | none => c)

/-- A PERIOD_DONE reaches the deadline watch (R211, R212, R217, R322). -/
def Chip.periodDone (c : Chip) : Chip :=
  match c.fab.dones with
  | [] => c
  | (fi, k, pid) :: rest =>
    let c0 := c.fab' (fun g => { g with dones := rest })
    if (c0.fiCfg fi).cls ≠ 0 then c0.modFi fi (fun x => { x with pdones := sat32 x.pdones })
    else
      match (c0.fi fi).opens.find? (fun p => p.id == pid) with
      | none => c0
      | some p =>
        if p.done.getD k false then (c0.misbehaves fi).raise 19 fi (some fi) [fNat "PERIOD" pid]
        else
          let p' := { p with done := p.done.set k true }
          let all := p'.done.all (fun b => b)
          let inTime := match p.deadline with | some d => decide (c.clk.cycle ≤ d) | none => true
          let c1 := c0.modFi fi (fun x => { x with
            opens := x.opens.map (fun q => if q.id = pid then p' else q),
            periods := if all then (x.periods + 1) % 4294967296 else x.periods,
            aliveFail := if all && inTime then false else x.aliveFail })
          let c2 := if (all && (c1.fiCfg fi).period == .goose) = true then c1.startPendGoose fi else c1
          c2.closePeriods fi

/-- A P0 deadline passes without PERIOD_DONE (R217, R322): the watch raises the fault in the first cycle after the deadline. -/
def Chip.deadlineOverrun (c : Chip) (fi : Nat) : Chip :=
  match ((c.fi fi).opens.filter Period.onWatch).foldl (fun (a : Option Period) p => match a with
      | none => some p
      | some q => if p.deadline.getD 0 < q.deadline.getD 0 then some p else a) none with
  | none => c
  | some p =>
    if !(c.fi fi).st.active then c
    else
      let c1 := c.advanceTo (p.deadline.getD 0 + 1)
      let c2 := c1.modFi fi (fun x => { x with
        opens := x.opens.map (fun q => if q.id = p.id then { q with overrun := true } else q),
        overruns := sat32 x.overruns, aliveFail := true })
      let what : Fld := if (c.fiCfg fi).period = .sv then fNat "SMPCNT" p.id else fTime "START" (p.stamp.sec, p.stamp.ns)
      let c3 := (List.range p.done.length).foldl (fun c k =>
        if p.done.getD k false then c else c.raise 13 (2 * fi + k) (some fi) [fSym "COPY" (copyName k), what]) c2
      c3.closePeriods fi

end Sys2Proof.Machine
end

