-- ==== Sys2Proof/Machine/Memory.lean ====
section
/-!
DEFINITION. The addressed memories: octets in canonical form, words with presence and poison, granule maps and owner checks (R403–R409, R413, R416–R424).
-/
namespace Sys2Proof.Machine

/-! ### Octets: addresses strictly rising, no zero octet listed -/

/-- The octet at an address; an unlisted one reads zero (R406, R414, R773). -/
def cellGet : List Host.Cell → Nat → Byte
  | [], _ => 0
  | (k, v) :: t, a => if a = k then v else cellGet t a

/-- Puts an octet that is not zero in its place. -/
def cellIns : List Host.Cell → Nat → Byte → List Host.Cell
  | [], a, b => [(a, b)]
  | (k, v) :: t, a, b =>
    if a < k then (a, b) :: (k, v) :: t
    else if a = k then (a, b) :: t
    else (k, v) :: cellIns t a b

/-- Takes an address out of the list. -/
def cellDel : List Host.Cell → Nat → List Host.Cell
  | [], _ => []
  | (k, v) :: t, a => if a = k then t else (k, v) :: cellDel t a

/-- Writes an octet: zero, what an unlisted address reads as, is unlisted. -/
def cellPut (l : List Host.Cell) (a : Nat) (b : Byte) : List Host.Cell := if b = 0 then cellDel l a else cellIns l a b

/-- Writes octets from an address upward. -/
def cellPuts (l : List Host.Cell) : Nat → List Byte → List Host.Cell
  | _, [] => l
  | a, b :: bs => cellPuts (cellPut l a b) (a + 1) bs

/-- Addresses strictly rise and no octet is zero. -/
def cellWf : List Host.Cell → Bool
  | [] => true
  | [(_, v)] => v != 0
  | (k, v) :: (k', v') :: t => k < k' && v != 0 && cellWf ((k', v') :: t)

/-- The canonical form of the addressed memories. -/
def Mem.wf (m : Mem) : Bool := cellWf m.sram && cellWf m.dram

/-- The eight octets of a word, most significant first (R6). -/
def wordOctets (w : Word) : List Byte :=
  [w.extractLsb' 56 8, w.extractLsb' 48 8, w.extractLsb' 40 8, w.extractLsb' 32 8, w.extractLsb' 24 8, w.extractLsb' 16 8,
   w.extractLsb' 8 8, w.extractLsb' 0 8]

/-- The word of eight octets at an address. -/
def wordAt (l : List Host.Cell) (a : Nat) : Word :=
  cellGet l a ++ cellGet l (a + 1) ++ cellGet l (a + 2) ++ cellGet l (a + 3) ++ cellGet l (a + 4) ++ cellGet l (a + 5) ++ cellGet l (a + 6)
    ++ cellGet l (a + 7)

/-- Writes a word at an address. -/
def wordPut (l : List Host.Cell) (a : Nat) (w : Word) : List Host.Cell := cellPuts l a (wordOctets w)

/-! ### Structure memory (R403–R409) -/

/-- Half of a structure word: A 0, B 1 (R403). -/
def wordHalf (w : Nat) : Nat := w / 4194304
/-- The word lies in a half that a forced OFF has left poisoned, and nothing has written it since (R777). -/
def Mem.halfLost (m : Mem) (w : Nat) : Bool := m.sbad.contains (wordHalf w) && !m.sclean.contains w
/-- Notes that a word is written or emptied. -/
def Mem.cleanWord (m : Mem) (w : Nat) : List Nat := if m.halfLost w then insNat m.sclean w else m.sclean
/-- A structure word is present: a poisoned one counts as present (R409). -/
def Mem.present' (m : Mem) (w : Nat) : Bool := m.present.contains w || m.halfLost w
/-- What a read of a present structure word returns (R409). -/
def Mem.sread (m : Mem) (w : Nat) : Opnd :=
  if m.halfLost w then Opnd.poison 65
  else match m.spoison.find w with
    | some src => Opnd.poison src
    | none => ⟨.data, wordAt m.sram (8 * w)⟩
/-- Stores a structure word: presence set, poison gone (R380, R409). -/
def Mem.swrite (m : Mem) (w : Nat) (v : Word) : Mem :=
  { m with sram := wordPut m.sram (8 * w) v, present := insNat m.present w, spoison := m.spoison.del w, sclean := m.cleanWord w }
/-- Empties a structure word. -/
def Mem.sempty (m : Mem) (w : Nat) : Mem :=
  { m with present := m.present.filter (· != w), spoison := m.spoison.del w, sclean := m.cleanWord w }
/-- Poisons a structure word, which counts as present (R409). -/
def Mem.spoisonWord (m : Mem) (w src : Nat) : Mem := { m with present := insNat m.present w, spoison := m.spoison.set w src }
/-- A half is set to its reset content: zero and empty (R773). -/
def Mem.clearHalf (m : Mem) (h : Nat) : Mem :=
  { m with
    sram := m.sram.filter (fun e => e.1 / 33554432 != h), present := m.present.filter (fun w => wordHalf w != h),
    spoison := m.spoison.filter (fun e => wordHalf e.1 != h), sbad := m.sbad.filter (· != h), sclean := m.sclean.filter (fun w => wordHalf w != h) }
/-- Every word of a half reads as poisoned until it is written (R777, Table 20-3). -/
def Mem.loseHalf (m : Mem) (h : Nat) : Mem := { m.clearHalf h with sbad := insNat m.sbad h }

/-- The owner record of a granule; the unit part belongs to the unit (R403, R406). -/
def Mem.owner (m : Mem) (g : Nat) : GranOwner := m.granules.get (if g ≥ 15872 then .unit else .free) g

/-- Clears a granule to zero and empty and sets its owner (R406). -/
def Mem.clearGranule (m : Mem) (g : Nat) (o : GranOwner) : Mem :=
  let lo := 4096 * g
  { m with
    sram := m.sram.filter (fun e => e.1 < lo || 4096 + lo ≤ e.1),
    present := m.present.filter (fun w => w < g * 512 || g * 512 + 512 ≤ w),
    spoison := m.spoison.filter (fun e => e.1 < g * 512 || g * 512 + 512 ≤ e.1),
    sclean := if m.sbad.contains (wordHalf (g * 512)) then (List.range 512).foldl (fun l i => insNat l (g * 512 + i)) m.sclean else m.sclean,
    granules := if o = (if g ≥ 15872 then .unit else .free) then m.granules.del g else m.granules.set g o }

/-! ### DRAM lines (R416–R424) -/

/-- Pseudo-channel group of an address (R411). -/
def groupOf (a : Nat) : Nat := (a / 256 % 64) ^^^ (a / 16384 % 64) ^^^ (a / 1048576 % 64) ^^^ (a / 67108864 % 64)
/-- The fault source a poisoned line carries: one set on the line, or the loss of its group's stack (R421, R777). -/
def Mem.linePoison (m : Mem) (line : Nat) : Option Nat :=
  match m.dpoison.find line with
  | some s => some s
  | none => if m.dbad.contains (groupOf (64 * line)) && !m.dclean.contains line then some 67 else none
/-- Clears a line's poison. -/
def Mem.cleanLine (m : Mem) (line : Nat) : Mem :=
  { m with dpoison := m.dpoison.del line,
           dclean := if m.dbad.contains (groupOf (64 * line)) && !m.dclean.contains line then insNat m.dclean line else m.dclean }
/-- Every line of a stack's 16 groups is poisoned (R777, Table 20-3). -/
def Mem.loseGroups (m : Mem) (gs : List Nat) : Mem :=
  { m with dbad := gs.foldl insNat m.dbad, dclean := m.dclean.filter (fun l => !gs.contains (groupOf (64 * l))) }

/-- Clears a 1 MiB granule with zero data and its tag (R414). -/
def Mem.clearPriv (m : Mem) (g : Nat) (o : LineOwner) : Mem :=
  let lo := 1048576 * g
  { m with
    dram := m.dram.filter (fun e => e.1 < lo || 1048576 + lo ≤ e.1),
    dpoison := m.dpoison.filter (fun e => e.1 < 16384 * g || 16384 + 16384 * g ≤ e.1),
    dclean := if m.dbad.isEmpty then m.dclean else (List.range 16384).foldl (fun l i => insNat l (16384 * g + i)) m.dclean,
    pgranules := if o = .free then m.pgranules.del g else m.pgranules.set g o }

/-- What a DRAM load of a word returns (R421, R424). -/
def Mem.dread (m : Mem) (a : Nat) : Opnd :=
  match m.linePoison (a / 64) with
  | some src => Opnd.poison src
  | none => ⟨.data, wordAt m.dram a⟩

/-- Writes words of a line, by word number. -/
def Mem.dwrite (m : Mem) (line : Nat) (ws : Tbl Word) : Mem :=
  { m with dram := ws.foldl (fun l w => wordPut l (64 * line + 8 * w.1) w.2) m.dram }

end Sys2Proof.Machine
end

