-- ==== Sys2Proof/Machine/Effects.lean ====
section
/-!
DEFINITION. How the effect of a command on the unit becomes a step: a unit without power takes no command but the power-on (R164, R761, R764).
-/
namespace Sys2Proof.Machine

/-- What a command comes to. -/
abbrev Result := Host.Outcome State Fault Refusal

/-- An effect on the unit and its memories. -/
def State.onCM (s : State) (f : Chip × Mem → Chip × Mem) : Result :=
  if s.u.sup.powered then
    let r := f (s.u, s.mem)
    .next { s with u := r.1, mem := r.2 }
  else .next s

/-- An effect that leaves the addressed memories as they are. -/
def State.onChip (s : State) (f : Chip → Chip) : Result := if s.u.sup.powered then .next { s with u := f s.u } else .next s

/-- The effect of power coming on. -/
def State.onPower (s : State) (f : Chip × Mem → Chip × Mem) : Result :=
  let r := f (s.u, s.mem)
  .next { s with u := r.1, mem := r.2 }

end Sys2Proof.Machine
end

