-- ==== Sys2Proof/Machine/Float.lean ====
section
/-!
DEFINITION. What the floating-point instructions compute (R360, R361, Table 8-13): IEEE 754-2019 binary32 and binary64, round to nearest with ties to
even, by exact integers and one rounding.
-/
namespace Sys2Proof.Machine

/-- A binary format: precision in bits and the largest exponent. -/
structure FFmt where
  p : Nat
  emax : Nat
  width : Nat

def f32 : FFmt := ⟨24, 127, 32⟩
def f64 : FFmt := ⟨53, 1023, 64⟩

/-- A value taken apart: NaN, infinity, or sign, integer mantissa and exponent of two. -/
inductive FVal
  | nan (signalling : Bool)
  | inf (neg : Bool)
  | fin (neg : Bool) (m : Nat) (e : Int)
deriving DecidableEq, Repr

/-- The exponent of the last place of the subnormal numbers. -/
def FFmt.qmin (f : FFmt) : Int := 2 - (f.emax : Int) - f.p

/-- Takes the low bits of a word apart in a format. -/
def FFmt.unpack (f : FFmt) (w : Word) : FVal :=
  let x := w.toNat % 2 ^ f.width
  let frac := x % 2 ^ (f.p - 1)
  let ex := x / 2 ^ (f.p - 1) % (2 * f.emax + 2)
  let neg := x / 2 ^ (f.width - 1) == 1
  if ex = 2 * f.emax + 1 then
    (if frac = 0 then .inf neg else .nan (frac / 2 ^ (f.p - 2) == 0))
  else if ex = 0 then .fin neg frac f.qmin
  else .fin neg (frac + 2 ^ (f.p - 1)) (f.qmin + ex - 1)

/-- The canonical quiet NaN (R360). -/
def FFmt.nan (f : FFmt) : Word := BitVec.ofNat 64 ((2 * f.emax + 1) * 2 ^ (f.p - 1) + 2 ^ (f.p - 2))
/-- The sign bit's weight. -/
def FFmt.sgn (f : FFmt) (neg : Bool) : Nat := if neg then 2 ^ (f.width - 1) else 0
def FFmt.inf (f : FFmt) (neg : Bool) : Word := BitVec.ofNat 64 ((2 * f.emax + 1) * 2 ^ (f.p - 1) + f.sgn neg)
def FFmt.zero (f : FFmt) (neg : Bool) : Word := BitVec.ofNat 64 (f.sgn neg)

/-- n / d rounded to nearest, ties to even. -/
def rne (n d : Nat) : Nat :=
  let q := n / d
  let r := n % d
  if 2 * r < d then q else if 2 * r > d then q + 1 else q + q % 2

/-- floor(log2(n / d)) for positive n and d. -/
def log2Ratio (n d : Nat) : Int :=
  let k : Int := (n.log2 : Int) - d.log2
  if (if k ≥ 0 then n < d * 2 ^ k.toNat else n * 2 ^ (-k).toNat < d) then k - 1 else k

/-- The correctly rounded result of the exact positive value n / d, with the overflow count of R361. -/
def FFmt.round (f : FFmt) (neg : Bool) (n d : Nat) : Res :=
  if n = 0 then .pure (f.zero neg)
  else
    let qe := max (log2Ratio n d - (f.p - 1)) f.qmin
    let m := if qe ≥ 0 then rne n (d * 2 ^ qe.toNat) else rne (n * 2 ^ (-qe).toNat) d
    let (m, qe) := if m = 2 ^ f.p then (m / 2, qe + 1) else (m, qe)
    if m < 2 ^ (f.p - 1) then .pure (BitVec.ofNat 64 (m + f.sgn neg))
    else
      let ex := (qe - f.qmin + 1).toNat
      if ex > 2 * f.emax then { data := f.inf neg, fovf := true }
      else .pure (BitVec.ofNat 64 (ex * 2 ^ (f.p - 1) + (m - 2 ^ (f.p - 1)) + f.sgn neg))

/-- The exact value m × 2^e rounded. -/
def FFmt.roundExp (f : FFmt) (neg : Bool) (m : Nat) (e : Int) : Res :=
  if e ≥ 0 then f.round neg (m * 2 ^ e.toNat) 1 else f.round neg m (2 ^ (-e).toNat)

def FVal.isNan : FVal → Bool | .nan _ => true | _ => false
def FVal.isSig : FVal → Bool | .nan s => s | _ => false

/-- A signalling NaN among the operands counts one FINV (R360). -/
def nanRes (f : FFmt) (a b : FVal) : Res := { data := f.nan, finv := a.isSig || b.isSig }

/-- A signed mantissa. -/
def sgnI (neg : Bool) (m : Nat) : Int := if neg then -(m : Int) else m

def FFmt.addV (f : FFmt) (a b : FVal) : Res :=
  match a, b with
  | .nan _, _ | _, .nan _ => nanRes f a b
  | .inf x, .inf y => if x = y then .pure (f.inf x) else { data := f.nan, finv := true }
  | .inf x, _ => .pure (f.inf x)
  | _, .inf y => .pure (f.inf y)
  | .fin x m e, .fin y n g =>
    let lo := min e g
    let s := sgnI x (m * 2 ^ (e - lo).toNat) + sgnI y (n * 2 ^ (g - lo).toNat)
    if s = 0 then .pure (f.zero (m == 0 && n == 0 && x && y)) else f.roundExp (s < 0) s.natAbs lo

def FVal.neg : FVal → FVal
  | .nan s => .nan s
  | .inf x => .inf (!x)
  | .fin x m e => .fin (!x) m e

def FFmt.mulV (f : FFmt) (a b : FVal) : Res :=
  match a, b with
  | .nan _, _ | _, .nan _ => nanRes f a b
  | .inf x, .inf y => .pure (f.inf (x != y))
  | .inf x, .fin y n _ => if n = 0 then { data := f.nan, finv := true } else .pure (f.inf (x != y))
  | .fin x m _, .inf y => if m = 0 then { data := f.nan, finv := true } else .pure (f.inf (x != y))
  | .fin x m e, .fin y n g => f.roundExp (x != y) (m * n) (e + g)

def FFmt.divV (f : FFmt) (a b : FVal) : Res :=
  match a, b with
  | .nan _, _ | _, .nan _ => nanRes f a b
  | .inf _, .inf _ => { data := f.nan, finv := true }
  | .inf x, .fin y _ _ => .pure (f.inf (x != y))
  | .fin x _ _, .inf y => .pure (f.zero (x != y))
  | .fin x m e, .fin y n g =>
    if n = 0 then (if m = 0 then { data := f.nan, finv := true } else { data := f.inf (x != y), fdz := true })
    else if e ≥ g then f.round (x != y) (m * 2 ^ (e - g).toNat) n else f.round (x != y) m (n * 2 ^ (g - e).toNat)

/-- The integer square root of x below 4^k, from the top bit down. -/
def isqrt : Nat → Nat → Nat → Nat
  | 0, _, r => r
  | k + 1, x, r => let c := r + 2 ^ k; if c * c ≤ x then isqrt k x c else isqrt k x r

/-- The correctly rounded square root of m × 2^e, m not zero: the root is taken to more than p + 2 bits, and an inexact one stands half a place higher,
which lies on the same side of every rounding boundary. -/
def FFmt.sqrtPos (f : FFmt) (m : Nat) (e : Int) : Res :=
  let k := 2 * f.p + 8
  let up := k + (if (e - k) % 2 = 0 then 0 else 1)
  let x := m * 2 ^ up
  let half := (e - up) / 2
  let r := isqrt (x.log2 / 2 + 1) x 0
  if r * r = x then f.roundExp false r half else f.roundExp false (2 * r + 1) (half - 1)

def FFmt.sqrtV (f : FFmt) (a : FVal) : Res :=
  match a with
  | .nan s => { data := f.nan, finv := s }
  | .inf true => { data := f.nan, finv := true }
  | .inf false => .pure (f.inf false)
  | .fin x m e => if m = 0 then .pure (f.zero x) else if x then { data := f.nan, finv := true } else f.sqrtPos m e

/-- The hypotenuse, infinite when either operand is, NaN otherwise when either is (Table 8-13). -/
def FFmt.hypotV (f : FFmt) (a b : FVal) : Res :=
  match a, b with
  | .inf _, _ | _, .inf _ => { data := f.inf false, finv := a.isSig || b.isSig }
  | .nan _, _ | _, .nan _ => nanRes f a b
  | .fin _ m e, .fin _ n g =>
    let lo := min e g
    let s := (m * 2 ^ (e - lo).toNat) ^ 2 + (n * 2 ^ (g - lo).toNat) ^ 2
    if s = 0 then .pure (f.zero false) else f.sqrtPos s (2 * lo)

/-- The order of two values that are not NaN: a < b, with -0 equal to +0. -/
def FVal.lt : FVal → FVal → Bool
  | .inf true, .inf true => false
  | .inf true, _ => true
  | .inf false, _ => false
  | _, .inf y => !y
  | .fin x m e, .fin y n g =>
    let lo := min e g
    sgnI x (m * 2 ^ (e - lo).toNat) < sgnI y (n * 2 ^ (g - lo).toNat)
  | _, _ => false

def FVal.isNeg : FVal → Bool
  | .nan _ => false
  | .inf x => x
  | .fin x _ _ => x

def FFmt.cmp (f : FFmt) (rel : FVal → FVal → Bool) (l r : Word) : Res :=
  let a := f.unpack l
  let b := f.unpack r
  if a.isNan || b.isNan then { data := 0, finv := a.isSig || b.isSig } else .pure (bit (rel a b))

def FVal.eqv (a b : FVal) : Bool := !a.lt b && !b.lt a
def FVal.lev (a b : FVal) : Bool := !b.lt a

/-- minimumNumber and maximumNumber, -0 ordering below +0 (Table 8-13). -/
def FFmt.minmax (f : FFmt) (wantMax : Bool) (l r : Word) : Res :=
  let a := f.unpack l
  let b := f.unpack r
  let lo := BitVec.ofNat 64 (l.toNat % 2 ^ f.width)
  let ro := BitVec.ofNat 64 (r.toNat % 2 ^ f.width)
  let inv := a.isSig || b.isSig
  if a.isNan && b.isNan then { data := f.nan, finv := inv }
  else if a.isNan then { data := ro, finv := inv }
  else if b.isNan then { data := lo, finv := inv }
  else
    let less := a.lt b || (a.eqv b && a.isNeg && !b.isNeg)
    .pure (if less != wantMax then lo else ro)

/-- Sign bit inverted or cleared, NaN included. -/
def FFmt.negW (f : FFmt) (l : Word) : Word :=
  let x := l.toNat % 2 ^ f.width
  BitVec.ofNat 64 (if x ≥ 2 ^ (f.width - 1) then x - 2 ^ (f.width - 1) else x + 2 ^ (f.width - 1))
def FFmt.absW (f : FFmt) (l : Word) : Word := BitVec.ofNat 64 (l.toNat % 2 ^ (f.width - 1))

/-- To I64, rounded toward zero, saturated; NaN or out of range counts one FINV. -/
def FFmt.toI64 (f : FFmt) (l : Word) : Res :=
  match f.unpack l with
  | .nan _ => { data := 0, finv := true }
  | .inf x => { data := ofI (if x then -(2 ^ 63) else 2 ^ 63 - 1), finv := true }
  | .fin x m e =>
    let t := sgnI x (if e ≥ 0 then m * 2 ^ e.toNat else m / 2 ^ (-e).toNat)
    let r := satI 64 t
    { data := r.data, finv := r.sat }

/-- From a signed integer over 2^s, rounded. -/
def FFmt.ofInt (f : FFmt) (i : Int) (s : Nat) : Res := f.round (i < 0) i.natAbs (2 ^ s)

/-- FP32 to Q31, rounded to nearest even and saturated. -/
def fToQ (l : Word) : Res :=
  match f32.unpack l with
  | .nan _ => { data := 0, finv := true }
  | .inf x => { data := ofI (if x then -(2 ^ 31) else 2 ^ 31 - 1), sat := true }
  | .fin x m e =>
    let e := e + 31
    satI 32 (sgnI x (if e ≥ 0 then m * 2 ^ e.toNat else rne m (2 ^ (-e).toNat)))

/-- Between the formats (F2D exact, D2F rounded). -/
def FFmt.convert (src dst : FFmt) (l : Word) : Res :=
  match src.unpack l with
  | .nan s => { data := dst.nan, finv := s }
  | .inf x => .pure (dst.inf x)
  | .fin x m e => if m = 0 then .pure (dst.zero x) else dst.roundExp x m e

def FFmt.add (f : FFmt) (l r : Word) : Res := f.addV (f.unpack l) (f.unpack r)
def FFmt.sub (f : FFmt) (l r : Word) : Res := f.addV (f.unpack l) (f.unpack r).neg
def FFmt.mul (f : FFmt) (l r : Word) : Res := f.mulV (f.unpack l) (f.unpack r)
def FFmt.div (f : FFmt) (l r : Word) : Res := f.divV (f.unpack l) (f.unpack r)
def FFmt.sqrt (f : FFmt) (l : Word) : Res := f.sqrtV (f.unpack l)

end Sys2Proof.Machine
end

