-- ==== Sys2Proof/Machine/Text.lean ====
section
/-!
DEFINITION. How a field is written: Trevline output (R29, R31, R64) and the details of cairn records (R728), with the record's limit of 100 characters.
-/
namespace Sys2Proof.Machine

/-- Digits of a base in capitals, exactly n of them. -/
def digitChar (d : Nat) : Char := if d < 10 then Char.ofNat (48 + d) else Char.ofNat (55 + d)
def digitsText (base n v : Nat) : List Char := (List.range n).map (fun i => digitChar (v / base ^ (n - 1 - i) % base))
def natText (n : Nat) : List Char := (toString n).toList
def intText (i : Int) : List Char := if i < 0 then '-' :: natText i.natAbs else natText i.toNat
/-- A quoted string with its escapes (R29). -/
def quoted (l : List Char) : List Char := '"' :: l.flatMap (fun c => if c = '"' ∨ c = '\\' then ['\\', c] else [c]) ++ ['"']
/-- A duration in its largest whole unit. -/
def durText (ns : Nat) : List Char :=
  if ns % 1000000000 = 0 then natText (ns / 1000000000) ++ ['s']
  else if ns % 1000000 = 0 then natText (ns / 1000000) ++ ['m', 's']
  else if ns % 1000 = 0 then natText (ns / 1000) ++ ['u', 's'] else natText ns ++ ['n', 's']
def commas (l : List (List Char)) : List Char := List.intercalate [','] l

/-- A value as it is written. -/
def Val.chars : Val → List Char
  | .sym s => s.toList
  | .nat n => natText n
  | .int i => intText i
  | .hex d n => ['0', 'x'] ++ digitsText 16 d n
  | .raw d n => digitsText 16 d n
  | .time s n => natText s ++ ['.'] ++ digitsText 10 9 n
  | .str s => quoted s.toList
  | .nats l => commas (l.map natText)
  | .syms l => commas (l.map String.toList)
  | .ranges l => commas (l.map (fun p => natText p.1 ++ ['.', '.'] ++ natText p.2))
  | .pair a n => a.toList ++ ['-'] ++ natText n
  | .ratio a b => natText a ++ ['/'] ++ natText b
  | .tenth n => intText (n.tdiv 10) ++ ['.'] ++ natText (n.natAbs % 10)
  | .dur n => durText n
  | .none => ['N', 'O', 'N', 'E']

/-- A field as it is written. -/
def Fld.chars (f : Fld) : List Char := if f.name = "" then f.val.chars else f.name.toList ++ ['='] ++ f.val.chars

/-- Fields joined by single spaces. -/
def fieldsText (l : Fields) : List Char := List.intercalate [' '] (l.map Fld.chars)

/-- The fields that stand within n characters of a detail, the last cut where they end (R728). -/
def cutFields : Nat → Fields → Fields
  | _, [] => []
  | n, f :: t =>
    let w := f.chars
    if w.length ≤ n then f :: cutFields (n - w.length - 1) t else if n = 0 then [] else [⟨"", .sym (String.ofList (w.take n))⟩]

end Sys2Proof.Machine
end

