-- ==== Sys2Proof/Machine/Render.lean ====
section
/-!
DEFINITION. The characters the unit sends: final, data and asynchronous lines in either mode, the prompt, echo and erasure (R48, R52, R56, R59, R64, R65,
R72 of spec/).
-/
namespace Sys2Proof.Machine

/-! ### Check code (R56) -/

def crc16Step (crc : BitVec 16) (b : Nat) : BitVec 16 :=
  (List.range 8).foldl (fun c _ => if c.getLsbD 15 then (c <<< 1) ^^^ 0x1021#16 else c <<< 1) (crc ^^^ (BitVec.ofNat 16 b <<< 8))
/-- CRC-16/CCITT-FALSE of a text's octets. -/
def crc16 (s : List Char) : Nat := (s.foldl (fun c ch => crc16Step c ch.toNat) 0xFFFF#16).toNat

/-- The mnemonic of an error code (Table 2-6). -/
def errName : String → String
  | "0101" => "CHAR" | "0102" => "LONG" | "0103" => "AMBIGUOUS" | "0104" => "CHECK" | "0105" => "FRAME" | "0106" => "SEQUENCE" | "0107" => "REUSE"
  | "0108" => "UNKNOWN" | "0109" => "ABBREV" | "010A" => "SYNTAX" | "010B" => "DUPLICATE" | "010C" => "VALUE" | "010D" => "RESERVED" | "010E" => "RECORD"
  | "010F" => "BULK" | "0201" => "LEVEL" | "0202" => "NOLOGIN" | "0203" => "LOCKED" | "0204" => "CARRIER" | "0205" => "LIFE" | "0206" => "BASECAMP"
  | "0207" => "MASK" | "0301" => "NOOBJ" | "0302" => "EMPTY" | "0303" => "ADDRESS" | "0304" => "SESSION" | "0305" => "EXPIRED" | "0401" => "STATE"
  | "0402" => "NOTXN" | "0403" => "INTXN" | "0404" => "BUSY" | "0405" => "LIVE" | "0406" => "STALE" | "0407" => "PENDING" | "0501" => "STAGE"
  | "0502" => "SESSIONS" | "0503" => "EXHAUSTED" | "0504" => "QUEUE" | "0505" => "NOREPLAY" | "0601" => "ISA" | "0602" => "COMPAT" | "0603" => "PROTOCOL"
  | "0604" => "UNTESTED" | "0701" => "RANGE" | "0702" => "AGREE" | "0703" => "ADMIT" | "0704" => "BANDWIDTH" | "0705" => "DEADLINE" | "0706" => "BINDING"
  | "0707" => "IMAGE" | "0708" => "RANK" | "0709" => "REGBITS" | "070A" => "REQUIRED" | "0801" => "AUTH" | "0802" => "SIGNATURE" | "0803" => "KEYUSE"
  | "0804" => "REVOKED" | "0805" => "PRESENCE" | "0806" => "CHALLENGE" | "0901" => "DOMAIN" | "0902" => "TIMEOUT" | "0903" => "FLASH" | "0904" => "TEST"
  | "0905" => "UNCORR" | _ => ""

def crlf : List Char := ['\r', '\n']
def prompt : List Char := "hx> ".toList
/-- Words joined by single spaces. -/
def spaced (l : List (List Char)) : List Char := List.intercalate [' '] (l.filter (fun w => !w.isEmpty))

/-- A line's text, without its leading character (R64, R65). -/
def Line.text : Line → List Char
  | .data fs => fieldsText fs
  | .ok => ['O', 'K']
  | .err code fs => spaced ["ERR".toList, code.toList, (errName code).toList, fieldsText fs]
  | .async kind fs => spaced [kind.toList, fieldsText fs]

/-- A line as it is sent: in script mode with its check code, the final one with the number it answers (R59, R63, R72). -/
def Line.sent (script : Bool) (num : Option Nat) (l : Line) : List Char :=
  let t := l.text
  let check : List Char := if script then [' ', '*'] ++ digitsText 16 4 (crc16 t) else []
  let number : List Char := match num with | some n => digitsText 10 4 n | none => "----".toList
  let lead : List Char := match l with
    | .data _ => ['=']
    | .async _ _ => ['!']
    | .err "010E" _ => []
    | _ => if script then ['#'] ++ number ++ [' '] else []
  lead ++ t ++ check ++ crlf

/-- The characters of a response: its lines, and the prompt in interactive mode (R48). -/
def Sess.shows (x : Sess) (num : Option Nat) (ls : List Line) : List Char :=
  ls.flatMap (Line.sent x.script num) ++ (if x.script then [] else prompt)

/-- BS, space, BS for each character erased (R48). -/
def erasure (n : Nat) : List Char := (List.replicate n ['\x08', ' ', '\x08']).flatten

/-- An asynchronous line; one that meets a partial line ends it, and the prompt and the partial line follow (R52). -/
def Sess.showsAsync (x : Sess) (l : Line) : List Char :=
  if x.script then l.sent true none
  else (if x.line.isEmpty then [] else crlf) ++ l.sent false none ++ prompt ++ x.line

end Sys2Proof.Machine
end

