-- ==== Sys2Proof/Machine/Faults.lean ====
section
/-!
DEFINITION. The fault sources (Table 18-2), classification and counting (R705–R715), and the record a raise leaves (R703, R706, R712).
-/
namespace Sys2Proof.Machine

/-- The order of the classes (R708). -/
def Cls.code : Cls → Nat
  | .corrected => 0 | .degraded => 1 | .fiFatal => 2 | .unitFatal => 3

/-- Keyword of a class (Table 18-1). -/
def Cls.name : Cls → String
  | .corrected => "CORRECTED" | .degraded => "DEGRADED" | .fiFatal => "FI-FATAL" | .unitFatal => "UNIT-FATAL"

/-- A row of Table 18-2: first and last source, name, whether its scope is FI, floor and default. -/
structure SrcRow where
  lo : Nat
  hi : Nat
  name : String
  fiScope : Bool
  floor : Cls
  dflt : Cls

/-- Table 18-2, first part: execution and FIs. -/
def srcRows1 : List SrcRow :=
  [⟨0, 0, "INSTR-INTEGRITY", true, .fiFatal, .fiFatal⟩, ⟨1, 1, "TILE-INTEGRITY", false, .degraded, .degraded⟩,
   ⟨2, 2, "ISOLATION", true, .fiFatal, .fiFatal⟩, ⟨3, 3, "RESERVED-KIND", true, .corrected, .corrected⟩,
   ⟨4, 4, "PREDICATE-REWRITE", true, .degraded, .fiFatal⟩, ⟨5, 5, "POISON-AT-OUTPUT", true, .degraded, .fiFatal⟩,
   ⟨6, 6, "DUPLICATE-OPERAND", true, .degraded, .fiFatal⟩, ⟨7, 7, "MATCH-INTEGRITY", true, .fiFatal, .fiFatal⟩,
   ⟨8, 8, "PINNED-OVERFLOW", true, .fiFatal, .fiFatal⟩, ⟨9, 9, "OVERFLOW-LOSS", true, .fiFatal, .fiFatal⟩,
   ⟨10, 10, "LOOP-COUNT", true, .degraded, .fiFatal⟩, ⟨11, 11, "STALL", true, .fiFatal, .fiFatal⟩,
   ⟨12, 12, "DEEP-INTEGRITY", true, .fiFatal, .fiFatal⟩, ⟨13, 13, "PERIOD-OVERRUN", true, .degraded, .degraded⟩,
   ⟨14, 14, "SOURCE-LOSS", true, .corrected, .degraded⟩, ⟨15, 15, "TWIN-MISMATCH", true, .fiFatal, .fiFatal⟩,
   ⟨16, 16, "MISBEHAVE-LIMIT", true, .fiFatal, .fiFatal⟩, ⟨17, 17, "ADDRESS-RANGE", true, .fiFatal, .fiFatal⟩,
   ⟨18, 18, "OUTPUT-SELECTOR", true, .fiFatal, .fiFatal⟩, ⟨19, 19, "DOUBLE-PDONE", true, .corrected, .corrected⟩,
   ⟨20, 20, "START-IMAGE", true, .fiFatal, .fiFatal⟩, ⟨21, 21, "START-ADMISSION", false, .degraded, .degraded⟩,
   ⟨22, 22, "PLACEMENT-SHORTFALL", false, .degraded, .degraded⟩, ⟨23, 23, "BANDWIDTH-SHORTFALL", false, .degraded, .degraded⟩]

/-- Table 18-2, second part: memory, allocators, hitches, lanes and codec. -/
def srcRows2 : List SrcRow :=
  [⟨64, 64, "SMEM-CORRECTED", false, .corrected, .corrected⟩, ⟨65, 65, "SMEM-UNCORRECTABLE", true, .degraded, .degraded⟩,
   ⟨66, 66, "DRAM-CORRECTED", false, .corrected, .corrected⟩, ⟨67, 67, "DRAM-UNCORRECTABLE", true, .degraded, .degraded⟩,
   ⟨68, 68, "DRAM-TAG", false, .degraded, .degraded⟩, ⟨69, 69, "PAGE-BACKING", true, .degraded, .degraded⟩,
   ⟨70, 70, "SRAM-CORRECTED", false, .corrected, .corrected⟩, ⟨71, 71, "COUNTER-MEMORY", false, .corrected, .corrected⟩,
   ⟨72, 75, "DRAM-STACK", false, .degraded, .degraded⟩, ⟨76, 76, "DRAM-GROUP-RETIRED", false, .degraded, .degraded⟩,
   ⟨77, 77, "MEMORY-MACRO", false, .unitFatal, .unitFatal⟩, ⟨78, 78, "SRAM-ROW-REPAIR", false, .corrected, .corrected⟩,
   ⟨79, 79, "DRAM-ROW-REPAIR", false, .corrected, .corrected⟩, ⟨80, 80, "TILE-SPLICED", false, .corrected, .corrected⟩,
   ⟨81, 81, "TILE-LOST", false, .degraded, .degraded⟩, ⟨128, 128, "ALLOC-MISUSE-FI", true, .corrected, .corrected⟩,
   ⟨129, 129, "ALLOC-MISUSE-UNIT", false, .degraded, .degraded⟩, ⟨130, 130, "ALLOC-INTEGRITY", false, .degraded, .degraded⟩,
   ⟨131, 131, "HITCH-MISUSE", true, .corrected, .corrected⟩, ⟨132, 132, "HITCH-INTEGRITY", false, .degraded, .degraded⟩,
   ⟨133, 133, "CONFIG-LOSS", false, .degraded, .degraded⟩, ⟨192, 209, "LANE-HARDWARE", false, .degraded, .degraded⟩,
   ⟨210, 210, "TABLE-INTEGRITY", false, .degraded, .degraded⟩, ⟨211, 211, "CODEC-AUTH", false, .corrected, .degraded⟩,
   ⟨212, 212, "TEMPLATE-INTEGRITY", false, .degraded, .degraded⟩, ⟨213, 213, "HOLD-BUFFER", false, .degraded, .degraded⟩]

/-- Table 18-2, third part: time, keys, field outputs and the always-on domain. -/
def srcRows3 : List SrcRow :=
  [⟨256, 256, "REFERENCE", false, .degraded, .degraded⟩, ⟨257, 257, "ANCHOR-CORRECTED", false, .corrected, .corrected⟩,
   ⟨258, 258, "ANCHOR-LOST", false, .degraded, .degraded⟩, ⟨259, 259, "KEYSTORE-INTEGRITY", false, .degraded, .degraded⟩,
   ⟨260, 260, "KEY-REGISTER", false, .degraded, .degraded⟩, ⟨261, 261, "CRYPTO-ENGINE", false, .degraded, .degraded⟩,
   ⟨320, 335, "TRIP-CIRCUIT", false, .corrected, .degraded⟩, ⟨336, 351, "TRIP-OVERCURRENT", false, .degraded, .degraded⟩,
   ⟨352, 367, "TRIP-READBACK", false, .unitFatal, .unitFatal⟩, ⟨368, 368, "PANEL-BOARD", false, .corrected, .degraded⟩,
   ⟨369, 369, "PANEL-INPUT", false, .corrected, .degraded⟩, ⟨384, 384, "LOCKSTEP", false, .unitFatal, .unitFatal⟩,
   ⟨385, 385, "COLLECTOR-INTEGRITY", false, .unitFatal, .unitFatal⟩, ⟨386, 386, "ALIVE-READBACK", false, .unitFatal, .unitFatal⟩,
   ⟨387, 387, "STEWARD-HEARTBEAT", false, .degraded, .degraded⟩, ⟨388, 388, "STEWARD-WATCHDOG", false, .degraded, .degraded⟩,
   ⟨389, 389, "STEWARD-STOPPED", false, .degraded, .degraded⟩, ⟨390, 390, "OVER-TEMPERATURE", false, .degraded, .degraded⟩,
   ⟨391, 391, "TEMPERATURE-LIMIT", false, .unitFatal, .unitFatal⟩, ⟨392, 392, "SUPPLY-FAILING", false, .degraded, .degraded⟩,
   ⟨393, 416, "DOMAIN", false, .degraded, .degraded⟩, ⟨417, 417, "CAIRN-TAIL", false, .degraded, .degraded⟩,
   ⟨418, 418, "FLASH-WEAR", false, .degraded, .degraded⟩, ⟨419, 419, "TRAVERSE-COMPARE", false, .degraded, .degraded⟩,
   ⟨420, 420, "REPAIR-MARGIN", false, .degraded, .degraded⟩, ⟨421, 421, "COMMAND-HARDWARE", false, .corrected, .degraded⟩]

def srcRows : List SrcRow := srcRows1 ++ srcRows2 ++ srcRows3

/-- The row of a source; none for a reserved one (R715). -/
def srcRow (n : Nat) : Option SrcRow := srcRows.find? (fun r => r.lo ≤ n && n ≤ r.hi)

/-- NAME of a source, the instance number appended in rows of several (R714). -/
def SrcRow.full (r : SrcRow) (n : Nat) : String := if r.lo = r.hi then r.name else r.name ++ "-" ++ toString (n - r.lo)

/-- The class of a source in the reaction map in force (R705, R709, R710). -/
def Chip.srcClass (c : Chip) (n : Nat) : Cls :=
  match c.cfg.faultMap.find n with
  | some k => k
  | none => match srcRow n with
    | some r => r.dflt
    | none => .corrected

/-- Sixteen records of one source, and one of them, in cycles of its allowance (R712). -/
def burstFull : Nat := 1000000000
def burstOne : Nat := 62500000

def SrcState.init : SrcState := { count := 0, latched := false, last := none, credit := 1000000000, creditAt := 0, dropped := 0 }

def Chip.src (c : Chip) (n : Nat) : SrcState := c.coll.srcs.get SrcState.init n
def Chip.modSrc (c : Chip) (n : Nat) (g : SrcState → SrcState) : Chip :=
  { c with coll := { c.coll with srcs := c.coll.srcs.put SrcState.init n (g (c.src n)) } }

/-- A fatal class: its raises may take the 64 kept places and its records the 256 kept ones (R706, R730). -/
def Cls.fatal (k : Cls) : Bool := k == .fiFatal || k == .unitFatal

/-- Puts a record in the raise queue, or counts why it is not written (R706). -/
def Chip.queueRaise (c : Chip) (src : Nat) (cls : Cls) (r : Rec) : Chip :=
  let q := c.coll.queue
  let soft (x : Rec) : Bool := !((x.cls.map Cls.fatal).getD false)
  let drop (c : Chip) (n : Nat) : Chip := c.modSrc n (fun s => { s with dropped := s.dropped + 1 })
  let wrote (c : Chip) : Chip := c.modSrc src (fun s => { s with dropped := 0 })
  let put (c : Chip) (l : List Rec) : Chip := { c with coll := { c.coll with queue := l } }
  if !cls.fatal then
    if (q.filter soft).length < 960 ∧ q.length < 1024 then put (wrote c) (q ++ [r]) else drop c src
  else if q.length < 1024 then put (wrote c) (q ++ [r])
  else match (q.filter soft).getLast? with
    | some x => put (drop (wrote c) (x.id - 1024)) (q.erase x ++ [r])
    | none => let c1 := drop c src
              { c1 with coll := { c1.coll with unrecorded := sat32 c1.coll.unrecorded } }

/-- Counts a raise and writes its record under the burst rule (R711, R712, R703): the detail opens with CLASS and FI. -/
def Chip.logRaise (c : Chip) (r : Raise) (cls : Cls) : Chip :=
  let s := c.src r.src
  let credit := min burstFull (s.credit + (c.clk.cycle - s.creditAt))
  let c1 := c.modSrc r.src (fun s => { s with count := sat32 s.count, latched := true, last := some r.stamp, credit := credit, creditAt := c.clk.cycle })
  let rec' : Rec :=
    { seq := 0, id := 1024 + r.src, inst := r.inst, stamp := r.stamp, cycle := r.cycle, arrival := c.clk.cycle,
      detail := [fSym "CLASS" cls.name] ++ (match r.fi with | some f => [fFi f] | none => []) ++ r.detail ++
                (if s.dropped > 0 then [fNat "DROPPED" s.dropped] else []),
      tail := false, kept := cls.fatal, cls := some cls, fi := r.fi }
  if cls.fatal then c1.queueRaise r.src cls rec'
  else if credit ≥ burstOne then
    (c1.modSrc r.src (fun s => { s with credit := s.credit - burstOne })).queueRaise r.src cls rec'
  else c1.modSrc r.src (fun s => { s with dropped := s.dropped + 1 })

/-- The oldest raise on its way: by arrival, then source, then instance (R706). -/
def Collector.next (k : Collector) : Option Raise :=
  k.inbound.foldl (fun (a : Option Raise) r => match a with
    | none => some r
    | some b =>
      if r.arrival < b.arrival ∨ (r.arrival = b.arrival ∧ (r.src < b.src ∨ (r.src = b.src ∧ r.inst < b.inst))) then some r else a) none

end Sys2Proof.Machine
end

