-- ==== Sys2Proof/Machine/Cairn.lean ====
section
/-!
DEFINITION. The cairn writer: numbering (R729, R730), the ring (R728), the flash tail (R731–R734).
-/
namespace Sys2Proof.Machine

/-- The cycle in which a held record is numbered (R729). -/
def Rec.due (r : Rec) : Nat := if r.arrival > 1000 + r.cycle then r.arrival else r.cycle + 1000
/-- Whether it is numbered on arrival. -/
def Rec.late (r : Rec) : Bool := r.arrival > r.cycle + 1000

/-- The order of numbering: cycle of numbering, records numbered by stamp first, then event ID, then instance (R729). -/
def Rec.before (a b : Rec) : Bool :=
  a.due < b.due || (a.due == b.due &&
    ((!a.late && b.late) || (a.late == b.late && (a.id < b.id || (a.id == b.id && a.inst < b.inst)))))

/-- Inserts a record into an ordered list, after its equals. -/
def insRec (r : Rec) : List Rec → List Rec
  | [] => [r]
  | x :: t => if r.before x then r :: x :: t else x :: insRec r t

/-- Records in the order of numbering. -/
def orderRecs (l : List Rec) : List Rec := l.foldl (fun a r => insRec r a) []

/-- Slots of the ring (R728). -/
def ringSize : Nat := 1048576

/-- Numbers records in order and writes them to the ring, each over the oldest, its detail cut at 100 characters (R728, R729). -/
def Cairn.number (k : Cairn) (l : List Rec) : Cairn × List Rec :=
  l.foldl (fun (a : Cairn × List Rec) r =>
    let n := a.1.next
    let long := decide (100 < (fieldsText r.detail).length)
    let r' := { r with seq := n, trunc := long, detail := if long then cutFields 100 r.detail else r.detail }
    ({ a.1 with
        next := n + 1,
        ring := a.1.ring.set (n % ringSize) r',
        corrupt := a.1.corrupt.filter (· + ringSize != n),
        oldest := if a.1.oldest + ringSize ≤ n then n + 1 - ringSize else a.1.oldest }, a.2 ++ [r'])) (k, [])

/-- The warden moves the raise queue's records to the writer while there is room for them (R705, R730). -/
def Chip.drainRaises (c : Chip) : Chip :=
  if c.coll.wardenDown.isSome then c
  else
    let k := c.coll.queue.foldl (fun k r => Cairn.hold k r) c.cairn
    { c with cairn := k, coll := { c.coll with queue := [] } }

/-- Event 0x116 once there is room again after records were discarded (R730). -/
def Chip.lostRecords (c : Chip) : Chip :=
  if c.cairn.lost > 0 ∧ (c.cairn.held.filter (fun x => !x.kept)).length < 3840 then
    let n := c.cairn.lost
    ({ c with cairn := { c.cairn with lost := 0 } }).record 278 0 [fNat "COUNT" n]
  else c

/-- The writer numbers the records whose cycle comes next, and answers them for routing (R727, R729): nothing while a tail save stops numbering
(R731) or while DRAM is not available (R730). -/
def Chip.numberNext (c : Chip) (dram : Bool) : Chip × List Rec :=
  let c0 := c.drainRaises
  if c0.cairn.stopped || !dram then (c0, [])
  else
    let ordered := orderRecs c0.cairn.held
    match ordered with
    | [] => (c0.lostRecords, [])
    | r :: _ =>
      let c1 := c0.advanceTo r.due
      let batch := ordered.filter (fun x => decide (x.due ≤ r.due))
      let (k, done) := ({ c1.cairn with held := c1.cairn.held.filter (fun x => decide (x.due > r.due)) } : Cairn).number batch
      (({ c1 with cairn := k }).lostRecords, done)

/-- The record of a number that the ring still holds. -/
def Cairn.find (k : Cairn) (s : Nat) : Option Rec :=
  match k.ring.find (s % ringSize) with
  | some r => if r.seq = s then some r else none
  | none => none

/-- The newest 8,192 records of the ring, oldest first (R731). -/
def Cairn.newest (k : Cairn) : List Rec :=
  let lo := max k.oldest (k.next - 8192)
  (List.range (k.next - lo)).filterMap (fun i => k.find (lo + i))

/-- Begins a tail save: numbering stops (R731). -/
def Chip.beginTail (c : Chip) (cause : String) : Chip :=
  { c with cairn := { c.cairn with
      stopped := true,
      save := some { cause := cause, from? := max c.cairn.oldest (c.cairn.next - 8192), to? := c.cairn.next - 1, began := c.clk.cycle,
                     complete := false, bad := false } } }

def TailArea.blank : TailArea :=
  { written := false, valid := false, recs := [], anchorSec := 0, anchorNs := 0, rate := 0, highSeq := 0, order := 0 }

/-- Writes the tail to the older area; it becomes valid when its closing check is written (R731). -/
def Chip.writeTail (c : Chip) (ok : Bool) : Chip :=
  let a := c.cairn.tails.getD 0 TailArea.blank
  let b := c.cairn.tails.getD 1 TailArea.blank
  let n : TailArea := { written := true, valid := ok, recs := c.cairn.newest, anchorSec := c.clk.anchor.sec, anchorNs := c.clk.anchor.ns,
                        rate := c.clk.anchor.rate, highSeq := c.cairn.next - 1, order := max a.order b.order + 1 }
  { c with cairn := { c.cairn with tails := if a.order ≤ b.order then [n, b] else [a, n] } }

/-- Event 0x115 of a completed save. -/
def Chip.recordTail (c : Chip) (s : TailSave) : Chip :=
  c.record 277 0 [fNat "FROM" s.from?, fNat "TO" s.to?, fSym "CAUSE" s.cause]

/-- Numbering resumes without a start: a completed save is recorded (R731). -/
def Chip.resumeNumbering (c : Chip) : Chip :=
  match c.cairn.save with
  | some s =>
    if s.complete then
      let c1 : Chip := { c with cairn := { c.cairn with stopped := false, save := none } }
      if s.bad then c1 else c1.recordTail s
    else c
  | none => { c with cairn := { c.cairn with stopped := false } }

/-- A tail save ends: the area is written, and a failed verification raises CAIRN-TAIL; numbering stays stopped (R731, R734). -/
def Chip.endTail (c : Chip) (s : TailSave) (ok : Bool) : Chip :=
  let c1 := c.writeTail ok
  let c2 := if ok then c1 else c1.raise 417 0 none []
  { c2 with cairn := { c2.cairn with save := some { s with complete := true, bad := !ok } } }

/-- TAIL_SAVE_COMPLETE: the save ends, and numbering resumes when no start and no supply failure is on the way (R731). -/
def Chip.tailComplete (c : Chip) (ok : Bool) : Chip :=
  match c.cairn.save with
  | none => c
  | some s => if s.complete then c else if c.sup.warning then c.endTail s ok else (c.endTail s ok).resumeNumbering

/-- The newer valid tail. -/
def Cairn.bestTail (k : Cairn) : Option TailArea :=
  (k.tails.filter TailArea.valid).foldl (fun (a : Option TailArea) t => match a with
    | none => some t
    | some b => if t.order > b.order then some t else a) none

/-- A start other than a warm one restores the newer valid tail into the ring; records held stay held when the always-on domain kept its power
(R732, R734). The Boolean says that CAIRN-TAIL is to be raised. -/
def Cairn.restore (k : Cairn) (keepHeld : Bool) : Cairn × Bool :=
  let held := if keepHeld then k.held else []
  match k.bestTail with
  | some t =>
    let ring := t.recs.foldl (fun (r : Tbl Rec) x => r.set (x.seq % ringSize) { x with tail := true }) []
    ({ k with ring := ring, corrupt := [], held := held, next := t.highSeq + 1, stopped := false,
              oldest := (t.recs.head?.map Rec.seq).getD (t.highSeq + 1) }, false)
  | none =>
    if k.tails.any TailArea.written then
      let high := k.tails.foldl (fun n t => t.recs.foldl (fun n r => max n r.seq) n) 0
      ({ k with ring := [], corrupt := [], held := held, next := high + 1, oldest := high + 1, stopped := false }, true)
    else ({ k with ring := [], corrupt := [], held := held, next := if keepHeld then k.next else 1,
                   oldest := if keepHeld then k.oldest else 1, stopped := false }, false)

end Sys2Proof.Machine
end

