-- ==== Sys2Proof/Machine/Clock.lean ====
section
/-!
DEFINITION. The time events: references, discipline, leaps, IRIG-B and 1PPS inputs, the vote between the anchor's copies (R595–R622).
-/
namespace Sys2Proof.Machine

/-- A change of STATE with its event 0x08B (R611). -/
def Chip.setDisc (c : Chip) (d : Disc) : Chip :=
  let old := c.clk.disc
  if old = d then c
  else ({ c with clk := { c.clk with disc := d } }).record 139 0 [fSym "FROM" old.name, fSym "TO" d.name]

/-- An accepted ADJUST counts as discipline from the cycle its line executes (R604, R607, R610). -/
def Chip.disciplined (c : Chip) : Chip :=
  ({ c with clk := { c.clk with lastAdjCycle := some c.clk.cycle, lastAdj := some c.now, refHold := false } }).setDisc .disciplined

/-- The age at which DISCIPLINED ends, and at which HOLDOVER does (R610): the smaller of 4 s and HOLDOVER, and HOLDOVER. -/
def Chip.discLimit (c : Chip) : Nat := min 4000000000 c.cfg.time.holdover
def Chip.lastAdjAt (c : Chip) : Nat := c.clk.lastAdjCycle.getD 0

/-- 4 s after the last ADJUST STATE becomes HOLDOVER; with HOLDOVER of 4 s or less it becomes UNDISCIPLINED there (R610). -/
def Chip.holdoverEntry (c : Chip) : Chip :=
  if c.clk.disc = .disciplined then
    let c1 := c.advanceTo (c.lastAdjAt + c.discLimit + 1)
    c1.setDisc (if c.cfg.time.holdover ≤ 4000000000 then .undisciplined else .holdover)
  else c

/-- HOLDOVER passes and STATE becomes UNDISCIPLINED (R610). -/
def Chip.undisciplinedEntry (c : Chip) : Chip :=
  if c.clk.disc = .holdover then (c.advanceTo (c.lastAdjAt + c.cfg.time.holdover + 1)).setDisc .undisciplined else c

/-- STEPPED clears 1 s after the last step (R609). -/
def Chip.steppedExpiry (c : Chip) : Chip :=
  match c.clk.lastStep with
  | none => c
  | some s =>
    let c1 := c.advanceTo (1000000001 + s)
    if c1.clk.lastStep = some s then { c1 with clk := { c1.clk with lastStep := none } } else c1

/-- UNSETTLED clears at the end of the warm-up or of the reference change (R609). -/
def Chip.warmupEnd (c : Chip) : Chip :=
  if c.clk.unsettled then
    let c1 := c.advanceTo c.clk.unsettledEnd
    { c1 with clk := { c1.clk with unsettled := false } }
  else c

/-- The core clock moves to a reference: it settles within 10 ms, and DISCIPLINED ends (R597, R610). -/
def Chip.changeRef (c : Chip) (r : RefClk) : Chip :=
  if c.clk.refIn = r then c
  else
    let c1 : Chip := { c with clk := { c.clk with
      refIn := r,
      unsettled := true,
      unsettledEnd := if c.clk.unsettled then max c.clk.unsettledEnd (10000000 + c.clk.cycle) else 10000000 + c.clk.cycle,
      refHold := true } }
    if c.clk.disc = .undisciplined then c1 else c1.setDisc .holdover

/-- EXT10 is lost while in use: INT25, the reference fault and event 0x08D (R598). -/
def Chip.ext10Loss (c : Chip) : Chip :=
  let c0 : Chip := { c with clk := { c.clk with extValid := false }, unit := { c.unit with regs := { c.unit.regs with extLosses := c.unit.regs.extLosses + (if c.clk.refIn = .ext10 then 1 else 0) } } }
  if c.clk.refIn = .ext10 then
    ((c0.changeRef .int25).raise 256 0 none [fSym "SRC" "EXT10"]).record 141 0 [fSym "SRC" "EXT10", fSym "STATE" "ABSENT"]
  else c0

/-- The vote between the copies after an upset has changed some of them (R602). -/
def Chip.anchorVote (c : Chip) (x0 x1 x2 : Option Anchor) : Chip :=
  let a := x0.getD c.clk.anchor
  let b := x1.getD c.clk.anchor1
  let d := x2.getD c.clk.anchor2
  let fix (v : Anchor) : Chip := { c with clk := c.clk.setAnchor v }
  if a = b ∧ b = d then fix a
  else if a = b ∨ a = d then (fix a).raise 257 0 none []
  else if b = d then (fix b).raise 257 0 none []
  else ((fix a).setDisc .undisciplined).raise 258 0 none []

/-- A pending ADJUST with AT acts in the first cycle in which the anchor is at or past AT (R604). -/
def Chip.adjustAtDue (c : Chip) : Chip :=
  match c.clk.pendingAdj with
  | none => c
  | some a =>
    let c1 := c.advanceToTime (a.at?.getD (0, 0))
    ({ c1 with clk := { c1.clk with pendingAdj := none } }).applyAdjust a

/-- A committed leap reaches LEAPAT (R613). -/
def Chip.leapDue (c : Chip) : Chip :=
  match c.cfg.time.leap, c.cfg.time.leapAt with
  | .none, _ => c
  | _, none => c
  | l, some t =>
    let c1 := c.advanceToTime t
    let off := if l = .insert then c.cfg.time.utcOffset + 1 else c.cfg.time.utcOffset - 1
    let c2 : Chip := { c1 with cfg := { c1.cfg with time := { c1.cfg.time with utcOffset := off, leap := .none } } }
    c2.record 140 2 [fSym "CAUSE" "LEAP", ⟨"UTCOFFSET", .int off⟩]

/-- Adds a capture; the oldest of 1,024 is overwritten first (R618). -/
def Chip.addCapture (c : Chip) (k : Capture) : Chip :=
  { c with clk := { c.clk with captures := (k :: c.clk.captures).take 1024 } }

/-- An IRIG-B frame: a valid one is captured with the Pr edge's stamp, an invalid one recorded at the first after a valid one (R620, R622).
`back` is how many cycles before the present one the Pr edge passed the X5 pins. -/
def Chip.irigFrame (c : Chip) (valid : Bool) (fmt back : Nat) (fields : Fields) : Chip :=
  if !c.cfg.time.irig then c
  else if valid then
    let seq := c.clk.irigSeq
    let c1 := c.addCapture { src := "IRIG", port := 0, seq := seq, stamp := c.stampBefore (back + 35), fields := ⟨"FMT", .sym ("B00" ++ toString fmt)⟩ :: fields }
    let c2 : Chip := { c1 with
      clk := { c1.clk with irig := .present, irigLast := c.clk.cycle, irigSeq := (seq + 1) % 65536 }
      unit := { c1.unit with regs := { c1.unit.regs with irig := (fmt % 8, (c1.unit.regs.irig.2 + 1) % 65536) } } }
    if c.clk.irig = .absent ∨ c.clk.irig = .invalid then c2.record 141 1 [fSym "SRC" "IRIG", fSym "STATE" "PRESENT"] else c2
  else
    let c1 : Chip := { c with clk := { c.clk with irigBad := sat32 c.clk.irigBad } }
    if c.clk.irig = .present then
      ({ c1 with clk := { c1.clk with irig := .invalid } }).record 141 1 [fSym "SRC" "IRIG", fSym "STATE" "INVALID"]
    else c1

/-- A 1PPS rising edge: captured, or counted as a glitch less than 900 ms after the previous captured edge (R621, R622). -/
def Chip.ppsEdge (c : Chip) : Chip :=
  if !c.cfg.time.pps then c
  else if c.clk.ppsSeen ∧ c.clk.cycle < 900000000 + c.clk.ppsLast then
    { c with clk := { c.clk with ppsGlitch := sat32 c.clk.ppsGlitch } }
  else
    let seq := c.clk.ppsSeq
    let c1 := c.addCapture { src := "PPS", port := 0, seq := seq, stamp := c.stampBefore 35, fields := [] }
    let c2 : Chip := { c1 with clk := { c1.clk with pps := .present, ppsLast := c.clk.cycle, ppsSeen := true, ppsSeq := (seq + 1) % 65536 } }
    if c.clk.pps = .absent then c2.record 141 2 [fSym "SRC" "PPS", fSym "STATE" "PRESENT"] else c2

/-- IRIG-B has brought no valid frame for 3 s, or 1PPS no edge for 2 s (R622). -/
def Chip.timeInputAbsent (c : Chip) (irig : Bool) : Chip :=
  if irig then
    if c.cfg.time.irig ∧ c.clk.irig ≠ .absent then
      let c1 := c.advanceTo (3000000000 + c.clk.irigLast)
      ({ c1 with clk := { c1.clk with irig := .absent } }).record 141 1 [fSym "SRC" "IRIG", fSym "STATE" "ABSENT"]
    else c
  else
    if c.cfg.time.pps ∧ c.clk.pps ≠ .absent then
      let c1 := c.advanceTo (2000000000 + c.clk.ppsLast)
      ({ c1 with clk := { c1.clk with pps := .absent } }).record 141 2 [fSym "SRC" "PPS", fSym "STATE" "ABSENT"]
    else c

end Sys2Proof.Machine
end

