-- ==== Sys2Proof/Machine/Requests.lean ====
section
/-!
DEFINITION. Memory, frame, hitch and allocate requests of the firings (R365–R395), the twin comparator that they pass (R235–R237), and their replies
(R377). The addressed memories are changed here and nowhere else among the instructions.
-/
namespace Sys2Proof.Machine

/-- The unit with its addressed memories. -/
abbrev CM := Chip × Mem

/-! ### Replies (R377) -/

/-- Sends the answer of a request to every firing that made it. -/
def Chip.answer (c : Chip) (fs : List (Firing × Option Nat)) (o : Option Opnd) : Chip :=
  c.fab' (fun f => { f with replies := f.replies ++ fs.map (fun x => { firing := x.1, op := o, entry := x.2 }) })

/-- Answers firings that no entry holds. -/
def Chip.answerF (c : Chip) (fs : List Firing) (o : Option Opnd) : Chip := c.answer (fs.map (fun f => (f, none))) o

/-- The n-th reply is queued at its destination (R377): the request place is freed, the operands are consumed, the result tokens arrive. -/
def Chip.memoryReply (c : Chip) (n : Nat) : Chip :=
  match c.fab.replies[n]? with
  | none => c
  | some r =>
    let f := r.firing
    let c0 := c.fab' (fun g => { g with replies := g.replies.eraseIdx n })
    let c1 := c0.modTile f.tile (fun t => { t with
      reqs := t.reqs - 1,
      store := match r.entry with
        | some e => t.store.filter (fun x => x.id != e)
        | none => t.store })
    let c2 := c1.consume f
    match r.op with
    | none => c2
    | some o => (Word.dests f.word).foldl (fun c d =>
        let t : Token := { fi := f.tok.fi, gen := f.tok.gen, epoch := f.tok.epoch, frame := f.tok.frame, vt := d.vt, page := d.page,
                           off := d.off, portR := d.portR, colour := f.tok.colour, op := o }
        let cp := c.copy t.fi f.copy
        let slot := t.vt % (max cp.map.length 1)
        let c' := c.born t f.copy
        match cp.map[slot]? with
        | some dst => if t.vt < (c.image t.fi).v ∧ ¬ cp.mapBad.contains slot then c'.queueToken dst f.copy t none
                      else (c'.died t f.copy).instrIntegrity t.fi f.tile [fNat "VT" t.vt]
        | none => (c'.died t f.copy).instrIntegrity t.fi f.tile [fNat "VT" t.vt]) c2

/-! ### The twin comparator (R235–R237) -/

/-- The stream of a firing: the output port, or the kind of request with the virtual tile that makes it. -/
def streamKey (f : Firing) : Nat :=
  let op := Word.op f.word
  if 0xE8 ≤ op then f.r.data.toNat % 64
  else if op = 0xE5 ∨ op = 0xE6 then 192 + f.tok.vt
  else if 0xE0 ≤ op then 128 + f.tok.vt
  else 64 + f.tok.vt

def TwinStream.name (key : Nat) : Val :=
  if key < 64 then .sym ("OUT" ++ toString key)
  else if key < 128 then .pair "MEM" (key - 64) else if key < 192 then .pair "HITCH" (key - 128) else .pair "ALLOC" (key - 192)

/-- The twin-mismatch fault (R237). -/
def Chip.twinMismatch (c : Chip) (fi key : Nat) (cause : String) : Chip :=
  c.raise 15 fi (some fi) [⟨"STREAM", TwinStream.name key⟩, fSym "CAUSE" cause]

/-- Adds an action of a copy to its stream; a seventeenth unmatched one is a mismatch (R236). -/
def Chip.twinPush (c : Chip) (f : Firing) : Chip :=
  let key := streamKey f
  let fi := f.tok.fi
  let act : TwinAct := { firing := f, at? := c.clk.cycle }
  let add (s : TwinStream) : TwinStream := if f.copy = 0 then { s with a := s.a ++ [act] } else { s with b := s.b ++ [act] }
  let old := c.fab.twins.find? (fun s => s.fi == fi && s.key == key)
  let s := add (old.getD { fi := fi, key := key, a := [], b := [] })
  let put (l : List TwinStream) : List TwinStream :=
    if old.isSome then l.map (fun x => if x.fi = fi ∧ x.key = key then s else x) else l ++ [s]
  let c1 := c.fab' (fun g => { g with twins := put g.twins })
  if s.a.length > 16 ∨ s.b.length > 16 then c1.twinMismatch fi key "COUNT" else c1

/-- Two copies' actions agree in operation, data, kind and port (R235). -/
def sameAction (x y : Firing) : Bool :=
  Word.op x.word == Word.op y.word && x.tok.op == y.tok.op && x.r == y.r && Word.aux x.word == Word.aux y.word

/-- A request or output of a firing: the request limit of R372, then the comparator of a twinned FI, else the action at once. Frame words belong to the
copy's own context and pass no comparator (R234, R235). -/
def CM.request (cm : CM) (tile op : Nat) (limited compared : Bool) (perform : List Firing → CM → CM) : CM :=
  match cm.1.takeFiring tile op with
  | none => cm
  | some (f, c1) =>
    if limited ∧ (c1.tile tile).reqs ≥ 32 then
      (c1.recirculate tile { tok := f.tok, copy := f.copy, partner := some f.r, matched := true, arrival := c1.fab.nextId, grant := f.grant }
        |>.freshId.2, cm.2)
    else
      let c2 := if limited then c1.modTile tile (fun t => { t with reqs := t.reqs + 1 }) else c1
      if compared && (c2.fiCfg f.tok.fi).twin then (c2.twinPush f, cm.2) else perform [f] (c2, cm.2)

/-- The oldest pair of a stream meets: a matching pair acts once, a differing one is a mismatch (R235, R237). -/
def CM.twinCompare (cm : CM) (fi key : Nat) (perform : Nat → List Firing → CM → CM) : CM :=
  match cm.1.fab.twins.find? (fun s => s.fi == fi && s.key == key) with
  | none => cm
  | some s =>
    match s.a, s.b with
    | x :: xs, y :: ys =>
      let c1 := (cm.1.advanceTo (max x.at? y.at? + 2)).fab' (fun g => { g with twins := g.twins.filterMap (fun z =>
        if z.fi = fi ∧ z.key = key then (if xs.isEmpty && ys.isEmpty then none else some { z with a := xs, b := ys }) else some z) })
      if sameAction x.firing y.firing then perform (Word.op x.firing.word) [x.firing, y.firing] (c1, cm.2)
      else (c1.twinMismatch fi key "DIFFER", cm.2)
    | _, _ => cm

/-- The partner of the oldest unmatched action of a stream has not come after 10 µs, or by its period's deadline (R236). -/
def Chip.twinTimeout (c : Chip) (fi key : Nat) : Chip :=
  match c.fab.twins.find? (fun s => s.fi == fi && s.key == key) with
  | none => c
  | some s =>
    let due (x : TwinAct) : Nat :=
      match (c.ctx (c.ctxOf x.firing.tok x.firing.copy)).deadline with
      | some d => min d (x.at? + 10000)
      | none => x.at? + 10000
    match s.a, s.b with
    | x :: _, [] | [], x :: _ => (c.advanceTo (due x)).twinMismatch fi key "MISSING"
    | _, _ => c

/-! ### Operand kinds of requests (R379) -/

/-- A VOID or POISON address or selector makes no request: it is emitted as a compute instruction would (R379). -/
def Chip.badOperand (c : Chip) (f : Firing) : Option Chip :=
  match f.tok.op.kind with
  | .void => some ((c.consume f).emit f Opnd.void)
  | .poison => some ((c.consume f).emit f f.tok.op)
  | _ => none

/-- The head firing's VOID or POISON address answered, or the request made. -/
def CM.addressed (cm : CM) (tile op : Nat) (compared : Bool) (perform : List Firing → CM → CM) : CM :=
  match cm.1.takeFiring tile op with
  | none => cm
  | some (f, c1) => match c1.badOperand f with
    | some c2 => (c2, cm.2)
    | none => cm.request tile op true compared perform

/-- The address-range fault: no access, operands consumed, nothing emitted (R371). -/
def Chip.addressRange (c : Chip) (fs : List Firing) (ea : Nat) : Chip :=
  match fs with
  | [] => c
  | f :: _ => (c.answerF fs none).raise 17 f.tok.fi (some f.tok.fi) [fNat "VT" f.tok.vt, ⟨"EA", .hex 10 ea⟩]

/-- The effective address of a memory firing, EA[2:0] ignored (R366, R373). -/
def Chip.ea (c : Chip) (f : Firing) : Nat :=
  (effAddr (c.image f.tok.fi).desc (Word.aux f.word) f.tok.op.data).getD 0 / 8 * 8

/-- Where a structure-space address lies (R365, R371, R404, R406). -/
inductive Place' | word (w : Nat) | cell (h w : Nat) | range | foreign
deriving DecidableEq, Repr

/-- Translates an effective address of the structure space; a word outside the area, or a cell access where cells are not allowed, is out of range. -/
def CM.splace (cm : CM) (fi ea : Nat) (cells : Bool) : Place' :=
  if ea ≥ 549755813888 then
    let h := (ea - 549755813888) / 256
    if !cells || h ≥ 16384 then .range
    else match cm.1.fab.cells.find h with
      | some x => if x.owner = 32 + fi then .cell h (ea / 8 % 32) else .foreign
      | none => .foreign
  else if ea + 8 > (cm.1.image fi).desc.smem then .range
  else match ((cm.1.mctl.smap.get [] fi)[ea / 4096]?) with
    | none => .range
    | some g => if cm.2.owner g = .fi fi then .word (g * 512 + ea % 4096 / 8) else .foreign

/-- An access to an element of another owner: the isolation fault (R395, R419). -/
def Chip.isolation (c : Chip) (fs : List Firing) : Chip :=
  match fs with
  | [] => c
  | f :: _ => (c.answerF fs none).raise 2 f.tok.fi (some f.tok.fi) [fNat "VT" f.tok.vt]

/-! ### Deferred reads (R382–R386) -/

/-- The table a deferral goes to: structure half A or B, or a cluster's frame memory; its capacity (R385). -/
def DeferAt.table : DeferAt → Nat × Nat
  | .sword w => (if w < 4194304 then 0 else 1, 8192)
  | .fword cl _ _ => (2 + cl, 4096)

/-- Holds a read of an empty word: FRAME entries at the issuing tiles, a place of the deferral table or a RETRY. A tile without a place for its entry
takes the firing back as a recirculation, or raises the pinned-overflow fault for P0. -/
def Chip.deferRead (c : Chip) (at? : DeferAt) (empties : Bool) (fs : List Firing) : Chip :=
  let hold := fs.foldl (fun (a : List (Firing × Nat) × Chip × List Firing) f =>
    let item : QItem := { tok := f.tok, copy := f.copy, partner := some f.r, matched := true, arrival := a.2.1.fab.nextId, grant := f.grant }
    match (a.2.1.freshId.2).place f.tile .frame item .reply with
    | .ok c1 => (a.1 ++ [(f, ((c1.tile f.tile).store.getLast?.map Entry.id).getD 0)], c1, a.2.2)
    | .full c1 =>
      let c2 := c1.modTile f.tile (fun t => { t with reqs := t.reqs - 1 })
      (a.1, c2.noPlace f.tile item, a.2.2 ++ [f])) ([], c, [])
  let held := hold.1
  let c1 := hold.2.1
  if held.isEmpty then c1
  else
    let t := at?.table
    let full := decide ((c.fab.defers.filter (fun d => d.retryAt.isNone && d.at?.table.1 == t.1)).length ≥ t.2)
    let c2 := c1.fab' (fun g => { g with defers := g.defers ++
      [{ at? := at?, empties := empties, fs := held, retryAt := if full then some (c.clk.cycle + 64) else none }] })
    if full then held.foldl (fun c f => c.count f.1.tok.fi f.1.copy (fun n => { n with defretry := sat32 n.defretry })) c2 else c2

/-- The deferred reads of a word that a write serves, in arrival order, up to and with the first SLDE; and whether one empties the word (R383). -/
def served : List Defer → List Defer × Bool
  | [] => ([], false)
  | d :: rest => if d.empties then ([d], true) else let (l, e) := served rest; (d :: l, e)

/-- Serves the deferred reads of a word with the value written. -/
def Chip.serveDefers (c : Chip) (at? : DeferAt) (v : Word) : Chip × Bool :=
  let mine := c.fab.defers.filter (fun d => d.at? == at? && d.retryAt.isNone)
  let (ds, emptied) := served mine
  let c1 := ds.foldl (fun c d => c.answer (d.fs.map (fun x => (x.1, some x.2))) (some ⟨.data, v⟩)) c
  (c1.fab' (fun g => { g with defers := g.defers.filter (fun d => !ds.contains d) }), emptied)

/-- A read of a structure word: deferred while empty; SLDE empties it (R382, R383, R409). -/
def CM.readWord (cm : CM) (w : Nat) (empties : Bool) (fs : List Firing) : CM :=
  if cm.2.present' w then
    (cm.1.answerF fs (some (cm.2.sread w)), if empties then cm.2.sempty w else cm.2)
  else (cm.1.deferRead (.sword w) empties fs, cm.2)

/-- A store of a structure word: presence set, deferred reads served (R380, R383). -/
def CM.writeWord (cm : CM) (w : Nat) (v : Word) : CM :=
  let (c1, emptied) := cm.1.serveDefers (.sword w) v
  let m1 := cm.2.swrite w v
  (c1, if emptied then m1.sempty w else m1)

/-- SLD and SLDE (Table 9-5). -/
def performLoad (empties : Bool) (fs : List Firing) (cm : CM) : CM :=
  match fs with
  | [] => cm
  | f :: _ =>
    let ea := cm.1.ea f
    match CM.splace cm f.tok.fi ea (!empties) with
    | .range => (cm.1.addressRange fs ea, cm.2)
    | .foreign => (cm.1.isolation fs, cm.2)
    | .cell h w => (cm.1.answerF fs (some ⟨.data, ((cm.1.fab.cells.find h).map (fun x => x.words.get 0 w)).getD 0⟩), cm.2)
    | .word w => CM.readWord cm w empties fs

/-- The data operand of a store: VOID makes no write and is acknowledged VOID; POISON makes none and raises the poison-at-output fault (R379). -/
def Chip.badData (c : Chip) (fs : List Firing) : Option Chip :=
  match fs with
  | [] => none
  | f :: _ =>
    match f.r.kind with
    | .void => some (fs.foldl (fun c g => c.count g.tok.fi g.copy (fun n => { n with voidsup := sat32 n.voidsup })) (c.answerF fs (some Opnd.void)))
    | .poison => some ((c.answerF fs (some f.r)).raise 5 f.tok.fi (some f.tok.fi) [fNat "VT" f.tok.vt])
    | _ => none

/-- SST (Table 9-5). -/
def performSst (fs : List Firing) (cm : CM) : CM :=
  match fs with
  | [] => cm
  | f :: _ =>
    match cm.1.badData fs with
    | some c => (c, cm.2)
    | none =>
      let ea := cm.1.ea f
      let ack : Option Opnd := some ⟨.data, BitVec.ofNat 64 ea⟩
      match CM.splace cm f.tok.fi ea true with
      | .range => (cm.1.addressRange fs ea, cm.2)
      | .foreign => (cm.1.isolation fs, cm.2)
      | .cell h w => ((cm.1.fab' (fun g => { g with cells := g.cells.map (fun e =>
          if e.1 = h then (e.1, { e.2 with words := e.2.words.put 0 w f.r.data }) else e) })).answerF fs ack, cm.2)
      | .word w =>
        let cm1 := CM.writeWord cm w f.r.data
        (cm1.1.answerF fs ack, cm1.2)

/-- SCLR (R384). -/
def performSclr (fs : List Firing) (cm : CM) : CM :=
  match fs with
  | [] => cm
  | f :: _ =>
    let ea := cm.1.ea f
    match CM.splace cm f.tok.fi ea false with
    | .word w => (cm.1.answerF fs (some ⟨.data, BitVec.ofNat 64 ea⟩), cm.2.sempty w)
    | .foreign => (cm.1.isolation fs, cm.2)
    | _ => (cm.1.addressRange fs ea, cm.2)

/-- The DRAM octet address of a private-space address (R371, R413). -/
def Chip.dplace (c : Chip) (fi ea : Nat) : Option Nat :=
  if ea + 8 > 1048576 * (c.image fi).desc.priv then none
  else ((c.mctl.pmap.get [] fi)[ea / 1048576]?).map (fun g => 1048576 * g + ea % 1048576)

/-- The owner check of a private line (R418, Table 10-4). -/
def Mem.privOwned (m : Mem) (fi a : Nat) : Bool := m.pgranules.find (a / 1048576) == some (.priv fi)

/-- DLD (Table 9-5, R418, R421). -/
def performDld (fs : List Firing) (cm : CM) : CM :=
  match fs with
  | [] => cm
  | f :: _ =>
    let fi := f.tok.fi
    let ea := cm.1.ea f
    match cm.1.dplace fi ea with
    | none => (cm.1.addressRange fs ea, cm.2)
    | some a =>
      let c1 := cm.1.charge fi f.copy 1
      if cm.2.privOwned fi a then (c1.answerF fs (some (cm.2.dread a)), cm.2)
      else ((((c1.answerF fs (some (Opnd.poison 67))).raise 67 fi (some fi) [⟨"LINE", .hex 9 (a / 64 * 64)⟩]).raise 2 fi (some fi)
              [⟨"LINE", .hex 9 (a / 64 * 64)⟩]), { cm.2 with dpoison := cm.2.dpoison.set (a / 64) 67 })

/-- Writes a merge entry's words to its line: whole when all eight are held, else by a read-modify-write, which a poisoned line refuses
(R420, R423, R424). -/
def CM.flushMerge (cm : CM) (e : MergeEnt) : CM :=
  let c0 := cm.1.fab' (fun g => { g with merges := g.merges.filter (fun x => !(x.fi == e.fi && x.copy == e.copy)) })
  let whole := e.words.length == 8
  let c1 := c0.charge e.fi e.copy (if whole then 1 else 2)
  let owned := cm.2.privOwned e.fi (64 * e.line)
  if owned && (whole || (cm.2.linePoison e.line).isNone) then
    (e.acks.foldl (fun c a => c.answerF [a.1] (some ⟨.data, BitVec.ofNat 64 a.2⟩)) c1,
     (cm.2.dwrite e.line e.words).cleanLine e.line)
  else
    let src := (cm.2.linePoison e.line).getD 67
    let c2 := (e.acks.foldl (fun c a => c.answerF [a.1] (some (Opnd.poison src))) c1).raise 67 e.fi (some e.fi) [⟨"LINE", .hex 9 (64 * e.line)⟩]
    let c3 := if owned then c2 else c2.raise 2 e.fi (some e.fi) [⟨"LINE", .hex 9 (64 * e.line)⟩]
    (c3, { cm.2 with dpoison := cm.2.dpoison.set e.line src })

/-- The write-merge entry of copy k of an FI, if it has one. -/
def Chip.mergeEntry (c : Chip) (fi k : Nat) : Option MergeEnt :=
  c.fab.merges.find? (fun e => e.fi == fi && e.copy == k)

/-- Before a DST of copy k to a line: an entry of another line, or one older than 8 cycles, is flushed (R420). -/
def CM.openMerge (cm : CM) (fi k line : Nat) : CM :=
  match cm.1.mergeEntry fi k with
  | none => cm
  | some e => if e.line = line ∧ cm.1.clk.cycle ≤ e.last + 8 then cm else CM.flushMerge cm e

/-- A DST's word goes into the copy's write-merge entry; eight words flush it (R420). -/
def CM.addMerge (cm : CM) (f : Firing) (fs : List Firing) (ea a : Nat) : CM :=
  let fi := f.tok.fi
  let old : MergeEnt := (cm.1.mergeEntry fi f.copy).getD
    { fi := fi, copy := f.copy, line := a / 64, words := [], last := 0, acks := [] }
  let e : MergeEnt :=
    { old with
      words := old.words.set (a / 8 % 8) f.r.data, last := cm.1.clk.cycle, acks := old.acks ++ fs.map (fun g => (g, ea)) }
  let cm2 : CM := (cm.1.fab' (fun g => { g with merges := g.merges.filter (fun x => !(x.fi == fi && x.copy == f.copy)) ++ [e] }), cm.2)
  if e.words.length = 8 then CM.flushMerge cm2 e else cm2

/-- DST: joins the copy's merge entry for 8 cycles; a line held whole is written at once, and a store to another line first writes the entry held
(R420). -/
def performDst (fs : List Firing) (cm : CM) : CM :=
  match fs with
  | [] => cm
  | f :: _ =>
    match cm.1.badData fs with
    | some c => (c, cm.2)
    | none =>
      let fi := f.tok.fi
      let ea := cm.1.ea f
      match cm.1.dplace fi ea with
      | none => (cm.1.addressRange fs ea, cm.2)
      | some a =>
        CM.addMerge (CM.openMerge cm fi f.copy (a / 64)) f fs ea a

/-- The 8 cycles of a copy's merge entry end (R420). -/
def CM.mergeExpiry (cm : CM) (fi k : Nat) : CM :=
  match cm.1.fab.merges.find? (fun e => e.fi == fi && e.copy == k) with
  | none => cm
  | some e => CM.flushMerge (cm.1.advanceTo (e.last + 8), cm.2) e

/-- A read refused with RETRY is sent again 64 cycles later (R385). -/
def CM.deferralRetry (cm : CM) : CM :=
  match cm.1.fab.defers.find? (fun d => d.retryAt.isSome) with
  | none => cm
  | some d =>
    let c1 := cm.1.advanceTo (d.retryAt.getD 0)
    let rest := c1.fab' (fun g => { g with defers := g.defers.erase d })
    let fs := d.fs.map (fun x => (x.1, some x.2))
    let again : Chip :=
      let t := d.at?.table
      let full := decide ((rest.fab.defers.filter (fun x => x.retryAt.isNone && x.at?.table.1 == t.1)).length ≥ t.2)
      let c2 := rest.fab' (fun g => { g with defers := g.defers ++ [{ d with retryAt := if full then some (c1.clk.cycle + 64) else none }] })
      if full then d.fs.foldl (fun c f => c.count f.1.tok.fi f.1.copy (fun n => { n with defretry := sat32 n.defretry })) c2 else c2
    match d.at? with
    | .sword w =>
      if cm.2.present' w then (rest.answer fs (some (cm.2.sread w)), if d.empties then cm.2.sempty w else cm.2) else (again, cm.2)
    | .fword cl fr w =>
      match (rest.ctx (ctxKey cl fr)).words.find w with
      | some v => (rest.answer fs (some ⟨.data, v⟩), cm.2)
      | none => (again, cm.2)

/-- KLD: the constant entry L names, with its own kind (R371, R376). -/
def Chip.kld (c : Chip) (tile : Nat) : Chip :=
  c.execute tile 0xA6 (fun f c =>
    match controlKind f.tok.op with
    | some o => c.emit f o
    | none => match (c.image f.tok.fi).consts[f.tok.op.data.toNat % 256]? with
      | some o => c.emit f o
      | none => c.raise 17 f.tok.fi (some f.tok.fi) [fNat "VT" f.tok.vt, ⟨"EA", .hex 10 (f.tok.op.data.toNat % 256)⟩])

/-- AGEN: the effective address alone (R376). -/
def Chip.agen (c : Chip) (tile : Nat) : Chip :=
  c.execute tile 0xA7 (fun f c =>
    c.emit f ((controlKind f.tok.op).getD ⟨.data, BitVec.ofNat 64 ((effAddr (c.image f.tok.fi).desc (Word.aux f.word) f.tok.op.data).getD 0)⟩))

/-! ### Frame words (R376, R382–R384) -/

/-- FRD. -/
def performFrd (fs : List Firing) (c : Chip) : Chip :=
  match fs with
  | [] => c
  | f :: _ =>
    let w := f.tok.op.data.toNat % 32
    let key := c.ctxOf f.tok f.copy
    if !c.ctxLive f.tok f.copy then c.answerF fs none
    else if (c.ctx key).wpoison.contains w then c.answerF fs (some (Opnd.poison 70))
    else match (c.ctx key).words.find w with
      | some v => c.answerF fs (some ⟨.data, v⟩)
      | none => c.deferRead (.fword (key / 32768) (key % 32768) w) false fs

/-- FWR. -/
def performFwr (fs : List Firing) (c : Chip) : Chip :=
  match fs with
  | [] => c
  | f :: _ =>
    match c.badData fs with
    | some c1 => c1
    | none =>
      let w := f.tok.op.data.toNat % 32
      let key := c.ctxOf f.tok f.copy
      if !c.ctxLive f.tok f.copy then c.answerF fs none
      else
        let c1 := c.modCtx key (fun x => { x with words := x.words.set w f.r.data, wpoison := x.wpoison.filter (· != w) })
        ((c1.serveDefers (.fword (key / 32768) (key % 32768) w) f.r.data).1).answerF fs (some ⟨.data, BitVec.ofNat 64 w⟩)

/-- The release notice of a frame word re-queues the oldest FORM 11 operand of a tile whose word is now present (R384). -/
def Chip.frameWordRelease (c : Chip) (tile : Nat) : Chip :=
  let ready (e : Entry) : Bool := match e.wait with
    | .frameWord w => ((c.ctx (c.ctxOf e.item.tok e.item.copy)).words.find w).isSome
    | _ => false
  match (c.tile tile).store.find? ready with
  | some e => c.requeueEntry tile e.id (fun i => i)
  | none => c

/-! ### Hitch instructions (R390–R395, R457–R469) -/

/-- The hitch a selector names: a group hitch, or a word of a committed region (Table 9-10). -/
def Chip.hitchOf (c : Chip) (l : Word) : Option Nat :=
  let n := l.toNat
  if n / 9223372036854775808 = 0 then some (n % 256)
  else
    let r := n / 1099511627776 % 64
    let w := n % 2097152
    match c.cfg.regions.find r with
    | some x => if 8 * w + 8 ≤ x.len then some (256 + 2097152 * r + w) else none
    | none => none

/-- The head of a queue becomes the holder: a stalled read completes, a parked firing wakes, a session is told (R392, R458, R460). -/
def Chip.hitchPass (c : Chip) (tell : Nat → Nat → Chip → Chip) (h : Nat) : Chip :=
  match (c.hitch h).queue with
  | [] => c.modHitch h (fun x => { x with holder := 0 })
  | m :: rest =>
    let c1 := c.modHitch h (fun x => { x with holder := m, queue := rest })
    if m ≥ 2048 then tell (m - 2048) h c1
    else
      let mine (w : HWaiter) : Bool := w.hitch == h && w.fs.any (fun f => masterFi f.1.tok.fi == m)
      let ws := c1.fab.hwaits.filter mine
      let c2 := c1.fab' (fun g => { g with hwaits := g.hwaits.filter (fun w => !mine w) })
      ws.foldl (fun c w => c.answer w.fs (some ⟨.data, (c.hitch h).read m⟩)) c2

/-- The POISON a broken hitch answers (R469). -/
def hitchPoison : Opnd := Opnd.poison 132

/-- A hitch instruction on its hitch: a selector outside every region is out of range, a broken hitch answers POISON. -/
def onHitch (g : Nat → Nat → Chip → Chip) (fs : List Firing) (c : Chip) : Chip :=
  match fs with
  | [] => c
  | f :: _ =>
    match c.hitchOf f.tok.op.data with
    | none => c.addressRange fs f.tok.op.data.toNat
    | some h => if (c.hitch h).broken then c.answerF fs (some hitchPoison) else g h (masterFi f.tok.fi) c

/-- An FI's hitch write is refused: group 0, or a group whose FIS excludes it (R393, R466). -/
def Chip.hitchRefused (c : Chip) (fi h : Nat) : Bool :=
  h < 16 || (h < 256 && !((c.cfg.groups.get ⟨[], 1⟩ (h / 16)).fis.contains fi))

/-- HWR. -/
def performHwr (fs : List Firing) (c : Chip) : Chip :=
  match fs with
  | [] => c
  | f :: _ =>
    let fi := f.tok.fi
    match c.hitchOf f.tok.op.data with
    | none => c.addressRange fs f.tok.op.data.toNat
    | some h =>
      if c.hitchRefused fi h then
        ((c.misbehaves fi).raise 131 fi (some fi) [fNat "HITCH" h]).answerF fs (some f.tok.op)
      else if (c.hitch h).broken then c.answerF fs (some hitchPoison)
      else
        let (r, c1) := c.hitchWrite h (masterFi fi)
        (if r = .full then c1.modFi fi (fun x => { x with hitchFull := sat32 x.hitchFull }) else c1).answerF fs (some f.tok.op)

/-- HRD. -/
def performHrd (fs : List Firing) (c : Chip) : Chip :=
  onHitch (fun h m c => c.answerF fs (some ⟨.data, (c.hitch h).read m⟩)) fs c

/-- HWAIT: a stalled read of at most HWT. -/
def performHwait (fs : List Firing) (c : Chip) : Chip :=
  onHitch (fun h m c =>
    if (c.hitch h).queue.contains m then
      let hwt := match fs with | f :: _ => (c.image f.tok.fi).desc.hwt | [] => 0
      c.fab' (fun g => { g with hwaits := g.hwaits ++ [{ hitch := h, fs := fs.map (fun f => (f, none)), until? := some (c.clk.cycle + hwt) }] })
    else c.answerF fs (some ⟨.data, (c.hitch h).read m⟩)) fs c

/-- HPARK: the firing parks as a CREDIT entry while the FI is queued. -/
def performHpark (fs : List Firing) (c : Chip) : Chip :=
  onHitch (fun h m c =>
    if (c.hitch h).queue.contains m then
      let hold := fs.foldl (fun (a : List (Firing × Option Nat) × Chip) f =>
        let item : QItem := { tok := f.tok, copy := f.copy, partner := none, matched := true, arrival := a.2.fab.nextId, grant := f.grant }
        match (a.2.freshId.2).place f.tile .credit item (.hitch h) with
        | .ok c1 => (a.1 ++ [(f, some (((c1.tile f.tile).store.getLast?.map Entry.id).getD 0))], c1)
        | .full c1 => (a.1, (c1.modTile f.tile (fun t => { t with reqs := t.reqs - 1 })).noPlace f.tile item)) ([], c)
      if hold.1.isEmpty then hold.2
      else hold.2.fab' (fun g => { g with hwaits := g.hwaits ++ [{ hitch := h, fs := hold.1, until? := none }] })
    else c.answerF fs (some ⟨.data, (c.hitch h).read m⟩)) fs c

/-- HREL (R458, R468). -/
def performHrel (tell : Nat → Nat → Chip → Chip) (fs : List Firing) (c : Chip) : Chip :=
  onHitch (fun h m c =>
    if (c.hitch h).holder = m then (c.hitchPass tell h).answerF fs (some ⟨.data, 1⟩)
    else
      match fs with
      | [] => c
      | f :: _ => ((c.misbehaves f.tok.fi).raise 131 f.tok.fi (some f.tok.fi) [fNat "HITCH" h]).answerF fs (some ⟨.data, 0⟩)) fs c

/-- A stalled HWAIT read passes HWT: the FI is withdrawn and the read shows the holder (R460). -/
def Chip.hwaitTimeout (c : Chip) (fi : Nat) : Chip :=
  let mine (w : HWaiter) : Bool := w.until?.isSome && w.fs.any (fun f => f.1.tok.fi == fi)
  match c.fab.hwaits.find? mine with
  | none => c
  | some w =>
    let c1 := (c.advanceTo (w.until?.getD 0)).modHitch w.hitch (fun x => { x with queue := x.queue.filter (· != masterFi fi) })
    (c1.fab' (fun g => { g with hwaits := g.hwaits.erase w })).answer w.fs (some ⟨.data, (c1.hitch w.hitch).read (masterFi fi)⟩)

/-! ### Packet cells (R391, R394, R395, R442–R451) -/

/-- The reserved minimum of a requester of the cell pool (Table 11-1); `portUp` says which ports have a mode other than OFF. -/
def Chip.cellMin (c : Chip) (portOn : Nat → Bool) (r : Nat) : Nat :=
  if r < 18 then (if portOn r then 40 else 0)
  else if r = 18 then 256 else if r = 19 then 64
  else if r < 32 then 0
  else if (c.fi (r - 32)).st.placed then (c.image (r - 32)).desc.cells else 0

/-- Cells a requester holds, cells free, and the reserved and unused cells. -/
def Chip.cellsHeld (c : Chip) (r : Nat) : Nat := (c.fab.cells.filter (fun e => e.2.owner == r)).length
def Chip.cellsFree (c : Chip) : Nat := 16384 - c.fab.cellLost - c.fab.cells.length
def Chip.cellsRsv (c : Chip) (portOn : Nat → Bool) : Nat :=
  (List.range 20 ++ (Tbl.keys c.fis).map (32 + ·)).foldl (fun n r => n + (c.cellMin portOn r - c.cellsHeld r)) 0

/-- Grants a cell to a requester, its 32 words zero; the lowest free cell is taken (R443, R444). -/
def Chip.allocCell (c : Chip) (portOn : Nat → Bool) (r : Nat) : Option (Nat × Chip) :=
  if grantable (c.cellMin portOn r) (c.cellsHeld r) c.cellsFree (c.cellsRsv portOn) then
    match firstBelow 16384 (fun n => (c.fab.cells.find n).isNone) with
    | some n => some (n, c.fab' (fun f => { f with cells := f.cells.set n { owner := r, words := [] }, cellPtr := (r + 1) % 1056 }))
    | none => none
  else none

/-- SALLOC. -/
def performSalloc (portOn : Nat → Bool) (fs : List Firing) (c : Chip) : Chip :=
  match fs with
  | [] => c
  | f :: _ =>
    match c.allocCell portOn (32 + f.tok.fi) with
    | some (n, c1) => c1.answerF fs (some ⟨.data, BitVec.ofNat 64 n⟩)
    | none => (c.modFi f.tok.fi (fun x => { x with cellExh := sat32 x.cellExh })).answerF fs (some Opnd.void)

/-- SFREE. -/
def performSfree (fs : List Firing) (c : Chip) : Chip :=
  match fs with
  | [] => c
  | f :: _ =>
    let fi := f.tok.fi
    let n := f.tok.op.data.toNat % 16384
    match c.fab.cells.find n with
    | some x =>
      if x.owner = 32 + fi then (c.fab' (fun g => { g with cells := g.cells.del n })).answerF fs (some ⟨.data, 1⟩)
      else ((c.misbehaves fi).raise 128 fi (some fi) [fNat "CELL" n]).answerF fs (some ⟨.data, 0⟩)
    | none => ((c.misbehaves fi).raise 128 fi (some fi) [fNat "CELL" n]).answerF fs (some ⟨.data, 0⟩)

end Sys2Proof.Machine
end

