-- ==== Sys2Proof/Machine/Field.lean ====
section
/-!
DEFINITION. Trip outputs, binary inputs, LEDs and the display (17_panel_and_field_io.md), and which FI an output is bound to.
-/
namespace Sys2Proof.Machine

/-! ### Bindings (R219) -/

/-- The FI and output port bound to a target. -/
def Chip.boundOut (c : Chip) (t : Target) : Option (Nat × Nat) :=
  c.cfg.fis.findSome? (fun e => (e.2.outs.find? (fun b => b.2 == t)).map (fun b => (e.1, b.1)))

/-- The FI bound to a target. -/
def Chip.fiOf (c : Chip) (t : Target) : Option Nat := (c.boundOut t).map (·.1)

def OutId.target : OutId → Target
  | .trip n => .trip n | .pub n => .pub n | .led n => .led n

/-- The FIs bound to an input source, for FI= (R836). -/
def Chip.fisOn (c : Chip) (s : Source) : List Nat := (c.boundTo s).map (·.1)

/-! ### Accessors and defaults -/

def Key.init : Key := { raw := false, pressed := false, since := 0, stuck := false }
def Touch.init : Touch := { count := 0, base := 0, touched := false, since := 0, bad := false }
def Pres.init : Pres := { active := false, fault := false, since := 0 }
def BinIn.init : BinIn := { raw := false, filt := false, delivered := false, accepted := [], changes := 0, blocked := false, lastRaw := 0 }
def Trip.init : Trip :=
  { drive := .off, onAt := 0, minPulse := 0, held := false, latched := false, testEnd := 0, testPulse := 0, sup := .ok, pulses := 0, readbackBad := false }
def TouchCfg.init : TouchCfg := { threshold := 64, drift := true }
def InputCfg.init : InputCfg := { vnom := 110, filter := 3000000, invert := false }
def TripCfg.init : TripCfg := { minPulse := 100000000, supervise := true, plug := none }
def blankLine : List Char := List.replicate 40 ' '

def Chip.key (c : Chip) (k : Nat) : Key := c.panel.keys.get Key.init k
def Chip.touch (c : Chip) (k : Nat) : Touch := c.panel.touch.get Touch.init k
def Chip.pres (c : Chip) (k : Nat) : Pres := c.panel.pres.get Pres.init k
def Chip.binIn (c : Chip) (k : Nat) : BinIn := c.panel.inputs.get BinIn.init k
def Chip.trip (c : Chip) (k : Nat) : Trip := c.panel.trips.get Trip.init k
def Chip.led (c : Chip) (k : Nat) : Nat := c.panel.leds.get 0 k
def Chip.line (c : Chip) (k : Nat) : List Char := c.panel.text.get blankLine k
def Chip.touchCfg (c : Chip) (k : Nat) : TouchCfg := c.cfg.touch.get TouchCfg.init k
def Chip.inputCfg (c : Chip) (k : Nat) : InputCfg := c.cfg.inputs.get InputCfg.init k
def Chip.tripCfg (c : Chip) (k : Nat) : TripCfg := c.cfg.trips.get TripCfg.init k
def Chip.ledPattern (c : Chip) (k : Nat) : Nat := c.cfg.ledFault.get 3 k

def Chip.modPanel (c : Chip) (g : Panel → Panel) : Chip := { c with panel := g c.panel }
def Chip.modKey (c : Chip) (k : Nat) (g : Key → Key) : Chip := c.modPanel (fun p => { p with keys := p.keys.put Key.init k (g (c.key k)) })
def Chip.modTouch (c : Chip) (k : Nat) (g : Touch → Touch) : Chip := c.modPanel (fun p => { p with touch := p.touch.put Touch.init k (g (c.touch k)) })
def Chip.modPres (c : Chip) (k : Nat) (g : Pres → Pres) : Chip := c.modPanel (fun p => { p with pres := p.pres.put Pres.init k (g (c.pres k)) })
def Chip.modBin (c : Chip) (k : Nat) (g : BinIn → BinIn) : Chip := c.modPanel (fun p => { p with inputs := p.inputs.put BinIn.init k (g (c.binIn k)) })
def Chip.modTrip (c : Chip) (k : Nat) (g : Trip → Trip) : Chip := c.modPanel (fun p => { p with trips := p.trips.put Trip.init k (g (c.trip k)) })
def Chip.setLed (c : Chip) (k v : Nat) : Chip :=
  c.modPanel (fun p => { p with leds := p.leds.put 0 k (v % 4), ledOff := p.ledOff.filter (· != k) })

/-! ### Belay (R716, R717) -/

/-- Belay by START, BASECAMP, UNIT or FAULT (R717). -/
def Chip.latched (c : Chip) (o : OutId) : Bool := c.belay.start || c.belay.basecamp || c.belay.unit || c.belay.fault.contains o

/-- The STATE cause: no FI is bound, or the bound FI's outputs do not act (Table 18-3). -/
def Chip.stateBelay (c : Chip) (o : OutId) : Bool :=
  match c.fiOf o.target with
  | some f => !(c.fi f).st.acts
  | none => true

/-- The output is belayed for some cause. -/
def Chip.belayed (c : Chip) (o : OutId) : Bool := c.latched o || c.stateBelay o

/-- Every bound output, trip outputs first, then publishers, then LEDs, each in ascending number (R718). -/
def Chip.boundOutputs (c : Chip) : List OutId :=
  let ts : List Target := c.cfg.fis.flatMap (fun e => e.2.outs.vals)
  ((List.range 16).map OutId.trip ++ ((c.cfg.pubs.keys).map OutId.pub) ++ (List.range 48).map OutId.led).filter (fun o => ts.contains o.target)

def OutId.val : OutId → Val
  | .trip n => .pair "TRIP" n | .pub n => .pair "PUB" n | .led n => .pair "LED" n
def OutId.inst : OutId → Nat
  | .trip n => n | .pub n => 16 + n | .led n => 2000 + n

/-! ### Trip outputs (R691–R698) -/

/-- Event 0x068 + n: a change of the driver input (R692). -/
def Chip.tripRecord (c : Chip) (n : Nat) (on : Bool) (cause : String) : Chip := c.record (104 + n) n [fOn "STATE" on, fSym "CAUSE" cause]

/-- Event 0x101: start or end of a TEST TRIP (R702). -/
def Chip.testRecord (c : Chip) (n : Nat) (start : Bool) (cause : Val) : Chip :=
  c.record 257 n [fNat "TRIP" n, ⟨"PULSE", .dur (c.trip n).testPulse⟩, fSym "PHASE" (if start then "START" else "END"), ⟨"CAUSE", cause⟩]

/-- Energizes an output for its FI (R691). -/
def Chip.tripOn (c : Chip) (n : Nat) : Chip :=
  (c.modTrip n (fun t => { t with drive := .fi, onAt := c.clk.cycle, minPulse := (c.tripCfg n).minPulse, held := false, pulses := t.pulses + 1 })).tripRecord n true "FI"

/-- De-energizes an output. -/
def Chip.tripOff (c : Chip) (n : Nat) (cause : String) : Chip :=
  if (c.trip n).drive = .off then c else (c.modTrip n (fun t => { t with drive := .off, held := false })).tripRecord n false cause

/-- Ends a test pulse (R147, R692, R702): the driver record names the test, the end record what ended it. -/
def Chip.endTest (c : Chip) (n : Nat) (cause : Val) : Chip :=
  if (c.trip n).drive = .test then (c.tripOff n "TEST").testRecord n false cause else c

/-- A TRIP token that changes nothing (R692). -/
def Chip.tripSame (c : Chip) (n fi : Nat) (on : Bool) (cause : String) : Chip :=
  c.record (104 + n) n [fOn "TOKEN" on, fFi fi, fSym "CAUSE" cause]

/-- A TRIP token of an FI at its trip output (R691, R692, R18). -/
def Chip.tripToken (c : Chip) (n fi : Nat) (on : Bool) : Chip :=
  let t := c.trip n
  if c.belayed (.trip n) then (c.modFi fi (fun x => { x with belayed := sat32 x.belayed })).tripSame n fi on "BELAY"
  else if t.latched then c.tripSame n fi on "OVERCURRENT"
  else match t.drive, on with
    | .test, true =>
      (c.modTrip n (fun t => { t with drive := .fi, onAt := c.clk.cycle, minPulse := (c.tripCfg n).minPulse, held := false })).testRecord n false (.sym "FI")
    | .test, false => c.tripSame n fi on "TEST"
    | .off, true => c.tripOn n
    | .off, false => c
    | .fi, true => c.modTrip n (fun t => { t with held := false })
    | .fi, false => if t.onAt + t.minPulse ≤ c.clk.cycle then c.tripOff n (if t.held then "MINPULSE" else "FI") else c.modTrip n (fun t => { t with held := true })

/-- The minimum pulse ends and a held de-energize applies (R691). -/
def Chip.minPulseEnd (c : Chip) (n : Nat) : Chip :=
  let t := c.trip n
  if t.drive = .fi ∧ t.held then (c.advanceTo (t.onAt + t.minPulse)).tripOff n "MINPULSE" else c

/-- A trip output is within its minimum pulse (R227). -/
def Chip.inPulse (c : Chip) (n : Nat) : Bool :=
  let t := c.trip n
  t.drive == .fi && decide (c.clk.cycle < t.onAt + t.minPulse)

/-- A test pulse reaches PULSE (R147). -/
def Chip.testPulseEnd (c : Chip) (n : Nat) : Chip :=
  let t := c.trip n
  if t.drive = .test then (c.advanceTo t.testEnd).endTest n .none else c

/-- PLUG of a trip output (R146). -/
def Chip.plugIn (c : Chip) (n : Nat) : Option Bool := (c.tripCfg n).plug.map (fun i => (c.pres i).active)
def plugName : Option Bool → Val
  | some true => .sym "IN" | some false => .sym "OUT" | none => .none

def Sup.name : Sup → String
  | .ok => "OK" | .opened => "OPEN" | .off => "OFF"

/-- A change of SUP (R693, R696). -/
def Chip.setSup (c : Chip) (n : Nat) (s : Sup) : Chip :=
  if (c.trip n).sup = s then c
  else
    let c1 := (c.modTrip n (fun t => { t with sup := s })).record (104 + n) n [fSym "SUP" s.name, ⟨"PLUG", plugName (c.plugIn n)⟩]
    if s = .opened ∧ c.plugIn n ≠ some true then c1.raise (320 + n) n none [fNat "TRIP" n] else c1

/-- The supervision current has been below, or at or above, 1.5 mA for 20 ms (R693). -/
def Chip.supChange (c : Chip) (n : Nat) (low : Bool) : Chip :=
  if (c.tripCfg n).supervise ∧ (c.trip n).drive = .off then c.setSup n (if low then .opened else .ok) else c

/-- The driver current exceeds its limit (R697). -/
def Chip.overcurrent (c : Chip) (n : Nat) : Chip :=
  match (c.trip n).drive with
  | .off => c
  | .fi => ((c.tripOff n "OVERCURRENT").modTrip n (fun t => { t with latched := true })).raise (336 + n) n none [fNat "TRIP" n]
  | .test => ((c.endTest n (.sym "OVERCURRENT")).modTrip n (fun t => { t with latched := true })).raise (336 + n) n none [fNat "TRIP" n]

/-- The readback has differed from the driver input for 20 us (R698). -/
def Chip.readbackFault (c : Chip) (n : Nat) : Chip :=
  (c.modTrip n (fun t => { t with readbackBad := true })).raise (352 + n) n none [fNat "TRIP" n]

/-! ### Display lines (R396, R398, R687) -/

/-- The characters a DISP instruction writes: count of them, the most significant octet first, those outside 0x20–0x7E replaced. -/
def dispChars (count : Nat) (w : Word) : List Char × Nat :=
  let os := (List.range count).map (fun i => field w (63 - 8 * i) (56 - 8 * i))
  (os.map (fun o => if 32 ≤ o ∧ o ≤ 126 then Char.ofNat o else '?'), (os.filter (fun o => !(32 ≤ o && o ≤ 126))).length)

/-- Replaces characters of a line from a column on; none goes beyond column 39. -/
def putChars (line : List Char) (col : Nat) (cs : List Char) : List Char :=
  (line.take col ++ cs ++ line.drop (col + cs.length)).take 40

def Chip.setLine (c : Chip) (r : Nat) (t : List Char) : Chip := c.modPanel (fun p => { p with text := p.text.put blankLine r t })

/-! ### Binary inputs (R688–R690) -/

/-- STATE of a binary input after INVERT. -/
def Chip.inputState (c : Chip) (n : Nat) : Bool := (c.binIn n).filt != (c.inputCfg n).invert

def fActive (b : Bool) : Fld := fSym "STATE" (if b then "ACTIVE" else "INACTIVE")

/-- Some bound FI takes tokens now. -/
def Chip.delivers (c : Chip) (s : Source) : Bool := (c.fisOn s).any (fun f => (c.fi f).st.active)

/-- An accepted change of a filtered binary input (R689, R690). -/
def Chip.inputChange (c : Chip) (n : Nat) (high : Bool) : Chip :=
  let x := c.binIn n
  if x.filt = high then c.modBin n (fun x => if x.raw = high then x else { x with raw := high, lastRaw := c.clk.cycle })
  else
    let now := c.clk.cycle
    let win := x.accepted.filter (fun t => decide (now < 1000000000 + t)) ++ [now]
    let st := high != (c.inputCfg n).invert
    let back := (c.inputCfg n).filter + 8000
    let c1 := c.modBin n (fun x => { x with raw := high, filt := high, lastRaw := now - (c.inputCfg n).filter, accepted := win, changes := sat32 x.changes })
    if x.blocked then c1
    else if win.length > 30 then
      (c1.modBin n (fun x => { x with blocked := true })).recordBefore back (88 + n) n [fSym "STATE" "CHATTER", fYes "DELIVERED" false, ⟨"CAUSE", .none⟩]
    else
      let del := c1.delivers (.input n)
      let c2 := (c1.modBin n (fun x => { x with delivered := st })).deliverSource (.input n) (if st then 1 else 0)
      c2.recordBefore back (88 + n) n [fActive st, fYes "DELIVERED" del, ⟨"CAUSE", .none⟩]

/-- A blocked input's raw state has been stable for 10 s (R690). -/
def Chip.inputUnblock (c : Chip) (n : Nat) : Chip :=
  let x := c.binIn n
  if !x.blocked then c
  else
    let c0 := c.advanceTo (10000000000 + x.lastRaw)
    let st := c0.inputState n
    let c1 := c0.modBin n (fun x => { x with blocked := false, accepted := [] })
    if st = x.delivered then c1.record (88 + n) n [fActive st, fYes "DELIVERED" false, fSym "CAUSE" "UNBLOCK"]
    else
      ((c1.modBin n (fun x => { x with delivered := st })).deliverSource (.input n) (if st then 1 else 0)).record (88 + n) n
        [fActive st, fYes "DELIVERED" true, fSym "CAUSE" "UNBLOCK"]

end Sys2Proof.Machine
end

