-- ==== Sys2Proof/Machine/Publish.lean ====
section
/-!
DEFINITION. Publishers: members, new states, retransmission, belay frames and the test flag (R397, R400, R584–R591 of 14_frame_codec.md).
-/
namespace Sys2Proof.Machine

def PubSt.init : PubSt :=
  { values := [], cell := none, published := none, stNum := 1, sqNum := 0, smpCnt := 0, spdu := 0, stateTime := (0, 0), building := none, pending := none,
    stopped := false, sentSince := false, interval := 0, dueAt := none, test := false, sent := 0, retrans := 0, unchanged := 0, belayed := 0,
    coalesced := 0, nocell := 0, noroute := 0, toobig := 0 }
def PubCfg.init : PubCfg := { typ := .goose, template := 0, ports := [], auth := .none, slot := 0, vlan := 0, prio := 4, min := 2000000, max := 1000000000 }
def ETempl.init : ETempl :=
  { goose := true, appid := 0, dstMac := 0, confRev := 0, rate := 0, ref := [], datSet := [], goId := [], dstIp := 0, srcIp := 0, udp := 0, members := [] }

def Chip.pub (c : Chip) (p : Nat) : PubSt := c.codec.pubs.get PubSt.init p
def Chip.modPub (c : Chip) (p : Nat) (g : PubSt → PubSt) : Chip := { c with codec := { c.codec with pubs := c.codec.pubs.put PubSt.init p (g (c.pub p)) } }
def Chip.pubCfg (c : Chip) (p : Nat) : PubCfg := c.cfg.pubs.get PubCfg.init p
def Chip.pubTempl (c : Chip) (p : Nat) : ETempl := c.cfg.etempl.get ETempl.init (c.pubCfg p).template
def SubType.isGoose : SubType → Bool
  | .goose | .rgoose => true | _ => false
def SubType.isR : SubType → Bool
  | .rsv | .rgoose => true | _ => false
def SubType.name : SubType → String
  | .sv => "SV" | .goose => "GOOSE" | .rsv => "RSV" | .rgoose => "RGOOSE"

/-- The publisher's test flag (R589): a trip output of its FI has its plug inserted. -/
def Chip.pubTest (c : Chip) (p : Nat) : Bool :=
  match c.fiOf (.pub p) with
  | none => false
  | some f => ((c.fiCfg f).outs.vals).any (fun t => match t with
    | .trip n => c.plugIn n == some true
    | _ => false)

/-- A step of stNum or sqNum: 2^32 - 1 is followed by 1 (R586). -/
def nextNum (n : Nat) : Nat := if n ≥ 4294967295 then 1 else n + 1

/-- Queues a frame for building; one data set waits behind it, and a later one replaces that (R400). -/
def Chip.askBuild (c : Chip) (p : Nat) (f : PubFrame) : Chip :=
  c.modPub p (fun x => match x.building with
    | none => { x with building := some f }
    | some _ => if x.pending.isNone then { x with pending := some f } else { x with pending := some f, coalesced := x.coalesced + 1 })

/-- A new state of a GOOSE publisher, or the frame of an SV one (R586, R588). -/
def Chip.newState (c : Chip) (p : Nat) (invalid : Bool) : Chip :=
  let g := (c.pubCfg p).typ.isGoose
  let min := (c.pubCfg p).min
  let c1 := c.modPub p (fun x => { x with
    stNum := if g then nextNum x.stNum else x.stNum, sqNum := 0, stateTime := c.now, interval := min,
    dueAt := if g && !invalid then some (c.clk.cycle + min) else none, published := some (x.values, x.cell), test := c.pubTest p })
  let x := c1.pub p
  c1.askBuild p { values := x.values, cell := x.cell, stNum := x.stNum, sqNum := 0, smpCnt := x.smpCnt, test := x.test, invalid := invalid,
                  again := false, interval := min, due := c.clk.cycle }

/-- Entry of the FI to ARMED: values return to the defaults, and a GOOSE publisher starts a new state (R397, R586, R588). -/
def Chip.pubArm (c : Chip) (p : Nat) : Chip :=
  let c1 := c.modPub p (fun x => { x with values := [], cell := none, published := none, stopped := false, sentSince := false, smpCnt := 0 })
  if (c.pubCfg p).typ.isGoose then c1.newState p false else c1

/-- SEND (R586, R588): an unchanged data set of a GOOSE publisher sends nothing. -/
def Chip.pubSend (c : Chip) (p : Nat) (cell : Bool) : Chip :=
  let x := c.pub p
  if (c.pubCfg p).typ.isGoose then
    if !cell && x.published == some (x.values, x.cell) then c.modPub p (fun x => { x with unchanged := x.unchanged + 1 })
    else c.newState p false
  else
    let c1 := c.newState p false
    c1.modPub p (fun x => { x with smpCnt := if x.smpCnt + 1 < (c.pubTempl p).rate then x.smpCnt + 1 else 0 })

/-- The belay frame of a publisher that has sent since its FI last entered ARMED, and its stop (R590, Table 18-4). -/
def Chip.pubBelay (c : Chip) (p : Nat) : Chip :=
  let x := c.pub p
  let c1 := if x.sentSince && !x.stopped then c.newState p true else c
  c1.modPub p (fun x => { x with stopped := true, dueAt := none })

/-- A change of a publisher's test flag starts a new state (R586, R589). -/
def Chip.testFlags (c : Chip) : Chip :=
  c.cfg.pubs.keys.foldl (fun c p =>
    let t := c.pubTest p
    if t = (c.pub p).test then c
    else if (c.pubCfg p).typ.isGoose && !c.belayed (.pub p) && (c.pub p).published.isSome then c.newState p false
    else c.modPub p (fun x => { x with test := t })) c

/-- A retransmission interval expires (R587): the frame is queued again with the next sqNum, and the interval doubles up to MAX. -/
def Chip.retransmit (c : Chip) (p : Nat) : Chip :=
  match (c.pub p).dueAt with
  | none => c
  | some d =>
    let c0 := c.advanceTo d
    let x := c0.pub p
    let next := min (2 * x.interval) (c0.pubCfg p).max
    let c1 := c0.modPub p (fun x => { x with sqNum := nextNum x.sqNum, interval := next, dueAt := some (d + next) })
    let snap := x.published.getD ([], none)
    c1.askBuild p { values := snap.1, cell := snap.2, stNum := x.stNum, sqNum := nextNum x.sqNum, smpCnt := x.smpCnt, test := x.test, invalid := false,
                    again := true, interval := next, due := d }

/-- The member value PUB sets, by the member's format (R584); UTCT takes TIME data less UTCOFFSET. -/
def memberValue (m : EMember) (utc : Int) (l : Opnd) : Word :=
  let w := l.data
  if m.fmt = 0x10 then w &&& 1
  else if m.fmt = 0x01 ∨ m.fmt = 0x02 ∨ m.fmt = 0x13 then w &&& 0xFFFFFFFF
  else if m.fmt = 0x14 then BitVec.ofNat 64 (w.toNat % 2 ^ m.bitlen)
  else if m.fmt = 0x15 then ofI (1073741824 * (w.toNat / 1073741824 : Nat) - utc * 1073741824 + (w.toNat % 1073741824 : Nat))
  else w

end Sys2Proof.Machine
end

