-- ==== Sys2Proof/Machine/Belay.lean ====
section
/-!
DEFINITION. Entry to and exit from belay (R716–R721), the stop of an FI by a fault (R233), and arming (R116, R226, R275, R310).
-/
namespace Sys2Proof.Machine

/-- What an output does when it enters belay from an unbelayed state (Table 18-4). -/
def Chip.enterBelay (c : Chip) (o : OutId) : Chip :=
  match o with
  | .trip n => (c.endTest n (.sym "BELAY")).tripOff n "BELAY"
  | .pub p => c.pubBelay p
  | .led _ => c

/-- What an output does when it leaves belay (R721). -/
def Chip.leaveBelay (c : Chip) (o : OutId) : Chip :=
  match o with
  | .led l => c.modPanel (fun p => { p with ledOff := if p.ledOff.contains l then p.ledOff else p.ledOff ++ [l] })
  | _ => c

/-- Events 0x110 and 0x111 for one output (R718, R721). -/
def Chip.belayEvent (c : Chip) (o : OutId) (begins : Bool) (cause : String) : Chip :=
  c.record (if begins then 272 else 273) o.inst [⟨"OUTPUT", o.val⟩, fSym "CAUSE" cause]

/-- Acts on every output that a change from `before` has taken into belay, with a record for each when the cause is not unit-wide. A trip output
under test is held only by STATE, so it also stops when a latched cause begins (R147, R717). -/
def Chip.belayBegun (c before : Chip) (cause : String) (unitWide : Bool) : Chip :=
  let c1 := if unitWide then c.record 272 0 [fSym "OUTPUT" "ALL", fSym "CAUSE" cause] else c
  let entered := c1.boundOutputs.filter (fun o => !before.belayed o && c1.belayed o)
  let c2 := entered.foldl (fun c o => let c' := c.enterBelay o; if unitWide then c' else c'.belayEvent o true cause) c1
  (List.range 16).foldl (fun c n => if !before.latched (.trip n) && c.latched (.trip n) then (c.endTest n (.sym "BELAY")).tripOff n "BELAY" else c) c2

/-- Records every output that a change from `before` has released, naming the last cause (R721). -/
def Chip.belayEnded (c before : Chip) (cause : String) : Chip :=
  (c.boundOutputs.filter (fun o => before.belayed o && !c.belayed o)).foldl (fun c o => (c.leaveBelay o).belayEvent o false cause) c

/-- A UNIT-FATAL classification (Table 18-1): belay of every output and the first alive condition. -/
def Chip.unitBelay (c : Chip) : Chip :=
  let c1 : Chip := { c with belay := { c.belay with unit := true }, alive := { c.alive with unitFatal := true } }
  if c.belay.unit then c1 else c1.belayBegun c "UNIT" true

/-- The outputs bound to an FI. -/
def Chip.outputsOf (c : Chip) (fi : Nat) : List OutId := c.boundOutputs.filter (fun o => c.fiOf o.target == some fi)

/-! ### Release of what an FI holds (R452, R470) -/

/-- Withdraws a master from a hitch's queue and releases it when it holds it, with event 0x0A4 (R470). `pass` hands the hitch on. -/
def Chip.dropHitches (c : Chip) (m : Nat) (cause : String) (pass : Nat → Chip → Chip) : Chip :=
  ((c.fab.hitches.filter (fun e => e.2.holder == m || e.2.queue.contains m)).map (·.1)).foldl (fun c h =>
    let x := c.hitch h
    let c1 := c.modHitch h (fun x => { x with queue := x.queue.filter (· != m) })
    let c2 := c1.record 164 h [fNat "HITCH" h, fMaster "MASTER" m, fSym "CAUSE" cause]
    if x.holder = m then pass h c2 else c2) c

/-- Frees the packet cells an owner holds (R452). -/
def Chip.dropCells (c : Chip) (owner : Nat) : Chip := c.fab' (fun f => { f with cells := f.cells.filter (fun e => e.2.owner != owner) })

/-- Every live context of an FI is released (R233, R231). -/
def Chip.purgeFi (c : Chip) (fi : Nat) : Chip :=
  ((c.fab.ctxs.filter (fun e => e.2.st == .live && e.2.fi == fi)).map (·.1)).foldl (fun c k => c.releaseCtx k) c

end Sys2Proof.Machine
end

