-- ==== Sys2Proof/Machine/Panel.lean ====
section
/-!
DEFINITION. Keys, touch channels, presence inputs and physical presence (R637, R670–R684 of 16 and 17 of spec/).
-/
namespace Sys2Proof.Machine

/-- D21 is ON: keys, touch and its presence inputs are scanned (R670, R672). -/
def Dom.init : Dom := { st := .off, since := 0, latched := none, forced := false, retryAt := none, retried := false, cause := "START", power := 0 }
def Chip.dom (c : Chip) (n : Nat) : Dom := c.sup.doms.get Dom.init n
def Chip.domOn (c : Chip) (n : Nat) : Bool := (c.dom n).st == .on

/-- The front panel board is present (R673). -/
def Chip.board (c : Chip) : Bool := (c.pres 5).active
def Chip.scanning (c : Chip) : Bool := c.domOn 21 && c.board

/-- FIs bound to a key or touch source that take its change: RUNNING, and no unit-wide belay holds (R675). -/
def Chip.panelTakers (c : Chip) (s : Source) : List (Nat × Nat) :=
  if c.belay.start || c.belay.basecamp || c.belay.unit then [] else (c.boundTo s).filter (fun b => (c.fi b.1).st == .running)

def Chip.deliverPanel (c : Chip) (s : Source) (w : Word) : Chip :=
  (c.panelTakers s).foldl (fun c b => c.deliverStanding b.1 { port := b.2, idx := 0, op := ⟨.data, w⟩, start := false } 0 none) c

def fCause (o : Option String) : Fld := ⟨"CAUSE", match o with | some s => .sym s | none => .none⟩

/-- Delivers and records a key change (R674, R675, R702); `back` is the debounce time. -/
def Chip.keyEvent (c : Chip) (k back : Nat) (st : String) (cause : Option String) (deliver : Option Word) : Chip :=
  let del := match deliver with | some _ => !(c.panelTakers (.key k)).isEmpty | none => false
  let c1 := match deliver with | some w => c.deliverPanel (.key k) w | none => c
  c1.recordBefore back k k [fSym "STATE" st, fYes "DELIVERED" del, fCause cause]

def Chip.touchEvent (c : Chip) (k back : Nat) (st : String) (cause : Option String) (deliver : Option Word) : Chip :=
  let del := match deliver with | some _ => !(c.panelTakers (.touch k)).isEmpty | none => false
  let c1 := match deliver with | some w => c.deliverPanel (.touch k) w | none => c
  c1.recordBefore back (64 + k) k [fSym "STATE" st, fYes "DELIVERED" del, fCause cause]

/-- DEBOUNCE rounded up to whole milliseconds, in cycles (R671). -/
def Chip.debounceCycles (c : Chip) : Nat := 1000000 * ((999999 + c.cfg.debounce) / 1000000)

/-- Physical presence ends (R637). -/
def Chip.presenceEnd (c : Chip) (cause : String) : Chip :=
  match c.panel.presence with
  | none => c
  | some _ => (c.modPanel (fun p => { p with presence := none, presHeld := true })).record 248 0 [fSym "STATE" "ENDED", fSym "CAUSE" cause]

/-- Keys 62 and 63 both read released let presence begin again (R637). -/
def Chip.presenceRearm (c : Chip) : Chip :=
  if !(c.key 62).raw && !(c.key 63).raw then c.modPanel (fun p => { p with presHeld := false }) else c

/-- A debounced key change, or the contact alone while keys are not scanned (R671–R676). -/
def Chip.keyChange (c : Chip) (k : Nat) (down : Bool) : Chip :=
  let c0 := (c.modKey k (fun x => { x with raw := down })).presenceRearm
  if !c.scanning then c0
  else
    let x := c.key k
    if x.stuck then
      if down then c0 else (c0.modKey k (fun x => { x with stuck := false, pressed := false, since := c.clk.cycle })).keyEvent k c.debounceCycles "RELEASED" (some "UNSTUCK") none
    else if x.pressed = down then c0
    else (c0.modKey k (fun x => { x with pressed := down, since := c.clk.cycle - c.debounceCycles })).keyEvent k c.debounceCycles
          (if down then "PRESSED" else "RELEASED") none (some (if down then 1 else 0))

/-- A key pressed for 120 s is stuck (R676). -/
def Chip.keyStuck (c : Chip) (k : Nat) : Chip :=
  let x := c.key k
  if x.pressed ∧ ¬ x.stuck ∧ c.scanning then
    let c1 := (c.advanceTo (120000000000 + x.since)).modKey k (fun x => { x with stuck := true })
    (c1.keyEvent k 0 "STUCK" none (some 0)).raise 369 k none [fNat "KEY" k]
  else c

/-- What a count makes of a channel: touched, released, or no change (R677). -/
def touchLevel (t : TouchCfg) (base count : Nat) (was : Bool) : Bool :=
  if base + t.threshold ≤ count then true else if count < base + t.threshold / 2 then false else was

/-- A touch count that has held for DEBOUNCE (R677, R680): an in-range count after a fault recalibrates the channel. -/
def Chip.touchChange (c : Chip) (k count : Nat) : Chip :=
  let n := min count 4095
  let x := c.touch k
  if !c.scanning then c
  else if x.bad then
    if n = 0 ∨ n = 4095 then c else c.modTouch k (fun x => { x with bad := false, base := n, count := n, touched := false, since := c.clk.cycle })
  else
    let on := touchLevel (c.touchCfg k) x.base n x.touched
    let c1 := c.modTouch k (fun x => { x with count := n })
    if on = x.touched then c1
    else (c1.modTouch k (fun x => { x with touched := on, since := c.clk.cycle - c.debounceCycles })).touchEvent k c.debounceCycles
          (if on then "TOUCHED" else "RELEASED") none (some (if on then 1 else 0))

/-- 256 scans have passed: the baseline of a released channel moves one count toward the count (R678). -/
def Chip.touchDrift (c : Chip) (k : Nat) : Chip :=
  let x := c.touch k
  if c.scanning ∧ (c.touchCfg k).drift ∧ ¬ x.touched ∧ ¬ x.bad then
    c.modTouch k (fun x => { x with base := if x.base < x.count then x.base + 1 else if x.count < x.base then x.base - 1 else x.base })
  else c

/-- A channel touched for 60 s is recalibrated (R679). -/
def Chip.touchRecal (c : Chip) (k : Nat) : Chip :=
  let x := c.touch k
  if c.scanning ∧ x.touched then
    ((c.advanceTo (60000000000 + x.since)).modTouch k (fun x => { x with touched := false, base := x.count, since := c.clk.cycle })).touchEvent k 0
      "RELEASED" (some "RECAL") (some 0)
  else c

/-- A count at 0 or 4,095 for 16 scans (R680). -/
def Chip.touchFault (c : Chip) (k : Nat) (high : Bool) : Chip :=
  let x := c.touch k
  if c.scanning ∧ ¬ x.bad then
    let c1 := c.modTouch k (fun x => { x with bad := true, touched := false, count := if high then 4095 else 0 })
    (c1.touchEvent k 0 "FAULT" none (if x.touched then some 0 else none)).raise 369 (64 + k) none [fNat "TOUCH" k]
  else c

/-- Removal of the front panel board, or D21 forced off (R673, Table 20-3): pressed keys and touched channels are released. -/
def Chip.boardGone (c : Chip) : Chip :=
  let c1 := (List.range 64).foldl (fun c k =>
    if (c.key k).pressed ∧ ¬ (c.key k).stuck then (c.modKey k (fun x => { x with pressed := false })).keyEvent k 0 "RELEASED" (some "BOARD") (some 0)
    else c.modKey k (fun x => { x with pressed := false, stuck := false })) c
  let c2 := (List.range 8).foldl (fun c k =>
    if (c.touch k).touched then (c.modTouch k (fun x => { x with touched := false })).touchEvent k 0 "RELEASED" (some "BOARD") (some 0) else c) c1
  c2.raise 368 0 none []

/-- Scanning resumes: each key takes the state read, every touch baseline is set to its count (R671, R673, R677). -/
def Chip.panelScanStart (c : Chip) : Chip :=
  let c1 := (List.range 64).foldl (fun c k => c.modKey k (fun x => { x with pressed := x.raw, stuck := false, since := c.clk.cycle })) c
  (List.range 8).foldl (fun c k => c.modTouch k (fun x => { x with touched := false, bad := false, base := x.count, since := c.clk.cycle })) c1

def Chip.boardReturn (c : Chip) : Chip := if c.domOn 21 then c.panelScanStart else c

/-- Whether an input is supervised (Table 17-1). -/
def supervised (i : Nat) : Bool := i < 4 || i == 6

/-- A debounced presence reading and its record (R681, R684); the answer says whether the state it reports has changed. -/
def Chip.presRead (c : Chip) (i : Nat) (r : PresRead) : Bool × Chip :=
  let x := c.pres i
  let back := c.debounceCycles
  let set (a f : Bool) (n : String) : Chip := (c.modPres i (fun _ => { active := a, fault := f, since := c.clk.cycle - back })).recordBefore back (72 + i) i [fSym "STATE" n]
  match r with
  | .between => (false, c)
  | .fault =>
    if supervised i ∧ ¬ x.fault then (false, (set x.active true "FAULT").raise 369 (72 + i) none [fNat "PRESENCE" i]) else (false, c)
  | .active => if x.active ∧ ¬ x.fault then (false, c) else (!x.active, set true false "ACTIVE")
  | .inactive => if ¬ x.active ∧ ¬ x.fault then (false, c) else (x.active, set false false "INACTIVE")

/-- Physical presence may begin: door open, keys 62 and 63 pressed, no fault of door or keys (R637, R672, R684). -/
def Chip.presenceHeld (c : Chip) : Bool :=
  c.scanning && (c.pres 6).active && !(c.pres 6).fault && (c.key 62).pressed && (c.key 63).pressed && !(c.key 62).stuck && !(c.key 63).stuck

/-- The three conditions have held for 3 s (R637). -/
def Chip.presenceActive (c : Chip) : Chip :=
  if c.presenceHeld ∧ ¬ c.panel.presHeld ∧ c.panel.presence.isNone then
    let c1 := c.advanceTo (3000000000 + max (c.pres 6).since (max (c.key 62).since (c.key 63).since))
    (c1.modPanel (fun p => { p with presence := some (120000000000 + c1.clk.cycle) })).record 248 0 [fSym "STATE" "ACTIVE"]
  else c

/-- 120 s of physical presence have passed (R637). -/
def Chip.presenceTimeout (c : Chip) : Chip :=
  match c.panel.presence with
  | some t => (c.advanceTo t).presenceEnd "TIME"
  | none => c

/-- Physical presence is active. -/
def Chip.present (c : Chip) : Bool := c.panel.presence.isSome

end Sys2Proof.Machine
end

