-- ==== Sys2Proof/Machine/Lanes.lean ====
section
/-!
DEFINITION. Lane states and training, management ports, cages and port counters (R474–R491, R506, R507 of 12_lanes_ports_and_rope.md), with the removal
of learned addresses when a port goes down (R533).
-/
namespace Sys2Proof.Machine

def LaneMode.name : LaneMode → String
  | .bp100 => "100G-BP" | .cu100 => "100G-CU" | .c2m100 => "100G-C2M" | .bp50 => "50G-BP" | .cu50 => "50G-CU" | .bp25 => "25G-BP" | .cu25 => "25G-CU"
  | .bp10 => "10G-BP" | .sfi10 => "10G-SFI" | .bx1 => "1G-BX" | .rope => "ROPE" | .off => "OFF"
def Fec.name : Fec → String
  | .auto => "AUTO" | .rs => "RS" | .baser => "BASER" | .none => "NONE"
def LaneSt.name : LaneSt → String
  | .off => "OFF" | .training => "TRAINING" | .up => "UP" | .down => "DOWN"

/-- FEC values a mode accepts (Table 12-1). -/
def LaneMode.fecs : LaneMode → List Fec
  | .bp25 | .cu25 => [.auto, .rs, .baser, .none]
  | .bp10 => [.auto, .none, .baser]
  | .sfi10 => [.auto, .none]
  | _ => [.auto]

/-- Training limit in cycles (Table 12-1). -/
def LaneMode.limit : LaneMode → Nat
  | .bp100 | .cu100 | .bp50 | .cu50 | .rope => 3000000000
  | .bp25 | .cu25 | .bp10 => 500000000
  | _ => 10000000

/-- Line rate in Mbit/s, for which of two ports is faster and for the time a frame takes (R515). -/
def LaneMode.rate : LaneMode → Nat
  | .bp100 | .cu100 | .c2m100 | .rope => 100000
  | .bp50 | .cu50 => 50000
  | .bp25 | .cu25 => 25000
  | .bp10 | .sfi10 => 10000
  | .bx1 => 1000
  | .off => 1000

def LaneCfg.init : LaneCfg := { mode := .off, fec := .auto }
def Lane.init : Lane :=
  { st := .off, run := LaneCfg.init, since := 0, stopEnd := none, next := LaneCfg.init, latched := none, los := true, hwBad := false, retrying := false }
def Cage.init : Cage := { resetOut := false, ready := none, intl := false, written := [] }
def PortCnt.init : PortCnt := ⟨0,0,0,0,0,0,0,0,0,0,0,0,0,0,0,0,0,0⟩
def PortCfg.init : PortCfg :=
  { pvid := 1, vlans := [1], prio := 0, learn := 1024, flood := false, redund := .none, peer := none, ip := [], gateway := [] }

def Chip.links' (c : Chip) (g : Links → Links) : Chip := { c with links := g c.links }
def Chip.lane (c : Chip) (n : Nat) : Lane := c.links.lanes.get Lane.init n
def Chip.modLane (c : Chip) (n : Nat) (g : Lane → Lane) : Chip := c.links' (fun l => { l with lanes := l.lanes.put Lane.init n (g (c.lane n)) })
def Chip.cage (c : Chip) (n : Nat) : Cage := c.links.cages.get Cage.init n
def Chip.modCage (c : Chip) (n : Nat) (g : Cage → Cage) : Chip := c.links' (fun l => { l with cages := l.cages.put Cage.init n (g (c.cage n)) })
def Chip.port (c : Chip) (n : Nat) : PortCnt := c.links.ports.get PortCnt.init n
def Chip.modPort (c : Chip) (n : Nat) (g : PortCnt → PortCnt) : Chip := c.links' (fun l => { l with ports := l.ports.put PortCnt.init n (g (c.port n)) })
def Chip.portCfg (c : Chip) (n : Nat) : PortCfg := c.cfg.ports.get PortCfg.init n
def Chip.laneCfg (c : Chip) (n : Nat) : LaneCfg := c.cfg.lanes.get LaneCfg.init n
def Chip.sw' (c : Chip) (g : Switch → Switch) : Chip := { c with sw := g c.sw }

/-- Lanes 14 and 15 are in ROPE (R133). -/
def Chip.roped (c : Chip) : Bool := (c.laneCfg 14).mode == .rope
/-- A lane that the rope link uses. -/
def Chip.ropeLane (c : Chip) (n : Nat) : Bool := (n == 14 || n == 15) && (c.lane n).run.mode == .rope
/-- A switch port is UP. -/
def Chip.portUp (c : Chip) (p : Nat) : Bool :=
  c.domOn 16 && (if p < 16 then (c.lane p).st == .up && !c.ropeLane p else c.links.mgmt.contains p)
/-- A port's mode is not OFF: management ports have no mode and count as on (Table 11-1). -/
def Chip.portOn (c : Chip) (p : Nat) : Bool := if p < 16 then (c.laneCfg p).mode != .off else p < 18
/-- Line rate of a port. -/
def Chip.portRate (c : Chip) (p : Nat) : Nat := if p < 16 then (c.lane p).run.mode.rate else 1000

/-! ### Learned addresses (R519, R532, R533) -/

/-- Every MAC entry. -/
def Switch.macs (s : Switch) : List MacEnt := s.half0.vals ++ s.half1.vals ++ s.stash
/-- Increments a table's generation: MAC 0, LPM4 1, LPM6 2, SUB 3 (R130). -/
def Chip.bumpGen (c : Chip) (k n : Nat) : Chip := c.sw' (fun s => { s with gens := s.gens.put 0 k ((s.gens.get 0 k + n) % 4294967296) })
/-- Learned entries of a port (R529). -/
def Chip.learned (c : Chip) (p : Nat) : Nat := (c.sw.macs.filter (fun e => !e.static && e.ports.contains p)).length
/-- Removes the learned entries for which a test holds, each one stepping the generation (R532). -/
def Chip.forget (c : Chip) (t : MacEnt → Bool) : Chip :=
  let bad (e : MacEnt) : Bool := !e.static && t e
  let n := (c.sw.macs.filter bad).length
  let c1 := c.sw' (fun s => { s with half0 := s.half0.filter (fun e => !bad e.2), half1 := s.half1.filter (fun e => !bad e.2),
                                     stash := s.stash.filter (fun e => !bad e) })
  c1.bumpGen 0 n
/-- Ports whose count stands below their limit have left it (R529). -/
def Chip.limitCheck (c : Chip) : Chip := c.sw' (fun s => { s with atLimit := s.atLimit.filter (fun p => decide ((c.portCfg p).learn ≤ c.learned p)) })

/-! ### Lane transitions (R480–R483) -/

/-- Event 0x078 + n (R482). -/
def Chip.laneRecord (c : Chip) (n : Nat) (fr dest : LaneSt) (cause : String) : Chip :=
  c.record (120 + n) n [fSym "FROM" fr.name, fSym "TO" dest.name, fSym "MODE" (c.lane n).run.mode.name, fSym "CAUSE" cause]

/-- Frees packet cells that no queued frame holds any longer (R516). -/
def Chip.freeCells (c : Chip) (l : List Nat) : Chip :=
  let still (n : Nat) : Bool := c.sw.queues.any (fun q => q.2.any (fun e => e.cells.contains n))
  c.fab' (fun f => { f with cells := f.cells.filter (fun e => !(l.contains e.1 && !still e.1)) })

/-- Drops every frame queued at a port as LINKDOWN (R481). -/
def Chip.flushPort (c : Chip) (p : Nat) : Chip :=
  let q := c.sw.queues.get [] p
  let c1 := c.sw' (fun s => { s with queues := s.queues.put [] p [] })
  (c1.freeCells (q.flatMap EgFrame.cells)).modPort p (fun k => { k with linkdown := k.linkdown + q.length })

/-- A port leaves UP: a transmission in progress ends as ABORT, and its learned entries go (R478, R533). -/
def Chip.portDown (c : Chip) (p : Nat) : Chip :=
  let busy := decide (c.clk.cycle < c.sw.txUntil.get 0 p)
  let c1 := if busy then (c.modPort p (fun k => { k with abort := k.abort + 1 })).sw' (fun s => { s with txUntil := s.txUntil.put 0 p c.clk.cycle }) else c
  (c1.forget (fun e => e.ports.contains p)).limitCheck

/-- The stop phase begins (R481): reported as OFF from its first cycle. -/
def Chip.laneStop (c : Chip) (n : Nat) (next : LaneCfg) (cause : String) : Chip :=
  let x := c.lane n
  let c1 := if x.st = .up then c.portDown n else c
  let c2 := if x.st = .off then c1 else c1.laneRecord n x.st .off cause
  (c2.flushPort n).modLane n (fun x => { x with st := .off, stopEnd := some (50000 + c.clk.cycle), next := next, latched := none, retrying := false, hwBad := false })

/-- A lane enters TRAINING in a mode (Table 12-2). -/
def Chip.laneTrain (c : Chip) (n : Nat) (m : LaneCfg) (cause : String) : Chip :=
  let x := c.lane n
  let c1 := c.modLane n (fun x => { x with st := .training, run := m, since := c.clk.cycle })
  if x.retrying then c1 else c1.laneRecord n x.st .training cause

/-- A mode change reaches a lane (R480, R483). -/
def Chip.laneApply (c : Chip) (n : Nat) (m : LaneCfg) : Chip :=
  let x := c.lane n
  let quad := c.domOn (12 + n / 4)
  if x.run = m ∧ x.latched.isNone ∧ x.stopEnd.isNone ∧ ¬ x.hwBad then c
  else if x.stopEnd.isSome then c.modLane n (fun x => { x with latched := some m })
  else match x.st with
    | .off => if m.mode = .off then c.modLane n (fun x => { x with run := m })
              else if quad then c.laneTrain n m "COMMIT" else c.modLane n (fun x => { x with run := m })
    | .training => c.modLane n (fun x => { x with latched := some m })
    | .up | .down => c.laneStop n m "COMMIT"

/-- A latched change begins once training has ended (R483). -/
def Chip.laneLatched (c : Chip) (n : Nat) : Chip :=
  match (c.lane n).latched with
  | some m => c.laneStop n m "LATCH"
  | none => c

/-- The lane completes training and lock (Table 12-2). -/
def Chip.laneTrained (c : Chip) (n : Nat) : Chip :=
  let x := c.lane n
  if x.st = .training ∧ ¬ x.hwBad then
    (((c.modLane n (fun x => { x with st := .up, los := false })).laneRecord n .training .up "LOCK").modLane n (fun x => { x with retrying := false })).laneLatched n
  else c

/-- Entry to DOWN: recorded, but for the repeated retries of R482. -/
def Chip.laneDown (c : Chip) (n : Nat) (cause : String) : Chip :=
  let x := c.lane n
  let c1 := if x.st = .up then c.portDown n else c
  let c2 := c1.modLane n (fun y => { y with st := .down, since := c.clk.cycle, retrying := true })
  let c3 := c2.modPort n (fun k => { k with downs := k.downs + 1 })
  if x.retrying then c3 else c3.laneRecord n x.st .down cause

/-- The training limit passes (Table 12-2). -/
def Chip.laneTimeout (c : Chip) (n : Nat) : Chip :=
  let x := c.lane n
  if x.st = .training then ((c.advanceTo (x.since + x.run.mode.limit)).laneDown n "TIMEOUT").laneLatched n else c

/-- Loss of signal or lock of an UP lane (Table 12-2). -/
def Chip.laneLoss (c : Chip) (n : Nat) (los : Bool) : Chip :=
  let x := c.lane n
  if x.st = .up then (c.laneDown n (if los then "LOS" else "LOCK")).modLane n (fun x => { x with los := los })
  else c.modLane n (fun x => { x with los := los })

/-- 100 ms in DOWN with signal: the lane trains again (Table 12-2), its receiver detecting signal; a lane whose hardware failed does not (R479). -/
def Chip.laneRetry (c : Chip) (n : Nat) : Chip :=
  let x := c.lane n
  if x.st = .down ∧ ¬ x.hwBad ∧ c.domOn (12 + n / 4) then ((c.advanceTo (100000000 + x.since)).modLane n (fun y => { y with los := false })).laneTrain n x.run "RETRY" else c

/-- The stop phase ends: the lane trains in its new mode, or stays OFF (R481, R483). -/
def Chip.laneStopEnd (c : Chip) (n : Nat) : Chip :=
  match (c.lane n).stopEnd with
  | none => c
  | some t =>
    let c0 := c.advanceTo t
    let m := (c0.lane n).latched.getD (c0.lane n).next
    let c1 := c0.modLane n (fun x => { x with stopEnd := none, latched := none, run := m })
    if m.mode ≠ .off ∧ c1.domOn (12 + n / 4) then c1.laneTrain n m "COMMIT" else c1

/-- A lane's calibration or PLL lock, or a management port's PHY, fails (R479). -/
def Chip.laneHardware (c : Chip) (n : Nat) : Chip :=
  let f (c : Chip) : Chip := c.raise (192 + n) n none [fNat "LANE" n]
  if n < 16 then
    let x := c.lane n
    if x.st = .off then c
    else f ((if x.st = .down then c else c.laneDown n "HARDWARE").modLane n (fun x => { x with hwBad := true }))
  else f (c.links' (fun l => { l with mgmt := l.mgmt.filter (· != n) }))

/-- A management link changes (R486). -/
def Chip.mgmtLink (c : Chip) (p : Nat) (up : Bool) : Chip :=
  if up = c.links.mgmt.contains p then c
  else
    let c1 := if up then c.links' (fun l => { l with mgmt := l.mgmt ++ [p] })
              else ((c.portDown p).links' (fun l => { l with mgmt := l.mgmt.filter (· != p) })).modPort p (fun k => { k with downs := k.downs + 1 })
    c1.record (192 + (p - 16)) p [fSym "STATE" (if up then "UP" else "DOWN")]

/-! ### Cages (R487–R491) -/

/-- A module is present in a cage: presence input 7 + q (Table 17-1). -/
def Chip.module (c : Chip) (q : Nat) : Bool := (c.pres (7 + q)).active

/-- ResetL is asserted while the module is absent or the quad is not ON; its release is timed from when both conditions end (R487). -/
def Chip.cageCheck (c : Chip) (q : Nat) : Chip :=
  if c.module q && c.domOn (12 + q) then
    if (c.cage q).ready.isSome then c else c.modCage q (fun x => { x with ready := some c.clk.cycle })
  else c.modCage q (fun x => { x with ready := none, resetOut := false, written := [] })

/-- 10 ms later ResetL is released (R487). -/
def Chip.resetRelease (c : Chip) (q : Nat) : Chip :=
  match (c.cage q).ready with
  | some t => if (c.cage q).resetOut then c else (c.advanceTo (10000000 + t)).modCage q (fun x => { x with resetOut := true })
  | none => c

/-- IntL changes (R488). -/
def Chip.intlChange (c : Chip) (q : Nat) (asserted : Bool) : Chip :=
  if (c.cage q).intl = asserted then c
  else (c.modCage q (fun x => { x with intl := asserted })).record (196 + q) q [fSym "STATE" (if asserted then "ASSERTED" else "RELEASED")]

/-- The lanes of a quad when its domain reaches ON (R480, R774). -/
def Chip.quadOn (c : Chip) (q : Nat) : Chip :=
  (List.range 4).foldl (fun c i =>
    let n := 4 * q + i
    let m := c.laneCfg n
    if m.mode ≠ .off ∧ (c.lane n).st = .off then (c.modLane n (fun x => { x with hwBad := false, stopEnd := none, latched := none })).laneTrain n m "DOMAIN" else c) (c.cageCheck q)

/-- The lanes of a quad when its domain leaves ON: DOWN on a domain fault (Table 20-3), OFF otherwise. -/
def Chip.quadOff (c : Chip) (q : Nat) (forced : Bool) : Chip :=
  (List.range 4).foldl (fun c i =>
    let n := 4 * q + i
    if (c.lane n).st = .off then c
    else if forced then c.laneDown n "DOMAIN"
    else ((c.laneStop n LaneCfg.init "DOMAIN").modLane n (fun x => { x with stopEnd := none, run := LaneCfg.init }))) (c.cageCheck q)

end Sys2Proof.Machine
end

