-- ==== Sys2Proof/Machine/Tables.lean ====
section
/-!
DEFINITION. The forwarding tables: hash functions, MAC table insertion, learning and ageing, the subscription table with duplicate entries, and
longest-prefix match (R519–R557 of 13_switching_and_tables.md).
-/
namespace Sys2Proof.Machine

/-! ### Hashes (R520) -/

/-- One octet of a reflected CRC with a reversed polynomial. -/
def crcStep (poly : BitVec 32) (crc : BitVec 32) (b : Byte) : BitVec 32 :=
  (List.range 8).foldl (fun c _ => if c.getLsbD 0 then (c >>> 1) ^^^ poly else c >>> 1) (crc ^^^ b.setWidth 32)

/-- CRC-32 of IEEE 802.3 and CRC-32C over octets, both reflected, with initial value and final inversion of all ones. -/
def crc32 (l : List Byte) : Nat := (~~~ (l.foldl (crcStep 0xEDB88320#32) 0xFFFFFFFF#32)).toNat
def crc32c (l : List Byte) : Nat := (~~~ (l.foldl (crcStep 0x82F63B78#32) 0xFFFFFFFF#32)).toNat

/-- n octets of a number, most significant first (R6). -/
def beOctets (n v : Nat) : List Byte := (List.range n).map (fun i => BitVec.ofNat 8 (v / 2 ^ (8 * (n - 1 - i))))

/-! ### The MAC table (R519–R527) -/

/-- The key of an entry, and its slot in each half (R520). -/
def macKey (vlan mac : Nat) : List Byte := beOctets 2 (vlan % 4096) ++ beOctets 6 mac
def macSlot (half : Bool) (vlan mac : Nat) : Nat := (if half then crc32c (macKey vlan mac) else crc32 (macKey vlan mac)) % 32768

/-- Half 1 and the stash (R521). -/
def Switch.macRest (s : Switch) (hit : MacEnt → Bool) (vlan mac : Nat) : Option MacEnt :=
  match s.half1.find (macSlot true vlan mac) with
  | some e => if hit e then some e else s.stash.find? hit
  | none => s.stash.find? hit

/-- A lookup reads both slots and the stash (R521). -/
def Switch.macFind (s : Switch) (vlan mac : Nat) : Option MacEnt :=
  let hit (e : MacEnt) : Bool := e.mac == mac && e.vlan == vlan
  match s.half0.find (macSlot false vlan mac) with
  | some e => if hit e then some e else s.macRest hit vlan mac
  | none => s.macRest hit vlan mac

/-- Replaces the entry of a key. -/
def Switch.macUpdate (s : Switch) (vlan mac : Nat) (g : MacEnt → MacEnt) : Switch :=
  let f (e : MacEnt) : MacEnt := if e.mac = mac ∧ e.vlan = vlan then g e else e
  { s with half0 := s.half0.map (fun e => (e.1, f e.2)), half1 := s.half1.map (fun e => (e.1, f e.2)), stash := s.stash.map f }

/-- Removes the entry of a key. -/
def Switch.macRemove (s : Switch) (vlan mac : Nat) : Switch :=
  let keep (e : MacEnt) : Bool := !(e.mac == mac && e.vlan == vlan)
  { s with half0 := s.half0.filter (fun e => keep e.2), half1 := s.half1.filter (fun e => keep e.2), stash := s.stash.filter keep }

/-- The moves of an insertion (R522): at most eight swaps, then the stash. -/
def macMoves (s : Switch) (carry : MacEnt) (half : Bool) : Nat → Option Switch
  | 0 => if s.stash.length < 32 then some { s with stash := s.stash ++ [carry] } else none
  | n + 1 =>
    let slot := macSlot half carry.vlan carry.mac
    match (if half then s.half1 else s.half0).find slot with
    | none => some (if half then { s with half1 := s.half1.set slot carry } else { s with half0 := s.half0.set slot carry })
    | some out =>
      let s1 := if half then { s with half1 := s.half1.set slot carry } else { s with half0 := s.half0.set slot carry }
      let slot' := macSlot (!half) out.vlan out.mac
      match (if half then s1.half0 else s1.half1).find slot' with
      | none => some (if half then { s1 with half0 := s1.half0.set slot' out } else { s1 with half1 := s1.half1.set slot' out })
      | some _ => macMoves s1 out (!half) n

/-- Inserts an entry; none when the insertion fails, with the table as it was (R522). -/
def Switch.macInsert (s : Switch) (e : MacEnt) : Option Switch :=
  let s0 := macSlot false e.vlan e.mac
  let s1 := macSlot true e.vlan e.mac
  if (s.half0.find s0).isNone then some { s with half0 := s.half0.set s0 e }
  else if (s.half1.find s1).isNone then some { s with half1 := s.half1.set s1 e }
  else macMoves s e false 8

/-- A stash entry whose slot has become free moves to it; the generation is not changed (R526). -/
def Switch.stashReturn (s : Switch) : Switch :=
  match s.stash.find? (fun e => (s.half0.find (macSlot false e.vlan e.mac)).isNone || (s.half1.find (macSlot true e.vlan e.mac)).isNone) with
  | none => s
  | some e =>
    let s' := { s with stash := s.stash.erase e }
    let a := macSlot false e.vlan e.mac
    if (s'.half0.find a).isNone then { s' with half0 := s'.half0.set a e } else { s' with half1 := s'.half1.set (macSlot true e.vlan e.mac) e }

/-- One more of a FWD block counter. -/
def Chip.fwd (c : Chip) (g : FwdCnt → FwdCnt) : Chip := c.sw' (fun s => { s with cnt := g s.cnt })

/-- What the learning limit makes of an address new to a port (R529, R530). -/
def Chip.excess (c : Chip) (vlan mac p : Nat) : Bool :=
  match c.sw.macFind vlan mac with
  | some e => !e.static && !e.ports.contains p && decide ((c.portCfg p).learn ≤ c.learned p)
  | none => decide ((c.portCfg p).learn ≤ c.learned p)

/-- The first excess address after the count last stood below the limit (R529). -/
def Chip.learnEvent (c : Chip) (vlan mac p : Nat) : Chip :=
  if c.sw.atLimit.contains p then c
  else ((c.sw' (fun s => { s with atLimit := s.atLimit ++ [p] })).modPort p (fun k => { k with learnev := k.learnev + 1 })).record (208 + p) p
        [⟨"MAC", .hex 12 mac⟩, fNat "VLAN" vlan]

/-- The insertion engine takes one learning request (R525–R532). -/
def Chip.macLearn (c : Chip) : Chip :=
  match c.sw.learnQ with
  | [] => c
  | r :: rest =>
    let c0 := c.sw' (fun s => { s with learnQ := rest })
    match c0.sw.macFind r.vlan r.mac with
    | some e =>
      if e.static then c0
      else if e.ports.contains r.port then c0.sw' (fun s => s.macUpdate r.vlan r.mac (fun e => { e with stamp := s.tick }))
      else if (c0.portCfg r.port).learn ≤ c0.learned r.port then c0
      else ((c0.sw' (fun s => s.macUpdate r.vlan r.mac (fun e => { e with ports := [r.port], stamp := s.tick }))).bumpGen 0 1).limitCheck
    | none =>
      if (c0.portCfg r.port).learn ≤ c0.learned r.port then c0
      else match c0.sw.macInsert { mac := r.mac, vlan := r.vlan, static := false, ports := [r.port], stamp := c0.sw.tick } with
        | some s => ({ c0 with sw := s } : Chip).bumpGen 0 1
        | none =>
          let c1 := c0.fwd (fun k => { k with learnfail := k.learnfail + 1 })
          let due := match c1.sw.failAt with | some t => decide (1000000000 + t ≤ c1.clk.cycle) | none => true
          if due then (c1.sw' (fun s => { s with failAt := some c1.clk.cycle })).record 228 0 [⟨"MAC", .hex 12 r.mac⟩, fNat "VLAN" r.vlan] else c1

/-- A 4 s tick and its ageing sweep (R535, R536). -/
def Chip.ageSweep (c : Chip) : Chip :=
  let c0 := c.advanceTo (4000000000 + c.sw.tickAt)
  let t := (c0.sw.tick + 1) % 65536
  let c1 := c0.sw' (fun s => { s with tick := t, tickAt := 4000000000 + c.sw.tickAt })
  (c1.forget (fun e => decide (c1.cfg.age / 4 ≤ (65536 + t - e.stamp) % 65536))).limitCheck

/-! ### The subscription and duplicate-discard table (R538–R550) -/

/-- The bucket of a key: bits [63:32] of CRC-32C × 3,840 (R539). -/
def subBucket (typ port : Nat) (key : List Byte) : Nat := 3840 * crc32c (beOctets 1 typ ++ beOctets 1 port ++ key) / 4294967296

def SubEnt.same (e : SubEnt) (typ port : Nat) (key : List Byte) : Bool := e.typ == typ && e.port == port && e.key == key

/-- A lookup of the bucket and the overflow store (R540). -/
def Switch.subFind (s : Switch) (typ port : Nat) (key : List Byte) : Option SubEnt :=
  (s.buckets.get [] (subBucket typ port key) ++ s.overflow).find? (fun e => e.same typ port key)

def SubEnt.isDup (e : SubEnt) : Bool := match e.pay with | .dup _ _ => true | .sub _ => false

/-- Places an entry in a free way of its bucket, or else in the overflow store; duplicate entries make room for a subscription (R541). -/
def Switch.subPlace (s : Switch) (e : SubEnt) : Option Switch :=
  let b := subBucket e.typ e.port e.key
  let way := s.buckets.get [] b
  if way.length < 4 then some { s with buckets := s.buckets.put [] b (way ++ [e]) }
  else match way.find? SubEnt.isDup with
    | some d => some { s with buckets := s.buckets.put [] b (way.erase d ++ [e]) }
    | none =>
      if s.overflow.length < 1024 then some { s with overflow := s.overflow ++ [e] }
      else match s.overflow.find? SubEnt.isDup with
        | some d => some { s with overflow := s.overflow.erase d ++ [e] }
        | none => none

def SubEnt.age (e : SubEnt) (now : Nat) : Nat := match e.pay with | .dup _ t => now - t | .sub _ => 0

/-- The oldest duplicate entry of a list. -/
def oldestDup (l : List SubEnt) (now : Nat) : Option SubEnt :=
  (l.filter SubEnt.isDup).foldl (fun (a : Option SubEnt) e => match a with
    | none => some e
    | some b => if b.age now < e.age now then some e else a) none

/-- Places a duplicate entry at run time (R542). -/
def Chip.dupPlace (c : Chip) (e : SubEnt) : Chip :=
  let s := c.sw
  let b := subBucket e.typ e.port e.key
  let way := s.buckets.get [] b
  if way.length < 4 then c.sw' (fun s => { s with buckets := s.buckets.put [] b (way ++ [e]) })
  else if s.overflow.length < 1024 then c.sw' (fun s => { s with overflow := s.overflow ++ [e] })
  else match oldestDup (way ++ s.overflow) c.clk.cycle with
    | some d =>
      if way.contains d then c.sw' (fun s => { s with buckets := s.buckets.put [] b (way.erase d ++ [e]) })
      else c.sw' (fun s => { s with overflow := s.overflow.erase d ++ [e] })
    | none => c.fwd (fun k => { k with dupmiss := k.dupmiss + 1 })

/-- Writes or removes an entry in its place. -/
def Chip.subWrite (c : Chip) (e : SubEnt) (dest : Option SubEnt) : Chip :=
  let b := subBucket e.typ e.port e.key
  let f (l : List SubEnt) : List SubEnt := l.filterMap (fun x => if x.same e.typ e.port e.key then dest else some x)
  c.sw' (fun s => { s with buckets := s.buckets.put [] b (f (s.buckets.get [] b)), overflow := f s.overflow })

/-- Key of a duplicate entry: sequence number and source address, under the lower port of the pair (Table 13-4). -/
def dupKey (seq src : Nat) : List Byte := beOctets 2 seq ++ beOctets 6 src

/-- Whether a candidate is a duplicate, and the table after it (R546). -/
def Chip.dupCheck (c : Chip) (low seq src : Nat) : Bool × Chip :=
  let fresh : SubEnt := { typ := 8, port := low, key := dupKey seq src, pay := .dup 1 c.clk.cycle }
  match c.sw.subFind 8 low (dupKey seq src) with
  | none => (false, c.dupPlace fresh)
  | some e =>
    match e.pay with
    | .dup r t =>
      if c.clk.cycle - t < 400000000 then
        (true, c.subWrite e (if r ≤ 1 then none else some { e with pay := .dup (r - 1) t }))
      else (false, c.subWrite e (some fresh))
    | .sub _ => (false, c)

/-- The subscription-table entries of a subscription, one per port (R135, R538). -/
def SubCfg.entries (n : Nat) (s : SubCfg) : List SubEnt :=
  let ps := sortNats s.ports
  ps.map (fun p => match s.typ with
    | .sv => { typ := 1, port := p, key := beOctets 2 s.vlan ++ beOctets 2 s.appid ++ beOctets 6 s.mac, pay := .sub n }
    | .goose => { typ := 2, port := p, key := beOctets 2 s.vlan ++ beOctets 2 s.appid ++ beOctets 6 s.mac, pay := .sub n }
    | .rsv => { typ := if s.v6 then 5 else 3, port := p, key := beOctets 2 s.udp ++ beOctets (if s.v6 then 16 else 4) s.dst, pay := .sub n }
    | .rgoose => { typ := if s.v6 then 6 else 4, port := p, key := beOctets 2 s.udp ++ beOctets (if s.v6 then 16 else 4) s.dst, pay := .sub n })

/-- A table with its subscription entries placed anew, in ascending subscription and port; duplicate entries stay where they are (R541). -/
def Switch.subBuild (s : Switch) (subs : Tbl SubCfg) : Option Switch :=
  let bare : Switch := { s with buckets := (s.buckets.map (fun e => (e.1, e.2.filter SubEnt.isDup))).filter (fun e => !e.2.isEmpty), overflow := s.overflow.filter SubEnt.isDup }
  (subs.flatMap (fun e => e.2.entries e.1)).foldl (fun (a : Option Switch) e => a.bind (fun s => s.subPlace e)) (some bare)

/-! ### Longest-prefix match (R551–R557) -/

/-- A prefix covers an address of `bits` bits. -/
def Pfx.covers (bits : Nat) (p : Pfx) (a : Nat) : Bool := a / 2 ^ (bits - p.len) == p.addr / 2 ^ (bits - p.len)

/-- The longest prefix that covers an address (R551, R554). -/
def lpm (bits : Nat) (l : List Pfx) (a : Nat) : Option Pfx :=
  l.foldl (fun (b : Option Pfx) p =>
    if p.covers bits a then match b with
      | none => some p
      | some q => if q.len < p.len then some p else b
    else b) none

/-- Levels of the tries: address bits above each level and its pool of nodes (Table 13-5). -/
def trieLevels (v6 : Bool) : List (Nat × Nat) :=
  if v6 then [(16, 16), (32, 16)] ++ (List.range 10).map (fun i => (48 + 8 * i, 2048)) else [(16, 4096), (24, 4096)]

/-- Nodes a prefix list needs at a level: the stems of the prefixes that reach beyond it (R552, R553). -/
def stems (bits depth : Nat) (l : List Pfx) : List Nat := ((l.filter (fun p => decide (depth < p.len))).map (fun p => p.addr / 2 ^ (bits - depth))).eraseDups

/-- The level at which the shadow trie of new prefixes finds its pool short beside the live one: every node on a changed path is new (R556). -/
def trieShort (v6 : Bool) (old new : List Pfx) : Option Nat :=
  let bits := if v6 then 128 else 32
  let ch := old.filter (fun p => !new.contains p) ++ new.filter (fun p => !old.contains p)
  let lv := trieLevels v6
  let bad (i : Nat × (Nat × Nat)) : Bool :=
    let d := i.2.1
    let touched := stems bits d ch
    decide (i.2.2 < (stems bits d old).length + ((stems bits d new).filter (fun x => touched.contains x)).length)
  ((List.range lv.length).zip lv).findSome? (fun i => if bad i then some (i.1 + 1) else none)

/-- Swaps a table's root at the commit edge, with event 0x0E5 (R557). -/
def Chip.lpmSwap (c : Chip) (v6 : Bool) (new : List Pfx) : Chip :=
  let k := if v6 then 2 else 1
  let c1 := c.sw' (fun s => { s with lpm4 := if v6 then s.lpm4 else new, lpm6 := if v6 then new else s.lpm6, roots := s.roots.put 0 k (1 - s.roots.get 0 k) })
  let c2 := c1.bumpGen k 1
  c2.record 229 k [fSym "KIND" (if v6 then "LPM6" else "LPM4"), fNat "GEN" (c2.sw.gens.get 0 k)]

/-- The steward rewrites the static table entries a memory error lost (R518). -/
def Chip.tableRestore (c : Chip) : Chip :=
  let s := c.sw
  let s1 := s.lostMac.foldl (fun (s : Switch) e => (s.macInsert e).getD s) s
  let s2 := s.lostSub.foldl (fun (s : Switch) e => (s.subPlace e).getD s) s1
  { c with sw := { s2 with lpm4 := s2.lpm4 ++ (s.lostPfx.filter (fun p => !p.1)).map (·.2), lpm6 := s2.lpm6 ++ (s.lostPfx.filter (fun p => p.1)).map (·.2),
                           lostMac := [], lostSub := [], lostPfx := [] } }

end Sys2Proof.Machine
end

