-- ==== Sys2Proof/Machine/Egress.lean ====
section
/-!
DEFINITION. Egress ports: packet cells, queues, cut-through, transmission with PTP correction, redundant copies (R513–R516, R543, R544, R558–R562 of
13_switching_and_tables.md). A frame is received, and its transmission begins, in one cycle of the model.
-/
namespace Sys2Proof.Machine

/-! ### Fixed delays (Table 15-5) -/

/-- The FEC a lane runs: AUTO selects what the mode's standard requires (R128). -/
def LaneCfg.fecRun (l : LaneCfg) : Fec :=
  match l.fec with
  | .auto => (match l.mode with | .bp25 | .cu25 => .rs | .bp10 | .sfi10 | .bx1 | .off => .none | _ => .rs)
  | f => f

/-- Receive and transmit delays of network stamps in ns (Table 15-5). -/
def LaneCfg.delays (l : LaneCfg) : Nat × Nat :=
  match l.mode, l.fecRun with
  | .bp100, _ | .cu100, _ => (74, 38)
  | .c2m100, _ => (70, 34)
  | .bp50, _ | .cu50, _ => (128, 54)
  | .bp25, .rs | .cu25, .rs => (236, 72)
  | .bp25, .baser | .cu25, .baser => (198, 70)
  | .bp25, _ | .cu25, _ => (80, 54)
  | .bp10, .baser => (282, 80)
  | .bp10, _ | .sfi10, _ => (66, 48)
  | .bx1, _ => (340, 240)
  | .rope, _ => (58, 30)
  | .off, _ => (0, 0)

def Chip.rxDelay (c : Chip) (p : Nat) : Nat := if p < 16 then (c.lane p).run.delays.1 else 640
def Chip.txDelay (c : Chip) (p : Nat) : Nat := if p < 16 then (c.lane p).run.delays.2 else 520

/-! ### Packet cells of frames (R442, R449, R516) -/

/-- Cells a frame of a length holds (R516). -/
def cellsFor (len : Nat) : Nat := (len + 255) / 256

/-- Takes n cells for a requester, or none of them. -/
def Chip.takeCells (c : Chip) (owner : Nat) : Nat → Option (List Nat × Chip)
  | 0 => some ([], c)
  | n + 1 =>
    match c.allocCell c.portOn owner with
    | none => none
    | some (k, c1) => match c1.takeCells owner n with
      | none => none
      | some (l, c2) => some (k :: l, c2)

/-- Cells queued at an egress port. -/
def Chip.queuedCells (c : Chip) (p : Nat) : Nat := (c.sw.queues.get [] p).foldl (fun n e => n + e.cells.length) 0

/-- Queues a frame at an egress port; none when the port's 2,048 cells would be exceeded (R516). -/
def Chip.queueAt (c : Chip) (p : Nat) (e : EgFrame) : Option Chip :=
  if c.queuedCells p + e.cells.length > 2048 then none
  else some (c.sw' (fun s => { s with queues := s.queues.put [] p (s.queues.get [] p ++ [e]) }))

/-! ### Transmission (R514, R515, R559–R562) -/

/-- Changes the PTP message of a frame. -/
def Frame.modPtp (f : Frame) (g : Ptp → Ptp) : Frame :=
  match f.payload with
  | .ptp m => { f with payload := .ptp (g m) }
  | _ => f

/-- Residence time in units of 2^-16 ns: cycles between the capture points, scaled by the anchor rate (R559). -/
def Chip.residence (c : Chip) (p : Nat) (e : EgFrame) : Int :=
  (((c.clk.cycle + c.txDelay p + c.rxDelay e.ingressPort : Nat) : Int) - e.ingress) * (281474976710656 + Anchor.perCycle c.clk.anchor.rate) / 4294967296

/-- Link delay of a port in the committed PTP list (R558, R560). -/
def Chip.linkDelay (c : Chip) (p : Nat) : Int := if c.cfg.time.ptp.contains p then (c.links.linkDly.get 0 p : Nat) else 0

/-- Keeps a two-step Sync that leaves a port for its Follow_Up, 32 at most (R562). -/
def Chip.keepSync (c : Chip) (p : Nat) (m : Ptp) (corr : Int) : Chip :=
  let l := c.sw.syncs.get [] p
  if l.length ≥ 32 then c.fwd (fun k => { k with ptpnomatch := k.ptpnomatch + 1 })
  else c.sw' (fun s => { s with syncs := s.syncs.put [] p (l ++ [{ domain := m.domain, seq := m.seq, spi := m.port, corr := corr, at? := c.clk.cycle }]) })

/-- A frame starts at an egress port: PTP correction, counters, the time the port is busy. -/
def Chip.startTx (c : Chip) (p : Nat) (e : EgFrame) : Chip :=
  let res := c.residence p e
  let f := if e.corr then e.frame.modPtp (fun m => { m with corr := m.corr + res }) else e.frame
  let c1 := match e.frame.payload with
    | .ptp m => if m.typ = 0 ∧ m.twoStep ∧ e.ingressPort < 18 then c.keepSync p m (res + c.linkDelay e.ingressPort) else c
    | _ => c
  let c2 := c1.sw' (fun s => { s with
    txUntil := s.txUntil.put 0 p (c.clk.cycle + (8000 * f.len + c.portRate p - 1) / c.portRate p),
    lastTx := s.lastTx.set p { e with frame := f } })
  c2.modPort p (fun k => { k with txf := k.txf + 1, txo := k.txo + f.len })

/-- The frame a port serves next: the highest priority, and the oldest of it (R514). -/
def serveNext : List EgFrame → Option EgFrame
  | [] => none
  | e :: t => match serveNext t with
    | none => some e
    | some x => if e.prio ≥ x.prio then some e else some x

/-- A queued frame starts at its egress port once the port is idle (R514); its cells are freed after its last transmission (R516). -/
def Chip.frameTransmit (c : Chip) (p : Nat) : Chip :=
  if !c.portUp p then c
  else match serveNext (c.sw.queues.get [] p) with
    | none => c
    | some e =>
      let c0 := c.advanceTo (c.sw.txUntil.get 0 p)
      let c1 := c0.sw' (fun s => { s with queues := s.queues.put [] p ((s.queues.get [] p).erase e) })
      (c1.startTx p e).freeCells e.cells

/-- The conditions of cut-through from one port to another (R515). -/
def Chip.cutsThrough (c : Chip) (ingress egress prio : Nat) : Bool :=
  c.portUp egress && decide (c.sw.txUntil.get 0 egress ≤ c.clk.cycle) && !(c.sw.queues.get [] egress).any (fun e => decide (prio ≤ e.prio))
    && decide (c.portRate egress ≤ c.portRate ingress) && (c.portCfg ingress).redund != .prpA && (c.portCfg ingress).redund != .prpB

/-! ### Redundant pairs (R543, R544) -/

/-- The other port of a redundant pair. -/
def Chip.partner (c : Chip) (p : Nat) : Option Nat := if (c.portCfg p).redund = .none then none else (c.portCfg p).peer
def Redund.isPrp : Redund → Bool
  | .prpA | .prpB => true | _ => false
def Chip.isPrp (c : Chip) (p : Nat) : Bool := (c.portCfg p).redund.isPrp
def Chip.isHsr (c : Chip) (p : Nat) : Bool := (c.portCfg p).redund == .hsr
/-- The lower port number of a port's pair. -/
def Chip.pairLow (c : Chip) (p : Nat) : Nat := match c.partner p with | some q => min p q | none => p

/-- A copy of an own frame for a port, with the trailer or tag of its pair (R544). -/
def Chip.tagged (c : Chip) (p seq : Nat) (f : Frame) : Frame :=
  match (c.portCfg p).redund with
  | .none => f
  | .prpA => { f with prp := some (10, seq), len := f.len + 6 }
  | .prpB => { f with prp := some (11, seq), len := f.len + 6 }
  | .hsr => { f with hsr := some seq, len := f.len + 6 }

/-- Takes a sequence number of every pair among the ports, placing the duplicate entries of the unit's own source address (R544). -/
def Chip.pairNumbers (c : Chip) (src : Nat) (ports : List Nat) : Tbl Nat × Chip :=
  ((ports.filter (fun p => (c.partner p).isSome)).map c.pairLow).eraseDups.foldl (fun (a : Tbl Nat × Chip) low =>
    let n := a.2.sw.pairSeq.get 0 low
    let c1 := a.2.sw' (fun s => { s with pairSeq := s.pairSeq.put 0 low ((n + 1) % 65536) })
    (a.1.set low n, c1.dupPlace { typ := 8, port := low, key := dupKey n src, pay := .dup 2 c1.clk.cycle })) ([], c)

/-- Sends a frame of port 18 or 19 on its ports, on both ports of each pair among them; answers whether every queue had room (R513, R516, R544). -/
def Chip.sendOwn (c : Chip) (ingress : Nat) (ports : List Nat) (f : Frame) (prio vlan : Nat) (cells : List Nat) : Bool × Chip :=
  let all := sortNats (ports ++ ports.filterMap c.partner)
  let (seqs, c1) := c.pairNumbers f.src all
  let up := all.filter c1.portUp
  let c2 := match all, up with
    | [p], [] => c1.modPort p (fun k => { k with linkdown := k.linkdown + 1 })
    | _, _ => c1
  let r := up.foldl (fun (a : Bool × Chip) p =>
    let e : EgFrame :=
      { prio := prio, vlan := vlan, tagged := vlan != (c1.portCfg p).pvid, frame := c1.tagged p (seqs.get 0 (c1.pairLow p)) f, cells := cells,
        ingress := c1.clk.cycle, ingressPort := ingress, corr := false }
    match a.2.queueAt p e with
    | some c' => (a.1, c')
    | none => (false, a.2)) (true, c2)
  (r.1, r.2.freeCells cells)

/-- A pending two-step Sync has found no Follow_Up for 1 s (R562). -/
def Chip.syncExpiry (c : Chip) (p : Nat) : Chip :=
  match c.sw.syncs.get [] p with
  | [] => c
  | s :: rest => (c.advanceTo (s.at? + 1000000000)).sw' (fun w => { w with syncs := w.syncs.put [] p rest })

end Sys2Proof.Machine
end

