-- ==== Sys2Proof/Machine/Codec.lean ====
section
/-!
DEFINITION. The frame codec: acceptance checks, sequence, token mapping, timeAllowedToLive (R571–R580), authentication (R592, R593) and the building of
publication frames (R585–R591 of 14_frame_codec.md).
-/
namespace Sys2Proof.Machine

def SubSt.init : SubSt :=
  { cnts := [], st := none, spdu := none, ctrl := 0, talEnd := none, stale := false, authAt := none, accepted := 0, fcs := 0, malformed := 0, sim := 0,
    auth := 0, dup := 0, rep := 0, overload := 0, notarmed := 0, staleCnt := 0, mirrored := 0 }
def SubCfg.init : SubCfg :=
  { typ := .sv, mac := 0, vlan := 0, appid := 0, v6 := false, dst := 0, udp := 0, ports := [], template := 0, auth := .none, slot := 0 }
def DTempl.init : DTempl := { goose := false, simOk := false, newOnly := false, rate := 0, asdus := 0, confRev := 0, ident := [], items := [] }
def Slot.init : Slot :=
  { st := .free, alg := .aes256, authtag := false, login := false, graph := false, session := false, sealgen := 0, fi := none, from? := (0, 0),
    until? := (0, 0), key := [], revokedAt := none, bad := false }

def Chip.codec' (c : Chip) (g : Codec → Codec) : Chip := { c with codec := g c.codec }
def Chip.keys' (c : Chip) (g : Keys → Keys) : Chip := { c with keys := g c.keys }
def Chip.sub (c : Chip) (s : Nat) : SubSt := c.codec.subs.get SubSt.init s
def Chip.modSub (c : Chip) (s : Nat) (g : SubSt → SubSt) : Chip := c.codec' (fun k => { k with subs := k.subs.put SubSt.init s (g (c.sub s)) })
def Chip.subCfg (c : Chip) (s : Nat) : SubCfg := c.cfg.subs.get SubCfg.init s
def Chip.subTempl (c : Chip) (s : Nat) : DTempl := c.cfg.dtempl.get DTempl.init (c.subCfg s).template
def Chip.slot (c : Chip) (n : Nat) : Slot := c.keys.slots.get Slot.init n

/-! ### Items (R566, R576, Table 14-2) -/

/-- A TIME token's data: seconds and nanoseconds (Table 6-2). -/
def timeWord (sec ns : Nat) : Word := BitVec.ofNat 64 (1073741824 * (sec % 17179869184) + ns)

/-- The token of an SV item; none when its member is absent. -/
def svItem (st : Stamp) (a : Asdu) (i : DItem) : Option Opnd :=
  if i.fmt = 3 then some ⟨.time, timeWord st.sec st.ns⟩
  else match a.members[i.index]? with
    | none => none
    | some (v, q) =>
      if i.fmt = 2 then some ⟨.data, q.setWidth 64⟩
      else if i.voidbad && q &&& 3 != 0 then some ⟨.void, 0⟩
      else some ⟨.data, v.signExtend 64⟩

/-- The token of a GOOSE item; none when its member is absent or of another encoding. -/
def gooseItem (st : Stamp) (utc : Int) (data : List GVal) (i : DItem) : Option Opnd :=
  if i.fmt = 3 then some ⟨.time, timeWord st.sec st.ns⟩
  else match i.fmt, data[i.index]? with
    | 0x10, some (.bool b) => some ⟨.data, if b then 1 else 0⟩
    | 0x11, some (.int n v) => if n ≤ 8 then some ⟨.data, BitVec.ofInt 64 v⟩ else none
    | 0x12, some (.uint n) => if n < 18446744073709551616 then some ⟨.data, BitVec.ofNat 64 n⟩ else none
    | 0x13, some (.f32 w) => some ⟨.data, w.setWidth 64⟩
    | 0x14, some (.bits n w) => if n ≤ 64 then some ⟨.data, BitVec.ofNat 64 (w.toNat % 2 ^ n)⟩ else none
    | 0x15, some (.utc s f _) => some ⟨.time, timeWord (((s : Int) + utc).toNat) (1000000000 * f / 16777216)⟩
    | _, _ => none

/-- Every item's token, in item order; none when one cannot be formed. -/
def allItems (f : DItem → Option Opnd) (l : List DItem) : Option (List Opnd) := l.mapM f

/-- The discipline state of a stamp's quality bits: TQ of Table 14-4. -/
def Stamp.tq (s : Stamp) : Nat := s.q.toNat % 4

/-- CTRL data of an SV ASDU (Table 14-4). -/
def svCtrl (st : Stamp) (mir : Bool) (a : Asdu) : Word :=
  let qsum := a.members.foldl (fun (n : BitVec 32) m => n ||| m.2) 0
  let sync := if a.smpSynch ≤ 2 then a.smpSynch else 3
  BitVec.ofNat 64 (a.smpCnt % 65536 * 2 ^ 48 + (if mir then 2 ^ 47 else 0) + qsum.toNat % 8192 * 2 ^ 34 + st.tq * 2 ^ 32 + sync * 2 ^ 30 + st.ns % 2 ^ 30)

/-- CTRL data of a GOOSE message (Table 14-5). -/
def gooseCtrl (st : Stamp) (stNum sqNum : Nat) (new test nds sim auth : Bool) : Word :=
  let b (x : Bool) (k : Nat) : Nat := if x then 2 ^ k else 0
  BitVec.ofNat 64 (stNum % 2 ^ 20 * 2 ^ 44 + min sqNum 63 * 2 ^ 38 + b new 36 + b test 35 + b nds 34 + b sim 33 + b auth 32 + st.tq * 2 ^ 30 + st.ns % 2 ^ 30)

/-- The CTRL data of a STALE token: STALE set, the other fields those of the last message, NS the expiry (Table 14-5). -/
def staleCtrl (last : Word) (ns : Nat) : Word := BitVec.ofNat 64 (last.toNat / 2 ^ 30 * 2 ^ 30 + ns % 2 ^ 30) ||| 0x2000000000#64

/-! ### Delivery to the bound FIs (R17, R255–R257, R576, R580) -/

/-- The FIs bound to a subscription with the port: in class order, then rank, then number (R580). -/
def Chip.subBound (c : Chip) (s : Nat) : List (Nat × Nat) :=
  let key (n : Nat) : Nat := (c.fiCfg n).cls * 2 ^ 32 + 1024 * (c.fiCfg n).rank.getD 65535 + n
  sortBy (fun a => key a.1) (c.boundTo (.sub s))

/-- A subscription whose ASDUs enter period contexts of an FI (R255). -/
def Chip.aligned (c : Chip) (fi s : Nat) : Bool :=
  let f := c.fiCfg fi
  f.period == .sv && !(c.subCfg s).typ.isGoose &&
    (match f.psrc with | some p => p == s || (c.subTempl p).rate == (c.subTempl s).rate | none => false)

/-- The running count of a sample count, wrapped at RATE, nearest the last one taken. -/
def unwrapCount (last rate k : Nat) : Nat :=
  if last = 0 then rate + k
  else
    let d := (k + rate - last % rate) % rate
    if 2 * d < rate then last + d else last + d - rate

/-- How an FI takes the tokens of one ASDU or message: in the period context of a count, in the standing context, as the GOOSE period source, or not. -/
inductive Take | period (fi port id : Nat) (start : Bool) | standing (fi port : Nat) | gooseSrc (fi port : Nat)
deriving DecidableEq, Repr

/-- Check 8 for one FI (R17, R256, R257). -/
def Chip.prepare (c : Chip) (s : Nat) (count : Option Nat) (b : Nat × Nat) : Option Take × Chip :=
  let fi := b.1
  let f := c.fiCfg fi
  if !(c.fi fi).st.active then (none, c.modSub s (fun x => { x with notarmed := x.notarmed + 1 }))
  else match count with
    | none => (some (if f.period = .goose ∧ f.psrc = some s then .gooseSrc fi b.2 else .standing fi b.2), c)
    | some k =>
      if !c.aligned fi s then (some (.standing fi b.2), c)
      else
        let id := unwrapCount (c.fi fi).lastId (c.subTempl s).rate k
        let c0 := if f.psrc = some s then c.passCounts fi id else c
        match c0.takePeriod fi id with
        | .got c1 => (some (.period fi b.2 id (f.psrc == some s)), c1)
        | .late c1 => (none, c1.bindCount s (fun x => { x with late := x.late + 1 }))
        | .noctx c1 => (none, c1.noContext fi (some s))

/-- Delivers tokens of a list to what takes them. -/
def Chip.deliverTake (c : Chip) (t : Take) (ds : List (Nat × Opnd)) : Chip :=
  match t with
  | .period fi port id start => c.deliverPeriod fi id (ds.map (fun d => { port := port, idx := d.1, op := d.2, start := start && d.1 == 0 }))
  | .standing fi port => ds.foldl (fun c d => c.deliverStanding fi { port := port, idx := d.1, op := d.2, start := false } 0 none) c
  | .gooseSrc _ _ => c

/-- A message for the GOOSE period source of an FI (R214): it starts a period now or waits, the newest replacing an older one. -/
def Chip.gooseArrival (c : Chip) (fi port : Nat) (ds : List (Nat × Opnd)) : Chip :=
  let l : List Deliv := ds.map (fun d => { port := port, idx := d.1, op := d.2, start := d.1 == 0 })
  let old := (c.fi fi).pendGoose.isSome
  let c1 := c.modFi fi (fun x => { x with pendGoose := some (l, c.clk.cycle), coalesced := if old then sat32 x.coalesced else x.coalesced })
  if c1.periodOpen fi then c1 else c1.startPendGoose fi

/-- The tokens of one ASDU or message go to every bound FI: the items first, then the CTRL tokens (R576, R580). -/
def Chip.codecDeliver (c : Chip) (s : Nat) (count : Option Nat) (items : List Opnd) (ctrl : Word) : Chip :=
  let r := (c.subBound s).foldl (fun (a : List Take × Chip) b =>
    match a.2.prepare s count b with
    | (some t, c1) => (a.1 ++ [t], c1)
    | (none, c1) => (a.1, c1)) ([], c)
  let data := (List.range items.length).zip items |>.map (fun i => (i.1 + 1, i.2))
  let c1 := r.1.foldl (fun c t => c.deliverTake t data) r.2
  r.1.foldl (fun c t => match t with
    | .gooseSrc fi port => c.gooseArrival fi port (data ++ [(0, ⟨.ctrl, ctrl⟩)])
    | t => c.deliverTake t [(0, ⟨.ctrl, ctrl⟩)]) c1

/-! ### Acceptance (R571–R575) -/

/-- Takes one ASDU of decode capacity, when there is one (R573). -/
def Chip.decodeRoom (c : Chip) : Bool × Chip :=
  let b := min 256000 (c.codec.bucket + 24 * (c.clk.cycle - c.codec.bucketAt))
  if b ≥ 1000 then (true, c.codec' (fun k => { k with bucket := b - 1000, bucketAt := c.clk.cycle }))
  else (false, c.codec' (fun k => { k with bucket := b, bucketAt := c.clk.cycle }))

/-- x is newer than the last number (R572). -/
def newer (x last : Nat) : Bool := let d := (4294967296 + x - last % 4294967296) % 4294967296; 1 ≤ d && d ≤ 2147483648

def Chip.malformed (c : Chip) (s : Nat) : Chip := c.modSub s (fun x => { x with malformed := x.malformed + 1 })

/-- Check 2: the structure of a message against its template. -/
def DTempl.structure (t : DTempl) (st : Stamp) (m : Msg) : Bool :=
  m.wellFormed && !m.encrypted &&
  (match m.pdu with
   | .sv _ as => !t.goose && as.length == t.asdus && as.all (fun a => (allItems (svItem st a) t.items).isSome)
   | .goose _ _ _ _ _ _ _ _ _ _ data => t.goose && (allItems (gooseItem st 0 data) t.items).isSome)

/-- Check 3 for an ASDU. -/
def DTempl.asduOk (t : DTempl) (svId : List Char) (a : Asdu) : Bool :=
  (t.ident.isEmpty || t.ident == svId) && (t.confRev == 0 || t.confRev == a.confRev) && decide (a.smpCnt < t.rate) &&
  (match a.smpRate with | none => true | some r => r == t.rate) && a.smpSynch != 3 && a.smpSynch != 4 && a.smpSynch != 255

/-- Check 3 for a GOOSE message. -/
def DTempl.gooseOk (t : DTempl) (ref : List Char) (confRev : Nat) : Bool :=
  (t.ident.isEmpty || t.ident == ref) && (t.confRev == 0 || t.confRev == confRev)

/-- Checks 6 to 8 of one SV ASDU. -/
def Chip.svAccept (c : Chip) (s : Nat) (mir : Bool) (st : Stamp) (a : Asdu) : Chip :=
  if (c.sub s).cnts.contains a.smpCnt then c.modSub s (fun x => { x with dup := x.dup + 1 })
  else
    let (room, c1) := c.decodeRoom
    if !room then c1.modSub s (fun x => { x with overload := x.overload + 1 })
    else
      let ctrl := svCtrl st mir a
      let c2 := c1.modSub s (fun x => { x with cnts := (a.smpCnt :: x.cnts).take 8, accepted := x.accepted + 1, ctrl := ctrl,
                                                mirrored := if mir then x.mirrored + 1 else x.mirrored })
      c2.codecDeliver s (some a.smpCnt) ((allItems (svItem st a) (c.subTempl s).items).getD []) ctrl

/-- Checks 6 to 8 of a GOOSE message (R572–R575). -/
def Chip.gooseAccept (c : Chip) (s : Nat) (mir sim auth : Bool) (st : Stamp) (tal stNum sqNum : Nat) (test nds : Bool) (data : List GVal) : Chip :=
  let t := c.subTempl s
  let ok := match (c.sub s).st with
    | none => true
    | some (n, q) => newer stNum n || (stNum == n && newer sqNum q)
  if !ok then c.modSub s (fun x => { x with dup := x.dup + 1 })
  else
    let (room, c1) := c.decodeRoom
    if !room then c1.modSub s (fun x => { x with overload := x.overload + 1 })
    else
      let new := match (c.sub s).st with | none => true | some (n, _) => n != stNum
      let again := match (c.sub s).st with | none => false | some (n, _) => n == stNum
      let ctrl := gooseCtrl st stNum sqNum new test nds sim auth
      let c2 := c1.modSub s (fun x => { x with
        st := some (stNum, sqNum), accepted := x.accepted + 1, ctrl := ctrl, stale := false, talEnd := some (1000000 * tal + c.clk.cycle),
        mirrored := if mir then x.mirrored + 1 else x.mirrored, rep := if t.newOnly && again then x.rep + 1 else x.rep })
      if t.newOnly && again then c2
      else c2.codecDeliver s none ((allItems (gooseItem st c.cfg.time.utcOffset data) t.items).getD []) ctrl

/-- From check 6 on: the session's SPDU number, then the ASDUs or the message. -/
def Chip.sequence (c : Chip) (s : Nat) (mir : Bool) (st : Stamp) (m : Msg) (auth : Bool) : Chip :=
  let t := c.subTempl s
  let old := (c.subCfg s).typ.isR && (match (c.sub s).spdu, m.spdu with
    | some l, some n => !newer n l
    | _, _ => false)
  if old then c.modSub s (fun x => { x with dup := x.dup + 1 })
  else
    let c1 := if (c.subCfg s).typ.isR then c.modSub s (fun x => { x with spdu := m.spdu }) else c
    match m.pdu with
    | .sv ident as => (as.filter (t.asduOk ident)).foldl (fun c a => c.svAccept s mir st a) c1
    | .goose _ _ _ tal n q _ test nds _ data => c1.gooseAccept s mir m.sim auth st tal n q test nds data

/-- A failed authentication: counted, and the fault at most once per second (R571, R593). -/
def Chip.authFail (c : Chip) (s : Nat) : Chip :=
  let due := match (c.sub s).authAt with | some t => decide (1000000000 + t ≤ c.clk.cycle) | none => true
  let c1 := c.modSub s (fun x => { x with auth := x.auth + 1, authAt := if due then some c.clk.cycle else x.authAt })
  if due then c1.raise 211 s none [fNat "SUB" s] else c1

/-- The algorithm an AUTH setting needs (Table 14-9). -/
def Auth.alg : Auth → Alg
  | .gmac => .aes256 | _ => .hmac256

/-- A key slot usable at a time: VALID, within its window, its wrap good (R646, R650, R593). -/
def Slot.usable (x : Slot) (t : Nat × Nat) : Bool := x.st == .valid && !x.bad && timeLe x.from? t && !timeLe x.until? t

/-- The FI binding of a slot: every FI bound to the subscription equals its FI (Table 16-6). -/
def Chip.slotFits (c : Chip) (s : Source) (x : Slot) : Bool :=
  match x.fi with | none => true | some n => (c.boundTo s).all (fun b => b.1 == n)

/-- The slot of a publisher serves its publication now (Table 16-6). -/
def Chip.pubSlotOk (c : Chip) (p : Nat) : Bool :=
  let x := c.slot (c.pubCfg p).slot
  x.usable c.now && x.authtag && x.alg == (c.pubCfg p).auth.alg && (match x.fi with | none => true | some n => c.fiOf (.pub p) == some n) &&
    !c.keys.workBad && c.domOn 18

/-- What of check 5 needs no engine: a tag of the subscription's algorithm and a usable slot (R592, R593). -/
def Chip.tagFit (c : Chip) (s : Nat) (st : Stamp) (m : Msg) : Bool :=
  let f := c.subCfg s
  let x := c.slot f.slot
  match m.tag with
  | none => false
  | some g => x.usable (st.sec, st.ns) && x.authtag && x.alg == f.auth.alg && c.slotFits (.sub s) x &&
      (match f.auth with
       | .hmac => g.alg == 1 && (g.octets.length == 16 || g.octets.length == 32)
       | .gmac => g.alg == 2 && g.octets.length == 16
       | .none => false)

/-- A frame that matches a subscription (R571): checks 1 to 5, and on from there; a tag check waits for the engine (R582). -/
def Chip.decode (c : Chip) (s port : Nat) (mir fcs : Bool) (st : Stamp) (m : Msg) (raw : List Byte) : Chip :=
  let t := c.subTempl s
  if !c.domOn 17 then c
  else if !fcs then c.modSub s (fun x => { x with fcs := x.fcs + 1 })
  else if c.codec.badTempl.contains (c.subCfg s).template || !t.structure st m then c.malformed s
  else
    let bad := match m.pdu with
      | .sv ident as => (as.filter (fun a => !t.asduOk ident a)).length
      | .goose ref _ _ _ _ _ conf _ _ _ _ => if t.gooseOk ref conf then 0 else 1
    let none_ := match m.pdu with
      | .sv ident as => !as.any (t.asduOk ident)
      | .goose .. => bad == 1
    let c1 := (List.range bad).foldl (fun c _ => c.malformed s) c
    if none_ then c1
    else if m.sim && !t.simOk then c1.modSub s (fun x => { x with sim := x.sim + 1 })
    else if (c.subCfg s).auth = .none then c1.sequence s mir st m false
    else if !c.tagFit s st m || c.keys.workBad || !c.domOn 18 then c1.authFail s
    else if c.codec.waiting.length ≥ 64 then c1.modSub s (fun x => { x with overload := x.overload + 1 })
    else c1.codec' (fun k => { k with waiting := k.waiting ++
      [{ sub := s, port := port, mirrored := mir, stamp := st, cycle := c.clk.cycle, msg := m, raw := raw }] })

/-- A tag check has ended: the gate opens or the frame fails (R582, R593). -/
def Chip.authDone (c : Chip) : Chip :=
  match c.keys.checked with
  | [] => c
  | (w, ok) :: rest =>
    let c1 := c.keys' (fun k => { k with checked := rest })
    if (c.cfg.subs.find w.sub).isNone then c1
    else if ok then c1.sequence w.sub w.mirrored w.stamp w.msg true else c1.authFail w.sub

/-- timeAllowedToLive passes: a STALE CTRL token to each bound FI's standing context (R575). -/
def Chip.talExpiry (c : Chip) (s : Nat) : Chip :=
  match (c.sub s).talEnd with
  | none => c
  | some t =>
    let c0 := c.advanceTo t
    let c1 := (c0.modSub s (fun x => { x with talEnd := none, stale := true, staleCnt := x.staleCnt + 1 })).record 241 s [fNat "SUB" s]
    let w := staleCtrl (c0.sub s).ctrl c0.clk.anchor.ns
    (c1.subBound s).foldl (fun c b =>
      if (c.fi b.1).st.active then c.deliverStanding b.1 { port := b.2, idx := 0, op := ⟨.ctrl, w⟩, start := false } 0 none else c) c1

/-! ### Building publications (R584–R591) -/

/-- The value of a member in a frame: the test flag sets bit 11 of Q members, a belay frame's validity bits are invalid (R589, R590). -/
def frameValue (goose test invalid : Bool) (m : EMember) (w : Word) : Word :=
  let q := !goose && m.fmt == 2
  let w1 := if q && test then w ||| 0x800#64 else w
  if invalid && (q || (goose && m.fmt == 0x14 && m.bitlen == 13)) then w1 &&& 0xFFFFFFFFFFFFFFFC#64 ||| 1 else w1

/-- A GOOSE member as sent. -/
def gooseMember (m : EMember) (w : Word) : GVal :=
  match m.fmt with
  | 0x10 => .bool (w.getLsbD 0)
  | 0x11 => .int 8 w.toInt
  | 0x12 => .uint w.toNat
  | 0x13 => .f32 (w.setWidth 32)
  | 0x14 => .bits m.bitlen w
  | 0x15 => .utc (w.toNat / 1073741824) (16777216 * (w.toNat % 1073741824) / 1000000000) 0
  | _ => .other

/-- SV members as 8-octet members: a value with the quality word that follows it. -/
def svMembers : List (EMember × Word) → List (BitVec 32 × BitVec 32)
  | [] => []
  | [(m, w)] => if m.fmt = 2 then [(0, w.setWidth 32)] else [(w.setWidth 32, 0)]
  | (m, w) :: (n, v) :: t =>
    if m.fmt = 1 ∧ n.fmt = 2 then (w.setWidth 32, v.setWidth 32) :: svMembers t
    else (if m.fmt = 2 then (0, w.setWidth 32) else (w.setWidth 32, 0)) :: svMembers ((n, v) :: t)

/-- The message of a publication frame (R585, R587–R590). -/
def Chip.pubMsg (c : Chip) (p : Nat) (f : PubFrame) (spdu : Nat) : Msg :=
  let t := c.pubTempl p
  let x := c.pubCfg p
  let vs := (List.range t.members.length).zip t.members |>.map (fun e => (e.2, frameValue t.goose f.test f.invalid e.2 ((f.values.find e.1).getD e.2.dflt)))
  let utc : Nat := (((c.pub p).stateTime.1 : Int) - c.cfg.time.utcOffset).toNat
  { wellFormed := true, encrypted := false, sim := false, spdu := if x.typ.isR then some spdu else none,
    tag := if x.auth = .none then none else some { alg := if x.auth = .hmac then 1 else 2, key := x.slot, octets := (Config.mac (c.slot x.slot).key []
      (Config.frameOctets p ([f.stNum, f.sqNum, f.smpCnt, spdu].map (BitVec.ofNat 64) ++ vs.map Prod.snd) (f.cell.getD []))).take 16 },
    pdu := if t.goose then
        .goose t.ref t.datSet t.goId ((2 * f.interval + 999999) / 1000000) f.stNum f.sqNum t.confRev f.test false
          (utc, 16777216 * (c.pub p).stateTime.2 / 1000000000) (if f.cell.isSome then [.other] else vs.map (fun v => gooseMember v.1 v.2))
      else .sv t.ref [{ smpCnt := f.smpCnt, confRev := t.confRev, smpSynch := if c.clk.disc = .disciplined then 2 else 0, smpRate := none,
                        members := if f.cell.isSome then [] else svMembers vs }] }

/-- The frame that was built leaves the codec's place; the pending one takes it (R400). -/
def Chip.pubNext (c : Chip) (p : Nat) : Chip := c.modPub p (fun x => { x with building := x.pending, pending := none })

/-- Sends the built frame (R585, R449, R510, R551). -/
def Chip.pubFinish (c : Chip) (p : Nat) (f : PubFrame) : Chip :=
  let t := c.pubTempl p
  let x := c.pubCfg p
  let len := Config.frameLength p ((List.range t.members.length).zip t.members |>.map (fun e => (f.values.find e.1).getD e.2.dflt)) (f.cell.getD [])
  let c0 := c.pubNext p
  let route := if x.typ.isR then lpm 32 c.sw.lpm4 t.dstIp else none
  if x.typ.isR && route.isNone then (c0.fwd (fun k => { k with noroute := k.noroute + 1 })).modPub p (fun y => { y with noroute := y.noroute + 1 })
  else if x.typ.isR && !(match route with | some r => x.ports.contains r.port | none => false) then c0.modPub p (fun y => { y with noroute := y.noroute + 1 })
  else if len > 1536 then c0.modPub p (fun y => { y with toobig := y.toobig + 1 })
  else match c0.takeCells 18 (cellsFor len) with
    | none => c0.modPub p (fun y => { y with nocell := y.nocell + 1 })
    | some (cells, c1) =>
      let spdu := (c.pub p).spdu + 1
      let msg := c.pubMsg p f spdu
      let dst := match route with | some r => r.mac | none => t.dstMac
      let fr : Frame := { dst := dst, src := c.unit.mac.1, vtag := some (x.prio, x.vlan), hsr := none, prp := none, len := len, fcs := true,
                          payload := if x.typ.isR then .ip false t.goose t.dstIp t.udp msg else .l2 t.goose t.appid msg, raw := f.cell.getD [] }
      let (room, c2) := c1.sendOwn 18 (match route with | some r => [r.port] | none => x.ports) fr x.prio x.vlan cells
      c2.modPub p (fun y => { y with
        sent := y.sent + 1, retrans := if f.again then y.retrans + 1 else y.retrans, sentSince := true, spdu := if x.typ.isR then spdu else y.spdu,
        nocell := if room then y.nocell else y.nocell + 1 })

/-- Order of the publish requests (R591). -/
def Chip.pubKey (c : Chip) (p : Nat) (f : PubFrame) : Nat :=
  if f.again then 2 ^ 100 + f.due
  else match c.fiOf (.pub p) with
    | some n => (c.fiCfg n).cls * 2 ^ 64 + 1024 * (if (c.fiCfg n).cls = 0 then (c.fiCfg n).rank.getD 65535 else n) + p
    | none => 2 ^ 80 + p

/-- The publish request the codec serves next. -/
def Chip.pubPick (c : Chip) : Option (Nat × PubFrame) :=
  let l := c.codec.pubs.filterMap (fun e => match e.2.building with
    | some f => if c.keys.tagQ.contains e.1 then none else some (e.1, f)
    | none => none)
  l.foldl (fun (a : Option (Nat × PubFrame)) e => match a with
    | none => some e
    | some b => if c.pubKey e.1 e.2 < c.pubKey b.1 b.2 then some e else a) none

/-- The codec builds the next publication (R591); one with AUTH waits for its tag (R592, R656). -/
def Chip.publishBuild (c : Chip) : Chip :=
  match c.pubPick with
  | none => c
  | some (p, f) =>
    if !c.domOn 17 then (c.pubNext p).modPub p (fun y => { y with nocell := y.nocell + 1 })
    else
      let b := min 64000 (c.codec.build + 8 * (c.clk.cycle - c.codec.buildAt))
      let wait := if b ≥ 1000 then 0 else (1000 - b + 7) / 8
      let c0 := (c.advance wait).codec' (fun k => { k with build := b + 8 * wait - 1000, buildAt := c.clk.cycle + wait })
      if (c.pubCfg p).auth = .none then c0.pubFinish p f
      else if !c.pubSlotOk p then (c0.pubNext p).modPub p (fun y => { y with nocell := y.nocell + 1 })
      else if c.keys.tagQ.length ≥ 64 then (c0.pubNext p).modPub p (fun y => { y with nocell := y.nocell + 1 })
      else c0.keys' (fun k => { k with tagQ := k.tagQ ++ [p] })

end Sys2Proof.Machine
end

