-- ==== Sys2Proof/Machine/Rope.lean ====
section
/-!
DEFINITION. The rope link: token framing, mirror frames, beacons, lane choice, link state (R492–R505 of 12_lanes_ports_and_rope.md).
-/
namespace Sys2Proof.Machine

def RopeLane.init : RopeLane :=
  { rxAt := none, runFrom := 0, peerSeq := 0, peerTx := (0, 0), rxTime := (0, 0), echoSeq := 0, echoValid := false, downNoted := false }
def Chip.rlane (c : Chip) (n : Nat) : RopeLane := c.links.rlanes.get RopeLane.init n
def Chip.modRlane (c : Chip) (n : Nat) (g : RopeLane → RopeLane) : Chip := c.links' (fun l => { l with rlanes := l.rlanes.put RopeLane.init n (g (c.rlane n)) })
def Chip.ropeCnt (c : Chip) (g : RopeCnt → RopeCnt) : Chip := c.links' (fun l => { l with cnt := g l.cnt })

/-- A rope lane that is UP. -/
def Chip.ropeLaneUp (c : Chip) (n : Nat) : Bool := c.domOn 16 && c.ropeLane n && (c.lane n).st == .up

/-- Octets of a rope frame from the destination address to the FCS. -/
def RopeFrame.len (f : RopeFrame) : Nat :=
  max 64 (26 + (match f.body with | .tokens l => 20 * l.length | .mirror _ n _ _ => 12 + n | .beacon _ => 56))

/-- The next SEQ of a TYPE (R492). -/
def Chip.ropeSeq (c : Chip) (typ : Nat) : Nat × Chip :=
  let n := (c.links.txSeq.get 0 typ + 1) % 65536
  (n, c.links' (fun l => { l with txSeq := l.txSeq.put 0 typ n }))

/-- Gives a TOKENS or MIRROR frame to a rope lane, counted at the lane's port (R506). -/
def Chip.ropeSend (c : Chip) (f : RopeFrame) : Chip :=
  let n := c.links.txLane
  (c.links' (fun l => { l with lastSent := some (n, f) })).modPort n (fun k => { k with txf := k.txf + 1, txo := k.txo + f.len })

/-- Sends the queued MIRROR frames while the transmit lane is UP. -/
def Chip.mirrorDrain (c : Chip) : Chip :=
  if !c.ropeLaneUp c.links.txLane then c
  else
    let c0 := c.links' (fun l => { l with mirrors := [] })
    c.links.mirrors.foldl (fun c f =>
      let (n, c1) := c.ropeSeq 2
      (c1.ropeSend { f with seq := n }).ropeCnt (fun k => { k with mirtx := k.mirtx + 1 })) c0

/-- A frame that matched an SV subscription is mirrored to the twin (R496, R500). -/
def Chip.mirror (c : Chip) (port : Nat) (origin : Stamp) (f : Frame) : Chip :=
  if !c.roped then c
  else if c.links.mirrors.length ≥ 64 ∨ f.len > 1522 then c.ropeCnt (fun k => { k with mirdrop := k.mirdrop + 1 })
  else (c.links' (fun l => { l with mirrors := l.mirrors ++ [{ version := 1, typ := 2, seq := 0, resv := 0, body := .mirror port (f.len - 4) origin f }] })).mirrorDrain

/-- A token of a ROPE instruction reaches the framer (R493, R500, R240). -/
def Chip.ropeToken (c : Chip) (port : Nat) (t : Token) : Chip :=
  if (c.fi t.fi).fallenBack then c.modFi t.fi (fun x => { x with ropeDisc := sat32 x.ropeDisc })
  else if c.links.txQueue.length ≥ 512 then c.ropeCnt (fun k => { k with txdisc := k.txdisc + 1 })
  else c.links' (fun l => { l with txQueue := l.txQueue ++ [{ port := port, tok := t }], txFirst := if l.txQueue.isEmpty then c.clk.cycle else l.txFirst })

/-- The framer closes a TOKENS frame: four tokens, or 4 cycles after the first (R493); queued MIRROR frames follow it. -/
def Chip.ropeClose (c : Chip) : Chip :=
  if c.links.txQueue.isEmpty ∨ ¬ c.ropeLaneUp c.links.txLane then c
  else
    let l := c.links.txQueue.take 4
    let c0 := if l.length < 4 then c.advanceTo (c.links.txFirst + 4) else c
    let c1 := c0.links' (fun k => { k with txQueue := k.txQueue.drop 4, txFirst := c0.clk.cycle })
    let (n, c2) := c1.ropeSeq 1
    ((c2.ropeSend { version := 1, typ := 1, seq := n, resv := 0, body := .tokens l }).ropeCnt (fun k => { k with txtok := k.txtok + l.length })).mirrorDrain

/-- Delivers one entry of a TOKENS frame (R494, R239). -/
def Chip.ropeEntry (c : Chip) (e : RopeTok) : Chip :=
  let fi := e.tok.fi
  let declared := match (c.image fi).inputs[e.port]? with | some p => p.declared && p.rope | none => false
  let bad := e.tok.op.kind == .rsv5 || e.tok.op.kind == .rsv6 || e.tok.op.kind == .rsv7
  if bad || !declared then c.ropeCnt (fun k => { k with disc := k.disc + 1 })
  else if !(c.fiCfg fi).rope || !(c.fi fi).st.active then c.modFi fi (fun x => { x with ropeDisc := sat32 x.ropeDisc })
  else (c.deliverStanding fi { port := e.port, idx := 0, op := e.tok.op, start := false } e.tok.colour none).ropeCnt (fun k => { k with rxtok := k.rxtok + 1 })

/-- The sequence check of one TYPE (R501): whether the frame is accepted. -/
def Chip.ropeAccept (c : Chip) (typ seq : Nat) : Bool × Chip :=
  match c.links.rxSeq.find typ with
  | none => (true, c.links' (fun l => { l with rxSeq := l.rxSeq.set typ seq }))
  | some s =>
    let d := (65536 + seq - s) % 65536
    if 1 ≤ d ∧ d ≤ 32767 then
      (true, (c.links' (fun l => { l with rxSeq := l.rxSeq.set typ seq })).ropeCnt (fun k => { k with lost := k.lost + (d - 1) }))
    else (false, c)

def Chip.ropeStale (c : Chip) : Chip := c.ropeCnt (fun k => { k with stale := k.stale + 1 })

/-- The anchor's time n nanoseconds away from now. -/
def Chip.timeShift (c : Chip) (n : Int) : Nat × Nat :=
  let t := (((1000000000 * c.clk.anchor.sec + c.clk.anchor.ns : Nat) : Int) + n).toNat
  (t / 1000000000, t % 1000000000)

/-- A time as nanoseconds. -/
def nsOf (t : Nat × Nat) : Int := (1000000000 * t.1 + t.2 : Nat)

/-- Half a sum, rounded to the nearest ns. -/
def halfNs (x : Int) : Int := (x + 1) / 2

/-- The link goes UP: this unit sends on lane 14 from the start of the link (R502, R503), and LOCAL FIs get 2 at their next period start (R240). -/
def Chip.ropeUp (c : Chip) : Chip :=
  let c1 := (c.links' (fun l => { l with ropeUp := true, txLane := 14 })).record 136 0 [fSym "STATE" "UP", fSym "CAUSE" "BEACON"]
  (c1.fis.filter (fun e => e.2.fallenBack)).foldl (fun c e => c.modFi e.1 (fun x => { x with fallbackVal := 2 })) c1

/-- A beacon arrives on a lane (R498, R499, R501–R503). The second copy of a beacon, on the other lane, is neither new nor stale. -/
def Chip.beaconReceive (c : Chip) (lane seq : Nat) (b : Beacon) : Chip :=
  if !c.ropeLaneUp lane then c
  else
    let now := c.clk.cycle
    let second := c.links.rxSeq.find 3 == some seq
    let (new, c0) := c.ropeAccept 3 seq
    if !new && !second then c0.ropeStale
    else
      let old := c0.rlane lane
      let rx := c0.timeShift (-(58 : Int))
      let run := match old.rxAt with | some t => if now ≤ 15000 + t then old.runFrom else now | none => now
      let c1 := c0.modRlane lane (fun x => { x with rxAt := some now, runFrom := run, peerSeq := seq, peerTx := b.tx, rxTime := rx,
                                                     echoSeq := b.echoSeq, echoValid := b.echoValid, downNoted := false })
      let t1 := nsOf b.echoTx
      let t2 := nsOf b.echoRx
      let t3 := nsOf b.tx
      let t4 := nsOf rx
      let c2 := if b.echoValid ∧ lane = c.links.txLane then
          c1.links' (fun l => { l with offset := some (halfNs ((t2 - t1) - (t4 - t3)), halfNs ((t2 - t1) + (t4 - t3))) }) else c1
      let other := match c.links.peerSerial with | some s => s != b.serial | none => false
      let c3 := c2.links' (fun l => { l with peer := some b, peerSerial := some b.serial })
      let c4 := if other then c3.record 138 0 [⟨"SERIAL", .str (String.ofList b.serial)⟩] else c3
      if !c4.links.ropeUp && decide (100000 + run ≤ now) then c4.ropeUp else c4

/-- The body of the beacon for a lane (Table 12-6). -/
def Chip.beaconBody (c : Chip) (lane : Nat) : Beacon :=
  let x := c.rlane lane
  { serial := c.unit.serial, alive := c.alive.toggling, basecamp := c.belay.basecamp, lane15 := c.links.txLane == 15, echoValid := x.rxAt.isSome,
    tx := c.timeShift 30, txFrac := c.clk.anchor.sub / 4294967296, txq := c.quality, echoSeq := x.peerSeq, echoRx := x.rxTime, echoTx := x.peerTx }

/-- Every 10 us a beacon goes out on both lanes with one SEQ (R498). -/
def Chip.beaconSend (c : Chip) : Chip :=
  if !c.roped then c
  else
    let c0 := match c.links.beaconAt with | some t => c.advanceTo (10000 + t) | none => c
    let (n, c1) := c0.ropeSeq 3
    [14, 15].foldl (fun c l =>
      if c.ropeLaneUp l then
        let f : RopeFrame := { version := 1, typ := 3, seq := n, resv := 0, body := .beacon (c.beaconBody l) }
        (c.links' (fun k => { k with lastBeacon := k.lastBeacon.set l f })).modPort l (fun k => { k with txf := k.txf + 1, txo := k.txo + f.len })
      else c) (c1.links' (fun k => { k with beaconAt := some c1.clk.cycle }))

/-- Why a rope lane is not healthy; none when it is (R502). -/
def Chip.ropeIll (c : Chip) (n : Nat) : Option String :=
  let x := c.rlane n
  if !c.ropeLaneUp n then some "DOWN"
  else match x.rxAt with
    | none => some "NOBEACON"
    | some t =>
      if c.clk.cycle > 20000 + t then some "NOBEACON"
      else if x.echoValid && decide ((c.links.txSeq.get 0 3 + 65536 - x.echoSeq) % 65536 ≤ 2) then none else some "NOECHO"

/-- An unhealthy transmit lane is replaced by a healthy standby (R502). -/
def Chip.ropeSwitch (c : Chip) : Chip :=
  let a := c.links.txLane
  let b := 29 - a
  match c.ropeIll a, c.ropeIll b with
  | some cause, none =>
    (((c.links' (fun l => { l with txLane := b })).ropeCnt (fun k => { k with switch := k.switch + 1 })).record 137 0
      [fNat "FROM" a, fNat "TO" b, fSym "CAUSE" cause]).mirrorDrain
  | _, _ => c

/-- The standby lane has been unhealthy for 60 s, counted from 20 us after its last beacon (R754). -/
def Chip.standbyDown (c : Chip) : Chip :=
  let n := 29 - c.links.txLane
  if !c.roped || (c.ropeIll n).isNone || (c.rlane n).downNoted then c
  else ((c.advanceTo (60000020000 + (c.rlane n).rxAt.getD 0)).modRlane n (fun x => { x with downNoted := true })).record 207 n
    [⟨"LINK", .pair "ROPE" n⟩, fSym "ACTION" "STANDBYDOWN"]

/-- The cycle of the last beacon on either lane. -/
def Chip.lastBeaconRx (c : Chip) : Nat := max ((c.rlane 14).rxAt.getD 0) ((c.rlane 15).rxAt.getD 0)

/-- 30 us without a beacon on either lane: the link is LOST (R24, R503). -/
def Chip.ropeLost (c : Chip) : Chip :=
  if !c.links.ropeUp then c
  else ((c.advanceTo (30000 + c.lastBeaconRx)).links' (fun l => { l with ropeUp := false })).record 136 0 [fSym "STATE" "LOST", fSym "CAUSE" "NOBEACON"]

end Sys2Proof.Machine
end

