-- ==== Sys2Proof/Machine/Switch.lean ====
section
/-!
DEFINITION. The switch pipeline: parse, classify, redundancy, subscription, address and egress stages of a received frame (R508–R518, R528–R531, R545–R550,
R558–R562), and the reception of rope frames (R494, R497, R501).
-/
namespace Sys2Proof.Machine

/-- VLAN and priority of a received frame (R511). -/
def Chip.classify (c : Chip) (p : Nat) (f : Frame) : Nat × Nat :=
  match f.vtag with
  | some (pcp, vid) => (if vid = 0 then (c.portCfg p).pvid else vid, pcp)
  | none => ((c.portCfg p).pvid, (c.portCfg p).prio)

/-- The VID in a frame's tag, 0 when untagged or priority-tagged (R539). -/
def Frame.vid (f : Frame) : Nat := match f.vtag with | some (_, v) => v | none => 0

def Frame.isPtp (f : Frame) : Bool := match f.payload with | .ptp _ => true | _ => false
def Frame.isSupervision (f : Frame) : Bool := match f.payload with | .supervision => true | _ => false
def broadcast : Nat := 0xFFFFFFFFFFFF
/-- A group address: bit 0 of its first octet. -/
def isGroup (mac : Nat) : Bool := mac / 1099511627776 % 2 == 1
/-- The reserved addresses of R512. -/
def isReserved (mac : Nat) : Bool := 0x0180C2000000 ≤ mac && mac ≤ 0x0180C200000F

/-- The subscription a frame matches on a port, with its message (R509 stage 4, R538, R539). -/
def Chip.subMatch (c : Chip) (p : Nat) (f : Frame) : Option (Nat × Msg) :=
  let look (typ : Nat) (key : List Byte) (m : Msg) : Option (Nat × Msg) :=
    match c.sw.subFind typ p key with
    | some e => (match e.pay with | .sub n => some (n, m) | .dup _ _ => none)
    | none => none
  match f.payload with
  | .l2 goose appid m => look (if goose then 2 else 1) (beOctets 2 f.vid ++ beOctets 2 appid ++ beOctets 6 f.dst) m
  | .ip v6 goose dst udp m => look ((if v6 then 5 else 3) + (if goose then 1 else 0)) (beOctets 2 udp ++ beOctets (if v6 then 16 else 4) dst) m
  | _ => none

/-- A frame is a duplicate candidate on its port: the sequence number it carries (R545, R550). -/
def Chip.candidate (c : Chip) (p : Nat) (f : Frame) : Option Nat :=
  if f.isPtp then none
  else if c.isPrp p then f.prp.map (·.2)
  else if c.isHsr p then f.hsr
  else none

/-- The unit's own unicast addresses. -/
def Chip.ownMac (c : Chip) (m : Nat) : Bool := m == c.unit.mac.1 || m == c.unit.mac.2

/-- Delivered to port 19, and whether it is then also forwarded (R512). -/
def Chip.toSteward (c : Chip) (p : Nat) (f : Frame) : Bool × Bool :=
  let own := (p == 16 && f.dst == c.unit.mac.1) || (p == 17 && f.dst == c.unit.mac.2)
  let nd := match f.payload with | .ipv6nd => true | _ => false
  if f.isSupervision then (false, true)
  else if own then (true, false)
  else ((p == 16 || p == 17) && (f.dst == broadcast || nd), true)

/-- The egress ports of a frame under the address rules, the ingress port excluded (R512, R543). -/
def Chip.egress (c : Chip) (p vlan : Nat) (f : Frame) : List Nat :=
  if c.isPrp p then []
  else if c.isHsr p then (if c.ownMac f.dst then [] else (c.partner p).toList)
  else
    let members := (List.range 18).filter (fun q => q != p && (c.portCfg q).vlans.contains vlan && !c.isPrp q && !c.isHsr q && !c.ropeLane q)
    match c.sw.macFind vlan f.dst with
    | some e => members.filter (fun q => e.ports.contains q)
    | none => members

/-- A learning request joins the queue of 64 (R525, R528). -/
def Chip.learnRequest (c : Chip) (p vlan : Nat) (f : Frame) : Chip :=
  if isGroup f.src then c
  else if c.sw.learnQ.length ≥ 64 then c.fwd (fun k => { k with learnq := k.learnq + 1 })
  else c.sw' (fun s => { s with learnQ := s.learnQ ++ [{ mac := f.src, vlan := vlan, port := p }] })

/-- Names of the captured PTP messages (Table 15-7). -/
def ptpName : Nat → Option String
  | 0 => some "SYNC" | 8 => some "FOLLOWUP" | 11 => some "ANNOUNCE" | 3 => some "PRESP" | 10 => some "PRESPFU" | _ => none

/-- The stamp of a frame's capture at a port (R615). -/
def Chip.rxStamp (c : Chip) (p : Nat) : Stamp := c.stampBefore (c.rxDelay p)

/-- Captures a PTP message on a port of the committed list (R618). -/
def Chip.ptpCapture (c : Chip) (p : Nat) (m : Ptp) : Chip :=
  match ptpName m.typ with
  | some n =>
    if c.cfg.time.ptp.contains p then
      c.addCapture { src := "PTP", port := p, seq := m.seq, stamp := c.rxStamp p,
                     fields := [fSym "MSG" n, fNat "DOMAIN" m.domain, ⟨"SRCPORT", .hex 20 m.port⟩] ++ m.fields ++ [⟨"CORR", .int m.corr⟩] }
    else c
  | none => c

/-- sourcePortIdentity of the unit at a port: the EUI-64 of port 16's address and the port number plus 1 (R561). -/
def Chip.portIdentity (c : Chip) (p : Nat) : Nat :=
  let m := c.unit.mac.1
  ((m / 16777216 * 65536 + 0xFFFE) * 16777216 + m % 16777216) * 65536 + p + 1

/-- Answers a Pdelay_Req with a one-step Pdelay_Resp (R558, R561). -/
def Chip.pdelayResp (c : Chip) (p prio vlan : Nat) (f : Frame) (m : Ptp) : Chip :=
  let q : Ptp := { typ := 3, twoStep := false, domain := m.domain, seq := m.seq, port := c.portIdentity p, corr := m.corr, reqPort := m.port, fields := [fTime "TS" (0, 0)] }
  let r : Frame := { f with src := c.unit.mac.1, payload := .ptp q }
  match c.takeCells 19 (cellsFor f.len) with
  | none => c.modPort p (fun k => { k with nocell := k.nocell + 1 })
  | some (cells, c1) =>
    (c1.queueAt p { prio := prio, vlan := vlan, tagged := vlan != (c.portCfg p).pvid, frame := r, cells := cells, ingress := c.clk.cycle,
                    ingressPort := p, corr := true }).getD (c1.modPort p (fun k => { k with nocell := k.nocell + 1 }))

/-- A Follow_Up at an egress port: corrected when it matches a pending two-step Sync (R558, R562). -/
def Chip.followUp (c : Chip) (q : Nat) (f : Frame) (m : Ptp) : Frame × Chip :=
  match (c.sw.syncs.get [] q).find? (fun s => s.domain == m.domain && s.seq == m.seq && s.spi == m.port) with
  | some s => (f.modPtp (fun m => { m with corr := m.corr + s.corr }),
      c.sw' (fun w => { w with syncs := w.syncs.put [] q ((w.syncs.get [] q).erase s) }))
  | none => (f, c.fwd (fun k => { k with ptpnomatch := k.ptpnomatch + 1 }))

/-- The queue entry of a frame for one egress port, with PTP handling (R514, R558). -/
def Chip.egFrame (c : Chip) (p q vlan prio : Nat) (f : Frame) (cells : List Nat) : EgFrame × Chip :=
  let e : EgFrame := { prio := prio, vlan := vlan, tagged := vlan != (c.portCfg q).pvid, frame := f, cells := cells, ingress := c.clk.cycle, ingressPort := p, corr := false }
  match f.payload with
  | .ptp m =>
    if m.typ = 0 ∧ ¬ m.twoStep then ({ e with frame := f.modPtp (fun m => { m with corr := m.corr + c.linkDelay p }), corr := true }, c)
    else if m.typ = 1 then ({ e with corr := true }, c)
    else if m.typ = 8 then let r := c.followUp q f m; ({ e with frame := r.1 }, r.2)
    else (e, c)
  | _ => (e, c)

/-- Sends a good frame to its egress ports (R515, R516, R478): cut through where the rule allows, else stored in cells and queued. -/
def Chip.forward (c : Chip) (p vlan prio : Nat) (f : Frame) (out : List Nat) : Chip :=
  let up := out.filter c.portUp
  let c0 := match out, up with
    | [q], [] => c.modPort q (fun k => { k with linkdown := k.linkdown + 1 })
    | _, _ => c
  let cut := up.filter (fun q => c.cutsThrough p q prio)
  let store := up.filter (fun q => !c.cutsThrough p q prio)
  let start (c : Chip) : Chip := cut.foldl (fun c q => let r := c.egFrame p q vlan prio f []; r.2.startTx q r.1) c
  if store.isEmpty then start c0
  else match c0.takeCells p (cellsFor f.len) with
    | none =>
      let c1 := c0.modPort p (fun k => { k with nocell := k.nocell + 1 })
      cut.foldl (fun c q => c.modPort q (fun k => { k with abort := k.abort + 1 })) c1
    | some (cells, c1) =>
      let c2 := store.foldl (fun c q =>
        let r := c.egFrame p q vlan prio f cells
        match r.2.queueAt q r.1 with
        | some c' => c'
        | none => r.2.modPort p (fun k => { k with nocell := k.nocell + 1 })) (start c1)
      c2.freeCells cells

/-- Cut-through transmissions of a frame that turns out bad (R510, R515). -/
def Chip.abortCut (c : Chip) (p vlan prio : Nat) (f : Frame) : Chip :=
  ((c.egress p vlan f).filter (fun q => c.cutsThrough p q prio)).foldl (fun c q => c.modPort q (fun k => { k with abort := k.abort + 1 })) c

/-- Stage 5 and 6 of a good frame: excess, learning, forwarding (R512, R528–R531). -/
def Chip.addressStage (c : Chip) (p vlan prio : Nat) (f : Frame) : Chip :=
  let uni := !isGroup f.src
  let static := match c.sw.macFind vlan f.src with | some e => e.static && !e.ports.contains p | none => false
  let c1 := if uni && static then c.fwd (fun k => { k with staticsrc := k.staticsrc + 1 }) else c
  let excess := uni && c1.excess vlan f.src p
  let c2 := if excess then c1.learnEvent vlan f.src p else c1.learnRequest p vlan f
  if excess && !(c2.portCfg p).flood then c2.modPort p (fun k => { k with learn := k.learn + 1 })
  else match f.payload with
    | .ptp m =>
      let c3 := c2.ptpCapture p m
      if m.typ = 2 then (if c3.cfg.time.ptp.contains p then c3.pdelayResp p prio vlan f m else c3)
      else if m.typ = 3 ∨ m.typ = 10 then c3
      else if isReserved f.dst then c3.fwd (fun k => { k with rsvdrop := k.rsvdrop + 1 })
      else
        let c4 := if (4 ≤ m.typ ∧ m.typ ≤ 7) ∨ m.typ ≥ 14 then c3.fwd (fun k => { k with ptprsv := k.ptprsv + 1 }) else c3
        c4.forward p vlan prio f (c4.egress p vlan f)
    | _ =>
      if isReserved f.dst then c2.fwd (fun k => { k with rsvdrop := k.rsvdrop + 1 })
      else
        let (steward, on) := c2.toSteward p f
        let c3 := if steward then c2.sw' (fun s => { s with toSteward := s.toSteward + 1 }) else c2
        if on then c3.forward p vlan prio f (c3.egress p vlan f) else c3

/-- Stage 4: a subscribed frame is mirrored and decoded (R13, R496, R571). -/
def Chip.subStage (c : Chip) (p : Nat) (f : Frame) : Chip :=
  match c.subMatch p f with
  | none => c
  | some (n, m) =>
    let st := c.rxStamp p
    let sv := match f.payload with | .l2 g _ _ => !g | .ip _ g _ _ _ => !g | _ => false
    let c1 := if f.fcs && sv && p != 14 && p != 15 then c.mirror p st f else c
    c1.decode n p false f.fcs st m f.raw

/-- A frame is received on a port (R509). -/
def Chip.frameReceive (c : Chip) (p : Nat) (f : Frame) : Chip :=
  if !c.portUp p then c
  else
    let (vlan, prio) := c.classify p f
    let c0 := if f.fcs then c.modPort p (fun k => { k with rxf := k.rxf + 1, rxo := k.rxo + f.len }) else c.modPort p (fun k => { k with fcs := k.fcs + 1 })
    if f.len < 64 then c0.modPort p (fun k => { k with runt := k.runt + 1 })
    else if f.len > 1536 then (c0.abortCut p vlan prio f).modPort p (fun k => { k with giant := k.giant + 1 })
    else
      if !(c.portCfg p).vlans.contains vlan then c0.modPort p (fun k => { k with vlan := k.vlan + 1 })
      else if !f.fcs then (c0.abortCut p vlan prio f).subStage p f
      else
        let wrong := c.isPrp p && (match f.prp with | some (l, _) => l != (if (c.portCfg p).redund = .prpA then 10 else 11) | none => false)
        let c1 := if wrong then c0.fwd (fun k => { k with wronglan := k.wronglan + 1 }) else c0
        let (dup, c2) := match c1.candidate p f with
          | some seq => c1.dupCheck (c1.pairLow p) seq f.src
          | none => (false, c1)
        if dup then c2.modPort p (fun k => { k with dup := k.dup + 1 }) else (c2.subStage p f).addressStage p vlan prio f

/-- A frame arrives on a rope lane (R492, R494, R497, R501). -/
def Chip.ropeReceive (c : Chip) (lane : Nat) (f : RopeFrame) : Chip :=
  if !c.ropeLaneUp lane then c
  else
    let c0 := c.modPort lane (fun k => { k with rxf := k.rxf + 1, rxo := k.rxo + f.len })
    if f.version ≠ 1 then c0.ropeCnt (fun k => { k with badver := k.badver + 1 })
    else if f.resv ≠ 0 then c0.ropeCnt (fun k => { k with badtype := k.badtype + 1 })
    else match f.typ, f.body with
      | 1, .tokens l =>
        let (ok, c1) := c0.ropeAccept 1 f.seq
        if ok then l.foldl Chip.ropeEntry c1 else c1.ropeStale
      | 2, .mirror _ _ origin g =>
        let (ok, c1) := c0.ropeAccept 2 f.seq
        if !ok then c1.ropeStale
        else
          let c2 := c1.ropeCnt (fun k => { k with mirrx := k.mirrx + 1 })
          let st : Stamp := { origin with q := match c2.links.peer with | some b => b.txq | none => origin.q }
          (match c2.subMatch 14 g with
           | some (n, m) => c2.decode n 14 true true st m g.raw
           | none => c2)
      | 3, .beacon b => c0.beaconReceive lane f.seq b
      | _, _ => c0.ropeCnt (fun k => { k with badtype := k.badtype + 1 })

end Sys2Proof.Machine
end

