-- ==== Sys2Proof/Machine/Answers.lean ====
section
/-!
DEFINITION. Sessions as the rest of the unit sees them: responses (R58, R61, R62, R64), asynchronous lines (R65, R66) and the hitch a session waits for
(R145, R460).
-/
namespace Sys2Proof.Machine

def Sess.init : Sess :=
  { active := false, level := none, user := none, present := false, script := false, echo := true, wait := 30000000000, line := [], rejected := false,
    tooLong := false, history := [], histAt := 0, lastNum := none, store := [], answer := [], answerNum := none, queue := [], lost := 0, lastLine := 0,
    warned := false, txn := false, staged := [], loaded := 0, bulk := none, waiting := .nothing, challenge := none, sels := [], events := [], faults := [],
    inputHeld := 0, overrun := 0, sent := [] }

def Chip.trev' (c : Chip) (g : Trev → Trev) : Chip := { c with trev := g c.trev }
def Chip.sess (c : Chip) (s : Nat) : Sess := c.trev.sess.get Sess.init s
def Chip.modSess (c : Chip) (s : Nat) (g : Sess → Sess) : Chip := c.trev' (fun t => { t with sess := t.sess.put Sess.init s (g (c.sess s)) })

/-- What a line comes to. -/
inductive Answer
  | ok (data : List Fields)
  | err (code : String) (fs : Fields)
  | wait                              -- answered later
  | silent                            -- no response: an empty line, an accepted record
deriving DecidableEq, Repr

/-- The lines of an answer (R64). -/
def Answer.lines : Answer → List Line
  | .ok data => data.map Line.data ++ [.ok]
  | .err code fs => [.err code fs]
  | .wait | .silent => []

/-- Gives a session its response; in script mode it enters the replay store with the line it answers (R58, R61). -/
def Chip.respond (c : Chip) (s : Nat) (a : Answer) : Chip :=
  c.modSess s (fun x => { x with
    answer := a.lines, answerNum := if x.script then x.lastNum else none, sent := x.shows x.lastNum a.lines,
    store := match x.store with
      | e :: t => if some e.num = x.lastNum then { e with resp := a.lines } :: t else e :: t
      | [] => [] })

/-- Queues an asynchronous line for a session, or counts it lost (R65, R66). -/
def Chip.async (c : Chip) (s : Nat) (kind : String) (fs : Fields) : Chip :=
  if !(c.sess s).active then c
  else if (c.sess s).queue.length ≥ 256 then c.modSess s (fun x => { x with lost := x.lost + 1 })
  else c.modSess s (fun x => { x with queue := x.queue ++ [.async kind fs] })

/-- A keyword or number that stands alone in a line. -/
def fWord (s : String) : Fld := ⟨"", .sym s⟩
def fNum (n : Nat) : Fld := ⟨"", .nat n⟩

/-- The line of a TAKE HITCH that does not hold the hitch (R145). -/
def Chip.notHeld (c : Chip) (h : Nat) : Fields :=
  [fWord "HITCH", fNum h, fYes "HELD" false, fMaster "HOLDER" (c.hitch h).holder, fNat "QUEUE" (c.hitch h).queue.length]

/-- TAKE HITCH takes its hitches one after another, and waits at the first one it does not hold at once (R145, R149, R465). -/
def Chip.takeNext (c : Chip) (s wait : Nat) : List Nat → List Fields → Chip × Answer
  | [], data => (c, .ok data)
  | h :: t, data =>
    if (c.hitch h).broken then (c, .err "0905" [])
    else match c.hitchWrite h (masterSess s) with
      | (.already, _) => (c, .err "0407" [])
      | (.full, _) => (c, .err "0504" [])
      | (.done, c1) =>
        if (c1.hitch h).holder = masterSess s then c1.takeNext s wait t (data ++ [[fWord "HITCH", fNum h, fYes "HELD" true]])
        else if wait = 0 then c.takeNext s wait t (data ++ [c.notHeld h])
        else (c1.modSess s (fun x => { x with waiting := .take h wait (c1.clk.cycle + wait) t data }), .wait)

/-- A TAKE HITCH goes on after a hitch it waited for, and is answered when none is left. -/
def Chip.takeOn (c : Chip) (s wait : Nat) (rest : List Nat) (data : List Fields) : Chip :=
  match (c.modSess s (fun x => { x with waiting := .nothing })).takeNext s wait rest data with
  | (c1, .wait) => c1
  | (c1, a) => c1.respond s a

/-- A hitch passes to a session: a TAKE HITCH that waits for it is answered (R145); a waiting COMMIT goes on with its own command (R76). -/
def tell (s h : Nat) (c : Chip) : Chip :=
  match (c.sess s).waiting with
  | .take n wait _ rest data => if n = h then c.takeOn s wait rest (data ++ [[fWord "HITCH", fNum h, fYes "HELD" true]]) else c
  | _ => c

end Sys2Proof.Machine
end

