-- ==== Sys2Proof/Machine/Outputs.lean ====
section
/-!
DEFINITION. The output instructions (R396–R402 of 09_elvit_memory_bits_and_outputs.md), and the dispatch of every request and output that the twin
comparator lets through (R235).
-/
namespace Sys2Proof.Machine

/-- The kind of output port an output instruction drives (Table 9-12). -/
def outKind : Nat → OutKind
  | 0xE8 => .trip | 0xE9 => .pub | 0xEA => .event | 0xEB => .chan | 0xEC => .led | 0xED => .display | _ => .rope

/-- The output-selector fault (R402). -/
def Chip.outSelector (c : Chip) (f : Firing) : Chip := c.raise 18 f.tok.fi (some f.tok.fi) [fNat "VT" f.tok.vt, fNat "PORT" (f.r.data.toNat % 64)]

/-- Counts a token suppressed as VOID (Table 6-9). -/
def Chip.voidSup (c : Chip) (fs : List Firing) : Chip := fs.foldl (fun c f => c.count f.tok.fi f.copy (fun n => { n with voidsup := sat32 n.voidsup })) c

/-- Events of an EVENT port under its burst rule (R401): one record is 1,000,000 cycles of allowance. -/
def Chip.userEvent (c : Chip) (fi n : Nat) (w : Word) : Chip :=
  let p := (c.fi fi).evts.get EvtPort.init n
  let credit := min 64000000 (p.credit + (c.clk.cycle - p.at?))
  let put (c : Chip) (x : EvtPort) : Chip := c.modFi fi (fun y => { y with evts := y.evts.put EvtPort.init n x })
  if credit < 1000000 then
    (put c { credit := credit, at? := c.clk.cycle, dropped := p.dropped + 1 }).modFi fi (fun y => { y with evtDropped := sat32 y.evtDropped })
  else
    (put c { credit := credit - 1000000, at? := c.clk.cycle, dropped := 0 }).record (2048 + 2 * fi + n) fi
      ([⟨"DATA", .hex 16 w.toNat⟩] ++ (if p.dropped > 0 then [fNat "DROPPED" p.dropped] else []))

/-- A token for a channel (R221–R223): delivered to the receiver, or discarded and counted at the sender. -/
def Chip.chanSend (c : Chip) (f : Firing) (ch : Nat) : Chip :=
  let discard := c.count f.tok.fi f.copy (fun n => { n with chandisc := sat32 n.chandisc })
  match c.cfg.chans.find ch with
  | none => discard
  | some x =>
    match (c.boundTo (.chan ch)).find? (fun b => b.1 == x.peer) with
    | none => discard
    | some b =>
      if !(c.fi x.peer).st.active ∨ c.fab.chans.get 0 ch ≥ 64 then discard
      else
        (c.fab' (fun g => { g with chans := g.chans.put 0 ch (g.chans.get 0 ch + c.nCopies x.peer) })).deliverStanding x.peer
          { port := b.2, idx := 0, op := f.tok.op, start := false } 0 (some ch)

/-- The octets of a cell's variable part: its length in word 0, the octets from word 1 on (R584). -/
def cellPart (x : Cell) : List Byte :=
  let n := min 248 ((x.words.get 0 0).toNat % 65536)
  ((List.range 31).flatMap (fun i => octets (x.words.get 0 (i + 1)))).take n |>.map (BitVec.ofNat 8)

/-- PUB: sets a member or hands over a cell, and publishes with SEND (R396, R397, R584, R586, R19). -/
def Chip.pubToken (c : Chip) (f : Firing) (p : Nat) : Chip :=
  let m := field f.r.data 15 8
  let send := f.r.data.getLsbD 16
  let t := c.pubTempl p
  let publish (c : Chip) (cell : Bool) : Chip :=
    if !send then c
    else if c.belayed (.pub p) then (c.modPub p (fun x => { x with belayed := x.belayed + 1 })).modFi f.tok.fi (fun x => { x with belayed := sat32 x.belayed })
    else c.pubSend p cell
  if f.r.data.getLsbD 17 then
    let h := f.tok.op.data.toNat % 16384
    match c.fab.cells.find h with
    | some x =>
      if x.owner = 32 + f.tok.fi then
        publish ((c.fab' (fun g => { g with cells := g.cells.del h })).modPub p (fun y => { y with cell := some (cellPart x) })) true
      else c.raise 2 f.tok.fi (some f.tok.fi) [fNat "VT" f.tok.vt]
    | none => c.raise 2 f.tok.fi (some f.tok.fi) [fNat "VT" f.tok.vt]
  else match t.members[m]? with
    | none => c.outSelector f
    | some e => publish (c.modPub p (fun x => { x with values := x.values.set m (memberValue e c.cfg.time.utcOffset f.tok.op), cell := none })) false

/-- DISP: characters from a column of a display line (R396, R398). -/
def Chip.dispToken (c : Chip) (f : Firing) (r : Nat) : Chip :=
  let col := field f.r.data 13 8
  let n := field f.r.data 19 16
  let (cs, bad) := dispChars (if n = 0 then 8 else min n 8) f.tok.op.data
  let c1 := if col < 40 then c.setLine r (putChars (c.line r) col cs) else c
  c1.modFi f.tok.fi (fun x => { x with dispRepl := min 4294967295 (x.dispRepl + bad) })

/-- What an output instruction does at its target once the comparator has let it through (R396–R402, Table 6-9). -/
def Chip.outAct (c : Chip) (op : Nat) (f : Firing) (fs : List Firing) : Chip :=
  let fi := f.tok.fi
  let port := f.r.data.toNat % 64
  let kind := outKind op
  let declared := match (c.image fi).outputs[port]? with | some p => p.kind == kind | none => false
  let pois := f.tok.op.kind == .poison || f.r.kind == .poison
  let void := f.tok.op.kind == .void || f.r.kind == .void
  let hard := kind == .trip || kind == .pub
  if kind == .rope then
    if f.r.kind != .data && f.r.kind != .ctrl && f.r.kind != .time then c.modFi fi (fun x => { x with suppressed := sat32 x.suppressed })
    else if !declared then c.outSelector f
    else if !(c.fiCfg fi).rope then c.modFi fi (fun x => { x with ropeDisc := sat32 x.ropeDisc })
    else c.ropeToken port f.tok
  else if pois then
    (if hard then c.raise 5 fi (some fi) [fNat "VT" f.tok.vt] else c.modFi fi (fun x => { x with suppressed := sat32 x.suppressed }))
  else if void then (if hard then c.voidSup fs else c.modFi fi (fun x => { x with suppressed := sat32 x.suppressed }))
  else if !declared then c.outSelector f
  else match (c.fiCfg fi).outs.find port with
    | none => c.modFi fi (fun x => { x with unbound := sat32 x.unbound })
    | some (.trip n) => c.tripToken n fi (f.tok.op.data.getLsbD 0)
    | some (.pub p) => c.pubToken f p
    | some (.event n) => if (c.fi fi).st.acts then c.userEvent fi n f.tok.op.data else c
    | some (.chan ch) => if (c.fi fi).st.acts then c.chanSend f ch else c
    | some (.led l) => if (c.fi fi).st.acts then c.setLed l (f.tok.op.data.toNat % 4) else c
    | some (.display r) => if (c.fi fi).st.acts then c.dispToken f r else c

/-- An output of one or both copies: every copy's operands are consumed, the action is made once. -/
def performOut (op : Nat) (fs : List Firing) (c : Chip) : Chip :=
  match fs with
  | [] => c
  | f :: _ => (fs.foldl (fun c g => c.consume g) c).outAct op f fs

/-- What a compared or uncompared firing of a request or output instruction does. -/
def performOp (op : Nat) (fs : List Firing) (cm : CM) : CM :=
  let onC (g : List Firing → Chip → Chip) : CM := (g fs cm.1, cm.2)
  if op = 0xA0 then performLoad false fs cm
  else if op = 0xA1 then performSst fs cm
  else if op = 0xA2 then performLoad true fs cm
  else if op = 0xA3 then performSclr fs cm
  else if op = 0xA4 then performDld fs cm
  else if op = 0xA5 then performDst fs cm
  else if op = 0xD7 then onC performFrd
  else if op = 0xD8 then onC performFwr
  else if op = 0xE0 then onC performHwr
  else if op = 0xE1 then onC performHrd
  else if op = 0xE2 then onC performHwait
  else if op = 0xE3 then onC performHpark
  else if op = 0xE4 then onC (performHrel tell)
  else if op = 0xE5 then onC (performSalloc cm.1.portOn)
  else if op = 0xE6 then onC performSfree
  else onC (performOut op)

end Sys2Proof.Machine
end

