-- ==== Sys2Proof/Machine/Run.lean ====
section
/-!
DEFINITION. The life of a function instance: arming, stopping, draining, re-arming, the stop by a fault (R116, R117, R224–R233, R240, R275, R310), the
progress watch (R318–R323), TIMER ticks and source loss (R210, R216, R250), the classification of a raise (R705–R708), broken hitches (R469).
-/
namespace Sys2Proof.Machine

/-! ### Pages of an FI (R428) -/

/-- The pages of a slot in the order of R428. -/
def FiCfg.pageList (f : FiCfg) (slot : Nat) : List (Nat × Nat) :=
  ((List.range (f.image.getD Image.empty).v).filter (fun v => v % max f.tiles 1 == slot)).flatMap
    (fun v => (List.range ((f.image.getD Image.empty).pg.getD v 0)).map (fun p => (v, p)))

/-- Takes every page, fetch and page-wait place of a copy off a tile. -/
def Tile.without (t : Tile) (fi k : Nat) : Tile :=
  { t with pages := t.pages.filter (fun p => !(p.fi == fi && p.copy == k)), fetches := t.fetches.filter (fun p => !(p.fi == fi && p.copy == k)) }

/-- The reserved pages of every slot are filled, in ascending order of virtual tile and page (R428). -/
def Chip.fillPages (c : Chip) (fi : Nat) : Chip :=
  let f := c.fiCfg fi
  (List.range (c.nCopies fi)).foldl (fun c k =>
    let m := (c.copy fi k).map
    (List.range m.length).foldl (fun c s =>
      match m[s]? with
      | none => c
      | some t => c.modTile t (fun x =>
        let y := x.without fi k
        { y with pages := y.pages ++ ((f.pageList s).take (f.slotPages s)).map (fun p =>
            ({ fi := fi, copy := k, vt := p.1, page := p.2, shared := false, lastUse := c.clk.cycle } : ResPage)) })) c) c

/-- Removes an FI's pages from the tiles of its copies. -/
def Chip.dropPages (c : Chip) (fi : Nat) : Chip :=
  (List.range (c.nCopies fi)).foldl (fun c k => (c.copy fi k).map.foldl (fun c t => c.modTile t (fun x => x.without fi k)) c) c

/-! ### What an FI holds -/

/-- Ends every token, entry and context of an FI that is not running, for a placement that goes: what a purge has not reached yet is discarded. -/
def Chip.scrapFi (c : Chip) (fi : Nat) : Chip :=
  let mine (i : QItem) : Bool := i.tok.fi == fi
  (c.fab' (fun g => { g with
    tiles := g.tiles.map (fun t => (t.1, { t.2 with
      q := t.2.q.map (fun e => (e.1, e.2.filter (fun i => !mine i))), store := t.2.store.filter (fun e => !mine e.item),
      fill := t.2.fill.filter (fun i => !mine i), pageWait := t.2.pageWait.filter (fun i => !mine i), pipe := t.2.pipe.filter (fun f => f.tok.fi != fi) })),
    net := g.net.filter (fun f => f.tok.fi != fi), replies := g.replies.filter (fun r => r.firing.tok.fi != fi),
    defers := g.defers.filter (fun d => !d.fs.any (fun x => x.1.tok.fi == fi)), dones := g.dones.filter (fun d => d.1 != fi),
    deeps := g.deeps.del fi, merges := g.merges.filter (fun e => e.fi != fi), fwd := g.fwd.filter (fun e => e.1 != fi),
    ctxs := g.ctxs.map (fun e => if e.2.st ≠ .free ∧ e.2.fi = fi then (e.1, { Ctx.init with epoch := e.2.epoch }) else e) })).modFi fi
    (fun x => { x with live := [], opens := [], copies := x.copies.map (fun p => { p with standing := none, prealloc := none }) })


/-- Frees what an FI's firings wait for and what its packet requests hold: comparator, stalled and parked hitch reads, credit requests, cells (R452). -/
def Chip.dropWaits (c : Chip) (fi : Nat) : Chip :=
  (c.fab' (fun g => { g with
    twins := g.twins.filter (fun s => s.fi != fi),
    hwaits := g.hwaits.filter (fun w => !w.fs.any (fun f => f.1.tok.fi == fi)),
    creditQ := g.creditQ.filter (fun q => q.1 != fi) })).dropCells (32 + fi)

/-- Releases one frame of a copy. -/
def Chip.releaseFrame (c : Chip) (fi k : Nat) (f : Option Nat) : Chip :=
  match f with
  | some f => c.releaseCtx (ctxKey (c.copy fi k).cluster f)
  | none => c

/-- Releases the standing contexts of every copy. -/
def Chip.releaseStanding (c : Chip) (fi : Nat) : Chip :=
  (List.range (c.nCopies fi)).foldl (fun c k => c.releaseFrame fi k (c.copy fi k).standing) c

/-- Releases the contexts that wait ready for a period that will not come (R227, R256). -/
def Chip.releaseReady (c : Chip) (fi : Nat) : Chip :=
  let c1 := (List.range (c.nCopies fi)).foldl (fun c k => c.releaseFrame fi k (c.copy fi k).prealloc) c
  ((c1.fi fi).opens.filter (fun p => !p.started)).foldl (fun c p =>
    (c.releasePeriod fi p).modFi fi (fun x => { x with opens := x.opens.filter (fun q => q.id != p.id) })) c1

/-- Hitches held by an FI pass on (R470). -/
def Chip.dropFiHitches (c : Chip) (fi : Nat) : Chip := c.dropHitches (masterFi fi) "STOP" (fun h c => c.hitchPass tell h)

/-- Live contexts of an FI's generation other than its standing ones (R227). -/
def Chip.openCtxs (c : Chip) (fi : Nat) : List Nat :=
  (c.fab.ctxs.filter (fun e => e.2.st == .live && e.2.fi == fi && e.2.gen == (c.fi fi).gen && e.2.kind != .standing)).map (·.1)

/-- Trip outputs bound to an FI. -/
def Chip.tripsOf (c : Chip) (fi : Nat) : List Nat := (List.range 16).filter (fun n => c.fiOf (.trip n) == some fi)

/-- Live tokens of the generation that the next entry to ARMED takes (R226, R230). -/
def Chip.targetLive (c : Chip) (fi : Nat) : Nat := (c.fi fi).live.get 0 (((c.fi fi).gen + 1) % 8)

/-! ### Entry to ARMED (R226, R228, R232, R254, R310, R586, R695) -/

/-- The standing context of a copy is allocated; it takes no credit (R254, R310). -/
def Chip.openStanding (c : Chip) (fi k : Nat) : Chip :=
  match c.allocFrame fi k with
  | some f => (c.openCtx fi k f .standing none none).modCopy fi k (fun p => { p with standing := some f })
  | none => c

/-- An FI enters ARMED: the next generation, counts from zero, credit loaded, contexts allocated, the causes FAULT and STATE of its outputs ended,
its publishers' new states started. -/
def Chip.armFi (c : Chip) (fi : Nat) (cause : String) : Chip :=
  let c0 := (c.releaseStanding fi).releaseReady fi
  let now := c.clk.cycle
  let c1 := c0.modFi fi (fun x => { x with
    gen := (x.gen + 1) % 8, rearm := false, ropeStopped := false, armedAt := now, periods := 0, overruns := 0, misbehave := 0, aliveFail := false,
    opens := [], pdones := 0, lastStart := now, sourceLost := false, pendGoose := none, lastId := 0, ticks := 0, deepHold := false,
    copies := x.copies.map (fun p => { p with credit := (c.fiCfg fi).credit, standing := none, prealloc := none, lastFire := now }) })
  let c2 := c1.fiState fi .armed cause
  let ks := List.range (c2.nCopies fi)
  let c3 := ks.foldl (fun c k => (c.openStanding fi k).preallocate fi k) (c2.fillPages fi)
  let mine := c.outputsOf fi
  let c4 : Chip := { c3 with belay := { c3.belay with fault := c3.belay.fault.filter (fun o => !mine.contains o) } }
  let c5 := c4.belayEnded c "STATE"
  let c6 := (c5.tripsOf fi).foldl (fun c n => c.endTest n (.sym "ARM")) c5
  mine.foldl (fun c o => match o with
    | .pub p => c.pubArm p
    | _ => c) c6

/-! ### Leaving ARMED and RUNNING -/

/-- An FI enters STOPPED at the end of a drain: its outputs are belayed, and it frees what it holds (R228, R452, R470). -/
def Chip.stopped (c : Chip) (fi : Nat) (cause : String) : Chip :=
  let c1 := c.fiState fi .stopped cause
  let c2 := c1.belayBegun c "STATE" false
  (((c2.dropFiHitches fi).dropWaits fi).releaseStanding fi).modFi fi (fun x => { x with opens := [], pendGoose := none, aliveFail := false })

/-- STOP, or the rope fallback STOP: the inputs close and the FI drains (R227, R240). -/
def Chip.drainFi (c : Chip) (fi : Nat) (cause : String) : Chip :=
  (((c.fiState fi .draining cause).modFi fi (fun x => { x with drainAt := c.clk.cycle, pendGoose := none, aliveFail := false }))).releaseReady fi

/-- An FI-FATAL classification stops the FI it names (R233): both copies, every context purged, re-arm flag and run intent cleared, its outputs belayed
with cause FAULT. -/
def Chip.faultStop (c : Chip) (fi : Nat) : Chip :=
  let c1 := (c.modFi fi (fun x => { x with rearm := false, intent := false, ropeStopped := false })).fiState fi .stopped "FAULT"
  let mine := (c.outputsOf fi).filter (fun o => !c.belay.fault.contains o)
  let c2 : Chip := { c1 with belay := { c1.belay with fault := c1.belay.fault ++ mine } }
  let c3 := c2.belayBegun c "FAULT" false
  let c4 := ((c3.purgeFi fi).dropFiHitches fi).dropWaits fi
  c4.modFi fi (fun x => { x with opens := [], pendGoose := none, aliveFail := false })

/-! ### Drains (R227, R230, R231) -/

/-- The flag set, the drain complete and the target generation empty: the FI arms (R117, R230). -/
def Chip.rearmNow (c : Chip) (fi : Nat) : Chip :=
  if c.targetLive fi = 0 then c.armFi fi "REARM" else c

/-- The drain completes once every context of the generation is released and no bound trip output is within its minimum pulse (R227). -/
def Chip.drainComplete (c : Chip) (fi : Nat) : Chip :=
  if (c.fi fi).st = .draining ∧ (c.openCtxs fi).isEmpty then
    let pulse := (c.tripsOf fi).foldl (fun n t => if c.inPulse t then max n ((c.trip t).onAt + (c.trip t).minPulse) else n) 0
    let c1 := c.advanceTo pulse
    if (c1.fi fi).rearm then ((c1.dropFiHitches fi).dropWaits fi).rearmNow fi else c1.stopped fi "DRAIN"
  else c

/-- A pending re-arm completes when the target generation's count reaches zero (R117, R230). -/
def Chip.rearmComplete (c : Chip) (fi : Nat) : Chip :=
  let x := c.fi fi
  if x.rearm then
    if x.st = .stopped ∨ x.st = .admitted then c.rearmNow fi
    else if x.st = .draining ∧ (c.openCtxs fi).isEmpty ∧ ¬ (c.tripsOf fi).any c.inPulse then c.rearmNow fi
    else c
  else c

/-- The purge of a drain under the orphan rule, with event 0x0A1 (R231). -/
def Chip.purgeDrain (c : Chip) (fi : Nat) : Chip :=
  let keys := c.openCtxs fi
  let n := keys.foldl (fun n k => n + (c.ctx k).live) 0
  ((keys.foldl (fun c k => c.releaseCtx k) c).closePeriods fi).record 161 fi [fFi fi, fNat "ORPHANS" n]

/-- The progress watch of a draining FI: STALL without a firing, or 100 ms in all (R231, R319). -/
def Chip.drainPurge (c : Chip) (fi : Nat) : Chip :=
  let x := c.fi fi
  if x.st = .draining ∧ ¬ (c.openCtxs fi).isEmpty then
    let stall := (c.fiCfg fi).stall
    let due := (List.range (c.nCopies fi)).foldl (fun n k => if c.pendingTokens fi k = 0 then n else min n ((c.copy fi k).lastFire + stall)) (100000000 + x.drainAt)
    (c.advanceTo (max due x.drainAt)).purgeDrain fi
  else c

/-- A pending copy has had no firing for STALL (R319, R323). -/
def Chip.stallDetect (c : Chip) (fi k : Nat) : Chip :=
  let x := c.fi fi
  if k < c.nCopies fi ∧ c.pendingTokens fi k ≠ 0 then
    let p := c.copy fi k
    let c1 := c.advanceTo (p.lastFire + (c.fiCfg fi).stall)
    if x.st.active then
      c1.raise 11 (2 * fi + k) (some fi) [fSym "COPY" (copyName k), fNat "LASTFIRE" p.lastFire, fNat "PENDING" (c1.pendingTokens fi k)]
    else if x.st = .draining then c1.purgeDrain fi
    else c
  else c

/-! ### TIMER ticks and source loss -/

/-- The input port that takes TIMER ticks: the lowest declared one that is bound to no source and is neither a rope nor the fallback port. -/
def Chip.tickPort (c : Chip) (fi : Nat) : Option Nat :=
  firstBelow 64 (fun n => match (c.image fi).inputs[n]? with
    | some p => p.declared && !p.rope && !p.fallback && ((c.fiCfg fi).ins.find n).isNone
    | none => false)

/-- A tick of a TIMER period source: its period starts, and a CTRL token carries the number of ticks since ARMED (R210, R250, R257). -/
def Chip.timerTick (c : Chip) (fi : Nat) : Chip :=
  let x := c.fi fi
  if (c.fiCfg fi).period = .timer ∧ x.st.active then
    let n := x.ticks + 1
    let c1 := (c.advanceTo (x.armedAt + n * (c.fiCfg fi).tick.getD 0)).modFi fi (fun x => { x with ticks := n })
    match c1.takePeriod fi n with
    | .got c2 =>
      let c3 := c2.startPeriod fi n
      match c3.tickPort fi with
      | some p => c3.deliverPeriod fi n [{ port := p, idx := 0, op := ⟨.ctrl, BitVec.ofNat 64 n⟩, start := false }]
      | none => c3
    | .late c2 | .noctx c2 => c2.noContext fi none
  else c

/-- No period of an SV source has started for 4 nominal periods (R216). -/
def Chip.sourceLoss (c : Chip) (fi : Nat) : Chip :=
  let x := c.fi fi
  match (c.fiCfg fi).psrc with
  | none => c
  | some s =>
    if (c.fiCfg fi).period = .sv ∧ x.st = .running ∧ ¬ x.sourceLost then
      let nominal := 1000000000 / max 1 (c.subTempl s).rate
      ((c.advanceTo (x.lastStart + 4 * nominal)).modFi fi (fun x => { x with sourceLost := true })).raise 14 fi (some fi) []
    else c

/-! ### Classification (R705–R708) -/

/-- A raise is classified 16 cycles after it arrives, and acts (R705, R708). A reserved source is never raised (R715). -/
def Chip.classifyRaise (c : Chip) (r : Raise) : Chip :=
  if (srcRow r.src).isNone then c
  else
    let c0 := c.advanceTo (r.arrival + 16)
    let cls := c0.srcClass r.src
    let c1 := c0.logRaise r cls
    match cls with
    | .corrected | .degraded => c1
    | .fiFatal => match r.fi with
      | some f => if (c1.fi f).st.acts then c1.faultStop f else c1
      | none => c1
    | .unitFatal => c1.unitBelay

/-- FAULT_RAISE: the oldest raise on its way, or one of a detector whose cause has no command of its own: source, instance, FI. -/
def Chip.faultRaise (c : Chip) (r : Option (Nat × Nat × Option Nat)) : Chip :=
  match r with
  | some (src, inst, fi) =>
    c.classifyRaise { src := src, inst := inst, fi := fi, stamp := c.stamp, cycle := c.clk.cycle, arrival := c.clk.cycle, detail := [] }
  | none => match c.coll.next with
    | some r => ({ c with coll := { c.coll with inbound := c.coll.inbound.erase r } }).classifyRaise r
    | none => c

/-! ### Rope fallback (R240, R504) -/

/-- The loss action of a roped FI at its period boundary, with event 0x0A2. -/
def Chip.ropeFallback (c : Chip) (fi : Nat) : Chip :=
  let x := c.fi fi
  if (c.fiCfg fi).rope ∧ ¬ c.links.ropeUp ∧ x.st.active ∧ ¬ x.fallenBack then
    let c1 := c.record 162 fi [fFi fi]
    match (c.fiCfg fi).fallback with
    | .loc => c1.modFi fi (fun x => { x with fallenBack := true, fallbackVal := 1 })
    | .stop => (c1.modFi fi (fun x => { x with ropeStopped := true })).drainFi fi "ROPE"
  else c

/-- The recovery of FALLBACK=STOP at the next 1 ms boundary of anchor time after the link is up (R240). -/
def Chip.ropeRecovery (c : Chip) (fi : Nat) : Chip :=
  let x := c.fi fi
  if c.links.ropeUp ∧ x.ropeStopped ∧ x.intent ∧ (x.st = .stopped ∨ x.st = .draining) then
    let c1 := c.advanceToTime c.nextMs
    if x.st = .stopped ∧ c1.targetLive fi = 0 then c1.armFi fi "ROPE"
    else c1.modFi fi (fun x => { x with rearm := true })
  else c

/-! ### Broken hitches (R469) -/

/-- A hitch is found broken: waiters are withdrawn and answered, the holder loses it. -/
def Chip.hitchBroken (c : Chip) (h : Nat) : Chip :=
  let x := c.hitch h
  if x.broken then c
  else
    let c1 := (c.modHitch h (fun x => { x with holder := 0, queue := [], broken := true })).raise 132 h none [fNat "HITCH" h]
    let ws := c1.fab.hwaits.filter (fun w => w.hitch == h)
    let c2 := (ws.foldl (fun c w => c.answer w.fs (some hitchPoison)) c1).fab' (fun g => { g with hwaits := g.hwaits.filter (fun w => w.hitch != h) })
    let c3 := if x.holder = 0 then c2 else c2.record 164 h [fNat "HITCH" h, fMaster "MASTER" x.holder, fSym "CAUSE" "BROKEN"]
    c3.trev.sess.keys.foldl (fun c s =>
      let c4 := c.modSess s (fun y => { y with sels := y.sels.filter (fun e => e.hitch != h) })
      match (c.sess s).waiting with
      | .take n _ _ _ _ => if n = h then ((c4.modSess s (fun y => { y with waiting := .nothing })).respond s (.err "0905" [])).raise 421 s none [fSym "CODE" "0905"] else c4
      | .commit _ _ => if h = 0 then ((c4.modSess s (fun y => { y with waiting := .nothing })).respond s (.err "0905" [])).raise 421 s none [fSym "CODE" "0905"] else c4
      | .nothing => c4) c3

/-- The steward restores a broken group 0 hitch (R469). -/
def Chip.hitchRestore (c : Chip) (h : Nat) : Chip :=
  if h < 16 ∧ (c.hitch h).broken then c.modHitch h (fun x => { x with broken := false }) else c

end Sys2Proof.Machine
end

