-- ==== Sys2Proof/Machine/ElvitCommands.lean ====
section
/-!
DEFINITION. The Elvit instructions (08 and 09 of spec/): the firing at the head of a tile's pipeline executes when its word holds the opcode.
-/
namespace Sys2Proof.Machine

/-- A CRC instruction on the descriptor its AUX names (R387, R388). -/
def Chip.crcStep (c : Chip) (tile op : Nat) (g : CrcDesc → Word → Word → Word) : Chip :=
  c.execute tile op (fun f c =>
    match combine f.tok.op f.rOpnd, (c.image f.tok.fi).desc.crcs[Word.aux f.word % 8]? with
    | some o, _ => c.emit f o
    | none, some d => c.emit f ⟨.data, g d f.tok.op.data f.r.data⟩
    | none, none => c)

/-- PAR: the parity of L, or of L AND R in the dyadic FORMs (Table 9-7). -/
def Chip.parityOf (c : Chip) (tile : Nat) : Chip :=
  c.execute tile 0xC3 (fun f c =>
    c.emit f ((combine f.tok.op f.rOpnd).getD ⟨.data, parity (match f.rOpnd with | some r => f.tok.op.data &&& r.data | none => f.tok.op.data)⟩))

/-- MOV (R353). -/
def execMov (tile : Fin 416) (s : State) : Result := s.onChip (fun c => c.execute tile 0x00 (fun f c => c.emit f f.tok.op))
/-- STEER (R353). -/
def execSteer (tile : Fin 416) (s : State) : Result := s.onChip (fun c => c.steer tile)
/-- GATE (R353). -/
def execGate (tile : Fin 416) (s : State) : Result := s.onChip (fun c => c.gate tile)
/-- SINK (R353). -/
def execSink (tile : Fin 416) (s : State) : Result := s.onChip (fun c => c.execute tile 0x03 (fun _ c => c))
/-- KSET (R355). -/
def execKset (tile : Fin 416) (s : State) : Result := s.onChip (fun c => c.kset tile)
/-- KTEST (R354). -/
def execKtest (tile : Fin 416) (s : State) : Result :=
  s.onChip (fun c => c.execute tile 0x05 (fun f c => c.emit f ⟨.data, BitVec.ofNat 64 f.tok.op.kind.code⟩))
/-- TREAD (R353). -/
def execTread (tile : Fin 416) (s : State) : Result :=
  s.onChip (fun c => c.execute tile 0x06 (fun f c => c.emit f ((controlKind f.tok.op).getD ⟨.time, c.timeData⟩)))
/-- LIT (R353). -/
def execLit (tile : Fin 416) (s : State) : Result := s.onChip (fun c => c.lit tile)
/-- TQUAL (R353). -/
def execTqual (tile : Fin 416) (s : State) : Result :=
  s.onChip (fun c => c.execute tile 0x08 (fun f c => c.emit f ((controlKind f.tok.op).getD ⟨.data, c.quality.setWidth 64⟩)))
/-- ADD (R357). -/
def execAdd (tile : Fin 416) (s : State) : Result := s.onChip (fun c => c.compute tile 0x10 (fun l r => .pure (l + r)))
/-- SUB (R357). -/
def execSub (tile : Fin 416) (s : State) : Result := s.onChip (fun c => c.compute tile 0x11 (fun l r => .pure (l - r)))
/-- MUL (R357). -/
def execMul (tile : Fin 416) (s : State) : Result := s.onChip (fun c => c.compute tile 0x12 (fun l r => .pure (l * r)))
/-- MULH (R357). -/
def execMulh (tile : Fin 416) (s : State) : Result := s.onChip (fun c => c.compute tile 0x13 (fun l r => .pure (aMulh l r)))
/-- MULHU (R357). -/
def execMulhu (tile : Fin 416) (s : State) : Result := s.onChip (fun c => c.compute tile 0x14 (fun l r => .pure (aMulhu l r)))
/-- DIV (R358). -/
def execDiv (tile : Fin 416) (s : State) : Result := s.onChip (fun c => c.compute tile 0x15 (fun l r => aDiv l r))
/-- DIVU (R358). -/
def execDivu (tile : Fin 416) (s : State) : Result := s.onChip (fun c => c.compute tile 0x16 (fun l r => aDivu l r))
/-- REM (R358). -/
def execRem (tile : Fin 416) (s : State) : Result := s.onChip (fun c => c.compute tile 0x17 (fun l r => aRem l r))
/-- REMU (R358). -/
def execRemu (tile : Fin 416) (s : State) : Result := s.onChip (fun c => c.compute tile 0x18 (fun l r => aRemu l r))
/-- AND (R357). -/
def execAnd (tile : Fin 416) (s : State) : Result := s.onChip (fun c => c.compute tile 0x19 (fun l r => .pure (l &&& r)))
/-- OR (R357). -/
def execOr (tile : Fin 416) (s : State) : Result := s.onChip (fun c => c.compute tile 0x1A (fun l r => .pure (l ||| r)))
/-- XOR (R357). -/
def execXor (tile : Fin 416) (s : State) : Result := s.onChip (fun c => c.compute tile 0x1B (fun l r => .pure (l ^^^ r)))
/-- ANDN (R357). -/
def execAndn (tile : Fin 416) (s : State) : Result := s.onChip (fun c => c.compute tile 0x1C (fun l r => .pure (l &&& ~~~r)))
/-- SHL (R357). -/
def execShl (tile : Fin 416) (s : State) : Result := s.onChip (fun c => c.compute tile 0x1D (fun l r => .pure (l <<< sh6 r)))
/-- SHR (R357). -/
def execShr (tile : Fin 416) (s : State) : Result := s.onChip (fun c => c.compute tile 0x1E (fun l r => .pure (l >>> sh6 r)))
/-- SAR (R357). -/
def execSar (tile : Fin 416) (s : State) : Result := s.onChip (fun c => c.compute tile 0x1F (fun l r => .pure (l.sshiftRight (sh6 r))))
/-- ROL (R357). -/
def execRol (tile : Fin 416) (s : State) : Result := s.onChip (fun c => c.compute tile 0x20 (fun l r => .pure (l.rotateLeft (sh6 r))))
/-- ROR (R357). -/
def execRor (tile : Fin 416) (s : State) : Result := s.onChip (fun c => c.compute tile 0x21 (fun l r => .pure (l.rotateRight (sh6 r))))
/-- MIN (R357). -/
def execMin (tile : Fin 416) (s : State) : Result := s.onChip (fun c => c.compute tile 0x22 (fun l r => .pure (if i64 l < i64 r then l else r)))
/-- MAX (R357). -/
def execMax (tile : Fin 416) (s : State) : Result := s.onChip (fun c => c.compute tile 0x23 (fun l r => .pure (if i64 l < i64 r then r else l)))
/-- MINU (R357). -/
def execMinu (tile : Fin 416) (s : State) : Result := s.onChip (fun c => c.compute tile 0x24 (fun l r => .pure (if l < r then l else r)))
/-- MAXU (R357). -/
def execMaxu (tile : Fin 416) (s : State) : Result := s.onChip (fun c => c.compute tile 0x25 (fun l r => .pure (if l < r then r else l)))
/-- NEG (R357). -/
def execNeg (tile : Fin 416) (s : State) : Result := s.onChip (fun c => c.compute tile 0x26 (fun l _ => .pure (-l)))
/-- NOT (R357). -/
def execNot (tile : Fin 416) (s : State) : Result := s.onChip (fun c => c.compute tile 0x27 (fun l _ => .pure (~~~l)))
/-- ABS (R357). -/
def execAbs (tile : Fin 416) (s : State) : Result := s.onChip (fun c => c.compute tile 0x28 (fun l _ => .pure (ofI (Int.natAbs (i64 l)))))
/-- SEXT (R357). -/
def execSext (tile : Fin 416) (s : State) : Result := s.onChip (fun c => c.compute tile 0x29 (fun l r => .pure (aSext l r)))
/-- ZEXT (R357). -/
def execZext (tile : Fin 416) (s : State) : Result := s.onChip (fun c => c.compute tile 0x2A (fun l r => .pure (aZext l r)))
/-- EXTR (R357). -/
def execExtr (tile : Fin 416) (s : State) : Result := s.onChip (fun c => c.compute tile 0x2B (fun l r => .pure (aExtr l r)))
/-- ADDS (R358). -/
def execAdds (tile : Fin 416) (s : State) : Result := s.onChip (fun c => c.compute tile 0x2C (fun l r => satI 64 (i64 l + i64 r)))
/-- SUBS (R358). -/
def execSubs (tile : Fin 416) (s : State) : Result := s.onChip (fun c => c.compute tile 0x2D (fun l r => satI 64 (i64 l - i64 r)))
/-- ADD32 (R357). -/
def execAdd32 (tile : Fin 416) (s : State) : Result := s.onChip (fun c => c.compute tile 0x2E (fun l r => .pure (sx32 (i32 l + i32 r))))
/-- SUB32 (R357). -/
def execSub32 (tile : Fin 416) (s : State) : Result := s.onChip (fun c => c.compute tile 0x2F (fun l r => .pure (sx32 (i32 l - i32 r))))
/-- MUL32 (R357). -/
def execMul32 (tile : Fin 416) (s : State) : Result := s.onChip (fun c => c.compute tile 0x30 (fun l r => .pure (sx32 (i32 l * i32 r))))
/-- QADD (R359). -/
def execQadd (tile : Fin 416) (s : State) : Result := s.onChip (fun c => c.compute tile 0x40 (fun l r => qAdd 32 l r))
/-- QSUB (R359). -/
def execQsub (tile : Fin 416) (s : State) : Result := s.onChip (fun c => c.compute tile 0x41 (fun l r => qSub 32 l r))
/-- QMUL (R359). -/
def execQmul (tile : Fin 416) (s : State) : Result := s.onChip (fun c => c.compute tile 0x42 (fun l r => qMul 32 l r))
/-- QNEG (R359). -/
def execQneg (tile : Fin 416) (s : State) : Result := s.onChip (fun c => c.compute tile 0x43 (fun l _ => qNeg 32 l))
/-- QABS (R359). -/
def execQabs (tile : Fin 416) (s : State) : Result := s.onChip (fun c => c.compute tile 0x44 (fun l _ => qAbs 32 l))
/-- QSHL (R359). -/
def execQshl (tile : Fin 416) (s : State) : Result := s.onChip (fun c => c.compute tile 0x45 (fun l r => qShl 32 l r))
/-- QSHR (R359). -/
def execQshr (tile : Fin 416) (s : State) : Result := s.onChip (fun c => c.compute tile 0x46 (fun l r => qShr 32 l r))
/-- HADD (R359). -/
def execHadd (tile : Fin 416) (s : State) : Result := s.onChip (fun c => c.compute tile 0x48 (fun l r => qAdd 16 l r))
/-- HSUB (R359). -/
def execHsub (tile : Fin 416) (s : State) : Result := s.onChip (fun c => c.compute tile 0x49 (fun l r => qSub 16 l r))
/-- HMUL (R359). -/
def execHmul (tile : Fin 416) (s : State) : Result := s.onChip (fun c => c.compute tile 0x4A (fun l r => qMul 16 l r))
/-- HNEG (R359). -/
def execHneg (tile : Fin 416) (s : State) : Result := s.onChip (fun c => c.compute tile 0x4B (fun l _ => qNeg 16 l))
/-- HABS (R359). -/
def execHabs (tile : Fin 416) (s : State) : Result := s.onChip (fun c => c.compute tile 0x4C (fun l _ => qAbs 16 l))
/-- HSHL (R359). -/
def execHshl (tile : Fin 416) (s : State) : Result := s.onChip (fun c => c.compute tile 0x4D (fun l r => qShl 16 l r))
/-- HSHR (R359). -/
def execHshr (tile : Fin 416) (s : State) : Result := s.onChip (fun c => c.compute tile 0x4E (fun l r => qShr 16 l r))
/-- Q2H (R359). -/
def execQ2h (tile : Fin 416) (s : State) : Result := s.onChip (fun c => c.compute tile 0x50 (fun l _ => q2h l))
/-- H2Q (R359). -/
def execH2q (tile : Fin 416) (s : State) : Result := s.onChip (fun c => c.compute tile 0x51 (fun l _ => h2q l))
/-- QMUL64 (R359). -/
def execQmul64 (tile : Fin 416) (s : State) : Result := s.onChip (fun c => c.compute tile 0x52 (fun l r => qMul64 l r))
/-- QRND (R359). -/
def execQrnd (tile : Fin 416) (s : State) : Result := s.onChip (fun c => c.compute tile 0x53 (fun l _ => qRnd l))
/-- FADD (R360). -/
def execFadd (tile : Fin 416) (s : State) : Result := s.onChip (fun c => c.compute tile 0x60 (fun l r => f32.add l r))
/-- FSUB (R360). -/
def execFsub (tile : Fin 416) (s : State) : Result := s.onChip (fun c => c.compute tile 0x61 (fun l r => f32.sub l r))
/-- FMUL (R360). -/
def execFmul (tile : Fin 416) (s : State) : Result := s.onChip (fun c => c.compute tile 0x62 (fun l r => f32.mul l r))
/-- FDIV (R360). -/
def execFdiv (tile : Fin 416) (s : State) : Result := s.onChip (fun c => c.compute tile 0x63 (fun l r => f32.div l r))
/-- FSQRT (R360). -/
def execFsqrt (tile : Fin 416) (s : State) : Result := s.onChip (fun c => c.compute tile 0x64 (fun l _ => f32.sqrt l))
/-- FMIN (R360). -/
def execFmin (tile : Fin 416) (s : State) : Result := s.onChip (fun c => c.compute tile 0x65 (fun l r => f32.minmax false l r))
/-- FMAX (R360). -/
def execFmax (tile : Fin 416) (s : State) : Result := s.onChip (fun c => c.compute tile 0x66 (fun l r => f32.minmax true l r))
/-- FNEG (R360). -/
def execFneg (tile : Fin 416) (s : State) : Result := s.onChip (fun c => c.compute tile 0x67 (fun l _ => .pure (f32.negW l)))
/-- FABS (R360). -/
def execFabs (tile : Fin 416) (s : State) : Result := s.onChip (fun c => c.compute tile 0x68 (fun l _ => .pure (f32.absW l)))
/-- FMOV (R360). -/
def execFmov (tile : Fin 416) (s : State) : Result :=
  s.onChip (fun c => c.execute tile 0x69 (fun f c => c.emit f ((combine f.tok.op none).getD ⟨f.tok.op.kind, (f.tok.op.data.setWidth 32).setWidth 64⟩)))
/-- FCLT (R360). -/
def execFclt (tile : Fin 416) (s : State) : Result := s.onChip (fun c => c.compute tile 0x6A (fun l r => f32.cmp FVal.lt l r))
/-- FCLE (R360). -/
def execFcle (tile : Fin 416) (s : State) : Result := s.onChip (fun c => c.compute tile 0x6B (fun l r => f32.cmp FVal.lev l r))
/-- FCEQ (R360). -/
def execFceq (tile : Fin 416) (s : State) : Result := s.onChip (fun c => c.compute tile 0x6C (fun l r => f32.cmp FVal.eqv l r))
/-- F2I (R360). -/
def execF2i (tile : Fin 416) (s : State) : Result := s.onChip (fun c => c.compute tile 0x6D (fun l _ => f32.toI64 l))
/-- I2F (R360). -/
def execI2f (tile : Fin 416) (s : State) : Result := s.onChip (fun c => c.compute tile 0x6E (fun l _ => f32.ofInt (i64 l) 0))
/-- F2Q (R360). -/
def execF2q (tile : Fin 416) (s : State) : Result := s.onChip (fun c => c.compute tile 0x6F (fun l _ => fToQ l))
/-- Q2F (R360). -/
def execQ2f (tile : Fin 416) (s : State) : Result := s.onChip (fun c => c.compute tile 0x70 (fun l _ => f32.ofInt (i32 l) 31))
/-- F2D (R360). -/
def execF2d (tile : Fin 416) (s : State) : Result := s.onChip (fun c => c.compute tile 0x71 (fun l _ => FFmt.convert f32 f64 l))
/-- D2F (R360). -/
def execD2f (tile : Fin 416) (s : State) : Result := s.onChip (fun c => c.compute tile 0x72 (fun l _ => FFmt.convert f64 f32 l))
/-- FHYPOT (R360). -/
def execFhypot (tile : Fin 416) (s : State) : Result := s.onChip (fun c => c.compute tile 0x73 (fun l r => f32.hypotV (f32.unpack l) (f32.unpack r)))
/-- DADD (R360). -/
def execDadd (tile : Fin 416) (s : State) : Result := s.onChip (fun c => c.compute tile 0x80 (fun l r => f64.add l r))
/-- DSUB (R360). -/
def execDsub (tile : Fin 416) (s : State) : Result := s.onChip (fun c => c.compute tile 0x81 (fun l r => f64.sub l r))
/-- DMUL (R360). -/
def execDmul (tile : Fin 416) (s : State) : Result := s.onChip (fun c => c.compute tile 0x82 (fun l r => f64.mul l r))
/-- DDIV (R360). -/
def execDdiv (tile : Fin 416) (s : State) : Result := s.onChip (fun c => c.compute tile 0x83 (fun l r => f64.div l r))
/-- DSQRT (R360). -/
def execDsqrt (tile : Fin 416) (s : State) : Result := s.onChip (fun c => c.compute tile 0x84 (fun l _ => f64.sqrt l))
/-- DMIN (R360). -/
def execDmin (tile : Fin 416) (s : State) : Result := s.onChip (fun c => c.compute tile 0x85 (fun l r => f64.minmax false l r))
/-- DMAX (R360). -/
def execDmax (tile : Fin 416) (s : State) : Result := s.onChip (fun c => c.compute tile 0x86 (fun l r => f64.minmax true l r))
/-- DNEG (R360). -/
def execDneg (tile : Fin 416) (s : State) : Result := s.onChip (fun c => c.compute tile 0x87 (fun l _ => .pure (f64.negW l)))
/-- DABS (R360). -/
def execDabs (tile : Fin 416) (s : State) : Result := s.onChip (fun c => c.compute tile 0x88 (fun l _ => .pure (f64.absW l)))
/-- DCLT (R360). -/
def execDclt (tile : Fin 416) (s : State) : Result := s.onChip (fun c => c.compute tile 0x89 (fun l r => f64.cmp FVal.lt l r))
/-- DCLE (R360). -/
def execDcle (tile : Fin 416) (s : State) : Result := s.onChip (fun c => c.compute tile 0x8A (fun l r => f64.cmp FVal.lev l r))
/-- DCEQ (R360). -/
def execDceq (tile : Fin 416) (s : State) : Result := s.onChip (fun c => c.compute tile 0x8B (fun l r => f64.cmp FVal.eqv l r))
/-- D2I (R360). -/
def execD2i (tile : Fin 416) (s : State) : Result := s.onChip (fun c => c.compute tile 0x8C (fun l _ => f64.toI64 l))
/-- I2D (R360). -/
def execI2d (tile : Fin 416) (s : State) : Result := s.onChip (fun c => c.compute tile 0x8D (fun l _ => f64.ofInt (i64 l) 0))
/-- CEQ (R362). -/
def execCeq (tile : Fin 416) (s : State) : Result := s.onChip (fun c => c.compute tile 0x90 (fun l r => .pure (bit (l == r))))
/-- CNE (R362). -/
def execCne (tile : Fin 416) (s : State) : Result := s.onChip (fun c => c.compute tile 0x91 (fun l r => .pure (bit (l != r))))
/-- CLT (R362). -/
def execClt (tile : Fin 416) (s : State) : Result := s.onChip (fun c => c.compute tile 0x92 (fun l r => .pure (bit (decide (i64 l < i64 r)))))
/-- CLE (R362). -/
def execCle (tile : Fin 416) (s : State) : Result := s.onChip (fun c => c.compute tile 0x93 (fun l r => .pure (bit (decide (i64 l ≤ i64 r)))))
/-- CLTU (R362). -/
def execCltu (tile : Fin 416) (s : State) : Result := s.onChip (fun c => c.compute tile 0x94 (fun l r => .pure (bit (decide (l < r)))))
/-- CLEU (R362). -/
def execCleu (tile : Fin 416) (s : State) : Result := s.onChip (fun c => c.compute tile 0x95 (fun l r => .pure (bit (decide (l ≤ r)))))
/-- CTST (R362). -/
def execCtst (tile : Fin 416) (s : State) : Result := s.onChip (fun c => c.compute tile 0x96 (fun l r => .pure (bit (l &&& r != 0))))
/-- PSET (R363). -/
def execPset (tile : Fin 416) (s : State) : Result := s.onChip (fun c => c.predicate tile 0x98 false (fun l _ => l.getLsbD 0))
/-- PSETW (R271). -/
def execPsetw (tile : Fin 416) (s : State) : Result := s.onChip (fun c => c.predicate tile 0x99 true (fun l _ => l.getLsbD 0))
/-- PEQ (R363). -/
def execPeq (tile : Fin 416) (s : State) : Result := s.onChip (fun c => c.predicate tile 0x9A false (fun l r => l == r))
/-- PLT (R363). -/
def execPlt (tile : Fin 416) (s : State) : Result := s.onChip (fun c => c.predicate tile 0x9B false (fun l r => decide (i64 l < i64 r)))
/-- PLTU (R363). -/
def execPltu (tile : Fin 416) (s : State) : Result := s.onChip (fun c => c.predicate tile 0x9C false (fun l r => decide (l < r)))
/-- PTST (R363). -/
def execPtst (tile : Fin 416) (s : State) : Result := s.onChip (fun c => c.predicate tile 0x9D false (fun l r => l &&& r != 0))
/-- QCHK (R363). -/
def execQchk (tile : Fin 416) (s : State) : Result := s.onChip (fun c => c.predicate tile 0x9E false (fun l r => l &&& r == 0))
/-- SLD (R376). -/
def execSld (tile : Fin 416) (s : State) : Result := s.onCM (fun cm => CM.addressed cm tile 0xA0 false (performOp 0xA0))
/-- SST (R376). -/
def execSst (tile : Fin 416) (s : State) : Result := s.onCM (fun cm => CM.addressed cm tile 0xA1 true (performOp 0xA1))
/-- SLDE (R383). -/
def execSlde (tile : Fin 416) (s : State) : Result := s.onCM (fun cm => CM.addressed cm tile 0xA2 true (performOp 0xA2))
/-- SCLR (R384). -/
def execSclr (tile : Fin 416) (s : State) : Result := s.onCM (fun cm => CM.addressed cm tile 0xA3 true (performOp 0xA3))
/-- DLD (R376). -/
def execDld (tile : Fin 416) (s : State) : Result := s.onCM (fun cm => CM.addressed cm tile 0xA4 false (performOp 0xA4))
/-- DST (R420). -/
def execDst (tile : Fin 416) (s : State) : Result := s.onCM (fun cm => CM.addressed cm tile 0xA5 true (performOp 0xA5))
/-- KLD (R376). -/
def execKld (tile : Fin 416) (s : State) : Result := s.onChip (fun c => c.kld tile)
/-- AGEN (R376). -/
def execAgen (tile : Fin 416) (s : State) : Result := s.onChip (fun c => c.agen tile)
/-- CRCW (R388). -/
def execCrcw (tile : Fin 416) (s : State) : Result := s.onChip (fun c => c.crcStep tile 0xC0 crcW)
/-- CRCB (R388). -/
def execCrcb (tile : Fin 416) (s : State) : Result := s.onChip (fun c => c.crcStep tile 0xC1 crcB)
/-- CRCF (R388). -/
def execCrcf (tile : Fin 416) (s : State) : Result := s.onChip (fun c => c.crcStep tile 0xC2 (fun d l _ => crcF d l))
/-- PAR (R387). -/
def execPar (tile : Fin 416) (s : State) : Result := s.onChip (fun c => c.parityOf tile)
/-- BREV (R387). -/
def execBrev (tile : Fin 416) (s : State) : Result := s.onChip (fun c => c.compute tile 0xC4 (fun l r => .pure (brev l r)))
/-- POPC (R387). -/
def execPopc (tile : Fin 416) (s : State) : Result := s.onChip (fun c => c.compute tile 0xC5 (fun l _ => .pure (BitVec.ofNat 64 (popc l))))
/-- BSWAP (R387). -/
def execBswap (tile : Fin 416) (s : State) : Result := s.onChip (fun c => c.compute tile 0xC6 (fun l _ => .pure (bswap l)))
/-- CLZ (R387). -/
def execClz (tile : Fin 416) (s : State) : Result := s.onChip (fun c => c.compute tile 0xC7 (fun l _ => .pure (clz l)))
/-- CTZ (R387). -/
def execCtz (tile : Fin 416) (s : State) : Result := s.onChip (fun c => c.compute tile 0xC8 (fun l _ => .pure (ctz l)))
/-- CNEW (R258). -/
def execCnew (tile : Fin 416) (s : State) : Result := s.onChip (fun c => c.cnew tile)
/-- CSELF (R258). -/
def execCself (tile : Fin 416) (s : State) : Result :=
  s.onChip (fun c => c.execute tile 0xD1 (fun f c => c.emit f ((combine f.tok.op none).getD ⟨.data, ctxField f.tok.epoch f.tok.frame⟩)))
/-- CPUT (R258). -/
def execCput (tile : Fin 416) (s : State) : Result := s.onChip (fun c => c.cput tile)
/-- CREL (R259). -/
def execCrel (tile : Fin 416) (s : State) : Result := s.onChip (fun c => c.crel tile)
/-- PDONE (R258). -/
def execPdone (tile : Fin 416) (s : State) : Result := s.onChip (fun c => c.pdone tile)
/-- INEXT (R311). -/
def execInext (tile : Fin 416) (s : State) : Result := s.onChip (fun c => c.inext tile)
/-- ISET (R258). -/
def execIset (tile : Fin 416) (s : State) : Result := s.onChip (fun c => c.iset tile)
/-- FRD (R376). -/
def execFrd (tile : Fin 416) (s : State) : Result := s.onCM (fun cm => CM.addressed cm tile 0xD7 false (performOp 0xD7))
/-- FWR (R376). -/
def execFwr (tile : Fin 416) (s : State) : Result := s.onCM (fun cm => CM.addressed cm tile 0xD8 false (performOp 0xD8))
/-- HWR (R457). -/
def execHwr (tile : Fin 416) (s : State) : Result := s.onCM (fun cm => CM.addressed cm tile 0xE0 true (performOp 0xE0))
/-- HRD (R391). -/
def execHrd (tile : Fin 416) (s : State) : Result := s.onCM (fun cm => CM.addressed cm tile 0xE1 true (performOp 0xE1))
/-- HWAIT (R460). -/
def execHwait (tile : Fin 416) (s : State) : Result := s.onCM (fun cm => CM.addressed cm tile 0xE2 true (performOp 0xE2))
/-- HPARK (R460). -/
def execHpark (tile : Fin 416) (s : State) : Result := s.onCM (fun cm => CM.addressed cm tile 0xE3 true (performOp 0xE3))
/-- HREL (R458). -/
def execHrel (tile : Fin 416) (s : State) : Result := s.onCM (fun cm => CM.addressed cm tile 0xE4 true (performOp 0xE4))
/-- SALLOC (R391). -/
def execSalloc (tile : Fin 416) (s : State) : Result := s.onCM (fun cm => CM.addressed cm tile 0xE5 true (performOp 0xE5))
/-- SFREE (R391). -/
def execSfree (tile : Fin 416) (s : State) : Result := s.onCM (fun cm => CM.addressed cm tile 0xE6 true (performOp 0xE6))
/-- TRIP (R691). -/
def execTrip (tile : Fin 416) (s : State) : Result := s.onCM (fun cm => CM.request cm tile 0xE8 false true (performOp 0xE8))
/-- PUB (R584). -/
def execPub (tile : Fin 416) (s : State) : Result := s.onCM (fun cm => CM.request cm tile 0xE9 false true (performOp 0xE9))
/-- EVT (R396). -/
def execEvt (tile : Fin 416) (s : State) : Result := s.onCM (fun cm => CM.request cm tile 0xEA false true (performOp 0xEA))
/-- CHAN (R221). -/
def execChan (tile : Fin 416) (s : State) : Result := s.onCM (fun cm => CM.request cm tile 0xEB false true (performOp 0xEB))
/-- LED (R396). -/
def execLed (tile : Fin 416) (s : State) : Result := s.onCM (fun cm => CM.request cm tile 0xEC false true (performOp 0xEC))
/-- DISP (R398). -/
def execDisp (tile : Fin 416) (s : State) : Result := s.onCM (fun cm => CM.request cm tile 0xED false true (performOp 0xED))
/-- ROPE (R493). -/
def execRope (tile : Fin 416) (s : State) : Result := s.onCM (fun cm => CM.request cm tile 0xEE false true (performOp 0xEE))
/-- RESERVED_OPCODE (R342). -/
def execReservedOpcode (tile : Fin 416) (corrupt : Bool) (s : State) : Result := s.onChip (fun c => c.reservedWord tile corrupt)

end Sys2Proof.Machine
end

