-- ==== Sys2Proof/Machine/Engine.lean ====
section
/-!
DEFINITION. The working key register and the crypto engine (R651–R662 of 16_keys_life_cycle_and_engine.md).
-/
namespace Sys2Proof.Machine

/-- Zeroizes the working key register; a verify that fails raises the key-register fault and ends keyed service (R652, R654). -/
def Chip.zeroize (c : Chip) (ok : Bool) : Chip :=
  if ok then c.keys' (fun k => { k with work := none })
  else (c.keys' (fun k => { k with workBad := true })).raise 260 0 none []

def EngOp.keyed : EngOp → Bool
  | .gmac | .hmac | .extract => true | _ => false

/-- Cycles of a turn over the octets left of a message (R655, R657): a segment of 2,048 octets, or the remainder with what closes the message. -/
def EngReq.turn (r : EngReq) : Nat :=
  let last := decide (r.left ≤ 2048)
  match r.op with
  | .gmac | .wrap => if last then 24 + (r.left + 15) / 16 else 16 + 128
  | .hmac | .extract => if last then 8 * ((r.left + 9 + 63) / 64 + 1) else 256
  | .sha256 => if last then 8 * ((r.left + 9 + 63) / 64) else 256
  | .sha384 => if last then 12 * ((r.left + 17 + 127) / 128) else 192

/-- Cycles of a switch to a request (Table 16-8). -/
def Chip.switchCost (c : Chip) (r : EngReq) (save : Bool) : Nat :=
  let same := r.op.keyed && r.slot.isSome && c.keys.work == r.slot && !save
  8 + (if save then 40 else 0) + (if r.resumed then 40 else 0) +
    (if same then 0 else (if c.keys.work.isSome || !r.op.keyed then 4 else 0) + (if r.op.keyed then 48 + 52 + 17 else 0))

/-- A request ends without its result: a frame is counted AUTH, a publication is not sent (R654, R662). -/
def Chip.engFail (c : Chip) (r : EngReq) : Chip :=
  match r.use with
  | .check w => c.authFail w.sub
  | .tag p => ((c.pubNext p).modPub p (fun y => { y with nocell := y.nocell + 1 })).keys' (fun k => { k with tagQ := k.tagQ.filter (· != p) })
  | .steward => c

/-- The earliest waiter by arrival. -/
def Keys.nextWaiter (k : Keys) : Option EngReq :=
  k.waiters.foldl (fun (a : Option EngReq) r => match a with
    | none => some r
    | some b => if r.arrival < b.arrival then some r else a) none

/-- The engine switches to a request; the key of a keyed one is unwrapped into the register, and a slot that cannot serve fails the request
(R650, R651, R654, R658). -/
def Chip.engGrant (c : Chip) (r : EngReq) (save unwraps : Bool) : Chip :=
  let at? := max c.clk.cycle c.keys.resetEnd + c.switchCost r save
  let slot := r.slot.map c.slot
  let fit := match slot with | some x => x.st == .valid && !x.bad | none => true
  if r.op.keyed && (c.keys.workBad || !c.domOn 18 || !fit) then (c.keys' (fun k => { k with cur := none, idleSince := c.clk.cycle })).engFail r
  else if r.op.keyed && !unwraps && c.keys.work != r.slot then
    let n := r.slot.getD 0
    let c1 := c.keys' (fun k => { k with cur := none, idleSince := c.clk.cycle, work := none, slots := k.slots.put Slot.init n { c.slot n with bad := true } })
    (c1.raise 259 n none [fNat "SLOT" n]).engFail r
  else (c.unit' (fun u => { u with regs := { u.regs with
      engSwitches := sat32 u.regs.engSwitches, engMaxWait := if r.codec then max u.regs.engMaxWait (min 65535 (at? - r.arrival)) else u.regs.engMaxWait } })).keys' (fun k =>
    { k with cur := some r, granted := at?, turnEnd := at? + r.turn, work := if r.op.keyed then r.slot else none })

/-- The codec's next request (R656): tags of P0 new states by rank, then tag checks in order of arrival, then the other tags. -/
def Chip.codecRequest (c : Chip) : Option EngReq :=
  let pubs := c.keys.tagQ.filterMap (fun p => ((c.pub p).building).map (fun f => (p, f)))
  let pick (l : List (Nat × PubFrame)) : Option (Nat × PubFrame) := l.foldl (fun (a : Option (Nat × PubFrame)) e => match a with
    | none => some e
    | some b => if c.pubKey e.1 e.2 < c.pubKey b.1 b.2 then some e else a) none
  let p0 := pubs.filter (fun e => !e.2.again && (match c.fiOf (.pub e.1) with | some n => (c.fiCfg n).cls == 0 | none => false))
  let ofPub (e : Nat × PubFrame) : EngReq :=
    { codec := true, slot := some (c.pubCfg e.1).slot, op := if (c.pubCfg e.1).auth = .gmac then .gmac else .hmac,
      left := min 1536 (Config.frameLength e.1 ((c.pubTempl e.1).members.map EMember.dflt) (e.2.cell.getD [])), resumed := false, arrival := c.clk.cycle, use := .tag e.1 }
  match pick p0, c.codec.waiting with
  | some e, _ => some (ofPub e)
  | none, w :: _ => some { codec := true, slot := some (c.subCfg w.sub).slot, op := if (c.subCfg w.sub).auth = .gmac then .gmac else .hmac,
                           left := w.raw.length, resumed := false, arrival := c.clk.cycle, use := .check w }
  | none, [] => (pick pubs).map ofPub

/-- A master has a request at the engine. -/
def Keys.busy (k : Keys) (codec : Bool) : Bool :=
  (match k.cur with | some r => r.codec == codec | none => false) || k.waiters.any (fun r => r.codec == codec)

/-- Presents a request: granted when the engine is idle, else it waits (R656, R658). -/
def Chip.present' (c : Chip) (r : EngReq) (unwraps : Bool) : Chip :=
  if c.keys.cur.isNone ∧ c.keys.waiters.isEmpty then c.engGrant r false unwraps
  else c.keys' (fun k => { k with waiters := k.waiters ++ [r] })

/-- A master presents a request (R656). The codec presents its next one; the steward names the operation, a slot and the octets. -/
def Chip.engineRequest (c : Chip) (steward : Option (EngOp × Option Nat × Nat)) (unwraps : Bool) : Chip :=
  match steward with
  | some (op, slot, octets) =>
    if c.keys.busy false ∨ ¬ c.domOn 18 then c
    else c.present' { codec := false, slot := if op.keyed then slot else none, op := op, left := octets, resumed := false, arrival := c.clk.cycle, use := .steward } unwraps
  | none =>
    if c.keys.busy true then c
    else match c.codecRequest with
      | none => c
      | some r =>
        let c1 := match r.use with | .check w => c.codec' (fun k => { k with waiting := k.waiting.erase w }) | _ => c
        c1.present' r unwraps

/-- Serves the earliest waiter, or the engine goes idle. -/
def Chip.engNext (c : Chip) (save unwraps : Bool) : Chip :=
  match c.keys.nextWaiter with
  | some r => (c.keys' (fun k => { k with waiters := k.waiters.erase r })).engGrant r save unwraps
  | none => c.keys' (fun k => { k with cur := none, idleSince := c.clk.cycle })

/-- A request completes: a tag check is handed to the codec gate, a tagged publication is sent (R582, R592). -/
def Chip.engDone (c : Chip) (r : EngReq) : Chip :=
  match r.use with
  | .check w =>
    let ok := match w.msg.tag with
      | some g => Config.verifies g.alg (c.slot (r.slot.getD 0)).key w.raw g.octets
      | none => false
    c.keys' (fun k => { k with checked := k.checked ++ [(w, ok)] })
  | .tag p =>
    let c1 := c.keys' (fun k => { k with tagQ := k.tagQ.filter (· != p) })
    (match (c1.pub p).building with
     | some f => c1.pubFinish p f
     | none => c1)
  | .steward => c

/-- A turn of the engine ends (R658); the register is zeroized at the end of a request whose slot has been revoked (R647, R652). -/
def Chip.segmentEnd (c : Chip) (unwraps : Bool) : Chip :=
  match c.keys.cur with
  | none => c
  | some r =>
    let c0 := c.advanceTo c.keys.turnEnd
    if r.left > 2048 then
      let rest := { r with left := r.left - 2048, resumed := false }
      if c0.keys.waiters.isEmpty then
        c0.keys' (fun k => { k with cur := some rest, granted := c0.clk.cycle, turnEnd := c0.clk.cycle + rest.turn })
      else
        match c0.keys.nextWaiter with
        | none => c0
        | some w =>
          (c0.keys' (fun k => { k with waiters := k.waiters.erase w ++ [{ rest with resumed := true, arrival := c0.clk.cycle }] })).engGrant w true unwraps
    else
      let c1 := c0.engDone r
      let revoked : Bool := match r.slot with | some n => r.op.keyed && (c1.slot n).st == .revoked | none => false
      (if revoked then c1.zeroize true else c1).engNext false unwraps

/-- 1 ms of engine idleness zeroizes the register (R652). -/
def Chip.idleZeroize (c : Chip) (ok : Bool) : Chip :=
  if c.keys.cur.isSome ∨ c.keys.work.isNone then c else (c.advanceTo (1000000 + c.keys.idleSince)).zeroize ok

/-- A granted request has not completed within 10 us (R662). -/
def Chip.engineTimeout (c : Chip) (unwraps : Bool) : Chip :=
  match c.keys.cur with
  | none => c
  | some r =>
    let c0 := c.advanceTo (10000 + c.keys.granted)
    let c1 := ((c0.raise 261 0 none []).zeroize true).engFail r
    (c1.keys' (fun k => { k with resetEnd := 100000 + c1.clk.cycle, cur := none })).engNext false unwraps

end Sys2Proof.Machine
end

