-- ==== Sys2Proof/Machine/Admit.lean ====
section
/-!
DEFINITION. Budgets, placement and admission of function instances (R173, R178, R200–R209, R346, R404, R405, R413, R414, R428, R446, R447, R770;
Tables 5-2 to 5-5), and the release of what a placement holds.
-/
namespace Sys2Proof.Machine

/-! ### Tiles -/

/-- Cluster of a tile, and its index there (R248). -/
def clusterOf (t : Nat) : Nat := t / 52

/-- Repair record of a tile nothing has changed: local tiles 48–51 are SPARE (R741). -/
def TileRep.initOf (t : Nat) : TileRep := { st := if t % 52 ≥ 48 then .spare else .active, last := none, passed := true, suspect := false, dead := false }
def Chip.tileRep (c : Chip) (t : Nat) : TileRep := c.rep.tiles.get (TileRep.initOf t) t
def Chip.rep' (c : Chip) (g : Repair → Repair) : Chip := { c with rep := g c.rep }
def Chip.modTileRep (c : Chip) (t : Nat) (g : TileRep → TileRep) : Chip :=
  c.rep' (fun r => { r with tiles := r.tiles.put (TileRep.initOf t) t (g (c.tileRep t)) })

/-- Tiles that take slots: ACTIVE, in a cluster whose domain is ON and stays so, and no target of a traverse step (R204, R770). -/
def Chip.openTiles (c : Chip) (off : List Nat) (cl : Nat) : List Nat :=
  if !c.domOn cl || off.contains cl then []
  else ((List.range 52).map (52 * cl + ·)).filter (fun t => (c.tileRep t).st == .active && !c.rep.steps.any (fun e => e.2.target == some t))

/-! ### Loads of a slot and of a tile (R203, Table 5-4) -/

/-- A placement: FI, copy, tile of each slot. -/
abbrev Placement := List (Nat × Nat × List Nat)

/-- Worst-case firings of a slot of a P0 copy per period. -/
def FiCfg.slotFirings (f : FiCfg) (slot : Nat) : Nat :=
  if f.cls = 0 then ((List.range (f.image.getD Image.empty).v).filter (fun v => v % max f.tiles 1 == slot)).foldl
    (fun n v => n + (f.image.getD Image.empty).f.getD v 0) 0 else 0

/-- The slots that stand on a tile. -/
def Placement.on (pl : Placement) (cfg : Nat → FiCfg) (t : Nat) : List (FiCfg × Nat) :=
  pl.flatMap (fun e => ((List.range e.2.2.length).filter (fun s => e.2.2[s]? == some t)).map (fun s => (cfg e.1, s)))

/-- Density of a tile as a fraction (Table 5-4). -/
def density (l : List (FiCfg × Nat)) : Nat × Nat :=
  l.foldl (fun a e => if e.1.cls = 0 then (a.1 * max 1 (e.1.deadline.getD 1) + e.1.slotFirings e.2 * a.2, a.2 * max 1 (e.1.deadline.getD 1)) else a) (0, 1)

def densityOk (l : List (FiCfg × Nat)) : Bool := 4 * (density l).1 ≤ 3 * (density l).2

/-- The per-tile sums of Table 5-4 but the density, with the field that fails. -/
def sumsFail (l : List (FiCfg × Nat)) : Option String :=
  if l.foldl (fun n e => n + e.1.slotPages e.2) 0 > 16 then some "PAGES"
  else if l.foldl (fun n e => n + (if e.1.cls = 0 then e.1.pinned else 0)) 0 > 1024 then some "PINNED"
  else if l.foldl (fun n e => n + (if e.1.cls = 0 then 0 else e.1.hashed)) 0 > 7168 then some "HASHED"
  else none

/-- A tile takes a slot more. -/
def tileTakes (dens : Bool) (on : List (FiCfg × Nat)) (f : FiCfg) (slot : Nat) : Bool :=
  (sumsFail (on ++ [(f, slot)])).isNone && (!dens || densityOk (on ++ [(f, slot)]))

/-- Frames reserved in a cluster. -/
def Placement.frames (pl : Placement) (cfg : Nat → FiCfg) (cl : Nat) : Nat :=
  pl.foldl (fun n e => if (e.2.2.head?.map clusterOf) = some cl then n + (cfg e.1).frames else n) 0

/-! ### Placement (R204) -/

/-- Places the slots of one copy in a cluster, each on the lowest open tile that takes it and that the copy does not use yet. -/
def placeSlots (dens : Bool) (cfg : Nat → FiCfg) (pl : Placement) (tiles : List Nat) (f : FiCfg) : Option (List Nat) :=
  (List.range f.tiles).foldl (fun a s => match a with
    | none => none
    | some m => (tiles.find? (fun t => !m.contains t && tileTakes dens (pl.on cfg t) f s)).map (fun t => m ++ [t])) (some [])

/-- Places one copy: clusters in ascending order, not the one its other copy uses. -/
def placeCopy (dens : Bool) (cfg : Nat → FiCfg) (opens : Nat → List Nat) (pl : Placement) (fi : Nat) (avoid : Option Nat) : Option (List Nat) :=
  let f := cfg fi
  (List.range 8).findSome? (fun cl =>
    if avoid = some cl ∨ pl.frames cfg cl + f.frames > 32768 then none else placeSlots dens cfg pl (opens cl) f)

/-- Places every copy of an FI: the copies of a twinned one in different clusters; the failing copy otherwise. -/
def placeFi (dens : Bool) (cfg : Nat → FiCfg) (opens : Nat → List Nat) (pl : Placement) (fi : Nat) : Except Nat Placement :=
  match placeCopy dens cfg opens pl fi none with
  | none => .error 0
  | some a =>
    let p1 := pl ++ [(fi, 0, a)]
    if (cfg fi).twin then match placeCopy dens cfg opens p1 fi (a.head?.map clusterOf) with
      | none => .error 1
      | some b => .ok (p1 ++ [(fi, 1, b)])
    else .ok p1

/-- The order of placement and of admission: P0 by rank, then P1, P2 and P3 by number (R173, R204). -/
def placeBefore (cfg : Nat → FiCfg) (a b : Nat) : Bool :=
  let ka := (cfg a).cls
  let kb := (cfg b).cls
  let xa := if ka = 0 then (cfg a).rank.getD 0 else a
  let xb := if kb = 0 then (cfg b).rank.getD 0 else b
  ka < kb || (ka == kb && (xa < xb || (xa == xb && a < b)))

def insFi (cfg : Nat → FiCfg) (n : Nat) : List Nat → List Nat
  | [] => [n]
  | x :: t => if placeBefore cfg n x then n :: x :: t else x :: insFi cfg n t
def placeOrder (cfg : Nat → FiCfg) (l : List Nat) : List Nat := l.foldl (fun a n => insFi cfg n a) []

/-! ### Checks of one FI (R201, R203, R346, Table 5-4) -/

/-- An answer of a failing rule. -/
abbrev Bad := Option (String × Fields)

/-- The first rule of a list that fails. -/
def firstBad (l : List Bad) : Bad := l.findSome? (fun x => x)
/-- A rule. -/
def must (ok : Bool) (code : String) (fs : Fields) : Bad := if ok then none else some (code, fs)

/-- Fields an FI needs before it is admitted, and the agreement rules of its class (R201, R203). -/
def agreeBad (n : Nat) (f : FiCfg) : Bad :=
  let e (ok : Bool) (code name : String) : Bad := must ok code [fFi n, fSym (if code == "0702" then "FIELDS" else "FIELD") name]
  let i := f.image.getD Image.empty
  firstBad [e (f.cls < 4) "070A" "CLASS", e (f.tiles != 0) "070A" "TILES", e (f.pages != 0) "070A" "PAGES", e (f.frames != 0) "070A" "FRAMES",
    e (f.credit != 0) "070A" "CREDIT", e f.periodSet "070A" "PERIOD", e (f.period == .timer || f.psrc.isSome) "070A" "PSRC",
    e (f.period != .timer || f.psrc.isNone) "0702" "PSRC", e (f.period != .timer || f.tick.isSome) "070A" "TICK",
    e (f.period == .timer || f.tick.isNone) "0702" "TICK",
    e (f.cls != 0 || f.rank.isSome) "070A" "RANK", e (f.cls != 0 || f.deadline.isSome) "070A" "DEADLINE",
    e (f.cls == 0 || f.rank.isNone) "0702" "RANK", e (f.cls == 0 || f.deadline.isNone) "0702" "DEADLINE",
    e (f.cls == 0 || !f.twin) "0702" "TWIN", e (f.cls == 0 || f.pinned == 0) "0702" "PINNED", e (f.cls != 0 || f.hashed == 0) "0702" "HASHED",
    must (f.pages ≤ 16 * f.tiles) "0702" [fFi n, ⟨"FIELDS", .syms ["PAGES", "TILES"]⟩],
    e (if f.cls = 0 then i.v == f.tiles else f.tiles ≤ i.v) "0702" "TILES",
    e (if f.cls < 2 then f.pages == (i.pg.take i.v).foldl (· + ·) 0 else f.tiles ≤ f.pages) "0702" "PAGES",
    e (!f.rope || f.fallback != .loc || (i.inputs.any (fun p => p.declared && p.fallback))) "0702" "FALLBACK"]

/-- Per-FI budget rows of Table 5-4. -/
def budgetBad (n : Nat) (f : FiCfg) : Bad :=
  let e (ok : Bool) (name : String) : Bad := must ok "0703" [fFi n, fSym "FIELD" name]
  let i := f.image.getD Image.empty
  firstBad [e (f.cls != 0 || (i.w.take i.v).all (fun w => decide (w ≤ f.pinned))) "PINNED", e (f.cls != 0 || decide (i.c ≤ f.frames)) "FRAMES",
    e (i.k ≤ f.credit) "CREDIT"]

/-- Deadline rows of Table 5-4, and the image rules of a P0 FI (R346); `nominal` is the nominal period of an SV source. -/
def deadlineBad (n : Nat) (f : FiCfg) (nominal : Option Nat) : Bad :=
  let i := f.image.getD Image.empty
  let d := f.deadline.getD 0
  if f.cls ≠ 0 then none
  else firstBad [must (!i.hwait) "0707" [fFi n, fSym "FIELD" "FLAGS"], must (i.l != 0) "0707" [fFi n, fSym "FIELD" "L"],
    must (i.l ≤ d) "0705" [fFi n, fSym "FIELD" "L"],
    must (match f.period with
      | .sv => match nominal with | some p => d ≤ p | none => true
      | .timer => d ≤ f.tick.getD d
      | .goose => true) "0705" [fFi n, fSym "FIELD" "DEADLINE"]]

/-- Ranks are unique among P0 (R200, R201). -/
def rankBad (cfg : Nat → FiCfg) : List Nat → Bad
  | [] => none
  | n :: t =>
    match t.find? (fun m => (cfg n).cls == 0 && (cfg m).cls == 0 && (cfg n).rank == (cfg m).rank) with
    | some m => some ("0708", [fFi n, fNat "RANK" ((cfg n).rank.getD 0), fNat "OTHER" m])
    | none => rankBad cfg t

/-- BW as booked: a twinned FI counts each copy (R205). -/
def FiCfg.booked (f : FiCfg) : Nat := f.bw * (if f.twin then 2 else 1)
def bookedSum (cfg : Nat → FiCfg) (l : List Nat) : Nat := l.foldl (fun n i => n + (cfg i).booked) 0

/-- The declared bookable figure (R103, R434). -/
def declaredFigure (hot : Bool) (reserve retired : Nat) : Nat := (if hot then 896000 else 1024000) * (64 - max reserve retired) / 64

/-- Structure granules an FI needs, and its cells and private MiB (R367, R404). -/
def FiCfg.grans (f : FiCfg) : Nat := ((f.image.getD Image.empty).desc.smem + 4095) / 4096
def FiCfg.privs (f : FiCfg) : Nat := (f.image.getD Image.empty).desc.priv

/-- Granules that hitch regions touch (R405). -/
def regionGrans (regions : Tbl HRegion) : List Nat :=
  (regions.vals.flatMap (fun r => (List.range ((r.base + r.len + 4095) / 4096 - r.base / 4096)).map (r.base / 4096 + ·))).eraseDups

/-- The unit-wide sums of Table 5-4, R405, R413 and R447. -/
def wideBad (cfg : Nat → FiCfg) (regions : Tbl HRegion) (privTaken : Nat) (l : List Nat) : Bad :=
  let e (ok : Bool) (name : String) : Bad := must ok "0703" [fSym "FIELD" name]
  firstBad [e (l.foldl (fun n i => if (cfg i).cls = 0 then n else n + (cfg i).deep) 0 ≤ 8192) "DEEP",
    e (l.foldl (fun n i => n + (cfg i).grans) 0 + (regionGrans regions).length ≤ 15872) "SMEM",
    e (l.foldl (fun n i => n + (cfg i).privs) 0 + privTaken ≤ 7168) "PRIV",
    e (l.foldl (fun n i => n + ((cfg i).image.getD Image.empty).desc.cells) 0 ≤ 8192) "CELLS"]

/-- Per-tile and per-cluster sums over a placement whose FIs kept their tiles. -/
def keptBad (cfg : Nat → FiCfg) (pl : Placement) : Bad :=
  firstBad ((List.range 416).map (fun t =>
      if pl.any (fun e => e.2.2.contains t) then
        match sumsFail (pl.on cfg t) with
        | some f => some ("0703", [fNat "TILE" t, fSym "FIELD" f])
        | none => must (densityOk (pl.on cfg t)) "0705" [fNat "TILE" t, fSym "FIELD" "DENSITY"]
      else none) ++
    (List.range 8).map (fun k => must (pl.frames cfg k ≤ 32768) "0703" [fNat "CLUSTER" k, fSym "FIELD" "FRAMES"]))

/-- Places FIs in the order given after those that keep their tiles; the answer of the first that finds no place (R204, R205). -/
def placeAll (cfg : Nat → FiCfg) (opens : Nat → List Nat) (kept : Placement) (l : List Nat) : Except (String × Fields) Placement :=
  l.foldl (fun a n => match a with
    | .error e => .error e
    | .ok pl => match placeFi true cfg opens pl n with
      | .ok p => .ok p
      | .error k =>
        match placeFi false cfg opens pl n with
        | .ok _ => .error ("0705", [fFi n, fSym "FIELD" "DENSITY"])
        | .error _ => .error ("0703", [fFi n, fSym "COPY" (copyName k), fSym "FIELD" "TILES"])) (.ok kept)

/-! ### The placement in force -/

/-- Where the copies of the FIs stand. -/
def Chip.placement (c : Chip) (l : List Nat) : Placement :=
  l.flatMap (fun n => (List.range (c.nCopies n)).map (fun k => (n, k, (c.copy n k).map)))

/-- FIs that are placed (Table 5-8). -/
def Chip.placedFis (c : Chip) : List Nat := (c.fis.filter (fun e => e.2.st.placed)).map (·.1)

/-- Gives an FI its copies where a placement puts them; counts of a copy that keeps its place are kept. -/
def Chip.setCopies (c : Chip) (pl : Placement) (fi : Nat) : Chip :=
  let mine := pl.filter (fun e => e.1 == fi)
  let moves := mine.map (fun e => e.2.2) != (c.fi fi).copies.map Copy.map
  let c0 := if moves then (c.dropPages fi).scrapFi fi else c.dropPages fi
  let c1 := c0.modFi fi (fun x => { x with copies := mine.map (fun e =>
      let old := ((x.copies[e.2.1]?).getD Copy.init)
      if old.map = e.2.2 then { old with mapBad := [] } else { old with cluster := (e.2.2.head?.map clusterOf).getD 0, map := e.2.2, mapBad := [], lastFire := c.clk.cycle }) })
  c1.fillPages fi

/-! ### Areas (R404, R406, R413, R414, R446) -/

/-- The lowest free structure granules: half B below the unit part, then half A while D19 can hold it; none on what a region touches (R404, R405). -/
def Chip.freeGrans (c : Chip) (avoid : List Nat) (n : Nat) : List Nat :=
  let used := (c.mctl.smap.vals.flatMap (fun l => l)) ++ avoid
  (((List.range 7680).map (8192 + ·) ++ List.range 8192).filter (fun g => !used.contains g)).take n

/-- The lowest free private granules, as granules of the DRAM address space (R413, R415). -/
def Chip.freePrivs (c : Chip) (n : Nat) : List Nat :=
  let used := c.mctl.pmap.vals.flatMap (fun l => l)
  (((List.range (7168 - c.rep.privTaken)).map (23552 + ·)).filter (fun g => !used.contains g)).take n

/-- Places the areas of an FI that keeps none: granules written zero and empty, with their owner set (R406, R414). -/
def CM.placeAreas (cm : CM) (fi : Nat) : CM :=
  let f := cm.1.fiCfg fi
  let sg := cm.1.freeGrans (regionGrans cm.1.cfg.regions) f.grans
  let pg := cm.1.freePrivs f.privs
  let m1 := sg.foldl (fun m g => m.clearGranule g (.fi fi)) cm.2
  let m2 := pg.foldl (fun m g => m.clearPriv g (.priv fi)) m1
  ({ cm.1 with mctl := { cm.1.mctl with smap := cm.1.mctl.smap.put [] fi sg, pmap := cm.1.mctl.pmap.put [] fi pg } }, m2)

/-- Releases the areas of an FI: zero, empty, FREE (R406, R414), with its deep store. -/
def CM.dropAreas (cm : CM) (fi : Nat) : CM :=
  let m1 := (cm.1.mctl.smap.get [] fi).foldl (fun m g => m.clearGranule g .free) cm.2
  let m2 := (cm.1.mctl.pmap.get [] fi).foldl (fun m g => m.clearPriv g .free) m1
  (({ cm.1 with mctl := { cm.1.mctl with smap := cm.1.mctl.smap.put [] fi [], pmap := cm.1.mctl.pmap.put [] fi [] } } : Chip).fab'
    (fun g => { g with deeps := g.deeps.del fi, merges := g.merges.filter (fun e => e.fi != fi) }), m2)

/-- A LOADED FI is admitted; an ADMITTED or STOPPED one is re-admitted in place (Table 5-9). `areas` says that its areas are placed afresh. -/
def CM.admitFi (cm : CM) (pl : Placement) (fi : Nat) (areas : Bool) (cause : String) : CM :=
  let c1 := cm.1.setCopies pl fi
  let c2 := if (c1.fi fi).st = .loaded then c1.fiState fi .admitted cause else c1
  if areas then CM.placeAreas (CM.dropAreas (c2, cm.2) fi) fi else (c2, cm.2)

/-- A LOAD FI applies: the old placement and areas go, the generation is 0, the state LOADED (Table 5-9). -/
def CM.loadFi (cm : CM) (fi : Nat) (cause : String) : CM :=
  let cm1 := CM.dropAreas ((cm.1.dropPages fi).scrapFi fi, cm.2) fi
  let c := cm1.1
  let c1 := c.modFi fi (fun x => { x with copies := [], gen := 0, rearm := false })
  let c2 := if (c1.fi fi).st = .loaded then c1 else c1.fiState fi .loaded cause
  (c2, cm1.2)

/-- A DELETE FI of a whole FI applies: EMPTY, nothing held, no run intent (R175, R452, R470, Table 5-9). -/
def CM.emptyFi (cm : CM) (fi : Nat) (cause : String) : CM :=
  let cm1 := CM.dropAreas ((cm.1.dropPages fi).scrapFi fi, cm.2) fi
  let c := cm1.1
  let c1 := (c.modFi fi (fun x => { x with copies := [], rearm := false, intent := false, ropeStopped := false, opens := [] })).fiState fi .empty cause
  ((c1.dropFiHitches fi).dropWaits fi, cm1.2)

/-! ### The order in which FIs stop for want of room (R209) -/

/-- P3, P2 and P1 in descending number, then P0 in descending rank. -/
def stopOrder (cfg : Nat → FiCfg) (l : List Nat) : List Nat :=
  let p (k : Nat) : List Nat := ((placeOrder cfg l).filter (fun n => (cfg n).cls == k)).reverse
  p 3 ++ p 2 ++ p 1 ++ p 0

/-- Places FIs that lost a tile again; those that find no room stop FI-FATAL one after another until the rest fit, with one DEGRADED fault that names
them (R209). -/
def Chip.replaceFis (c : Chip) (l : List Nat) : Chip :=
  let cfg := c.fiCfg
  let kept := c.placement (c.placedFis.filter (fun n => !l.contains n))
  let rec try' : List Nat → Nat → List Nat → Placement × List Nat
    | rest, 0, gone => (match placeAll cfg (c.openTiles []) kept (placeOrder cfg rest) with
      | .ok p => p
      | .error _ => kept, gone ++ rest)
    | rest, n + 1, gone => match placeAll cfg (c.openTiles []) kept (placeOrder cfg rest) with
      | .ok p => (p, gone)
      | .error _ => match stopOrder cfg rest with
        | [] => (kept, gone)
        | x :: _ => try' (rest.filter (· != x)) n (gone ++ [x])
  let (pl, gone) := try' l l.length []
  let c1 := gone.foldl (fun c n => if (c.fi n).st.acts then c.faultStop n else c) c
  let c2 := l.foldl (fun c n => c.setCopies pl n) c1
  if gone.isEmpty then c2 else c2.raise 22 0 none [⟨"FIS", .nats gone⟩]

end Sys2Proof.Machine
end

