-- ==== Sys2Proof/Machine/Bandwidth.lean ====
section
/-!
DEFINITION. The governor: current capacity, guaranteed rates, shedding, credits (R434–R441, R779 of spec/).
-/
namespace Sys2Proof.Machine

def Sensor.init : Sensor := { st := .normal, temp := 25, bad := false, readAt := 0, since := [none, none, none] }
def Chip.sensor (c : Chip) (n : Nat) : Sensor := c.sup.sensors.get Sensor.init n
def Chip.sup' (c : Chip) (g : Supply → Supply) : Chip := { c with sup := g c.sup }

/-- Some stack is HOT: its sensor is not NORMAL (R435, Table 20-4). -/
def Chip.stackHot (c : Chip) : Bool := (List.range 4).any (fun i => (c.sensor (16 + i)).st != .normal)

/-- The current capacity Cap (R434). -/
def Chip.capacity (c : Chip) : Nat := (if c.stackHot then 896000 else 1024000) * (64 - c.rep.retired.length) / 64

/-- The running FIs of a class. -/
def Chip.runningOf (c : Chip) (k : Nat) : List Nat := (c.fis.filter (fun e => e.2.st.acts && (c.fiCfg e.1).cls == k)).map (·.1)

/-- Bookings of the running copies of a class. -/
def Chip.booked (c : Chip) (k : Nat) : Nat := (c.runningOf k).foldl (fun n i => n + (c.fiCfg i).booked) 0

/-- The capacity that the rates are set from: at throttle step 2 and above at most B0 + B1 (R779). -/
def Chip.rateCap (c : Chip) : Nat := if c.sup.step ≥ 2 then min c.capacity (c.booked 0 + c.booked 1) else c.capacity

/-- A scale factor limited to 0–1, as a fraction; with nothing booked it scales nothing. -/
def scale (num den : Nat) : Nat × Nat := if den ≤ num then (1, 1) else if num = 0 then (0, 1) else (num, den)

/-- P0 FIs served whole in ascending rank; the first that does not fit and every later one stop (R439). -/
def servedP0 (cfg : Nat → FiCfg) (cap : Nat) : List Nat → Nat → List Nat
  | [], _ => []
  | n :: t, sum => if sum + (cfg n).booked ≤ cap then servedP0 cfg cap t (sum + (cfg n).booked) else n :: t

/-- What the governor decides: P3 zeroed, f2, f1, and the P0 FIs to stop (R438, R439). -/
def Chip.shedding (c : Chip) : Bool × (Nat × Nat) × (Nat × Nat) × List Nat :=
  let cap := c.rateCap
  let b0 := c.booked 0
  let b1 := c.booked 1
  let b2 := c.booked 2
  if b0 + b1 + b2 + c.booked 3 ≤ cap then (false, (1, 1), (1, 1), [])
  else
    let f2 := if b0 + b1 ≤ cap ∧ (b2 = 0 ∨ b0 + b1 < cap) then scale (cap - b0 - b1) b2 else (0, 1)
    let f1 := if f2.1 ≠ 0 then (1, 1) else if b0 ≤ cap ∧ (b1 = 0 ∨ b0 < cap) then scale (cap - b0) b1 else (0, 1)
    let stop := if f1.1 = 0 ∧ cap < b0 then servedP0 c.fiCfg cap (placeOrder c.fiCfg (c.runningOf 0)) 0 else []
    (true, f2, f1, stop)

/-- The guaranteed rate of a copy (R438, R439). -/
def Chip.guaranteed (c : Chip) (fi : Nat) : Nat :=
  let f := c.fiCfg fi
  if !(c.fi fi).st.acts then 0
  else if f.cls = 0 ∨ !c.mctl.p3Zero then f.bw
  else if f.cls = 1 then f.bw * c.mctl.f1.1 / c.mctl.f1.2
  else if f.cls = 2 then f.bw * c.mctl.f2.1 / c.mctl.f2.2
  else 0

def Chip.modGov (c : Chip) (fi k : Nat) (g : Gov → Gov) : Chip :=
  let key := 2 * fi + k
  { c with mctl := { c.mctl with gov := c.mctl.gov.put Gov.init key (g (c.mctl.gov.get Gov.init key)) } }

/-- Every copy of a placed FI. -/
def Chip.allCopies (c : Chip) : List (Nat × Nat) := c.fis.flatMap (fun e => (List.range e.2.copies.length).map (fun k => (e.1, k)))

/-- The rates are set again (R439, R440): P0 FIs that cannot be served stop FI-FATAL with one fault that names them, and a change of the shedding state
is recorded as event 0x0B1 (R441). -/
def Chip.govern (c : Chip) : Chip :=
  let (p3, f2, f1, stop) := c.shedding
  let c1 := stop.foldl (fun c n => c.faultStop n) c
  let c2 := if stop.isEmpty then c1 else c1.raise 23 0 none [⟨"FIS", .nats stop⟩]
  let old := c.mctl
  let c3 : Chip := { c2 with mctl := { c2.mctl with p3Zero := p3, f2 := f2, f1 := f1, p0Stop := stop } }
  let c4 := if old.p3Zero = p3 ∧ old.f2 = f2 ∧ old.f1 = f1 ∧ old.p0Stop = stop then c3
    else c3.record 177 0 [fSym "P3" (if p3 then "ZERO" else "FULL"), ⟨"F2", .ratio f2.1 f2.2⟩, ⟨"F1", .ratio f1.1 f1.2⟩,
      ⟨"P0STOP", if stop.isEmpty then .none else .nats stop⟩]
  c4.allCopies.foldl (fun c p => c.modGov p.1 p.2 (fun g => { g with rate := c.guaranteed p.1 })) c4

/-- A change of Cap is recorded as event 0x0B0, and the rates follow (R439–R441). -/
def Chip.capCheck (c : Chip) : Chip :=
  if c.capacity = c.mctl.cap then c.govern
  else (({ c with mctl := { c.mctl with cap := c.capacity } }).record 176 0
    [fNat "CAP" c.capacity, fSym "TEMP" (if c.stackHot then "HOT" else "COOL"), fNat "RETIRED" c.rep.retired.length]).govern

/-- Units of 1/1,024 line that a rate in MB/s gives in 1,024 cycles (R436). -/
def windowCredit (rate : Nat) : Nat := 16384 * rate / 1000

/-- GOVERNOR_REFILL: the rates are set from the FIs then running, and every copy's credit rises by a window's worth, up to the larger of 8 lines and
16 windows (R436, R440). -/
def Chip.governorRefill (c : Chip) : Chip :=
  let c1 := (c.advanceTo (1024 + c.mctl.refillAt)).govern
  let c2 : Chip := { c1 with mctl := { c1.mctl with refillAt := c1.clk.cycle } }
  c2.allCopies.foldl (fun c p => c.modGov p.1 p.2 (fun g =>
    { g with credit := min (g.credit + windowCredit g.rate) (max 8192 (16 * windowCredit g.rate) : Nat) })) c2

/-- ARM of a P0 FI finds room in the current capacity (R440). -/
def Chip.armRoom (c : Chip) (fi : Nat) : Bool :=
  (c.fiCfg fi).cls != 0 || decide (((c.runningOf 0).filter (· != fi)).foldl (fun n i => n + (c.fiCfg i).booked) 0 + (c.fiCfg fi).booked ≤ c.capacity)

end Sys2Proof.Machine
end

