-- ==== Sys2Proof/Machine/Route.lean ====
section
/-!
DEFINITION. Numbered records on their way to sessions: counts of event IDs (R154), routing (R153, R727), and the writer's commands (R729–R731).
-/
namespace Sys2Proof.Machine

/-- The source of a fault record's event ID (R703). -/
def faultOf (id : Nat) : Option Nat := if 1024 ≤ id ∧ id < 2048 then some (id - 1024) else none

/-- Whether a session routes a record: FI-FATAL and UNIT-FATAL sources until NOTIFY changes them, no event (R153, R727). -/
def Chip.routes (c : Chip) (x : Sess) (id : Nat) : Bool :=
  match faultOf id with
  | some n => (x.faults.find n).getD (c.srcClass n).fatal
  | none => x.events.contains id

/-- The asynchronous line of a record: `!FAULT` carries CLASS and FI before T, every other record is `!EVENT` (R65, R727). -/
def Rec.line (r : Rec) : String × Fields :=
  match faultOf r.id with
  | some n =>
    let head := r.detail.take (if r.fi.isSome then 2 else 1)
    ("FAULT", [fNat "SEQ" r.seq, fNat "SRC" n] ++ head ++ fStamp r.stamp ++ r.detail.drop head.length)
  | none => ("EVENT", [fNat "SEQ" r.seq, ⟨"ID", .raw 3 r.id⟩] ++ fStamp r.stamp ++ r.detail)

/-- Counts a written record (R154) and queues its line for each session that routes it (R727). -/
def Chip.routeRec (c : Chip) (r : Rec) : Chip :=
  let old := (c.trev.evCount.find r.id).map (·.1)
  let c1 := c.trev' (fun t => { t with evCount := t.evCount.set r.id (sat32 (old.getD 0), r.stamp) })
  let (kind, fs) := r.line
  c1.trev.sess.keys.foldl (fun c s => if c.routes (c.sess s) r.id then c.async s kind fs else c) c1

/-- The DRAM is there for the writer: every stack's domain is ON (R730). -/
def Chip.dramOn (c : Chip) : Bool := c.domOn 8 && c.domOn 9 && c.domOn 10 && c.domOn 11

/-- CAIRN_WRITE: the records whose cycle comes next are numbered and written (R729). -/
def Chip.cairnWrite (c : Chip) : Chip :=
  let (c1, recs) := c.numberNext c.dramOn
  recs.foldl Chip.routeRec c1

/-- Numbers everything held, at most n times. -/
def Chip.numberAll : Nat → Chip → Chip
  | 0, c => c
  | n + 1, c =>
    let c1 := c.cairnWrite
    if c1.cairn.held.isEmpty && c1.coll.queue.isEmpty then c1 else Chip.numberAll n c1

/-- Every record recorded so far is numbered, as before a tail save (R731, R763). -/
def Chip.flushCairn (c : Chip) : Chip := Chip.numberAll (c.cairn.held.length + c.coll.queue.length) c

end Sys2Proof.Machine
end

