-- ==== Sys2Proof/Machine/Sessions.lean ====
section
/-!
DEFINITION. The life of a session: its begin and its end (R35, R40–R44, R66, R470, R683, R702 of spec/), and the selects it holds (R118, R123).
-/
namespace Sys2Proof.Machine

/-- Carriers: serial 0, USB 1, TCP 2 (Table 2-2). -/
def carrierOf (s : Nat) : Nat := if s = 0 then 0 else if s = 1 then 1 else 2

/-- The idle limit of a session's carrier (R40). -/
def Chip.idleLimit (c : Chip) (s : Nat) : Nat :=
  match carrierOf s with
  | 0 => c.cfg.idle.1
  | 1 => c.cfg.idle.2.1
  | _ => c.cfg.idle.2.2

/-- Keywords of the base camp causes (Table 4-6). -/
def Camp.name : Camp → String
  | .noimage => "NOIMAGE" | .warden => "WARDEN" | .steward => "STEWARD" | .isa => "ISA" | .graph => "GRAPH" | .seal => "SEAL"

/-- The session record of Table 17-5. -/
def Chip.sessionRecord (c : Chip) (s : Nat) (state cause : String) : Chip :=
  c.record (Config.openEvent 0) s [fNat "SESSION" s, fSym "STATE" state, fSym "CAUSE" cause]

/-- A session begins, in interactive mode: at VIEW on sessions 0 and 1, without a login on the others (R35, R44, R48), with one
!BASECAMP line per cause (R185). -/
def Chip.beginSession (c : Chip) (s : Nat) : Chip :=
  let c1 := (c.modSess s (fun _ => { Sess.init with active := true, level := if s < 2 then some 0 else none, lastLine := c.clk.cycle })).sessionRecord s "START"
    (["SERIAL", "USB", "TCP"].getD (carrierOf s) "TCP")
  c.unit.camp.foldl (fun c e => c.async s "BASECAMP" ([fSym "CAUSE" e.1.name] ++ e.2)) c1

/-- Event 0x102 of an action on a command point. -/
def Chip.selectRecord (c : Chip) (s : Nat) (e : Sel) (action : String) : Chip :=
  c.record 258 e.point [fFi e.fi, fNat "POINT" e.point, fSym "VALUE" (["OPEN", "CLOSE", "OFF", "ON"].getD e.value "OPEN"), fMaster "MASTER" (masterSess s),
    fSym "ACTION" action]

/-- The session ends (R42): load, staged set, waiting COMMIT, hitches, selects, and the record. Session 0 begins again at once. -/
def Chip.endSession (c : Chip) (s : Nat) (cause : String) : Chip :=
  if !(c.sess s).active then c
  else
    let sels := (c.sess s).sels
    let c1 := c.modSess s (fun x => { x with bulk := none, txn := false, staged := [], loaded := 0, waiting := .nothing, sels := [] })
    let c2 := c1.dropHitches (masterSess s) "SESSION" (fun h c => c.hitchPass tell h)
    let c3 := sels.foldl (fun c e => c.selectRecord s e "CANCEL") c2
    let c4 := ((c3.sessionRecord s "END" cause).modSess s (fun _ => Sess.init)).trev' (fun t =>
      { t with commit := t.commit.map (fun k => if k.session = s then { k with alive := false } else k) })
    if s = 0 ∧ c4.unit.open0 then c4.beginSession 0 else c4

/-- Every session of a list ends. -/
def Chip.endSessions (c : Chip) (l : List Nat) (cause : String) : Chip := l.foldl (fun c s => c.endSession s cause) c

/-- SESSION_IDLE_WARNING: 60 s before the idle limit (R40). -/
def Chip.idleWarning (c : Chip) (s : Nat) : Chip :=
  let x := c.sess s
  if x.active ∧ ¬ x.warned then
    ((c.advanceTo (x.lastLine + (c.idleLimit s - 60000000000))).modSess s (fun x => { x with warned := true })).async s "SESSION" [fWord "IDLE", ⟨"LEFT", .dur 60000000000⟩]
  else c

/-- SESSION_IDLE_TIMEOUT: the idle limit passes (R40). -/
def Chip.idleTimeout (c : Chip) (s : Nat) : Chip :=
  let x := c.sess s
  if x.active then
    let c1 := if x.warned then c else c.idleWarning s
    (c1.advanceTo (x.lastLine + c.idleLimit s)).endSession s "IDLE"
  else c

/-- USB_DTR_ASSERT: session 1 begins while USB is attached (R35, R683): presence input 4 is VBUS. -/
def Chip.usbAssert (c : Chip) : Chip := if (c.sess 1).active ∨ ¬ c.unit.started then c else c.beginSession 1

/-- The first free TCP session. -/
def Chip.freeTcp (c : Chip) : Option Nat := (List.range 14).findSome? (fun i => if (c.sess (2 + i)).active then none else some (2 + i))

/-- TLS_HANDSHAKE: one that completes opens a TCP session, or is refused 0502 when all are in use; one that fails is recorded as event 0x0FE
(R35, R38, R668, R669). -/
def Chip.tlsHandshake (c : Chip) (ok : Bool) (cause : String) : Chip :=
  if ¬ c.unit.started then c
  else if !ok then c.record 254 0 [fSym "CAUSE" cause]
  else match c.freeTcp with
    | some s => c.beginSession s
    | none => c

/-- OVERRUN_REPORT and LOST_REPORT: counts of what was discarded, once there is room (R41, R66). -/
def Chip.overrunReport (c : Chip) (s : Nat) : Chip :=
  let x := c.sess s
  if x.overrun > 0 ∧ x.waiting = .nothing then (c.modSess s (fun x => { x with overrun := 0, inputHeld := 0 })).async s "OVERRUN" [fNat "COUNT" x.overrun] else c
def Chip.lostReport (c : Chip) (s : Nat) : Chip :=
  let x := c.sess s
  if x.lost > 0 ∧ x.queue.length < 256 then (c.modSess s (fun x => { x with lost := 0 })).async s "LOST" [fNat "COUNT" x.lost] else c

/-- LOGIN_LOCK_EXPIRY: the 300 s lock of a carrier ends (R46). -/
def Chip.lockExpiry (c : Chip) (k : Nat) : Chip :=
  if c.trev.locks.get 0 k = 0 then c
  else (c.advanceTo (c.trev.locks.get 0 k)).trev' (fun t => { t with locks := t.locks.del k, fails := t.fails.del k })

end Sys2Proof.Machine
end

