-- ==== Sys2Proof/Machine/Domains.lean ====
section
/-!
DEFINITION. Requests to the switched power domains: order, latches and what a domain does as it leaves ON (R769–R776 of spec/).
-/
namespace Sys2Proof.Machine

def Chip.modDom (c : Chip) (n : Nat) (g : Dom → Dom) : Chip := c.sup' (fun s => { s with doms := s.doms.put Dom.init n (g (c.dom n)) })

/-- Domains a domain depends on (Table 20-1). -/
def domNeeds (n : Nat) : List Nat :=
  if n < 8 ∨ n = 17 then [8, 9, 10, 11, 20]
  else if 12 ≤ n ∧ n < 16 then [16]
  else if n = 18 then [20]
  else if n = 22 then [15]
  else []
/-- Domains that depend on it. -/
def domUsers (n : Nat) : List Nat := (List.range 24).filter (fun m => (domNeeds m).contains n)

/-- Longest RISING and FALLING, in cycles (Table 20-2). -/
def domRise (n : Nat) : Nat :=
  1000000 * (if n < 8 then 12 else if n < 12 then 20 else if n < 16 then 3 else if n = 16 then 5 else if n = 19 ∨ n = 20 then 15 else 3)
def domFall (n : Nat) : Nat := 1000000 * (if 8 ≤ n ∧ n < 12 then 10 else 5)

def DomSt.name : DomSt → String
  | .off => "OFF" | .rising => "RISING" | .on => "ON" | .falling => "FALLING"
def latchName : Option Bool → Val
  | some true => .sym "ON" | some false => .sym "OFF" | none => .none

/-- A change of state with its event 0x0E8 (R773). -/
def Chip.domMove (c : Chip) (n : Nat) (dest : DomSt) (cause : String) : Chip :=
  (c.record 232 n [fNat "DOMAIN" n, fSym "FROM" (c.dom n).st.name, fSym "TO" dest.name, fSym "CAUSE" cause]).modDom n
    (fun d => { d with st := dest, since := c.clk.cycle, cause := cause })

/-- A latched request is set, replaced or cleared, with event 0x0E9 (R775). -/
def Chip.domLatch (c : Chip) (n : Nat) (v : Option Bool) : Chip :=
  if (c.dom n).latched = v then c
  else (c.record 233 n [fNat "DOMAIN" n, ⟨"LATCHED", latchName v⟩]).modDom n (fun d => { d with latched := v })

/-- Every domain it depends on is ON; no domain that depends on it is other than OFF (R769, R771). -/
def Chip.canRise (c : Chip) (n : Nat) : Bool := (domNeeds n).all c.domOn
def Chip.canFall (c : Chip) (n : Nat) : Bool := (domUsers n).all (fun m => (c.dom m).st == .off)

/-- What leaves with a domain as its outputs are clamped (R773, Table 20-3): lanes, ports and sessions, the working key, the rope link. -/
def Chip.domLeave (c : Chip) (n : Nat) (forced : Bool) : Chip :=
  if 12 ≤ n ∧ n < 16 then c.quadOff (n - 12) forced
  else match n with
    | 16 =>
      let c1 := ((List.range 16).filter (fun p => (c.lane p).st == .up)).foldl (fun c p => (c.flushPort p).portDown p) c
      let c2 := [16, 17].foldl (fun c p => c.mgmtLink p false) c1
      let c3 := c2.sw' (fun s => { s with half0 := [], half1 := [], stash := [], learnQ := [], queues := [] })
      c3.endSessions ((List.range 14).map (2 + ·)) "LINK"
    | 18 => c.zeroize true
    | 21 => c.boardGone
    | 22 => (c.links' (fun l => { l with ropeUp := false, txQueue := [], mirrors := [] })).record 136 0 [fSym "STATE" "LOST", fSym "CAUSE" "NOBEACON"]
    | _ => c

/-- RISING or FALLING begins. -/
def Chip.domRising (c : Chip) (n : Nat) (cause : String) : Chip := (c.domLatch n none).domMove n .rising cause
def Chip.domFalling (c : Chip) (n : Nat) (cause : String) : Chip := ((c.domLatch n none).domMove n .falling cause).domLeave n false

/-- A request to enable or disable a domain (R771, R773, R775, R776). -/
def Chip.domRequest (c : Chip) (n : Nat) (on : Bool) (cause : String) : Chip :=
  let d := c.dom n
  if d.forced ∧ on then c
  else match d.st, on with
    | .off, true => if c.canRise n then c.domRising n cause else c.domLatch n (some true)
    | .on, false => if c.canFall n then c.domFalling n cause else c.domLatch n (some false)
    | .off, false | .on, true => c.domLatch n none
    | .rising, true | .falling, false => c.domLatch n none
    | .rising, false => c.domLatch n (some false)
    | .falling, true => c.domLatch n (some true)

/-- The latched requests that may now proceed. -/
def Chip.domWaiting (c : Chip) (l : List Nat) : Chip :=
  l.foldl (fun c m => match (c.dom m).st, (c.dom m).latched with
    | .off, some true => if c.canRise m ∧ ¬ (c.dom m).forced then c.domRising m "LATCH" else c
    | .on, some false => if c.canFall m then c.domFalling m "LATCH" else c
    | _, _ => c) c

/-- A forced OFF: it prevails and clears any latch; a domain that was ON or RISING falls, dependants first (R776, R777, R779). -/
def Chip.domForce (c : Chip) (n : Nat) (cause : String) : Chip :=
  let was := c.domOn n
  let c1 := (c.domLatch n none).modDom n (fun d => { d with forced := true })
  match (c.dom n).st with
  | .off => c1
  | .falling => c1
  | .on | .rising => let c2 := c1.domMove n .falling cause
                     if was then c2.domLeave n true else c2

end Sys2Proof.Machine
end

