-- ==== Sys2Proof/Machine/Repair.lean ====
section
/-!
DEFINITION. Splices, failed tiles, the traverse, group retirement, link repair and flash wear (19_repair_and_ageing.md; R209, R415).
-/
namespace Sys2Proof.Machine

/-! ### Flash wear (R757, R758): areas 0 configuration, 1 run intents, 2 banks, 3 selections, 4 splices and suspects, 5 cairn tail -/

def wearLimit (area : Nat) : Nat := [12800000, 50000000, 100000, 100000, 1600000, 200000].getD area 0

/-- USED of an area in percent; the banks count each on its own. -/
def Repair.used (r : Repair) (area : Nat) : Nat :=
  let n := (List.range 4).foldl (fun n b => max n (r.wear.get 0 (area + 8 * b))) 0
  if wearLimit area = 0 then 0 else n * 100 / wearLimit area

/-- A write to a flash area, with event 0x0CD at each 10 % step of USED and FLASH-WEAR at 80 %. -/
def Chip.wear (c : Chip) (area sub : Nat) : Chip :=
  let key := area + 8 * sub
  let c1 := c.rep' (fun r => { r with wear := r.wear.put 0 key (r.wear.get 0 key + 1) })
  let step := c1.rep.used area / 10
  if step = c.rep.wearStep.get 0 area then c1
  else
    let c2 := (c1.rep' (fun r => { r with wearStep := r.wearStep.put 0 area step })).record 205 area [fNat "AREA" area, fNat "USED" (c1.rep.used area)]
    if step = 8 then c2.raise 418 area none [fNat "AREA" area, fNat "USED" (c1.rep.used area)] else c2

/-! ### Splices (R738–R741, R755, R756) -/

def SpliceCause.name : SpliceCause → String
  | .bist => "BIST" | .traverse => "TRAVERSE" | .runtime => "RUNTIME" | .compare => "COMPARE"

def tilesOf (cl : Nat) : List Nat := (List.range 52).map (52 * cl + ·)

/-- Tiles of a cluster that are not SPLICED, and its MARGIN. -/
def Chip.whole (c : Chip) (cl : Nat) : Nat := ((tilesOf cl).filter (fun t => (c.tileRep t).st != .spliced)).length
def Chip.margin (c : Chip) (cl : Nat) : Nat := c.whole cl - 48

/-- REPAIR-MARGIN is raised when a cluster's margin reaches 0. -/
def Chip.marginCheck (c : Chip) (cl : Nat) : Chip :=
  if c.margin cl = 0 ∧ ¬ c.rep.margins.contains cl then
    (c.rep' (fun r => { r with margins := r.margins ++ [cl] })).raise 420 cl none [fNat "CLUSTER" cl]
  else c

/-- A soft splice record is written (R740). -/
def Chip.splice (c : Chip) (t : Nat) (cause : SpliceCause) : Chip :=
  if (c.tileRep t).st = .spliced then c
  else
    let c1 := c.modTileRep t (fun x => { x with st := .spliced })
    let c2 := c1.rep' (fun r => { r with soft := r.soft.set t (cause, c.now.1, c.now.2) })
    ((c2.record 203 t [fNat "TILE" t, fSym "KIND" "SOFT", fSym "CAUSE" cause.name]).wear 4 0).marginCheck (clusterOf t)

/-- A soft splice is promoted to a fuse record while one is free (R740, R741). -/
def Chip.promote (c : Chip) (t : Nat) : Chip :=
  match c.rep.soft.find t with
  | none => c
  | some (cause, _) =>
    if c.rep.fuses.any (fun e => e.1 == t) then c
    else if c.rep.fuses.length < 32 then
      let c1 := (c.rep' (fun r => { r with fuses := r.fuses ++ [(t, cause)] })).record 203 t [fNat "TILE" t, fSym "KIND" "FUSE", fSym "CAUSE" cause.name]
      if c1.rep.fuses.length = 32 then c1.raise 420 8 none [fSym "FUSES" "FULL"] else c1
    else c

/-! ### Moving what a tile holds (R249, R746) -/

def Firing.moved (fi k fr dest : Nat) (f : Firing) : Firing :=
  if f.tok.fi = fi ∧ f.copy = k ∧ f.tile = fr then { f with tile := dest } else f

/-- Firings of a copy that left a tile and whose replies are still to come. -/
def Fabric.awaited (g : Fabric) (fi k t : Nat) : Nat :=
  let mine (f : Firing) : Bool := f.tok.fi == fi && f.copy == k && f.tile == t
  (g.replies.filter (fun r => mine r.firing)).length + (g.defers.flatMap (fun d => d.fs.filter (fun x => mine x.1))).length
    + (g.merges.flatMap (fun e => e.acks.filter (fun x => mine x.1))).length + (g.hwaits.flatMap (fun w => w.fs.filter (fun x => mine x.1))).length
    + (g.twins.flatMap (fun s => (s.a ++ s.b).filter (fun x => mine x.firing))).length

/-- The slot of a copy on tile `fr` switches to tile `to`: its queued tokens, entries, pages and outstanding requests go with it, the tile map changes in
one cycle, and tokens in flight are forwarded (R249, R743, R746). -/
def Chip.moveSlot (c : Chip) (fi k fr dest : Nat) : Chip :=
  let x := c.tile fr
  let mine (i : QItem) : Bool := i.tok.fi == fi && i.copy == k
  let n := c.fab.awaited fi k fr
  let ents := (c.deep fi).home.flatMap (fun l => l.2.ents.filterMap (fun e => e)) ++ (c.deep fi).overflow.flatMap (fun l => l.2.ents.filterMap (fun e => e))
  let held := (ents.filter (fun e => e.copy == k && e.tile == fr)).map (fun e => e.tok.hash % 4096)
  let filt := held.foldl (fun (t : Tbl Nat) i => t.put 0 i (min 15 (t.get 0 i + 1)))
  let c1 := c.modTile fr (fun t => { t with
    q := t.q.map (fun e => (e.1, e.2.filter (fun i => !mine i))), store := t.store.filter (fun e => !mine e.item), fill := t.fill.filter (fun i => !mine i),
    pageWait := t.pageWait.filter (fun i => !mine i), pipe := t.pipe.filter (fun f => !(f.tok.fi == fi && f.copy == k)),
    fetches := t.fetches.filter (fun p => !(p.fi == fi && p.copy == k)), pages := t.pages.filter (fun p => !(p.fi == fi && p.copy == k)),
    inDeep := t.inDeep - held.length, reqs := t.reqs - n })
  let c2 := c1.modTile dest (fun t => { t with
    q := (List.range 4).foldl (fun (a : Tbl (List QItem)) j => a.put [] j (t.q.get [] j ++ (x.q.get [] j).filter mine)) t.q,
    store := t.store ++ x.store.filter (fun e => mine e.item), fill := t.fill ++ x.fill.filter mine, pageWait := t.pageWait ++ x.pageWait.filter mine,
    pipe := t.pipe ++ (x.pipe.filter (fun f => f.tok.fi == fi && f.copy == k)).map (Firing.moved fi k fr dest),
    fetches := t.fetches ++ x.fetches.filter (fun p => p.fi == fi && p.copy == k), pages := t.pages ++ x.pages.filter (fun p => p.fi == fi && p.copy == k),
    filter := filt t.filter, inDeep := t.inDeep + held.length, reqs := t.reqs + n })
  let mv := Firing.moved fi k fr dest
  let ln (l : DeepLine) : DeepLine :=
    { l with ents := l.ents.map (fun e => e.map (fun e => if e.copy = k ∧ e.tile = fr then { e with tile := dest } else e)) }
  let c3 := c2.fab' (fun g => { g with
    replies := g.replies.map (fun r => { r with firing := mv r.firing }), defers := g.defers.map (fun d => { d with fs := d.fs.map (fun f => (mv f.1, f.2)) }),
    merges := g.merges.map (fun e => { e with acks := e.acks.map (fun f => (mv f.1, f.2)) }), hwaits := g.hwaits.map (fun w => { w with fs := w.fs.map (fun f => (mv f.1, f.2)) }),
    twins := g.twins.map (fun s => { s with a := s.a.map (fun a => { a with firing := mv a.firing }), b := s.b.map (fun a => { a with firing := mv a.firing }) }),
    creditQ := g.creditQ.map (fun q => if q.1 = fi ∧ q.2.1 = k ∧ q.2.2.1 = fr then (q.1, q.2.1, dest, q.2.2.2) else q),
    ctxs := g.ctxs.map (fun e => if e.2.fi = fi ∧ e.2.copy = k ∧ e.2.sweeps.contains fr then (e.1, { e.2 with sweeps := e.2.sweeps ++ [dest] }) else e),
    fwd := g.fwd.filter (fun m => !(m.1 == fi && m.2.1 == k && m.2.2.1 == dest)) ++ [(fi, k, fr, dest)] })
  let c4 := c3.modDeep fi (fun d => { d with
    home := d.home.map (fun l => (l.1, ln l.2)), overflow := d.overflow.map (fun l => (l.1, ln l.2)),
    reqs := d.reqs.map (fun r => if r.2.1.tok.fi = fi ∧ r.2.1.copy = k ∧ r.2.2 = fr then (r.1, r.2.1, dest) else r) })
  (c4.modCopy fi k (fun p => { p with map := p.map.map (fun t => if t = fr then dest else t) })).record 201 fi
    [fFi fi, fSym "COPY" (copyName k), fNat "FROM" fr, fNat "TO" dest]

/-! ### Traverse steps (R742–R751) -/

def Chip.step' (c : Chip) (cl : Nat) : Option Step := c.rep.steps.find cl
def Chip.setStep (c : Chip) (cl : Nat) (x : Step) : Chip := c.rep' (fun r => { r with steps := r.steps.set cl x })

/-- The step ends with event 0x0CE; D23 falls when no other step runs; INTERVAL counts from the end of a step that was not scheduled (R120, R747, R748). -/
def Chip.stepEnd (c : Chip) (cl : Nat) (done : Bool) (cause : Option String) : Chip :=
  let sched := match c.step' cl with | some x => x.scheduled | none => true
  let c0 := (c.rep' (fun r => { r with steps := r.steps.del cl, from? := if sched then r.from? else c.clk.cycle })).record 206 cl
    [fNat "CLUSTER" cl, fSym "RESULT" (if done then "DONE" else "ABANDONED"), fCause cause]
  let c1 := c0.unit' (fun u => { u with regs := { u.regs with lastStep := u.regs.lastStep.put 0 cl (c.now.1 % 4294967296) } })
  if c1.rep.steps.isEmpty then c1.domRequest 23 false "TRAVERSE" else c1

/-- A step is abandoned: the target returns to SPARE, slots not yet switched stay on the candidate, which keeps its mark. -/
def Chip.stepAbandon (c : Chip) (cl : Nat) (cause : String) : Chip :=
  match c.step' cl with
  | none => c
  | some x =>
    let c1 := match x.target with
      | some t => if (c.tileRep t).st = TileSt.active ∧ (c.slotsOn t).isEmpty = true then c.modTileRep t (fun y => { y with st := .spare }) else c
      | none => c
    let c2 := if (c1.tileRep x.cand).st = .testing then c1.modTileRep x.cand (fun y => { y with st := .spare }) else c1
    c2.stepEnd cl false (some cause)

/-- The oldest LASTTEST of a list of tiles, the lowest number first. -/
def Chip.oldestTest (c : Chip) (l : List Nat) : Option Nat :=
  l.foldl (fun (a : Option Nat) t => match a with
    | none => some t
    | some b => match (c.tileRep b).last, (c.tileRep t).last with
      | none, _ => some b
      | some _, none => some t
      | some x, some y => if timeLe x y then some b else some t) none

/-- The SPARE tile with the newest passing LASTTEST. -/
def Chip.newestSpare (c : Chip) (cl : Nat) : Option Nat :=
  ((tilesOf cl).filter (fun t => (c.tileRep t).st == .spare && (c.tileRep t).passed)).foldl (fun (a : Option Nat) t => match a with
    | none => some t
    | some b => match (c.tileRep b).last, (c.tileRep t).last with
      | _, none => some b
      | none, some _ => some t
      | some x, some y => if timeLe y x then some b else some t) none

/-- The candidate of a cluster: a marked tile, the earliest mark first, else the ACTIVE or SPARE tile tested longest ago (R742). -/
def Chip.candidateTile (c : Chip) (cl : Nat) : Option Nat :=
  let fit (t : Nat) : Bool := (c.tileRep t).st == .active || (c.tileRep t).st == .spare
  match c.fab.marks.find? (fun t => clusterOf t == cl && fit t) with
  | some t => some t
  | none => c.oldestTest ((tilesOf cl).filter fit)

/-- A step starts in a cluster (R742, R743, R749). -/
def Chip.stepStart (c : Chip) (cl : Nat) (scheduled : Bool) : Chip :=
  match c.candidateTile cl with
  | none => c
  | some t =>
    let step (target : Option Nat) (ph : Phase) (ms : List SlotMove) : Step :=
      { cand := t, target := target, phase := ph, since := c.clk.cycle, copied := 0, lastSwitch := 0, slots := ms, scheduled := scheduled, accused := none }
    let begun (dest : Option Nat) : Chip := c.record 200 cl [fNat "CLUSTER" cl, fNat "TILE" t, fOpt "TO" dest]
    let slots := c.slotsOn t
    if slots.isEmpty then
      (((begun none).modTileRep t (fun x => { x with st := .testing })).setStep cl (step none .test [])).domRequest 23 true "TRAVERSE"
    else match c.newestSpare cl with
      | none => ((begun none).setStep cl (step none .prepare [])).stepEnd cl false (some "NOSPARE")
      | some dest =>
        (((begun (some dest)).modTileRep dest (fun x => { x with st := .active })).setStep cl (step (some dest) .prepare
          (slots.map (fun s => { fi := s.1, copy := s.2.1, periods := 0, switched := false })))).domRequest 23 true "TRAVERSE"

/-- No new step starts at throttle step 1 and above, nor while the supply-failing warning holds (R763, R779). -/
def Chip.stepsHeld (c : Chip) : Bool := decide (c.sup.step ≥ 1) || c.sup.warning

/-- TRAVERSE_STEP: INTERVAL has passed, and the next cluster whose domain is ON takes a step (R742). -/
def Chip.traverseStep (c : Chip) : Chip :=
  if ¬ c.cfg.traverse ∨ c.rep.steps.any (fun e => e.2.scheduled) ∨ c.stepsHeld then c
  else
    match (List.range 8).find? (fun i => c.domOn ((c.rep.next + i) % 8) && (c.step' ((c.rep.next + i) % 8)).isNone) with
    | none => c
    | some i =>
      let cl := (c.rep.next + i) % 8
      let c1 := c.advanceTo (c.rep.from? + c.cfg.interval)
      (c1.rep' (fun r => { r with next := (cl + 1) % 8, from? := c1.clk.cycle })).stepStart cl true

/-- TRAVERSE_PHASE_END: the phase in progress ends (Table 19-2). -/
def Chip.phaseEnd (c : Chip) (cl : Nat) : Chip :=
  match c.step' cl with
  | none => c
  | some x =>
    match x.phase with
    | .prepare =>
      let pages := ((c.tile x.cand).pages.length + 3) / 4
      let c1 := c.advanceTo (x.since + pages * 363)
      c1.setStep cl { x with phase := .copy, since := c1.clk.cycle }
    | .copy =>
      let c1 := c.advanceTo (x.since + 512)
      c1.setStep cl { x with phase := .shadow, since := c1.clk.cycle, copied := c1.clk.cycle,
                             slots := x.slots.map (fun s => { s with periods := (c1.fi s.fi).periods + ((c1.fi s.fi).opens.filter Period.started).length + 8 }) }
    | .shadow =>
      if x.slots.all SlotMove.switched then
        let c1 := c.advanceTo (10000 + x.lastSwitch)
        c1.setStep cl { x with phase := .vacate, since := c1.clk.cycle }
      else c
    | .vacate =>
      let c1 := c.advanceTo (x.since + 256)
      if (c1.tileRep x.cand).suspect then
        ((c1.fab' (fun g => { g with marks := g.marks.filter (· != x.cand) })).splice x.cand .compare).stepEnd cl true none
      else (c1.modTileRep x.cand (fun y => { y with st := .testing })).setStep cl { x with phase := .test, since := c1.clk.cycle }
    | .test => c

/-- SLOT_SWITCH: comparison of an FI has ended, after 8 periods, 2 s, or its stop, and its slot switches to the target (R745, R746, R750). -/
def Chip.slotSwitch (c : Chip) (cl fi k : Nat) : Chip :=
  match c.step' cl with
  | none => c
  | some x =>
    match x.target, x.slots.find? (fun s => s.fi == fi && s.copy == k && !s.switched) with
    | some dest, some s =>
      if x.phase ≠ .shadow then c
      else
        let early := decide (s.periods ≤ (c.fi fi).periods) || !(c.fi fi).st.active
        let c1 := if early then c else c.advanceTo (2000000000 + x.copied)
        (c1.moveSlot fi k x.cand dest).setStep cl { x with
          lastSwitch := c1.clk.cycle,
          slots := x.slots.map (fun y => if y.fi = fi ∧ y.copy = k then { y with switched := true } else y) }
    | _, _ => c

/-- TRAVERSE_COMPARE_FAIL: the shadows are discarded, the target is tested at once, the candidate is marked (R751). -/
def Chip.compareFail (c : Chip) (cl : Nat) : Chip :=
  match c.step' cl with
  | none => c
  | some x =>
    match x.target with
    | none => c
    | some dest =>
      if x.phase ≠ .shadow ∨ x.slots.any SlotMove.switched then c
      else
        let c1 := (c.raise 419 cl none [fNat "CLUSTER" cl, fNat "TILE" x.cand, fNat "TO" dest]).markTile x.cand
        (c1.modTileRep dest (fun y => { y with st := .testing, suspect := true })).setStep cl
          { x with cand := dest, target := none, slots := [], phase := .test, since := c.clk.cycle, accused := some x.cand }

/-- Outcomes of the tile test (Table 19-3): none FAIL, some 0 PASS, some n ROWS with n rows replaced. -/
def testName : Option Nat → String
  | none => "FAIL" | some 0 => "PASS" | some _ => "ROWS"

/-- The test of a tile has taken its 20 ms (R747): LASTTEST, event 0x0CA, and the tile's next state. -/
def Chip.tileTested (c : Chip) (t : Nat) (r : Option Nat) (cause : SpliceCause) : Chip :=
  let c1 := (c.modTileRep t (fun y => { y with last := some c.now, passed := r.isSome, st := .spare })).record 202 t
    [fNat "TILE" t, fSym "RESULT" (testName r), fNat "ROWS" (r.getD 0)]
  let c2 := c1.fab' (fun g => { g with marks := g.marks.filter (· != t) })
  match r with
  | none => c2.splice t cause
  | some n => c2.rep' (fun x => { x with rows := x.rows.put 0 t (x.rows.get 0 t + n) })

/-- TILE_TEST_DONE: the test of a step ends, and the step with it (R747, R748, R751). -/
def Chip.testDone (c : Chip) (cl : Nat) (r : Option Nat) : Chip :=
  match c.step' cl with
  | none => c
  | some x =>
    if x.phase ≠ .test ∨ ¬ c.domOn 23 then c
    else
      let c1 := c.advanceTo (max x.since (c.dom 23).since + 20000000)
      match x.accused with
      | some a =>
        let c2 := c1.tileTested x.cand r .compare
        let c3 := (c2.modTileRep x.cand (fun y => { y with suspect := false })).markTile a
        (if r.isSome then c3.modTileRep a (fun y => { y with suspect := true }) else c3).stepEnd cl false (some "COMPARE")
      | none => (c1.tileTested x.cand r .traverse).stepEnd cl true none

/-! ### A failed tile (R750a, R750b, R209) -/

/-- Everything on a tile is lost: its tokens are discarded, and every purge counts it as acknowledged. -/
def Chip.clearTile (c : Chip) (t : Nat) : Chip :=
  let x := c.tile t
  let items := x.q.flatMap (·.2) ++ (x.store.filter (fun e => e.typ != .queue)).map (·.item) ++ x.fill ++ x.pageWait
  let c1 := c.modTile t (fun x => { x with q := [], store := [], fill := [], pageWait := [], fetches := [], pipe := [] })
  let c2 := items.foldl Chip.dropItem c1
  let c3 := x.pipe.foldl Chip.consume c2
  c3.fab' (fun g => { g with
    ctxs := g.ctxs.map (fun e => if e.2.sweeps.contains t then (e.1, { e.2 with sweeps := e.2.sweeps.filter (· != t) }) else e) })

/-- The lowest SPARE tile of a cluster takes the place of a lost one. -/
def Chip.takeSpare (c : Chip) (cl : Nat) : Chip :=
  match (tilesOf cl).find? (fun t => (c.tileRep t).st == .spare) with
  | some t => c.modTileRep t (fun x => { x with st := .active })
  | none => c

/-- A tile is declared failed (R750a): its FIs stop, it is spliced, and the FIs are placed again. -/
def Chip.tileLost (c : Chip) (t : Nat) : Chip :=
  let fis := ((c.slotsOn t).map (·.1)).eraseDups
  let wasActive := decide ((c.tileRep t).st = .active)
  let c1 := (c.modTileRep t (fun x => { x with dead := true })).clearTile t
  let c2 := fis.foldl (fun c f => c.classifyRaise { src := 7, inst := f, fi := some f, stamp := c.stamp, cycle := c.clk.cycle, arrival := c.clk.cycle, detail := [fSym "CAUSE" "TILE-LOST", fNat "TILE" t] }) c1
  let c3 := c2.splice t .runtime
  let c4 := if wasActive then c3.takeSpare (clusterOf t) else c3
  if fis.isEmpty then c4 else c4.replaceFis fis

/-- A tile fails: a candidate in SHADOW hands every slot to its target at once; a target ends its step as after a mismatch (R750b). -/
def Chip.tileFailed (c : Chip) (t : Nat) : Chip :=
  if (c.tileRep t).dead ∨ (c.tileRep t).st = .spliced then c
  else match c.step' (clusterOf t) with
    | none => c.tileLost t
    | some x =>
      if x.cand = t ∧ x.phase = .shadow then
        match x.target with
        | some dest =>
          let c1 := (x.slots.filter (fun s => !s.switched)).foldl (fun c s => c.moveSlot s.fi s.copy t dest) (c.advance 1)
          ((c1.modTileRep t (fun y => { y with dead := true })).splice t .runtime).setStep (clusterOf t)
            { x with phase := .vacate, since := c1.clk.cycle, lastSwitch := c1.clk.cycle, slots := x.slots.map (fun s => { s with switched := true }) }
        | none => c.tileLost t
      else if x.target = some t ∧ ¬ x.slots.any SlotMove.switched then
        ((c.stepAbandon (clusterOf t) "TARGET").modTileRep t (fun y => { y with st := .spare })).tileLost t
      else ((c.stepAbandon (clusterOf t) "TILE")).tileLost t

/-! ### Groups (R415, R752, R755, R756) -/

/-- Deep-store pages of the shared pool that no FI holds: 65,536-octet pages. -/
def Chip.poolFree (c : Chip) : Nat := c.deepFree

/-- Frees the highest private granules for a further group: areas that stood there move to free granules, and an FI that cannot be kept whole stops
(R415). -/
def Chip.takePriv (c : Chip) : Chip :=
  let c1 := c.rep' (fun r => { r with privTaken := r.privTaken + 512 })
  let top := 23552 + 7168 - c1.rep.privTaken
  (stopOrder c1.fiCfg (c1.placedFis.filter (fun n => (c1.mctl.pmap.get [] n).any (fun g => decide (top ≤ g))))).foldl (fun c n =>
    let old := c.mctl.pmap.get [] n
    let keep := old.filter (fun g => decide (g < top))
    let used := c.mctl.pmap.vals.flatMap (fun l => l)
    let free := ((List.range (top - 23552)).map (23552 + ·)).filter (fun g => !used.contains g)
    if free.length + keep.length < old.length then
      let c2 := if (c.fi n).st.acts then c.faultStop n else c
      c2.raise 22 n (some n) []
    else
      let moved := old.foldl (fun (a : List Nat × List Nat) g =>
        if g < top then (a.1 ++ [g], a.2) else match a.2 with | h :: t => (a.1 ++ [h], t) | [] => (a.1, [])) ([], free)
      { c with mctl := { c.mctl with pmap := c.mctl.pmap.put [] n moved.1 } }) c1

/-- Where a retired group's blocks go (R415), with REPAIR-MARGIN when the reserve holds no free place (R756). -/
def Chip.takeReserve (c : Chip) : Chip :=
  if c.rep.reloc < 4 then
    let c1 := c.rep' (fun r => { r with reloc := r.reloc + 1 })
    if c1.rep.reloc = 4 then c1.raise 420 9 none [fSym "RESERVE" "FULL"] else c1
  else if c.poolFree ≥ 8192 then c.fab' (fun g => { g with deepLost := 8192 + g.deepLost })
  else c.takePriv

/-- DRAM_GROUP_RETIRE: the copy of a group has ended (R752). -/
def Chip.groupRetire (c : Chip) (g : Nat) : Chip :=
  if c.rep.retired.contains g ∨ g ≥ 64 then c
  else
    let c1 := (c.rep' (fun r => { r with retired := insNat r.retired g, retiring := r.retiring.filter (· != g), groupErr := r.groupErr.del g })).takeReserve
    ((c1.record 204 g [fNat "GROUP" g, fSym "KIND" "RETIRE"]).raise 76 g none [fNat "GROUP" g]).capCheck

/-! ### Links (R753, R754) -/

def Chip.repLink (c : Chip) (n : Nat) : Link := c.rep.links.get { spares := 0, half := false, out := false, ends := [] } n
def Chip.setLink (c : Chip) (n : Nat) (x : Link) : Chip :=
  c.rep' (fun r => { r with links := r.links.put { spares := 0, half := false, out := false, ends := [] } n x })
def Chip.linkRecord (c : Chip) (n : Nat) (action : String) : Chip := c.record 207 n [fNat "LINK" n, fSym "ACTION" action]

/-- BIT_LANE_SPARE: a bit-lane is replaced while the link has a spare (R753). -/
def Chip.bitLaneSpare (c : Chip) (n : Nat) : Chip :=
  let x := c.repLink n
  if x.spares < 2 ∧ ¬ x.out then (c.setLink n { x with spares := x.spares + 1 }).linkRecord n "SPARE" else c

/-- LINK_HALF_WIDTH: a further bit-lane is lost: half width, with TILE-INTEGRITY naming the link; a second loss takes the link out of service and fails
the tiles at its ends (R754). -/
def Chip.linkHalf (c : Chip) (n : Nat) (ends : List (Nat × Nat)) : Chip :=
  let x := c.repLink n
  if x.spares < 2 ∨ x.out then c
  else if x.half then (ends.map Prod.fst).foldl Chip.tileFailed (c.setLink n { x with out := true })
  else ((c.setLink n { x with half := true, ends := ends }).raise 1 n none [fNat "LINK" n]).linkRecord n "HALF"

end Sys2Proof.Machine
end

