-- ==== Sys2Proof/Machine/DomainEvents.lean ====
section
/-!
DEFINITION. The ends of domain transitions, domain faults and their consequences (R773–R777, Table 20-3 of spec/).
-/
namespace Sys2Proof.Machine

/-- What the steward restores when a domain reaches ON (R774): tables and routes, templates, panel scanning; lanes train (R480). -/
def Chip.domArrive (c : Chip) (n : Nat) : Chip :=
  if 12 ≤ n ∧ n < 16 then c.quadOn (n - 12)
  else match n with
    | 16 =>
      let s0 : Switch := { c.sw with half0 := [], half1 := [], stash := [], buckets := [], overflow := [], lostMac := [], lostSub := [], lostPfx := [] }
      let s1 := c.cfg.macs.foldl (fun (s : Switch) e => (s.macInsert e).getD s) s0
      let s2 := (s1.subBuild c.cfg.subs).getD s1
      { c with sw := { s2 with lpm4 := c.cfg.lpm4, lpm6 := c.cfg.lpm6 } }
    | 17 => c.codec' (fun k => { k with badTempl := [], waiting := [] })
    | 21 => if c.board then c.panelScanStart else c
    | _ => c

/-- Structure memory as a half's domain reaches ON: zero and empty, but for a half that a fault has lost (R773, R777). -/
def Mem.domArrive (m : Mem) (n : Nat) : Mem :=
  if n = 19 ∧ ¬ m.sbad.contains 0 then m.clearHalf 0
  else if n = 20 ∧ ¬ m.sbad.contains 1 then m.clearHalf 1
  else m

/-- DOMAIN_RISE_DONE: a RISING domain reaches ON; a latched request to disable it, and what waited for it, follow (R771, R773, R775). -/
def CM.riseDone (cm : CM) (n : Nat) : CM :=
  let c := cm.1
  if (c.dom n).st ≠ .rising then cm
  else
    let c1 := (c.domMove n .on (c.dom n).cause).domArrive n
    (c1.domWaiting ([n] ++ domUsers n), cm.2.domArrive n)

/-- DOMAIN_FALL_DONE: a FALLING domain reaches OFF (R773, R775). -/
def Chip.fallDone (c : Chip) (n : Nat) : Chip :=
  if (c.dom n).st ≠ .falling then c
  else (c.domMove n .off (c.dom n).cause).domWaiting ([n] ++ domNeeds n)

/-- Hitch regions that reach into a half of structure memory. -/
def Chip.halfRegions (c : Chip) (h : Nat) : List Nat :=
  (c.cfg.regions.filter (fun e => e.2.base / 33554432 == h || (e.2.base + e.2.len - 1) / 33554432 == h)).map (·.1)

/-- The hitches of regions in a lost half are broken (R469, Table 20-3). -/
def Chip.breakRegions (c : Chip) (rs : List Nat) : Chip :=
  let held := (c.fab.hitches.filter (fun e => e.1 ≥ 256 && rs.contains ((e.1 - 256) / 2097152))).map (·.1)
  (held.foldl Chip.hitchBroken c).fab' (fun g => { g with brokenRegions := rs.foldl insNat g.brokenRegions })

/-- The 16 groups of a stack (R411). -/
def groupsOf (st : Nat) : List Nat := (List.range 16).map (16 * st + ·)

/-- The consequences of Table 20-3 that `domLeave` does not hold. -/
def CM.domLost (cm : CM) (n : Nat) : CM :=
  let c := cm.1
  if n < 8 then ((tilesOf n).foldl Chip.tileFailed c, cm.2)
  else if n < 12 then ((groupsOf (n - 8)).foldl Chip.groupRetire c, cm.2.loseGroups (groupsOf (n - 8)))
  else if n = 19 then (c.breakRegions (c.halfRegions 0), cm.2.loseHalf 0)
  else if n = 20 then (c.breakRegions (c.halfRegions 1), cm.2.loseHalf 1)
  else if n = 23 then (c.rep.steps.keys.foldl (fun c cl => c.stepAbandon cl "DOMAIN") c, cm.2)
  else cm

/-- DOMAIN_FAULT: DOMAIN-n is raised, the domain is forced OFF, and the steward tries again once, 1 s later (R777). -/
def CM.domainFault (cm : CM) (n : Nat) : CM :=
  let c := cm.1
  if (c.dom n).st ≠ .rising ∧ (c.dom n).st ≠ .on then cm
  else
    let c1 := (c.raise (393 + n) n none [fNat "DOMAIN" n]).domForce n "FAULT"
    let c2 := c1.modDom n (fun d => { d with retryAt := if d.retried then none else some (1000000000 + c.clk.cycle) })
    CM.domLost (c2, cm.2) n

/-- DOMAIN_RETRY: the one further attempt to rise (R777). -/
def Chip.domainRetry (c : Chip) (n : Nat) : Chip :=
  match (c.dom n).retryAt with
  | none => c
  | some t =>
    let c1 := c.advanceTo t
    (c1.modDom n (fun d => { d with retryAt := none, retried := true, forced := false })).domRequest n true "FAULT"

end Sys2Proof.Machine
end

