-- ==== Sys2Proof/Machine/Scrub.lean ====
section
/-!
DEFINITION. The scrubber and the DRAM patrol: what each finding does (R248a, R289, R409, R419, R424–R427, R453, R469, R507, R518, R570, R582, R736, R737,
R752 of spec/).
-/
namespace Sys2Proof.Machine

/-- 24 h in cycles. -/
def day : Nat := 86400000000000

/-- A row enters the suspect list (R736, R737); DRAM rows are keyed 2^32 above. -/
def Chip.suspect (c : Chip) (dram : Bool) (r : Nat) : Chip :=
  let l := if dram then c.rep.dram else c.rep.sram
  if l.contains r then c
  else if l.length ≥ 1024 then c.rep' (fun x => { x with unrecorded := x.unrecorded + 1 })
  else (c.rep' (fun x => if dram then { x with dram := x.dram ++ [r] } else { x with sram := x.sram ++ [r] })).wear 4 0

/-- A corrected error of a row: the second within 24 h makes it suspect (R736). -/
def Chip.rowError (c : Chip) (dram : Bool) (r : Nat) : Chip :=
  let key := if dram then 4294967296 + r else r
  let again := match c.rep.rowErr.find key with | some t => decide (c.clk.cycle ≤ t + day) | none => false
  let c1 := c.rep' (fun x => { x with rowErr := x.rowErr.set key c.clk.cycle })
  if again then c1.suspect dram r else c1

/-- An uncorrectable error of a group: the second within 24 h asks for its retirement (R752). -/
def Chip.groupError (c : Chip) (g : Nat) : Chip :=
  let l := (c.rep.groupErr.get [] g).filter (fun t => decide (c.clk.cycle ≤ t + day))
  c.rep' (fun x => { x with groupErr := x.groupErr.put [] g (l ++ [c.clk.cycle]),
                            retiring := if l.isEmpty ∨ x.retired.contains g then x.retiring else insNat x.retiring g })

/-- The FI that owns a structure word. -/
def Mem.wordFi (m : Mem) (w : Nat) : Option Nat :=
  match m.owner (w / 512) with | .fi n => some n | _ => none

/-- A matching-store entry is lost (R289). -/
def Chip.entryLost (c : Chip) (tile id : Nat) (key : Bool) : Chip :=
  match (c.tile tile).store.find? (fun e => e.id == id) with
  | none => c
  | some e =>
    let c1 := (c.modTile tile (fun t => { t with store := t.store.filter (fun e => e.id != id) })).dropItem e.item
    if key then (c1.raise 7 e.item.tok.fi (some e.item.tok.fi) [fNat "TILE" tile]).markTile tile
    else ((c1.raise 1 tile none [fNat "TILE" tile]).markTile tile).tileFailed tile

/-- A tile-map entry is lost (R248a). -/
def Chip.mapLost (c : Chip) (fi k slot : Nat) : Chip :=
  if k < c.nCopies fi then
    (c.modCopy fi k (fun p => { p with mapBad := if p.mapBad.contains slot then p.mapBad else p.mapBad ++ [slot] })).raise 0 fi (some fi) [fSym "COPY" (copyName k), fNat "SLOT" slot]
  else c

/-- One finding. -/
def CM.finding (cm : CM) (x : Finding) : CM :=
  let c := cm.1
  let m := cm.2
  match x with
  | .row r t =>
    let c1 := match t with
      | some k => c.unit' (fun u => { u with regs := { u.regs with tileCorr := u.regs.tileCorr.put 0 k (min 65535 (u.regs.tileCorr.get 0 k + 1)) } })
      | none => c
    ((c1.rowError false r).raise 70 0 none [fNat "ROW" r], m)
  | .word w r =>
    let h := wordHalf w
    (({ c with mctl := { c.mctl with halfCorr := c.mctl.halfCorr.put 0 h (sat32 (c.mctl.halfCorr.get 0 h)) } } : Chip).rowError false r |>.raise 64 0 none
      [fSym "HALF" (if h = 0 then "A" else "B")], m)
  | .wordBad w r => ((c.suspect false r).raise 65 w (m.wordFi w) [⟨"ADDR", .hex 8 (8 * w)⟩], m.spoisonWord w 65)
  | .frameBad cl f w r =>
    let y := c.ctx (ctxKey cl f)
    let c1 := c.suspect false r
    if y.st = .free then (c1, m)
    else ((c1.modCtx (ctxKey cl f) (fun y => { y with wpoison := if y.wpoison.contains w then y.wpoison else y.wpoison ++ [w],
                                                      words := if (y.words.find w).isSome then y.words else y.words.set w 0 })).raise 65 y.fi (some y.fi)
      [fNat "CLUSTER" cl, fNat "FRAME" f], m)
  | .entryBad t n k => (c.entryLost t n k, m)
  | .mapBad fi k s => (c.mapLost fi k s, m)
  | .macBad mac vlan =>
    match c.sw.macFind vlan mac with
    | some e => (((c.sw' (fun s => let s' := s.macRemove vlan mac
                                   if e.static then { s' with lostMac := s'.lostMac ++ [e] } else s')).raise 210 0 none [fSym "TABLE" "MAC"]), m)
    | none => cm
  | .subBad typ port key =>
    match c.sw.subFind typ port key with
    | some e => ((c.sw' (fun s => { s with buckets := s.buckets.map (fun b => (b.1, b.2.filter (· != e))), overflow := s.overflow.filter (· != e),
                                           lostSub := if e.isDup then s.lostSub else s.lostSub ++ [e] })).raise 210 3 none [fSym "TABLE" "SUB"], m)
    | none => cm
  | .pfxBad v6 a l =>
    let mine (p : Pfx) : Bool := p.addr == a && p.len == l
    match (if v6 then c.sw.lpm6 else c.sw.lpm4).find? mine with
    | some p => ((c.sw' (fun s => { s with lpm4 := if v6 then s.lpm4 else s.lpm4.filter (fun p => !mine p),
                                           lpm6 := if v6 then s.lpm6.filter (fun p => !mine p) else s.lpm6,
                                           lostPfx := s.lostPfx ++ [(v6, p)] })).raise 210 (if v6 then 2 else 1) none [fSym "TABLE" (if v6 then "LPM6" else "LPM4")], m)
    | none => cm
  | .templBad n => ((c.codec' (fun k => { k with badTempl := if k.badTempl.contains n then k.badTempl else k.badTempl ++ [n] })).raise 212 n none [fNat "TEMPLATE" n], m)
  | .holdBad n =>
    match c.codec.waiting[n]? with
    | some w => ((((c.codec' (fun k => { k with waiting := k.waiting.eraseIdx n })).unit' (fun u => { u with regs := { u.regs with holdDisc := u.regs.holdDisc + 1 } })).malformed w.sub).raise 213 w.sub none [], m)
    | none => cm
  | .hitchBad h => (c.hitchBroken h, m)
  | .portCounter p => ((c.modPort p (fun _ => PortCnt.init)).raise 71 p none [fNat "PORT" p], m)
  | .collector => (c.raise 385 0 none [], m)
  | .frameLost cl => ((c.modPool cl (fun p => { p with lost := p.lost + 1 })).raise 130 cl none [fSym "POOL" "FRAMES"], m)
  | .cellLost => ((c.fab' (fun g => { g with cellLost := g.cellLost + 1 })).raise 130 8 none [fSym "POOL" "CELLS"], m)
  | .deepPageLost => ((c.fab' (fun g => { g with deepLost := g.deepLost + 1 })).raise 130 9 none [fSym "POOL" "DEEP"], m)
  | .pageLost => ((c.fab' (fun g => { g with pageLost := g.pageLost + 1 })).raise 130 10 none [fSym "POOL" "PAGES"], m)
  | .line l r =>
    let g := groupOf (64 * l)
    (({ c with mctl := { c.mctl with groupCorr := c.mctl.groupCorr.put 0 g (sat32 (c.mctl.groupCorr.get 0 g)) } } : Chip).rowError true r |>.raise 66 g none [fNat "GROUP" g], m)
  | .lineBad l r =>
    let owner := match m.pgranules.get .free (l / 16384) with | .priv f => some f | .free => none
    (((c.suspect true r).groupError (groupOf (64 * l))).raise 67 l owner [⟨"LINE", .hex 9 (64 * l)⟩], { m with dpoison := m.dpoison.set l 67 })
  | .unitTag l => (c.raise 68 l none [⟨"LINE", .hex 9 (64 * l)⟩], m)
  | .deepBad fi home i =>
    (c.modDeep fi (fun d => if home then { d with home := d.home.put DeepLine.init i { d.home.get DeepLine.init i with bad := true } }
                            else { d with overflow := d.overflow.put DeepLine.init i { d.overflow.get DeepLine.init i with bad := true } }), m)
  | .recordBad s => ({ c with cairn := { c.cairn with corrupt := if c.cairn.corrupt.contains s then c.cairn.corrupt else c.cairn.corrupt ++ [s] } }, m)

/-- SRAM_SCRUB: a pass over all on-die SRAM ends, 30 s after the last one (R425). -/
def CM.sramScrub (cm : CM) (l : List Finding) : CM :=
  let c := cm.1.advanceTo (30000000000 + cm.1.mctl.scrubAt)
  l.foldl CM.finding ({ c with mctl := { c.mctl with scrubAt := c.clk.cycle }, unit := { c.unit with regs := { c.unit.regs with sramPasses := sat32 c.unit.regs.sramPasses } } }, cm.2)

/-- DRAM_PATROL: a pass over every line ends, 24 h after the last one (R426). -/
def CM.dramPatrol (cm : CM) (l : List Finding) : CM :=
  let c := cm.1.advanceTo (cm.1.mctl.patrolAt + day)
  l.foldl CM.finding ({ c with mctl := { c.mctl with patrolAt := c.clk.cycle } }, cm.2)

/-- The poisoned lines of an FI's private area. -/
def CM.poisonedLines (cm : CM) (fi : Nat) : List Nat :=
  (cm.1.mctl.pmap.get [] fi).flatMap (fun g =>
    if cm.2.dbad.isEmpty then (cm.2.dpoison.keys.filter (fun l => l / 16384 == g))
    else ((List.range 16384).map (16384 * g + ·)).filter (fun l => (cm.2.linePoison l).isSome))

/-- POISON_CLEAR_DONE: every marked line still poisoned is rewritten with zero data, with event 0x0B2 (R427). -/
def CM.poisonClearDone (cm : CM) (fi : Nat) : CM :=
  match cm.1.mctl.marked.find fi with
  | none => cm
  | some ls =>
    let todo := ls.filter (fun l => (cm.2.linePoison l).isSome)
    let m := todo.foldl (fun (m : Mem) l => (m.dwrite l ((List.range 8).map (fun i => (i, 0)))).cleanLine l) cm.2
    (({ cm.1 with mctl := { cm.1.mctl with marked := cm.1.mctl.marked.del fi } } : Chip).record 178 fi [fFi fi, fNat "LINES" todo.length], m)

end Sys2Proof.Machine
end

