-- ==== Sys2Proof/Machine/Supply.lean ====
section
/-!
DEFINITION. The supply input and the temperature sensors (R435, R761–R768, R778–R781 of spec/).
-/
namespace Sys2Proof.Machine

/-! ### Supply (R761–R768) -/

/-- SUPPLY_WARNING: event 0x08F and SUPPLY-FAILING, the tail save, the traverse abandoned (R763). -/
def Chip.supplyWarning (c : Chip) : Chip :=
  if c.sup.warning then c
  else
    let c1 := (c.sup' (fun s => { s with warning := true, warnAt := c.clk.cycle })).record 143 0 [fSym "STATE" "FAILING"]
    let c2 := c1.classifyRaise { src := 392, inst := 0, fi := none, stamp := c1.stamp, cycle := c1.clk.cycle, arrival := c1.clk.cycle, detail := [] }
    let c3 := c2.flushCairn
    let c4 := if c3.cairn.save.isSome then c3 else c3.beginTail "SUPPLY"
    (c4.rep.steps.keys.foldl (fun c cl => c.stepAbandon cl "SUPPLY") c4).domRequest 23 false "SUPPLY"

/-- SHUTDOWN: drivers and ALIVE_OUT off in hardware, every domain off at once, no record (R764). A save that has begun has ended before it. -/
def Chip.shutdown (c : Chip) : Chip :=
  if !c.sup.warning then c
  else
    let c0 := match c.cairn.save with | some s => if s.complete then c else (c.endTail s true).wear 5 0 | none => c
    let c1 := c0.modPanel (fun p => { p with trips := p.trips.map (fun e => (e.1, { e.2 with drive := .off, held := false })) })
    let c2 : Chip := { c1 with alive := { c1.alive with toggling := false } }
    c2.sup' (fun s => { s with powered := false, shutdown := true, warning := false, doms := [] })

/-- SUPPLY_RESTORED: the input has not been low for 20 ms, before shutdown; LENGTH is the time it was low (R765). -/
def Chip.supplyRestored (c : Chip) (ms : Nat) : Chip :=
  if !c.sup.warning then c
  else ((c.sup' (fun s => { s with warning := false })).record 143 0 [fSym "STATE" "RESTORED", fNat "LENGTH" ms]).resumeNumbering

/-- SUPPLY_DIP: low for at least 1 ms, recovered before the warning (R766). -/
def Chip.supplyDip (c : Chip) (ms : Nat) : Chip :=
  if c.sup.warning ∨ ms = 0 then c else c.record 143 0 [fSym "STATE" "DIP", fNat "LENGTH" ms]

/-! ### Sensors and the throttle (R778–R781) -/

def TempSt.code : TempSt → Nat
  | .normal => 0 | .warm => 1 | .overTemp => 2 | .limit => 3
def TempSt.name : TempSt → String
  | .normal => "NORMAL" | .warm => "WARM" | .overTemp => "OVER" | .limit => "LIMIT"
def tempOf : Nat → TempSt
  | 0 => .normal | 1 => .warm | 2 => .overTemp | _ => .limit

/-- Thresholds of WARM, OVER and LIMIT (Table 20-4): sensors 0–15 die, 16–19 stacks, 20 supply module, 21 board. -/
def thresholds (n : Nat) : List Int := if n < 16 then [95, 105, 115] else if n < 20 then [85, 95, 105] else if n = 20 then [100, 110, 125] else [75, 85, 95]

/-- Names of the sensors in SENSOR=. -/
def sensorName (n : Nat) : Val :=
  if n < 16 then .pair "DIE" n else if n < 20 then .pair "STACK" (n - 16) else if n = 20 then .sym "SUPPLY" else .sym "BOARD"

/-- The reading that counts toward the return from a threshold: 5 °C below it, or below it for a stack's 85 °C (R435, R778). -/
def returnLevel (n i : Nat) : Int := (thresholds n).getD i 0 - (if 16 ≤ n ∧ n < 20 ∧ i = 0 then 1 else 5)

/-- The state a reading leaves a sensor in. A stack's WARM holds until STACK_COOL. -/
def Sensor.next (x : Sensor) (n : Nat) (t : Int) (since : List (Option Nat)) (now : Nat) : TempSt :=
  let reach := ((thresholds n).filter (fun v => decide (v ≤ t))).length
  let held (i : Nat) : Bool := decide (i ≤ x.st.code) && ((decide (i = 1) && decide (16 ≤ n) && decide (n < 20)) ||
    match since.getD (i - 1) none with | some s => decide (now < 10000000000 + s) | none => true)
  tempOf (max reach ((([1, 2, 3].filter held).getLast?).getD 0))

/-- The throttle step that the sensors ask for; step 3 holds once reached (R779, R780). -/
def Chip.throttle (c : Chip) : Nat := if c.sup.limitHeld then 3 else (List.range 22).foldl (fun n i => max n (c.sensor i).st.code) 0

/-- The domains forced OFF at step 3, dependants first (R779). -/
def limitDomains : List Nat := [22, 12, 13, 14, 15, 17, 18, 23]

/-- The throttle step follows the sensors (R779): event 0x0EB, OVER-TEMPERATURE at step 2, TEMPERATURE-LIMIT and the forced domains at step 3; the
capacity follows (R434). -/
def CM.throttleCheck (cm : CM) : CM :=
  let c := cm.1
  let s := c.throttle
  let old := c.sup.step
  if s = old then (c.capCheck, cm.2)
  else
    let c1 := (c.sup' (fun x => { x with step := s, limitHeld := x.limitHeld || s == 3 })).record 235 0 [fNat "STEP" s]
    let c2 := if old < 2 ∧ 2 ≤ s then c1.raise 390 0 none [fNat "STEP" s] else c1
    let cm3 : CM := if s = 3 then
        limitDomains.foldl (fun (a : CM) n =>
          let was := decide ((a.1.dom n).st ≠ .off)
          let b : CM := (a.1.domForce n "THERMAL", a.2)
          if was then CM.domLost b n else b) (c2.raise 391 0 none [], cm.2)
      else (c2, cm.2)
    (cm3.1.capCheck, cm3.2)

/-- SENSOR_READ: a reading each millisecond, none when the sensor does not answer (R778, R781). -/
def CM.sensorRead (cm : CM) (n : Nat) (t : Option Int) : CM :=
  let x := cm.1.sensor n
  let c := cm.1.advanceTo (1000000 + x.readAt)
  let now := c.clk.cycle
  let put (c : Chip) (y : Sensor) : Chip := c.sup' (fun s => { s with sensors := s.sensors.put Sensor.init n y })
  let move (c : Chip) (st : TempSt) (v : Val) : Chip :=
    if st = x.st then c else c.record 234 n [⟨"SENSOR", sensorName n⟩, fSym "STATE" st.name, ⟨"T", v⟩]
  let good := match t with | some v => if -55 ≤ v ∧ v ≤ 150 then some v else none | none => none
  let c1 := match good with
    | none =>
      let c1 := move (put c { x with st := .warm, bad := true, readAt := now, since := [none, none, none] }) .warm .none
      if x.bad then c1 else c1.raise 390 n none [⟨"SENSOR", sensorName n⟩, fSym "CAUSE" "SENSOR"]
    | some v =>
      let since := (List.range 3).map (fun i => if v ≤ returnLevel n i then some ((x.since.getD i none).getD now) else none)
      let st := x.next n v since now
      move (put c { st := st, temp := v, bad := false, readAt := now, since := since }) st (.int v)
  CM.throttleCheck (c1, cm.2)

/-- STACK_COOL: a stack's readings have stayed below 85 °C for 10 s (R435). -/
def CM.stackCool (cm : CM) (i : Nat) : CM :=
  let n := 16 + i
  let x := cm.1.sensor n
  match x.st, x.since.getD 0 none with
  | .warm, some s =>
    let c := cm.1.advanceTo (10000000000 + s)
    let c1 := (c.sup' (fun s => { s with sensors := s.sensors.put Sensor.init n { x with st := .normal } })).record 234 n
      [⟨"SENSOR", sensorName n⟩, fSym "STATE" "NORMAL", ⟨"T", .int x.temp⟩]
    CM.throttleCheck (c1, cm.2)
  | _, _ => cm

end Sys2Proof.Machine
end

