-- ==== Sys2Proof/Machine/Alive.lean ====
section
/-!
DEFINITION. The alive logic, ALIVE_IN, the steward's heartbeat and the lockstep safety core (R707, R722–R725 of spec/).
-/
namespace Sys2Proof.Machine

def Chip.alive' (c : Chip) (g : Alive → Alive) : Chip := { c with alive := g c.alive }

/-- The numbers of the conditions of Table 18-6 that fail now. -/
def Chip.aliveFailing (c : Chip) : List Nat :=
  let hb := match c.alive.heartbeat with | some h => decide (c.clk.cycle ≤ 250000000 + h) | none => false
  [1, 2, 3, 4, 5, 6].filter (fun i =>
    if i = 1 then c.alive.unitFatal
    else if i = 2 then c.fis.any (fun e => (c.fiCfg e.1).cls == 0 && e.2.st.active && e.2.aliveFail)
    else if i = 3 then c.clk.disc == .undisciplined
    else if i = 4 then decide (c.sup.step ≥ 2)
    else if i = 5 then !hb
    else !c.unit.started || !c.unit.camp.isEmpty)

def Chip.aliveRecord (c : Chip) (low : Bool) (cause : Val) : Chip :=
  c.record 274 0 [fSym "STATE" (if low then "LOW" else "TOGGLING"), ⟨"CAUSE", cause⟩]

/-- ALIVE_STOP: a condition fails and ALIVE_OUT goes low (R723). -/
def Chip.aliveStop (c : Chip) : Chip :=
  if c.alive.toggling ∧ ¬ c.aliveFailing.isEmpty then
    (c.alive' (fun a => { a with toggling := false })).aliveRecord true (.nats c.aliveFailing)
  else c

/-- ALIVE_RESUME: every condition has held for 10 ms without a break (R723). -/
def Chip.aliveResume (c : Chip) : Chip :=
  if c.alive.toggling ∨ ¬ c.aliveFailing.isEmpty then c
  else
    let c1 := c.advance 10000000
    if c1.aliveFailing.isEmpty then (c1.alive' (fun a => { a with toggling := true, since := c1.clk.cycle })).aliveRecord false .none else c1

/-- ALIVE_MONITOR_FORCE: the hardware monitor finds no half-period within 1 ms (R723). -/
def Chip.aliveMonitor (c : Chip) : Chip :=
  if c.alive.toggling then (c.alive' (fun a => { a with toggling := false })).aliveRecord true (.sym "MONITOR") else c

/-- STEWARD_HEARTBEAT: every 50 ms while the steward runs (R722). -/
def Chip.heartbeat (c : Chip) : Chip :=
  if c.unit.steward then
    let c1 := match c.alive.heartbeat with | some h => c.advanceTo (50000000 + h) | none => c
    c1.alive' (fun a => { a with heartbeat := some c1.clk.cycle, heartbeatLost := false })
  else c

/-- HEARTBEAT_LOSS: condition 5 fails, and the warden raises STEWARD-HEARTBEAT (R722). -/
def Chip.heartbeatLoss (c : Chip) : Chip :=
  match c.alive.heartbeat with
  | some h =>
    if c.alive.heartbeatLost then c
    else
      let c1 := c.advanceTo (250000001 + h)
      (c1.alive' (fun a => { a with heartbeatLost := true })).raise 387 0 none []
  | none => c

/-- ALIVE_IN_CHANGE: recorded as event 0x113, stamped 800 ns back, and delivered to ALIVE bindings (R616, R724). -/
def Chip.aliveIn (c : Chip) (toggling : Bool) : Chip :=
  if c.alive.inToggling = toggling then c
  else
    let c1 := c.alive' (fun a => { a with inToggling := toggling })
    (c1.recordBefore 800 275 0 [fSym "STATE" (if toggling then "TOGGLING" else "STOPPED")]).deliverSource .alive (if toggling then 1 else 0)

/-- ALIVE_READBACK_FAULT: the level read back has differed for 20 µs (R725). -/
def Chip.aliveReadback (c : Chip) : Chip :=
  if c.alive.readbackBad then c else (c.alive' (fun a => { a with readbackBad := true })).raise 386 0 none []

/-- LOCKSTEP_MISMATCH: source 384 acts without the warden, which restarts within 100 ms (R707). -/
def Chip.lockstep (c : Chip) : Chip :=
  let c1 := c.classifyRaise { src := 384, inst := 0, fi := none, stamp := c.stamp, cycle := c.clk.cycle, arrival := c.clk.cycle, detail := [] }
  { c1 with coll := { c1.coll with wardenDown := some (100000000 + c1.clk.cycle) } }

/-- WARDEN_RESTART: the warden runs again and takes up the raise queue (R707). -/
def Chip.wardenRestart (c : Chip) : Chip :=
  match c.coll.wardenDown with
  | none => c
  | some t =>
    let c1 := c.advanceTo t
    { c1 with coll := { c1.coll with wardenDown := none } }

end Sys2Proof.Machine
end

