-- ==== Sys2Proof/Machine/Start.lean ====
section
/-!
DEFINITION. Starts: images and pairings, base camp, BIST, configuration, graphs, the start edge; warm, cold and watchdog restarts (04_start_up_and_base_camp.md;
R631, R632, R735–R741, R771 of spec/). Each step of Table 4-4 takes its maximum (DESIGN CHOICE).
-/
namespace Sys2Proof.Machine

/-! ### Compatibility sets (R164–R168) -/

def octet (l : List Byte) (i : Nat) : Nat := (l.getD i 0).toNat

/-- Decodes a set of 96 octets; none when it is invalid (R165). -/
def decodeCompat (l : List Byte) : Option Compat :=
  let steps := octet l 6
  let parts := octet l 7
  let step (i : Nat) : List Nat := [octet l (8 + 2 * i), octet l (9 + 2 * i)]
  let part (i : Nat) : List Nat := (List.range 4).map (fun j => octet l (24 + 4 * i + j))
  let ok := decide (l.length = 96) && decide (1 ≤ octet l 0 ∧ octet l 0 ≤ 3) && octet l 1 == 1 && decide (1 ≤ steps ∧ steps ≤ 8) && decide (parts ≤ 16)
    && decide (octet l 4 * 256 + octet l 5 ≤ 9999)
    && (List.range 8).all (fun i => if i < steps then step i != [0, 0] else step i == [0, 0])
    && (List.range 16).all (fun i => if i < parts then [1, 2, 4].contains ((part i).getD 0 0) && (part i).getD 3 1 == 0 else part i == [0, 0, 0, 0])
    && (octet l 0 == 3 || (octet l 88 == 0 && octet l 89 == 0)) && (List.range 6).all (fun i => octet l (90 + i) == 0)
  if ok then some
    { kind := octet l 0, major := octet l 2, minor := octet l 3, build := octet l 4 * 256 + octet l 5,
      steppings := (List.range steps).map (fun i => (step i).map Char.ofNat),
      partners := (List.range parts).map (fun i => ((part i).getD 0 0, (part i).getD 1 0, (part i).getD 2 0)), isa := (octet l 88, octet l 89) }
  else none

def Compat.empty : Compat := { kind := 0, major := 0, minor := 0, build := 0, steppings := [], partners := [], isa := (0, 0) }
def Bank.empty : Bank := { present := false, sigGood := false, set := Compat.empty }

/-- A bank by kind (warden 0, steward 1) and side (B when true). -/
def Chip.bank (c : Chip) (steward side : Bool) : Bank := c.unit.banks.get Bank.empty ((if steward then 2 else 0) + (if side then 1 else 0))
def bankName (side : Bool) : String := if side then "B" else "A"

/-- The set of the running warden and steward. -/
def Chip.wardenSet (c : Chip) : Compat := match c.unit.runW with | some b => (c.bank false b).set | none => Compat.empty
def Chip.stewardSet (c : Chip) : Compat := match c.unit.runS with | some b => (c.bank true b).set | none => Compat.empty

/-- The highest Elvit revision of major 1 that the running steward supports (R4, R166). -/
def Compat.supported (s : Compat) : Option Nat :=
  (s.partners.filter (fun p => p.1 == 4 && p.2.1 == 1)).foldl (fun a p => some (match a with | some m => max m p.2.2 | none => p.2.2)) none

/-- Decimal digits of a number, at least n of them. -/
def padNat (n v : Nat) : List Char := let d := (toString v).toList; List.replicate (n - d.length) '0' ++ d
def Compat.version (s : Compat) : String := toString s.major ++ "." ++ toString s.minor ++ "." ++ String.ofList (padNat 4 s.build)
def Compat.ver (s : Compat) : Nat × Nat × Nat := (s.major, s.minor, s.build)

/-- An untested pairing that a record accepts (R187). -/
def Chip.accepts (c : Chip) (p : Pairing) : Bool := c.unit.accepted.contains p
def stepping : List Char := "C1".toList

/-- The pairing records behind each cause that the checks of Table 4-3 find now, with the fields of Table 4-6. -/
def Chip.wardenPairs (c : Chip) : List (Pairing × Fields) :=
  let w := c.wardenSet
  if w.steppings.contains stepping then []
  else [({ cause := .warden, a := w.ver, b := (0, 0, 0), digest := 0 }, [fSym "WARDEN" w.version, fSym "STEPPING" "C1"])]
def Chip.stewardPairs (c : Chip) : List (Pairing × Fields) :=
  let w := c.wardenSet
  let s := c.stewardSet
  let fs : Fields := [fSym "STEWARD" s.version, fSym "WARDEN" w.version]
  (if s.steppings.contains stepping then [] else [({ cause := .steward, a := s.ver, b := (0, 0, 0), digest := 0 }, fs)]) ++
  (if s.partners.contains (1, w.major, w.minor) ∨ w.partners.contains (2, s.major, s.minor) then []
   else [({ cause := .steward, a := w.ver, b := s.ver, digest := 0 }, fs)])

/-- The ISA row for a graph: none when it is supported (R4, R166). -/
def Chip.isaBad (c : Chip) (g : Compat) : Bool :=
  match c.stewardSet.supported with
  | some m => !(g.isa.1 == 1 && decide (g.isa.2 ≤ m))
  | none => true
/-- The graph rows of Table 4-3 but the ISA row: stepping, steward. -/
def Chip.graphPairs (c : Chip) (g : Compat) (digest : Nat) : List Pairing :=
  let s := c.stewardSet
  (if g.steppings.contains stepping then [] else [{ cause := .graph, a := g.ver, b := (0, 0, 0), digest := digest }]) ++
  (if g.partners.contains (2, s.major, s.minor) ∨ s.partners.contains (4, g.isa.1, g.isa.2) then []
   else [{ cause := .graph, a := g.ver, b := s.ver, digest := digest }])
def Image.set (i : Image) : Compat := (decodeCompat i.compat).getD Compat.empty

/-- Base camp causes of every graph held (R167). -/
def Chip.graphCamp (c : Chip) : List (Camp × Fields) :=
  c.cfg.fis.flatMap (fun e => match e.2.image with
    | none => []
    | some i =>
      let g := i.set
      (if c.isaBad g then [(Camp.isa, [fFi e.1, fSym "ISA" (toString g.isa.1 ++ "." ++ toString g.isa.2),
          fSym "SUPPORTED" ("1." ++ toString (c.stewardSet.supported.getD 0))])] else []) ++
      (if ((c.graphPairs g i.digest).filter (fun p => !c.accepts p)).isEmpty then [] else [(Camp.graph, [fFi e.1, fSym "STEWARD" c.stewardSet.version])]))

/-- Base camp causes of the warden and the steward. -/
def Chip.imageCamp (c : Chip) : List (Camp × Fields) :=
  ((c.wardenPairs.filter (fun p => !c.accepts p.1)).map (fun p => (Camp.warden, p.2))).take 1 ++
  ((c.stewardPairs.filter (fun p => !c.accepts p.1)).map (fun p => (Camp.steward, p.2))).take 1

/-! ### What a start keeps (Table 4-7) -/

/-- The chip with everything a cold restart or a power-on loses returned to its reset state; `cold` says that the always-on domain kept its power. -/
def Chip.restarted (c : Chip) (cold : Bool) : Chip :=
  let clk := c.clk
  let t := c.cairn.bestTail
  let clk' : Clk := if cold then { clk with dueNext := [], pendingAdj := none, captures := [], irig := .unknown, irigLast := clk.cycle, pps := .unknown,
                                            ppsLast := clk.cycle, ppsSeen := false, irigSeq := 0, irigBad := 0, ppsSeq := 0, ppsGlitch := 0 }
    else { (Clk.reset.setAnchor (match t with
        | some t => { sec := t.anchorSec, ns := t.anchorNs, sub := 0, rate := t.rate }
        | none => Anchor.reset)) with extValid := clk.extValid }
  { c with
    clk := clk',
    sup := if cold then { c.sup with doms := [], limitHeld := false } else { Supply.reset with powered := true },
    mctl := { MemCtl.reset with scrubAt := clk'.cycle, patrolAt := clk'.cycle, refillAt := clk'.cycle },
    coll := if cold then { c.coll with wardenDown := none } else Collector.reset,
    belay := Belay.reset,
    alive := { Alive.reset with readbackBad := false },
    fis := (c.fis.filter (fun e => e.2.intent)).map (fun e => (e.1, { Fi.init with intent := true })),
    fab := Fabric.reset,
    links := { Links.reset with peerSerial := none },
    sw := Switch.reset,
    codec := { Codec.reset with bucketAt := clk'.cycle, buildAt := clk'.cycle },
    panel := { Panel.reset with keys := c.panel.keys.map (fun e => (e.1, { Key.init with raw := e.2.raw })),
                                pres := c.panel.pres, presHeld := c.panel.presHeld || c.panel.presence.isSome,
                                inputs := c.panel.inputs.map (fun e => (e.1, { BinIn.init with raw := e.2.raw, filt := e.2.raw, delivered := e.2.raw })) },
    keys := { c.keys with storeBad := false, work := none, workBad := false, cur := none, granted := 0, turnEnd := 0, waiters := [], tagQ := [], checked := [],
                          idleSince := clk'.cycle, resetEnd := 0 },
    trev := { Trev.reset with commitNum := c.trev.commitNum, evCount := if cold then c.trev.evCount else [] },
    rep := { Repair.reset with soft := c.rep.soft, fuses := c.rep.fuses, sram := c.rep.sram, dram := c.rep.dram, wear := c.rep.wear,
                               wearStep := c.rep.wearStep, from? := clk'.cycle },
    unit := { c.unit with runW := none, runS := none, camp := [], open0 := false, edgeDue := false, started := false, restart := none, steward := false,
                          stewardStopped := false, cfgBad := false, latches := [], regs := Regs.reset } }

/-! ### Steps 2 to 4: life cycle, K_seal, images -/

/-- The current generation of K_seal (R627). -/
def Keys.gen (k : Keys) : Option Nat := ((List.range 4).filter (fun i => match k.seals[i]? with | some (.held _) => true | _ => false)).getLast?
def Keys.genKey (k : Keys) : Option Nat :=
  match k.gen with
  | some g => match k.seals[g]? with | some (.held x) => some x | _ => none
  | none => none
/-- Generations not yet programmed. -/
def Keys.blankGens (k : Keys) : List Nat := (List.range 4).filter (fun i => k.seals[i]? == some .blank)

/-- KEK, K_id and K_tr as the boot ROM derives them (R626). -/
def Chip.derive (c : Chip) : Chip :=
  let salt := String.ofList c.unit.serial
  c.keys' (fun k => { k with
    kek := k.genKey.map (fun x => Config.hkdf x salt "HXC-1024 KEK" 32),
    kid := k.kdev.map (fun x => Config.hkdf x salt "HXC-1024 ID" 48),
    ktr := k.kdev.map (fun x => Config.hkdf x salt "HXC-1024 TRANSPORT" 48) })

/-- R174 and R182: K_seal is generated when ISSUED or FIELD has none, with event 0x093, or base camp has cause SEAL. -/
def Chip.sealStep (c : Chip) (bad : Bool) : Chip :=
  if (c.keys.life = .issued ∨ c.keys.life = .field) ∧ c.keys.gen.isNone then
    match bad, c.keys.blankGens.head? with
    | false, some g =>
      (((c.advance 300000000).keys' (fun k => { k with seals := k.seals.set g (.held (Config.sealKey c.free)) })).record 147 0 [fNat "GEN" g])
        |> fun c => { c with free := c.free + 1 }
    | _, g => (c.unit' (fun u => { u with camp := u.camp ++ [(.seal, [fOpt "GEN" g])] })).keys' (fun k => { k with storeBad := true })
  else c

/-- The bank a kind starts from, with the fallback event 0x092 (R159, R162). -/
def Chip.pickBank (c : Chip) (steward : Bool) : Option Bool × Chip :=
  let sel := if steward then c.unit.nextS else c.unit.nextW
  let good (b : Bool) : Bool := (c.bank steward b).present && (c.bank steward b).sigGood
  if good sel then (some sel, c)
  else if good (!sel) then
    (some (!sel), c.record 146 (if steward then 1 else 0) [fSym "KIND" (if steward then "STEWARD" else "WARDEN"), fSym "FROM" (bankName sel), fSym "TO" (bankName (!sel))])
  else (none, c)

def startName : StartKind → String
  | .powerOn => "POWERON" | .warm => "WARM" | .cold => "COLD" | .life => "LIFE" | .watchdog => "WATCHDOG"

/-- The records with which numbering continues (R194): the start event, then a tail save not yet recorded. -/
def Chip.startRecords (c : Chip) (kind : StartKind) : Chip :=
  let c1 := (c.record 144 0 [fSym "CAUSE" (startName kind)]).unit' (fun u => { u with startKind := kind })
  match c1.cairn.save with
  | some s => let c2 : Chip := { c1 with cairn := { c1.cairn with save := none } }
              if s.complete && !s.bad then c2.recordTail s else c2
  | none => c1

/-- The cairn log after a start other than a warm one (R732, R734). -/
def Chip.restoreCairn (c : Chip) (cold : Bool) : Chip :=
  let (k, bad) := c.cairn.restore cold
  let c1 : Chip := { c with cairn := k }
  if bad then c1.raise 417 0 none [] else c1

/-! ### Step 5: domains and BIST -/

/-- A domain rises to ON within a start, unless it is committed OFF. -/
def Chip.startDom (c : Chip) (n : Nat) : Chip :=
  if c.cfg.doms.find n = some false then c else ((c.domMove n .rising "START").domMove n .on "START").domArrive n

/-- Tile states from the splice map and BIST: the lowest spares of a cluster take the places of its spliced tiles (R178, R739, R741). -/
def Chip.placeSpares (c : Chip) : Chip :=
  (List.range 8).foldl (fun c cl =>
    let lost := ((tilesOf cl).filter (fun t => t % 52 < 48 && (c.tileRep t).st == .spliced)).length
    (List.range lost).foldl (fun c _ => c.takeSpare cl) c) c

/-- A tile that fails BIST: a soft splice, promoted when it had one (R740, Table 4-5). -/
def Chip.bistFail (c : Chip) (t : Nat) : Chip :=
  if (c.rep.soft.find t).isSome then c.promote t
  else
    let spare := (tilesOf (clusterOf t)).any (fun x => (c.tileRep x).st == .spare)
    (c.splice t .bist).raise (if spare then 80 else 81) t none [fNat "TILE" t]

/-- Step 5 (R171, R180, R735, R736). -/
def Chip.bist (c : Chip) (f : StartFindings) : Chip :=
  let c1 := [19, 20, 8, 9, 10, 11, 0, 1, 2, 3, 4, 5, 6, 7].foldl Chip.startDom c
  let c2 := (c1.domMove 23 .rising "START").domMove 23 .on "START"
  let spliced := (c2.rep.soft.keys ++ c2.rep.fuses.map (·.1)).eraseDups
  let c3 := spliced.foldl (fun c t => c.modTileRep t (fun x => { x with st := .spliced })) c2
  let c4 := (List.range 416).foldl (fun c t => if (c.tileRep t).st = .spliced then c else c.modTileRep t (fun x => { x with last := some c.now, passed := !f.tiles.contains t })) c3
  let c5 := (f.tiles.foldl Chip.bistFail c4).placeSpares
  let c6 := f.rows.foldl (fun c r => c.raise 78 r none [fNat "MACRO" r]) (c5.rep' (fun r => { r with sram := [], dram := [] }))
  let c7 := f.ppr.foldl (fun c g => ((c.raise 79 g none [fNat "GROUP" g]).record 204 g [fNat "GROUP" g, fSym "KIND" "ROW"]).rep' (fun r =>
    { r with pprUsed := r.pprUsed.put 0 (g / 16) (r.pprUsed.get 0 (g / 16) + 1) })) c6
  let c8 := f.stackMods.foldl (fun c s => c.raise (72 + s) s none [fNat "STACK" s]) c7
  let c9 := ((f.stackMods.flatMap groupsOf) ++ f.groups).foldl Chip.groupRetire c8
  let c10 := ((c9.domMove 23 .falling "START").domMove 23 .off "START").advance 900000000
  [16, 17, 18, 21].foldl Chip.startDom c10

/-! ### Steps 6 and 7: configuration and graphs -/

/-- Step 6 (R172, R181): the committed configuration is applied, quads and the rope logic rise where lanes need them. -/
def Chip.restoreCfg (c : Chip) (bad : Bool) : Chip :=
  let c1 := if bad then ({ c with cfg := Cfg.reset } : Chip).raise 133 0 none [] else c
  let c2 := c1.record 148 0 (if bad then [fWord "LOST"] else [fWord "RESTORED", fNat "COMMIT" c.trev.commitNum])
  let c3 := (c2.unit' (fun u => { u with cfgBad := bad }))
  let c4 := if c3.cfg.time.ref = .ext10 ∧ c3.clk.extValid then c3.changeRef .ext10 else c3
  let quads := (List.range 4).filter (fun q => (List.range 4).any (fun i => (c4.laneCfg (4 * q + i)).mode != .off))
  let c5 := quads.foldl (fun c q => c.startDom (12 + q)) c4
  let c6 := if (c5.laneCfg 14).mode = .rope ∧ (c5.laneCfg 15).mode = .rope then c5.startDom 22 else c5
  c6.advance 200000000

/-- An FI of the restored configuration is admitted where it fits, with the bandwidth and tiles that remain (R173, R178). -/
def CM.startAdmit (cm : CM) (fi : Nat) : CM :=
  let c := cm.1
  let f := c.fiCfg fi
  let others := c.placedFis
  if (agreeBad fi f).isSome ∨ (budgetBad fi f).isSome then cm
  else
    let figure := declaredFigure c.cfg.bookHot 0 c.rep.retired.length
    let wide := (wideBad c.fiCfg c.cfg.regions c.rep.privTaken (others ++ [fi])).isNone && decide (bookedSum c.fiCfg (others ++ [fi]) ≤ figure)
    match wide, placeFi true c.fiCfg (c.openTiles []) (c.placement others) fi with
    | true, .ok pl => CM.admitFi cm pl fi true "START"
    | _, _ => ((c.record 149 fi [fFi fi]).raise 21 fi none [fFi fi], cm.2)

/-- Step 7 (R173, R181): images checked and loaded, FIs admitted in the order of R173. -/
def CM.restoreGraphs (cm : CM) (badImages : List Nat) : CM :=
  let c := cm.1
  let have' := (c.cfg.fis.filter (fun e => e.2.image.isSome)).map (·.1)
  let c1 := (have'.filter (fun n => badImages.contains n)).foldl (fun c n =>
    (c.raise 20 n (some n) []).modFi n (fun x => { x with intent := false })) c
  let c2 : Chip := { c1 with cfg := { c1.cfg with fis := c1.cfg.fis.filter (fun e => !badImages.contains e.1) } }
  let good := have'.filter (fun n => !badImages.contains n)
  let c3 := good.foldl (fun c n => c.fiState n .loaded "START") c2
  let c4 := c3.unit' (fun u => { u with camp := u.camp ++ c3.graphCamp })
  let cm1 := (placeOrder c4.fiCfg good).foldl CM.startAdmit (c4, cm.2)
  (cm1.1.advance 1300000000, cm1.2)

/-! ### The whole sequence (R166a, R169) -/

/-- One destruction or erasure of Table 16-2 (R631, R633). -/
def Chip.lifeErase (c : Chip) (what : String) : Chip :=
  match what with
  | "WORK" => (c.keys' (fun k => { k with work := none })).trev' (fun t => { t with sess := t.sess.map (fun e => (e.1, { e.2 with challenge := none })) })
  | "SEAL" => c.keys' (fun k => { k with seals := match k.gen with | some g => k.seals.set g .destroyed | none => k.seals, kek := none, slots := [] })
  | "SEALS" => c.keys' (fun k => { k with seals := k.seals.map (fun _ => .destroyed), kek := none, slots := [] })
  | "KDEV" => c.keys' (fun k => { k with kdev := none, kid := none, ktr := none })
  | "PAIRS" => c.unit' (fun u => { u with accepted := [] })
  | "CONFIG" =>
    ({ c with cfg := Cfg.reset, fis := [] } : Chip).trev' (fun t => { t with commitNum := 0 }) |>.unit' (fun u => { u with cfgBad := true })
  | "BANKS" => c.unit' (fun u => { u with banks := [] })
  | _ => c

/-- The boot ROM completes the destructions and erasures whose done bits are not set (R632). -/
def Chip.settleOwed (c : Chip) : Chip := (c.keys.owed.foldl Chip.lifeErase c).keys' (fun k => { k with owed := [] })

/-- Steps 2 to 7 of a power-on or a cold restart, from the chip that Table 4-7 leaves. -/
def CM.bringUp (c0 : Chip) (kind : StartKind) (f : StartFindings) : CM :=
  let m0 := Mem.reset
  let c1 := (c0.settleOwed.startRecords kind)
  let c1b : Chip := { c1 with clk := { c1.clk with extValid := f.ext10 } }
  let c2 := f.badBanks.foldl (fun c b => c.unit' (fun u => { u with banks := u.banks.map (fun e => if e.1 = b then (b, { e.2 with sigGood := false }) else e) })) c1b
  let c3 := ((c2.advance 10000000).sealStep f.entropyBad).derive
  if c3.keys.life = .scrapped then ((c3.unit' (fun u => { u with open0 := true })).beginSession 0, m0)
  else
    let (w, c4) := c3.pickBank false
    let (s, c5) := c4.pickBank true
    let kind' (missing : Bool) (n : String) : List (Camp × Fields) := if missing then [(Camp.noimage, [fSym "KIND" n])] else []
    let none' := kind' w.isNone "WARDEN" ++ kind' s.isNone "STEWARD"
    if !none'.isEmpty then
      let c6 := (c5.unit' (fun u => { u with camp := u.camp ++ none', open0 := true })).startDom 21
      let c7 : Chip := { c6 with belay := { c6.belay with basecamp := true, start := false } }
      ((none'.foldl (fun c e => c.record 145 0 ([fSym "CAUSE" e.1.name] ++ e.2)) c7).beginSession 0, m0)
    else
      let c6 := c5.unit' (fun u => { u with runW := w, runS := s })
      let c6b := c6.advance 25000000
      let c7 := if kind = .powerOn then c6b.record 272 0 [fSym "OUTPUT" "ALL", fSym "CAUSE" "START"] else c6b
      let c8 := c7.unit' (fun u => { u with camp := u.camp ++ c7.imageCamp, steward := true, open0 := true })
      let c9 := (c8.advance 60000000).beginSession 0
      let c10 := c9.bist f
      if f.macroBad then (c10.raise 77 0 none [], m0)
      else
        let cm := CM.restoreGraphs (c10.restoreCfg (f.cfgBad || c10.unit.cfgBad), m0) f.badImages
        (cm.1.unit' (fun u => { u with edgeDue := true }), cm.2)

/-- POWER_ON: the supply comes into range (R169, R761). -/
def CM.powerOn (cm : CM) (f : StartFindings) : CM :=
  if cm.1.sup.powered then cm
  else
    let c := cm.1.restarted false
    CM.bringUp ((c.advance 30000000).restoreCairn false) .powerOn f

/-- A cold restart (R191): sessions end, the tail is saved, every output is belayed, and steps 2 to 8 run from the next
cycle, so that the records held come before the start event (R194). It waits while a sensor is OVER or LIMIT (R780). -/
def CM.coldStart (cm : CM) (kind : StartKind) (f : StartFindings) : CM :=
  let c := cm.1
  let c1 := (c.unit' (fun u => { u with open0 := false })).endSessions (List.range 16) "RESTART"
  let c2 := c1.presenceEnd "START"
  let c3 := (c2.beginTail (if kind = .life then "LIFE" else "COLD")).advance 30000000
  let c5 := match c3.cairn.save with | some s => (c3.endTail s true).wear 5 0 | none => c3
  let c6 := ({ c5 with belay := { c5.belay with start := true } } : Chip).unit' (fun u => { u with started := false }) |>.aliveStop
  let c7 := (c6.boundOutputs.filter (fun o => !c.belayed o)).foldl Chip.enterBelay (c6.record 272 0 [fSym "OUTPUT" "ALL", fSym "CAUSE" "START"])
  CM.bringUp (((c7.restarted true).restoreCairn true).advance 1) kind f

/-- COLD_RESTART: a cold restart, or the restart of a life-cycle transition, that is pending and may begin (R195). -/
def CM.coldRestart (cm : CM) (f : StartFindings) : CM :=
  match cm.1.unit.restart with
  | some .cold => if cm.1.trev.commit.isSome ∨ (List.range 22).any (fun i => (cm.1.sensor i).st == .overTemp || (cm.1.sensor i).st == .limit) then cm else CM.coldStart cm .cold f
  | some .life => if cm.1.trev.commit.isSome then cm else CM.coldStart cm .life f
  | _ => cm

/-! ### The start edge (R176, R183, R184) -/

/-- Arms an FI at a start edge. -/
def Chip.startArm (c : Chip) (n : Nat) : Chip :=
  if (c.fi n).intent ∧ ((c.fi n).st = .admitted ∨ (c.fi n).st = .stopped) then c.armFi n "START" else c

/-- START_EDGE: the first millisecond boundary after step 7: FIs with run intent arm, or base camp is entered with event 0x091 per cause. -/
def Chip.startEdge (c : Chip) : Chip :=
  if !c.unit.edgeDue then c
  else
    let c1 := (c.advanceToTime c.nextMs).unit' (fun u => { u with edgeDue := false, started := true })
    if c1.unit.camp.isEmpty then
      let c2 : Chip := { c1 with belay := { c1.belay with start := false, basecamp := false } }
      (placeOrder c2.fiCfg (c2.placedFis)).foldl Chip.startArm (c2.belayEnded c1 "START")
    else
      let c2 := c1.unit.camp.foldl (fun c e => c.record 145 0 ([fSym "CAUSE" e.1.name] ++ e.2)) c1
      let c3 : Chip := { c2 with belay := { c2.belay with basecamp := true } }
      let c4 := c3.record 272 0 [fSym "OUTPUT" "ALL", fSym "CAUSE" "BASECAMP"]
      { c4 with belay := { c4.belay with start := false } }

/-! ### Warm and watchdog restarts (R190, R196–R198) -/

/-- A running FI stops because base camp is entered: its run intent is kept (R197). -/
def Chip.campStop (c : Chip) (n : Nat) : Chip :=
  if (c.fi n).st.acts then
    let c1 := (c.modFi n (fun x => { x with rearm := false, ropeStopped := false })).fiState n .stopped "START"
    (((c1.purgeFi n).dropFiHitches n).dropWaits n).modFi n (fun x => { x with opens := [], pendGoose := none, aliveFail := false })
  else c

/-- The steward restarts (R190): sessions and staged sets are lost, the pairing checks run again, session 0 opens. -/
def Chip.warmStart (c : Chip) (kind : StartKind) : Chip :=
  let c1 := (c.unit' (fun u => { u with open0 := false, restart := none })).endSessions (List.range 16) "RESTART"
  let c2 := (c1.presenceEnd "START").rep.steps.keys.foldl (fun c cl => c.stepAbandon cl "RESTART") (c1.presenceEnd "START")
  let c2b := (c2.unit' (fun u => { u with latches := [], regs := { u.regs with scratch := 0 } })).links' (fun l => { l with linkDly := [] })
  let c3 := (c2b.rep' (fun r => { r with from? := c2.clk.cycle })).startRecords kind
  let c4 := (c3.trev' (fun t => { t with challenges := [], fails := [], locks := [] })).advance 200000000
  let was := c4.unit.camp
  let kept := was.filter (fun e => e.1 == .noimage || e.1 == .seal)
  let camp := kept ++ c4.imageCamp ++ c4.graphCamp
  let c5 := c4.unit' (fun u => { u with camp := camp, steward := true, open0 := true })
  let c6 :=
    if camp.isEmpty then (if was.isEmpty then c5 else c5.unit' (fun u => { u with edgeDue := true }))
    else
      let c6 := camp.foldl (fun c e => c.record 145 0 ([fSym "CAUSE" e.1.name] ++ e.2)) c5
      let c7 : Chip := { c6 with belay := { c6.belay with basecamp := true } }
      let c8 := if c5.belay.basecamp then c7 else c7.belayBegun c6 "BASECAMP" true
      (c8.fis.keys).foldl Chip.campStop c8
  c6.beginSession 0

/-- WARM_RESTART: one that is pending, once every answered commit has applied (R195). -/
def Chip.warmRestart (c : Chip) : Chip :=
  if c.unit.restart = some .warm ∧ c.trev.commit.isNone then c.warmStart .warm else c

/-- STEWARD_WATCHDOG: no heartbeat for 2 s: a warm restart, or after three in 3,600 s the steward is left stopped (R198). -/
def Chip.stewardWatchdog (c : Chip) : Chip :=
  match c.alive.heartbeat with
  | none => c
  | some h =>
    if !c.unit.steward then c
    else
      let c1 := c.advanceTo (2000000000 + h)
      let recent := c1.unit.watchdogs.filter (fun t => decide (c1.clk.cycle ≤ 3600000000000 + t))
      if recent.length ≥ 3 then
        ((c1.unit' (fun u => { u with steward := false, stewardStopped := true, open0 := false, watchdogs := recent })).endSessions (List.range 16) "STOPPED").raise 389 0 none []
      else
        let c2 := (c1.unit' (fun u => { u with watchdogs := recent ++ [c1.clk.cycle] })).raise 388 0 none []
        let c3 := c2.warmStart .watchdog
        c3.alive' (fun a => { a with heartbeat := some c3.clk.cycle, heartbeatLost := false })

end Sys2Proof.Machine
end

