-- ==== Sys2Proof/Machine/FaultCommands.lean ====
section
/-!
DEFINITION. The commands of the fault collector, the alive logic and the cairn log (18 of spec/).
-/
namespace Sys2Proof.Machine

/-- A tail save ends and wears its area (R731, R757). -/
def Chip.tailSaved (c : Chip) (ok : Bool) : Chip :=
  match c.cairn.save with
  | some x => if x.complete then c else (c.tailComplete ok).wear 5 0
  | none => c

/-- FAULT_RAISE (R705). -/
def execFaultRaise (raise : Option (Nat × Nat × Option Nat)) (s : State) : Result := s.onChip (fun c => c.faultRaise raise)
/-- LOCKSTEP_MISMATCH (R707). -/
def execLockstepMismatch (s : State) : Result := s.onChip (fun c => c.lockstep)
/-- STEWARD_HEARTBEAT (R722). -/
def execStewardHeartbeat (s : State) : Result := s.onChip (fun c => c.heartbeat)
/-- HEARTBEAT_LOSS (R722). -/
def execHeartbeatLoss (s : State) : Result := s.onChip (fun c => c.heartbeatLoss)
/-- STEWARD_WATCHDOG (R198). -/
def execStewardWatchdog (s : State) : Result := s.onChip (fun c => c.stewardWatchdog)
/-- ALIVE_STOP (R723). -/
def execAliveStop (s : State) : Result := s.onChip (fun c => c.aliveStop)
/-- ALIVE_RESUME (R723). -/
def execAliveResume (s : State) : Result := s.onChip (fun c => c.aliveResume)
/-- ALIVE_MONITOR_FORCE (R723). -/
def execAliveMonitorForce (s : State) : Result := s.onChip (fun c => c.aliveMonitor)
/-- ALIVE_IN_CHANGE (R724). -/
def execAliveInChange (toggling : Bool) (s : State) : Result := s.onChip (fun c => c.aliveIn toggling)
/-- ALIVE_READBACK_FAULT (R725). -/
def execAliveReadbackFault (s : State) : Result := s.onChip (fun c => c.aliveReadback)
/-- CAIRN_WRITE (R729). -/
def execCairnWrite (s : State) : Result := s.onChip (fun c => c.cairnWrite)
/-- TAIL_SAVE_COMPLETE (R731). -/
def execTailSaveComplete (ok : Bool) (s : State) : Result := s.onChip (fun c => c.tailSaved ok)
/-- WARDEN_RESTART (R707). -/
def execWardenRestart (s : State) : Result := s.onChip (fun c => c.wardenRestart)

end Sys2Proof.Machine
end

