-- ==== Sys2Proof/Machine/FlowCommands.lean ====
section
/-!
DEFINITION. The events of the dataflow fabric: tokens, matching, contexts, periods, drains, twins and hitches (05–07, 10, 11 of spec/).
-/
namespace Sys2Proof.Machine

/-- TOKEN_QUEUED (R274). -/
def execTokenQueued (flight : Nat) (s : State) : Result := s.onChip (fun c => c.tokenArrives flight)
/-- TOKEN_SELECT (R264). -/
def execTokenSelect (tile : Fin 416) (s : State) : Result := s.onChip (fun c => c.select tile)
/-- GUARD_REQUEUE (R269). -/
def execGuardRequeue (tile : Fin 416) (s : State) : Result := s.onChip (fun c => c.guardRequeue tile)
/-- PREDICATE_MIRROR_UPDATE (R268). -/
def execPredicateMirrorUpdate (cluster : Fin 8) (frame : Fin 32768) (s : State) : Result := s.onChip (fun c => c.mirrorUpdate (ctxKey cluster frame))
/-- DEEP_SPILL_WRITE (R296). -/
def execDeepSpillWrite (fi : Fin 1024) (s : State) : Result := s.onChip (fun c => c.deepSpillWrite fi)
/-- DEEP_LOOKUP_REPLY (R301). -/
def execDeepLookupReply (fi : Fin 1024) (s : State) : Result := s.onChip (fun c => c.deepLookupReply fi)
/-- CREDIT_GRANT (R312). -/
def execCreditGrant (fi : Fin 1024) (copy : Fin 2) (s : State) : Result := s.onChip (fun c => c.creditGrant fi copy)
/-- FRAME_GRANT (R312). -/
def execFrameGrant (cluster : Fin 8) (s : State) : Result := s.onChip (fun c => c.frameGrant cluster)
/-- MEMORY_REPLY (R377). -/
def execMemoryReply (reply : Nat) (s : State) : Result := s.onChip (fun c => c.memoryReply reply)
/-- DEFERRAL_RETRY (R385). -/
def execDeferralRetry (s : State) : Result := s.onCM (fun cm => CM.deferralRetry cm)
/-- FRAME_WORD_RELEASE (R384). -/
def execFrameWordRelease (tile : Fin 416) (s : State) : Result := s.onChip (fun c => c.frameWordRelease tile)
/-- PAGE_INSTALL (R429). -/
def execPageInstall (tile : Fin 416) (good : Bool) (s : State) : Result := s.onChip (fun c => c.pageInstall tile good)
/-- PAGE_RETRY (R431). -/
def execPageRetry (tile : Fin 416) (s : State) : Result := s.onChip (fun c => c.pageRetry tile)
/-- SHARED_PAGE_RETURN (R430). -/
def execSharedPageReturn (tile : Fin 416) (s : State) : Result := s.onChip (fun c => c.sharedReturn tile)
/-- PAGE_BACKING_REWRITE (R433). -/
def execPageBackingRewrite (tile : Fin 416) (s : State) : Result := s.onChip (fun c => c.pageRewrite tile)
/-- DST_MERGE_EXPIRY (R420). -/
def execDstMergeExpiry (fi : Fin 1024) (copy : Fin 2) (s : State) : Result := s.onCM (fun cm => CM.mergeExpiry cm fi copy)
/-- PURGE_SWEEP (R324). -/
def execPurgeSweep (tile : Fin 416) (s : State) : Result := s.onChip (fun c => c.purgeSweep tile)
/-- PURGE_COMPLETE (R325). -/
def execPurgeComplete (cluster : Fin 8) (frame : Fin 32768) (s : State) : Result := s.onChip (fun c => c.purgeComplete (ctxKey cluster frame))
/-- TIMER_TICK (R250). -/
def execTimerTick (fi : Fin 1024) (s : State) : Result := s.onChip (fun c => c.timerTick fi)
/-- PERIOD_DONE_ARRIVE (R322). -/
def execPeriodDoneArrive (s : State) : Result := s.onChip (fun c => c.periodDone)
/-- DEADLINE_OVERRUN (R217). -/
def execDeadlineOverrun (fi : Fin 1024) (s : State) : Result := s.onChip (fun c => c.deadlineOverrun fi)
/-- SOURCE_LOSS (R216). -/
def execSourceLoss (fi : Fin 1024) (s : State) : Result := s.onChip (fun c => c.sourceLoss fi)
/-- STALL_DETECT (R319). -/
def execStallDetect (fi : Fin 1024) (copy : Fin 2) (s : State) : Result := s.onChip (fun c => c.stallDetect fi copy)
/-- DRAIN_PURGE (R231). -/
def execDrainPurge (fi : Fin 1024) (s : State) : Result := s.onChip (fun c => c.drainPurge fi)
/-- DRAIN_COMPLETE (R227). -/
def execDrainComplete (fi : Fin 1024) (s : State) : Result := s.onChip (fun c => c.drainComplete fi)
/-- REARM_COMPLETE (R117). -/
def execRearmComplete (fi : Fin 1024) (s : State) : Result := s.onChip (fun c => c.rearmComplete fi)
/-- TWIN_COMPARE (R235). -/
def execTwinCompare (fi : Fin 1024) (stream : Nat) (s : State) : Result := s.onCM (fun cm => CM.twinCompare cm fi stream performOp)
/-- TWIN_PARTNER_TIMEOUT (R236). -/
def execTwinPartnerTimeout (fi : Fin 1024) (stream : Nat) (s : State) : Result := s.onChip (fun c => c.twinTimeout fi stream)
/-- HWAIT_TIMEOUT (R460). -/
def execHwaitTimeout (fi : Fin 1024) (s : State) : Result := s.onChip (fun c => c.hwaitTimeout fi)
/-- HITCH_BROKEN (R469). -/
def execHitchBroken (hitch : Nat) (s : State) : Result := s.onChip (fun c => c.hitchBroken hitch)
/-- HITCH_RESTORE (R469). -/
def execHitchRestore (hitch : Nat) (s : State) : Result := s.onChip (fun c => c.hitchRestore hitch)

end Sys2Proof.Machine
end

