-- ==== Sys2Proof/Machine/Schema.lean ====
section
/-!
DEFINITION. The forms of Trevline lines: value types (Table 2-1), argument ranges (Tables 3-3 to 3-8) and the checks every line passes by them
(R30–R32, R75, R93 of spec/).
-/
namespace Sys2Proof.Machine

/-! ### Strings of a particular form (R30, R127) -/

/-- The value of a hexadecimal digit of either case. -/
def hexVal (c : Char) : Option Nat :=
  let n := c.toNat
  if 48 ≤ n ∧ n ≤ 57 then some (n - 48) else if 65 ≤ n ∧ n ≤ 70 then some (n - 55) else if 97 ≤ n ∧ n ≤ 102 then some (n - 87) else none

/-- Digits of a base, most significant first. -/
def digitsVal (base : Nat) (l : List Char) : Option Nat :=
  if l.isEmpty then none
  else l.foldl (fun a c => match a, hexVal c with | some n, some d => if d < base then some (base * n + d) else none | _, _ => none) (some 0)

/-- The pieces between occurrences of a character. -/
def splitChar (c : Char) : List Char → List (List Char)
  | [] => [[]]
  | x :: t => match splitChar c t with
    | [] => [[x]]
    | p :: ps => if x = c then [] :: p :: ps else (x :: p) :: ps

/-- Every element of a list of results, or none. -/
def allSome {α : Type} : List (Option α) → Option (List α)
  | [] => some []
  | some x :: t => (allSome t).map (x :: ·)
  | none :: _ => none

def beValue (base : Nat) (l : List Nat) : Nat := l.foldl (fun a d => base * a + d) 0

/-- Six hexadecimal octets joined by `-` (R127). -/
def parseMac (s : List Char) : Option Nat :=
  let ps := splitChar '-' s
  if ps.length = 6 ∧ ps.all (fun p => p.length == 2) then (allSome (ps.map (digitsVal 16))).map (beValue 256) else none

/-- Groups of 8 hexadecimal digits joined by `-`: their values (R663, R664). -/
def parseGroups (s : List Char) : Option (List Nat) :=
  let ps := splitChar '-' s
  if ps.all (fun p => p.length == 8) then allSome (ps.map (digitsVal 16)) else none

/-- An IPv4 address in decimal octets. -/
def parseV4 (s : List Char) : Option Nat :=
  let ps := splitChar '.' s
  if ps.length = 4 ∧ ps.all (fun p => p.length ≤ 3) then
    match allSome (ps.map (digitsVal 10)) with
    | some l => if l.all (· < 256) then some (beValue 256 l) else none
    | none => none
  else none

/-- The groups of one side of an IPv6 address. -/
def v6Groups (s : List Char) : Option (List Nat) :=
  if s.isEmpty then some []
  else
    let ps := splitChar ':' s
    if ps.all (fun p => !p.isEmpty && p.length ≤ 4) then allSome (ps.map (digitsVal 16)) else none

/-- What stands before and after the first `::`. -/
def splitDouble : List Char → Option (List Char × List Char)
  | ':' :: ':' :: t => some ([], t)
  | x :: t => (splitDouble t).map (fun p => (x :: p.1, p.2))
  | [] => none

/-- An IPv6 address in groups, with at most one `::`. -/
def parseV6 (s : List Char) : Option Nat :=
  match splitDouble s with
  | some (a, b) => match v6Groups a, v6Groups b with
    | some x, some y => if x.length + y.length ≤ 7 then some (beValue 65536 (x ++ List.replicate (8 - x.length - y.length) 0 ++ y)) else none
    | _, _ => none
  | none => match v6Groups s with
    | some x => if x.length = 8 then some (beValue 65536 x) else none
    | none => none

/-- An address of either version: whether it is IPv6, and its value. -/
def parseIp (s : List Char) : Option (Bool × Nat) :=
  match parseV4 s with
  | some a => some (false, a)
  | none => (parseV6 s).map (fun a => (true, a))

/-- A prefix: version, address, length (R127). -/
def parsePfx (s : List Char) : Option (Bool × Nat × Nat) :=
  match splitChar '/' s with
  | [a, l] => match parseIp a, (if l.length ≤ 3 then digitsVal 10 l else none) with
    | some (v, x), some n => some (v, x, n)
    | _, _ => none
  | _ => none

/-- Host bits of a prefix are clear and its length is within the address (R555). -/
def pfxOk (v6 : Bool) (addr len : Nat) : Bool :=
  let bits := if v6 then 128 else 32
  decide (len ≤ bits) && addr % 2 ^ (bits - len) == 0

/-- A keyword KIND-n: the kind and the number (R94). -/
def bindRef (s : String) : Option (String × Nat) :=
  match (splitChar '-' s.toList).reverse with
  | d :: k :: r => (digitsVal 10 d).map (fun n => (String.ofList (List.intercalate ['-'] (k :: r).reverse), n))
  | _ => none

/-! ### Types and ranges of arguments -/

/-- The type and the range of an argument. -/
inductive ATy
  | int (lo hi : Int)
  | intOr (lo hi : Int) (kws : List String)
  | hex (lo hi mult : Nat)
  | kw (l : List String)
  | str (lo hi : Nat)
  | mac | pfx
  | groups                  -- groups of 8 hexadecimal digits joined by `-` (R664)
  | ip (empty : Bool)
  | dur (lo hi : Int)
  | time
  | list (lo hi : Int) (none' : Bool)
  | kws (l : List String)
  | bind (l : List (String × Nat)) (plain : List String)   -- KIND-n with the highest n, and keywords without a number
deriving DecidableEq, Repr

def intForm (i : Int) : Bool := decide (-9223372036854775808 ≤ i ∧ i ≤ 18446744073709551615)
/-- How many items a list has after its ranges are expanded. -/
def listSize (l : List (Int × Int)) : Int := l.foldl (fun n p => n + (p.2 - p.1 + 1)) 0

/-- A value has the form of its type and lies within the type's own limits; else the code of R30. -/
def ATy.form (t : ATy) (v : AVal) : Option String :=
  match t, v with
  | .int _ _, .int i => if intForm i then none else some "010C"
  | .intOr _ _ _, .int i => if intForm i then none else some "010C"
  | .intOr _ _ ks, .kw s => if ks.contains s then none else some "0108"
  | .hex _ _ _, .hex n => if n < 18446744073709551616 then none else some "010C"
  | .kw l, .kw s => if l.contains s then none else some "0108"
  | .str _ _, .str s => if s.length ≤ 255 then none else some "010C"
  | .mac, .str s => if s.length ≤ 255 ∧ (parseMac s).isSome then none else some "010C"
  | .ip e, .str s => if (s.isEmpty && e) ∨ (s.length ≤ 255 ∧ (parseIp s).isSome) then none else some "010C"
  | .pfx, .str s => if s.length ≤ 255 ∧ (parsePfx s).isSome then none else some "010C"
  | .groups, .str s => if s.length ≤ 255 ∧ (parseGroups s).isSome then none else some "010C"
  | .dur _ _, .dur _ => none
  | .time, .time s n => if s < 281474976710656 ∧ n < 1000000000 then none else some "010C"
  | .list _ _ _, .int i => if intForm i then none else some "010C"
  | .list _ _ _, .list l => if l.all (fun p => intForm p.1 && intForm p.2 && decide (p.1 ≤ p.2)) ∧ listSize l ≤ 1024 then none else some "010C"
  | .list _ _ true, .kw s => if s = "NONE" then none else some "0108"
  | .kws l, .kw s => if l.contains s then none else some "0108"
  | .kws l, .kws ss => if ss.length > 1024 then some "010C" else if ss.all l.contains then none else some "0108"
  | .bind l plain, .kw s =>
    if plain.contains s then none
    else match bindRef s with
      | some (k, n) => if l.any (fun e => e.1 == k && decide (n ≤ e.2)) then none else some "0108"
      | none => some "0108"
  | _, _ => some "010C"

/-- A value lies in its argument's own range (0701). -/
def ATy.inRange (t : ATy) (v : AVal) : Bool :=
  match t, v with
  | .int lo hi, .int i | .intOr lo hi _, .int i => decide (lo ≤ i ∧ i ≤ hi)
  | .hex lo hi m, .hex n => decide (lo ≤ n ∧ n ≤ hi ∧ n % m = 0)
  | .str lo hi, .str s => decide (lo ≤ s.length ∧ s.length ≤ hi)
  | .dur lo hi, .dur n => decide (lo ≤ n ∧ n ≤ hi)
  | .list lo hi _, .int i => decide (lo ≤ i ∧ i ≤ hi)
  | .list lo hi _, .list l => l.all (fun p => decide (lo ≤ p.1 ∧ p.2 ≤ hi))
  | .pfx, .str s => match parsePfx s with | some (v, a, l) => pfxOk v a l | none => false
  | _, _ => true

/-- An argument of a line. -/
structure ArgSpec where
  name : String
  ty : ATy
  req : Bool := false       -- required on every line (R93)
deriving DecidableEq, Repr

/-- A line of Tables 3-3 to 3-8. -/
structure VerbSpec where
  obj : String
  level : Nat               -- 0 VIEW, 1 OPERATE, 2 CONFIGURE, 3 SECURE
  stage : Bool := false
  sel : Option Nat := none  -- size of the selector's numbering
  names : List String := [] -- arguments of a SET line that name an item and set nothing
  isSet : Bool := false
  words : List String := [] -- keywords that stand without a value, one of which must appear
  args : List ArgSpec := []
deriving DecidableEq, Repr

/-- The arguments of a line in their order, each name once, each value in the form of its type; a SET line sets a field (R30, R32, R93). -/
def VerbSpec.lexBad (v : VerbSpec) (args : Args) : Bad :=
  let rec go : Args → List String → Bad
    | [], _ => if v.isSet ∧ args.all (fun a => v.names.contains a.name) then some ("010A", []) else none
    | a :: t, seen =>
      match v.args.find? (fun s => s.name == a.name) with
      | none => some ("0108", [])
      | some s =>
        if seen.contains a.name then some ("010B", [])
        else match s.ty.form a.val with
          | some code => some (code, [])
          | none => go t (a.name :: seen)
  go args []

/-- Required arguments are there (070A) and values lie in their ranges (0701). -/
def VerbSpec.rangeBad (v : VerbSpec) (args : Args) : Bad :=
  firstBad ((v.args.filter (fun s => s.req && !args.any (fun a => a.name == s.name))).map (fun s => some ("070A", [fSym "FIELD" s.name])) ++
    args.map (fun a => match v.args.find? (fun s => s.name == a.name) with
      | some s => must (s.ty.inRange a.val) "0701" []
      | none => none))

/-! ### Reading arguments -/

def Args.get? (l : Args) (n : String) : Option AVal := (l.find? (fun a => a.name == n)).map Arg.val
def Args.has (l : Args) (n : String) : Bool := (Args.get? l n).isSome
def Args.int? (l : Args) (n : String) : Option Nat :=
  match Args.get? l n with | some (.int i) => some i.toNat | some (.hex k) => some k | some (.dur d) => some d.toNat | _ => none
def Args.signed? (l : Args) (n : String) : Option Int :=
  match Args.get? l n with | some (.int i) => some i | some (.dur d) => some d | _ => none
def Args.kw? (l : Args) (n : String) : Option String := match Args.get? l n with | some (.kw s) => some s | _ => none
def Args.str? (l : Args) (n : String) : Option (List Char) := match Args.get? l n with | some (.str s) => some s | _ => none
def Args.time? (l : Args) (n : String) : Option (Nat × Nat) := match Args.get? l n with | some (.time a b) => some (a, b) | _ => none
def Args.on? (l : Args) (n : String) : Option Bool := (Args.kw? l n).map (· == "ON")

/-- The items of a list in the order written, ranges expanded, each once. -/
def expand (l : List (Int × Int)) : List Nat :=
  (l.flatMap (fun p => (List.range (p.2 - p.1 + 1).toNat).map (p.1.toNat + ·))).eraseDups
def Args.list? (l : Args) (n : String) : Option (List Nat) :=
  match Args.get? l n with
  | some (.int i) => some [i.toNat]
  | some (.list x) => some (sortNats (expand x))
  | some (.kw _) => some []
  | _ => none
def Args.kws? (l : Args) (n : String) : Option (List String) :=
  match Args.get? l n with | some (.kw s) => some [s] | some (.kws x) => some x | _ => none

/-- The first selected item outside the numbering (0301), and the items selected, in ascending order (R31). -/
def Selector.outside (size : Nat) : Selector → Option Int
  | .all => none
  | .items l => l.findSome? (fun p => if p.1 < 0 then some p.1 else if p.2 < p.1 then none else if p.2 ≥ (size : Int) then some (max p.1 (size : Int)) else none)
def Selector.members (size : Nat) : Selector → List Nat
  | .all => List.range size
  | .items l => sortNats (l.flatMap (fun p => (List.range (min (p.2 + 1) (size : Int) - p.1).toNat).map (p.1.toNat + ·)))

/-- Exactly one, or at most one, of alternative arguments appears (R93). -/
def oneOf (args : Args) (l : List String) (needed : Bool) : Bad :=
  match l.filter (Args.has args) with
  | [] => if needed then some ("070A", [⟨"FIELD", .syms l⟩]) else none
  | [_] => none
  | more => some ("0702", [⟨"FIELDS", .syms more⟩])

def levelNames : List String := ["VIEW", "OPERATE", "CONFIGURE", "SECURE"]
def levelOf (s : String) : Nat := levelNames.idxOf s
def onOff : ATy := .kw ["ON", "OFF"]
def secs (a b : Int) : ATy := .dur (a * 1000000000) (b * 1000000000)

end Sys2Proof.Machine
end

