-- ==== Sys2Proof/Machine/Apply.lean ====
section
/-!
DEFINITION. What each staged line changes in the configuration (R75, R76, R92, Tables 3-3 to 3-8 of spec/).
-/
namespace Sys2Proof.Machine

/-! ### Fields of SET lines -/

def Cfg.setUnit (g : Cfg) : UnitField → Cfg
  | .baud n => { g with baud := n }
  | .parity p => { g with parity := p }
  | .idleSerial n => { g with idle := (n, g.idle.2) }
  | .idleUsb n => { g with idle := (g.idle.1, n, g.idle.2.2) }
  | .idleTcp n => { g with idle := (g.idle.1, g.idle.2.1, n) }
  | .name s => { g with name := s }
  | .bookHot b => { g with bookHot := b }
  | .bookReserve n => { g with bookReserve := n }
  | .graphKey k => { g with graphKey := k }

def FiCfg.setField (f : FiCfg) : FiField → FiCfg
  | .cls n => { f with cls := n }
  | .rank n => { f with rank := some n }
  | .twin b => { f with twin := b }
  | .rope b => { f with rope := b }
  | .fallback b => { f with fallback := b }
  | .period p => { f with period := p, periodSet := true }
  | .psrc n => { f with psrc := some n }
  | .tick n => { f with tick := some n }
  | .deadline n => { f with deadline := some n }
  | .tiles n => { f with tiles := n }
  | .pages n => { f with pages := n }
  | .pinned n => { f with pinned := n }
  | .hashed n => { f with hashed := n }
  | .frames n => { f with frames := n }
  | .credit n => { f with credit := n }
  | .deep n => { f with deep := n }
  | .bw n => { f with bw := n }
  | .stall n => { f with stall := n }
  | .misbehave n => { f with misbehave := n }

def PortCfg.setField (p : PortCfg) : PortField → PortCfg
  | .pvid n => { p with pvid := n }
  | .vlans l => { p with vlans := l }
  | .prio n => { p with prio := n }
  | .learn n => { p with learn := n }
  | .flood b => { p with flood := b }
  | .redund r => { p with redund := r }
  | .peer n => { p with peer := some n }
  | .ip s => { p with ip := s }
  | .gateway s => { p with gateway := s }

def TimeCfg.setField (t : TimeCfg) : TimeField → TimeCfg
  | .ref r => { t with ref := r }
  | .ptp l => { t with ptp := l }
  | .irig b => { t with irig := b }
  | .pps b => { t with pps := b }
  | .utcOffset n => { t with utcOffset := n }
  | .leap l => { t with leap := l }
  | .leapAt a => { t with leapAt := some a }
  | .holdover n => { t with holdover := n }

/-! ### Lines -/

def HGroup.init : HGroup := { fis := [], level := 1 }

def Cfg.modFi (g : Cfg) (n : Nat) (f : FiCfg → FiCfg) : Cfg := { g with fis := g.fis.put FiCfg.init n (f (g.fis.get FiCfg.init n)) }

/-- An entry that ADD creates must be absent, one that DELETE removes must be present. -/
def absent {α : Type} (t : Tbl α) (n : Nat) (code : String) (fs : Fields) : Bad := must (t.find n).isNone code fs
def present' {α : Type} (t : Tbl α) (n : Nat) (fs : Fields) : Bad := must (t.find n).isSome "0302" fs

def SameKey (m v : Nat) (e : MacEnt) : Bool := e.mac == m && e.vlan == v

/-- The configuration after one edit, and the rule of COMMIT it breaks (R75, R114, R221, R555). -/
def Cfg.edit (g : Cfg) : Edit → Cfg × Bad
  | .unit fs => (fs.foldl Cfg.setUnit g, none)
  | .addUser a => ({ g with users := g.users.filter (fun u => u.user != a.user) ++ [a] },
      must (g.users.all (fun u => u.user != a.user)) "0702" [⟨"USER", .str (String.ofList a.user)⟩])
  | .delUser u => ({ g with users := g.users.filter (fun x => x.user != u) },
      must (g.users.any (fun x => x.user == u)) "0302" [⟨"USER", .str (String.ofList u)⟩])
  | .loadFi n i => (g.modFi n (fun f => { f with image := some i }), none)
  | .fi n fs => (g.modFi n (fun f => fs.foldl FiCfg.setField f), none)
  | .addIn n p s => (g.modFi n (fun f => { f with ins := f.ins.set p s }), absent (g.fis.get FiCfg.init n).ins p "0706" [fFi n, fNat "IN" p])
  | .addOut n p t => (g.modFi n (fun f => { f with outs := f.outs.set p t }), absent (g.fis.get FiCfg.init n).outs p "0706" [fFi n, fNat "OUT" p])
  | .addChan n c peer => ({ g with chans := g.chans.set c { sender := n, peer := peer } },
      firstBad [must (peer != n) "0702" [fFi n, fNat "CHAN" c, fSym "FIELDS" "PEER"], absent g.chans c "0706" [fFi n, fNat "CHAN" c]])
  | .addPoint n p h w => (g.modFi n (fun f => { f with points := f.points.set p { hitch := h, window := w } }),
      absent (g.fis.get FiCfg.init n).points p "0702" [fFi n, fNat "POINT" p])
  | .delFi n => ({ g with fis := g.fis.del n, chans := g.chans.filter (fun e => e.2.sender != n) }, none)
  | .delIn n p => (g.modFi n (fun f => { f with ins := f.ins.del p }), present' (g.fis.get FiCfg.init n).ins p [fFi n, fNat "IN" p])
  | .delOut n p => (g.modFi n (fun f => { f with outs := f.outs.del p }), present' (g.fis.get FiCfg.init n).outs p [fFi n, fNat "OUT" p])
  | .delChan n c => ({ g with chans := g.chans.del c }, must ((g.chans.find c).map Chan.sender == some n) "0302" [fFi n, fNat "CHAN" c])
  | .delPoint n p => (g.modFi n (fun f => { f with points := f.points.del p }), present' (g.fis.get FiCfg.init n).points p [fFi n, fNat "POINT" p])
  | .repair t i => ({ g with traverse := t.getD g.traverse, interval := i.getD g.interval }, none)
  | .domain n on => ({ g with doms := g.doms.set n on }, none)
  | .lane n m f =>
    let l := g.lanes.get LaneCfg.init n
    ({ g with lanes := g.lanes.put LaneCfg.init n { mode := m.getD l.mode, fec := f.getD l.fec } }, none)
  | .port n fs => ({ g with ports := g.ports.put PortCfg.init n (fs.foldl PortCfg.setField (g.ports.get PortCfg.init n)) }, none)
  | .addMac m v ps _ => ({ g with macs := g.macs.filter (fun e => !SameKey m v e) ++ [{ mac := m, vlan := v, static := true, ports := ps, stamp := 0 }] },
      must (!g.macs.any (SameKey m v)) "0702" [fSym "TABLE" "MAC"])
  | .delMac m v _ => ({ g with macs := g.macs.filter (fun e => !SameKey m v e) }, must (g.macs.any (SameKey m v)) "0302" [fSym "TABLE" "MAC"])
  | .addPfx v6 p _ =>
    let l := if v6 then g.lpm6 else g.lpm4
    let l' := l ++ [p]
    (if v6 then { g with lpm6 := l' } else { g with lpm4 := l' },
      must (!l.any (fun e => e.addr == p.addr && e.len == p.len)) "0702" [fSym "TABLE" (if v6 then "LPM6" else "LPM4")])
  | .delPfx v6 a n _ =>
    let l := if v6 then g.lpm6 else g.lpm4
    let l' := l.filter (fun e => !(e.addr == a && e.len == n))
    (if v6 then { g with lpm6 := l' } else { g with lpm4 := l' },
      must (l.any (fun e => e.addr == a && e.len == n)) "0302" [fSym "TABLE" (if v6 then "LPM6" else "LPM4")])
  | .age n => ({ g with age := n }, none)
  | .loadTable v6 ps => (if v6 then { g with lpm6 := ps } else { g with lpm4 := ps }, none)
  | .addSub n s => ({ g with subs := g.subs.set n s }, absent g.subs n "0702" [fNat "SUB" n])
  | .addPub n p => ({ g with pubs := g.pubs.set n p }, absent g.pubs n "0702" [fNat "PUB" n])
  | .delSub n => ({ g with subs := g.subs.del n }, present' g.subs n [fNat "SUB" n])
  | .delPub n => ({ g with pubs := g.pubs.del n }, present' g.pubs n [fNat "PUB" n])
  | .loadSub n t => ({ g with dtempl := g.dtempl.set n t }, none)
  | .loadPub n t => ({ g with etempl := g.etempl.set n t }, none)
  | .time fs => ({ g with time := fs.foldl TimeCfg.setField g.time }, none)
  | .group k fis lv =>
    let x := g.groups.get HGroup.init k
    ({ g with groups := g.groups.put HGroup.init k { fis := fis.getD x.fis, level := lv.getD x.level } }, none)
  | .addRegion r b l => ({ g with regions := g.regions.set r { base := b, len := l } }, absent g.regions r "0702" [fNat "REGION" r])
  | .delRegion r => ({ g with regions := g.regions.del r }, present' g.regions r [fNat "REGION" r])
  | .debounce n => ({ g with debounce := n }, none)
  | .touch t th dr =>
    let x := g.touch.get TouchCfg.init t
    ({ g with touch := g.touch.put TouchCfg.init t { threshold := th.getD x.threshold, drift := dr.getD x.drift } }, none)
  | .led l p => ({ g with ledFault := g.ledFault.put 3 l p }, none)
  | .trip n m s p =>
    let x := g.trips.get TripCfg.init n
    ({ g with trips := g.trips.put TripCfg.init n { minPulse := m.getD x.minPulse, supervise := s.getD x.supervise, plug := p.getD x.plug } }, none)
  | .input n v f i =>
    let x := g.inputs.get InputCfg.init n
    ({ g with inputs := g.inputs.put InputCfg.init n { vnom := v.getD x.vnom, filter := f.getD x.filter, invert := i.getD x.invert } }, none)
  | .faultCls n k => ({ g with faultMap := g.faultMap.set n k }, none)

/-- A staged DELETE takes back what an earlier line of the same staged set added (R85). -/
def Edit.takesBack : Edit → Edit → Bool
  | .delUser u, .addUser a => a.user == u
  | .delIn n p, .addIn m q _ => n == m && p == q
  | .delOut n p, .addOut m q _ => n == m && p == q
  | .delChan n c, .addChan m d _ => n == m && c == d
  | .delPoint n p, .addPoint m q _ _ => n == m && p == q
  | .delMac m v _, .addMac m' v' _ _ => m == m' && v == v'
  | .delPfx v6 a n _, .addPfx w6 p _ => v6 == w6 && p.addr == a && p.len == n
  | .delSub n, .addSub m _ => n == m
  | .delPub n, .addPub m _ => n == m
  | .delRegion r, .addRegion q _ _ => r == q
  | .delFi n, .addIn m _ _ => n == m
  | .delFi n, .addOut m _ _ => n == m
  | .delFi n, .addChan m _ _ => n == m
  | .delFi n, .addPoint m _ _ _ => n == m
  | _, _ => false

/-- The edits of a staged set with one more line: DELETE of one entry takes back the latest line that added it, DELETE of a whole FI all that were
added to it (R75, R85). -/
def joinEdit (l : List Edit) (e : Edit) : List Edit :=
  match e with
  | .delFi _ => l.filter (fun x => !e.takesBack x) ++ [e]
  | _ => if l.any e.takesBack then (l.reverse.eraseP e.takesBack).reverse else l ++ [e]

/-- The staged set applied in the order of its lines, with what COMMIT has against them (R75, R85, R92, R93). -/
def Cfg.stage (g : Cfg) (l : List Staged) : Cfg × List Bad :=
  let extras := l.map (fun s => must s.extra.isEmpty "0702" [⟨"FIELDS", .syms s.extra⟩])
  ((l.flatMap Staged.edits).foldl joinEdit []).foldl (fun a e =>
    let (g', b) := a.1.edit e
    (g', a.2 ++ [b])) (g, extras)

end Sys2Proof.Machine
end

