-- ==== Sys2Proof/Machine/Validate.lean ====
section
/-!
DEFINITION. What COMMIT validates: every agreement rule, admission, bindings and bookings of the configuration it would leave (R76, R85, R87, R104, R105,
R109, R122, R124, R128, R130, R133–R136, R142, R150, R201–R206, R210, R218–R221, R405, R467, R511, R541, R556, R568, R587, R672, R769–R772 of spec/).
-/
namespace Sys2Proof.Machine

/-! ### The order of R87 -/

/-- The step of R87 that a code belongs to: its second digit. -/
def codeStep (code : String) : Nat := match code.toList with | _ :: d :: _ => d.toNat - 48 | _ => 10

/-- The first failing rule: of the lowest step, the first listed. -/
def firstFailing (l : List Bad) : Bad :=
  (List.range 10).findSome? (fun k => l.findSome? (fun b => match b with | some (c, fs) => if codeStep c = k then some (c, fs) else none | none => none))

/-! ### What the commit would leave -/

/-- FIs that would be placed: an image and a CLASS (R205). -/
def Cfg.placed (g : Cfg) : List Nat := (g.fis.filter (fun e => e.2.image.isSome && decide (e.2.cls < 4))).map (·.1)
def Cfg.fi (g : Cfg) (n : Nat) : FiCfg := g.fis.get FiCfg.init n

/-- FIs a staged line loads or returns to EMPTY. -/
def loads (l : List Edit) (n : Nat) : Bool := l.any (fun e => match e with | .loadFi m _ => m == n | _ => false)
def deletes (l : List Edit) (n : Nat) : Bool := l.any (fun e => match e with | .delFi m => m == n | _ => false)

/-- The FIs a staged set changes, in ascending number (R76). -/
def editFi : Edit → Option Nat
  | .loadFi n _ | .fi n _ | .addIn n _ _ | .addOut n _ _ | .addChan n _ _ | .addPoint n _ _ _ | .delFi n | .delIn n _ | .delOut n _ | .delChan n _
  | .delPoint n _ => some n
  | _ => none
def touchedFis (l : List Edit) : List Nat := sortNats (l.filterMap editFi)

/-- The domains a staged set sets OFF: the last line for each counts (R75). -/
def offsOf (l : List Edit) : List Nat :=
  (List.range 24).filter (fun n => (l.filterMap (fun e => match e with | .domain m on => if m = n then some on else none | _ => none)).getLast? == some false)

/-- An FI keeps its tiles: one that acts, or one whose placement fields stand and whose clusters stay ON (R204, R770). -/
def Chip.keepsTiles (c : Chip) (g : Cfg) (es : List Edit) (offs : List Nat) (n : Nat) : Bool :=
  let a := c.fiCfg n
  let b := g.fi n
  let st := (c.fi n).st
  st.placed && !loads es n &&
    (st.acts || (a.tiles == b.tiles && a.pages == b.pages && a.pinned == b.pinned && a.hashed == b.hashed && a.frames == b.frames && a.twin == b.twin &&
      a.cls == b.cls && (c.fi n).copies.all (fun x => !offs.contains x.cluster && c.domOn x.cluster)))

/-- The nominal period of an SV or TIMER source (Table 5-5). -/
def Cfg.nominal (g : Cfg) (f : FiCfg) : Option Nat :=
  match f.period with
  | .timer => f.tick
  | .goose => none
  | .sv => (f.psrc.bind g.subs.find).bind (fun s => (g.dtempl.find s.template).bind (fun t => if t.rate = 0 then none else some (1000000000 / t.rate)))

/-! ### States and table generations -/

/-- DELETE FI and LOAD FI need a quiet FI; the fields of R202 stand while it acts (R122, R202). -/
def Chip.stateRules (c : Chip) (g : Cfg) (es : List Edit) : List Bad :=
  (sortNats (touchedFis es)).flatMap (fun n =>
    let a := c.fiCfg n
    let b := g.fi n
    let e (same : Bool) (name : String) : Bad := must same "0401" [fFi n, fSym "FIELD" name]
    if (c.fi n).st.acts then
      [must (!deletes es n) "0401" [fFi n], e (!loads es n) "IMAGE", e (a.cls == b.cls) "CLASS", e (a.twin == b.twin) "TWIN", e (a.rope == b.rope) "ROPE",
       e (a.period == b.period && a.periodSet == b.periodSet) "PERIOD", e (a.psrc == b.psrc) "PSRC", e (a.tick == b.tick) "TICK", e (a.tiles == b.tiles) "TILES",
       e (a.pages == b.pages) "PAGES", e (a.pinned == b.pinned) "PINNED", e (a.deep == b.deep) "DEEP"]
    else [])

def tableName (k : Nat) : String := ["MAC", "LPM4", "LPM6", "SUB"].getD k "MAC"

/-- GEN= of a staged ADD or DELETE TABLE (R130). -/
def Chip.genRules (c : Chip) (es : List Edit) : List Bad :=
  es.map (fun e =>
    let chk (k : Nat) (g : Option Nat) : Bad := match g with
      | some n => must (n == c.sw.gens.get 0 k) "0406" [fSym "TABLE" (tableName k), fNat "GEN" (c.sw.gens.get 0 k)]
      | none => none
    match e with
    | .addMac _ _ _ gen | .delMac _ _ gen => chk 0 gen
    | .addPfx v6 _ gen | .delPfx v6 _ _ gen => chk (if v6 then 2 else 1) gen
    | _ => none)

/-! ### Tables (R134, R135, R541, R556) -/

/-- Places a static entry, removing a learned one where it occupies the place (R134). -/
def Switch.placeStatic (s : Switch) (e : MacEnt) : Option Switch :=
  let s0 := s.macRemove e.vlan e.mac
  match s0.macInsert e with
  | some s1 => some s1
  | none =>
    let i := macSlot false e.vlan e.mac
    let j := macSlot true e.vlan e.mac
    match s0.half0.find i, s0.half1.find j, s0.stash.find? (fun x => !x.static) with
    | some x, _, _ => if !x.static then some { s0 with half0 := s0.half0.set i e } else
      match s0.half1.find j, s0.stash.find? (fun x => !x.static) with
      | some y, st => if !y.static then some { s0 with half1 := s0.half1.set j e } else st.map (fun z => { s0 with stash := s0.stash.erase z ++ [e] })
      | none, _ => none
    | none, _, _ => none

/-- The MAC table with the committed static entries replaced by others. -/
def Switch.buildMacs (s : Switch) (old new : List MacEnt) : Option Switch :=
  let s0 := (old.filter (fun e => !new.contains e)).foldl (fun s e => s.macRemove e.vlan e.mac) s
  (new.filter (fun e => !old.contains e)).foldl (fun (a : Option Switch) e => a.bind (fun s => s.placeStatic e)) (some s0)

def Chip.tableRules (c : Chip) (g : Cfg) : List Bad :=
  let trie (v6 : Bool) (old new : List Pfx) : Bad :=
    match if old = new then none else if new.length > (if v6 then 4096 else 16384) then some 0 else trieShort v6 old new with
    | some k => some ("0503", [fSym "TABLE" (if v6 then "LPM6" else "LPM4"), fNat "LEVEL" k])
    | none => none
  [must (g.users.length ≤ 32) "0503" [fSym "FIELD" "USER"],
   must (g.macs = c.cfg.macs || (c.sw.buildMacs c.cfg.macs g.macs).isSome) "0503" [fSym "TABLE" "MAC"],
   trie false c.cfg.lpm4 g.lpm4, trie true c.cfg.lpm6 g.lpm6,
   must (g.subs = c.cfg.subs || (c.sw.subBuild g.subs).isSome) "0503" [fSym "TABLE" "SUB"]]

/-! ### Agreement between fields -/

/-- A redundant port's PEER is set to it in return with the matching value (R133). -/
def Cfg.redundOk (g : Cfg) (p : Nat) : Bool :=
  let x := g.ports.get PortCfg.init p
  match x.redund, x.peer with
  | .none, _ => true
  | r, some q =>
    let y := g.ports.get PortCfg.init q
    q != p && y.peer == some p && (match r with | .prpA => y.redund == .prpB | .prpB => y.redund == .prpA | r => y.redund == r)
  | _, none => false

/-- A leap's LEAPAT (R93, R142). -/
def Chip.leapRule (c : Chip) (t : TimeCfg) : Bad :=
  match t.leap, t.leapAt with
  | .none, some _ => some ("0702", [fSym "FIELDS" "LEAPAT"])
  | .none, none => none
  | _, none => some ("070A", [fSym "FIELD" "LEAPAT"])
  | _, some a => must (a.2 == 0 && !timeLe a c.nextMs) "0702" [fSym "FIELDS" "LEAPAT"]

def protoOk (t : SubType) (goose : Bool) : Bool := t.isGoose == goose

/-- Agreement rules between fields of unit-wide objects (R109, R128, R133, R142, R511, R541, R568, R587). -/
def Chip.unitRules (c : Chip) (g : Cfg) (es : List Edit) : List Bad :=
  let users := es.any (fun e => match e with | .addUser _ | .delUser _ => true | _ => false)
  let lane (n : Nat) : LaneCfg := g.lanes.get LaneCfg.init n
  let keys := g.subs.flatMap (fun e => (e.2.entries e.1).map (fun x => (e.1, x)))
  [must (!users || g.users.any (fun u => u.level == 3)) "0702" [⟨"FIELDS", .syms ["USER", "LEVEL"]⟩]] ++
  (List.range 16).map (fun n => must ((lane n).mode.fecs.contains (lane n).fec) "0702" [fNat "LANE" n, ⟨"FIELDS", .syms ["MODE", "FEC"]⟩]) ++
  (List.range 16).map (fun n => must ((lane n).mode != .rope || (14 ≤ n && (lane 14).mode == (lane 15).mode)) "0702" [fNat "LANE" n, fSym "FIELDS" "MODE"]) ++
  g.ports.map (fun e => must (e.2.vlans.contains e.2.pvid) "0702" [fNat "PORT" e.1, ⟨"FIELDS", .syms ["PVID", "VLANS"]⟩]) ++
  g.ports.map (fun e => must (g.redundOk e.1) "0702" [fNat "PORT" e.1, ⟨"FIELDS", .syms ["REDUND", "PEER"]⟩]) ++
  [c.leapRule g.time] ++
  g.pubs.map (fun e => must (e.2.min ≤ e.2.max) "0702" [fNat "PUB" e.1, ⟨"FIELDS", .syms ["MIN", "MAX"]⟩]) ++
  g.pubs.map (fun e => must (((g.etempl.find e.2.template).map (fun t => protoOk e.2.typ t.goose)).getD true) "0702" [fNat "PUB" e.1, ⟨"FIELDS", .syms ["TYPE", "TEMPLATE"]⟩]) ++
  g.subs.map (fun e => must (((g.dtempl.find e.2.template).map (fun t => protoOk e.2.typ t.goose)).getD true) "0702" [fNat "SUB" e.1, ⟨"FIELDS", .syms ["TYPE", "TEMPLATE"]⟩]) ++
  keys.map (fun k => match keys.find? (fun j => j.1 < k.1 && j.2.same k.2.typ k.2.port k.2.key) with
    | some j => some ("0702", [fNat "SUB" k.1, fNat "PORT" k.2.port, fNat "OTHER" j.1])
    | none => none)

/-- The holder of some hitch of a list of keys. -/
def Chip.heldBy (c : Chip) (p : Nat → Bool) : Option Nat := (c.fab.hitches.find? (fun e => p e.1 && e.2.holder != 0)).map (fun e => e.2.holder)

/-- Hitch groups and regions (R150, R405, R467). -/
def Chip.hitchRules (c : Chip) (g : Cfg) (es : List Edit) : List Bad :=
  es.map (fun e => match e with
    | .group k _ _ => if g.groups.find k = c.cfg.groups.find k then none else match c.heldBy (fun h => h / 16 == k && h < 256) with
      | some m => some ("0702", [fNat "GROUP" k, fMaster "HOLDER" m])
      | none => none
    | .delRegion r => match c.heldBy (fun h => 256 ≤ h && (h - 256) / 2097152 == r) with
      | some m => some ("0702", [fNat "REGION" r, fMaster "HOLDER" m])
      | none => none
    | _ => none) ++
  g.regions.map (fun e => must (e.2.base + e.2.len ≤ 0x3E00000) "0702" [fNat "REGION" e.1]) ++
  g.regions.map (fun e => match g.regions.find? (fun f => f.1 < e.1 && f.2.base < e.2.base + e.2.len && e.2.base < f.2.base + f.2.len) with
    | some f => some ("0702", [fNat "REGION" e.1, fNat "OTHER" f.1])
    | none => none) ++
  (g.regions.filter (fun e => c.cfg.regions.find e.1 != some e.2)).map (fun e =>
    let gr := regionGrans [e]
    match c.mctl.smap.find? (fun x => x.2.any gr.contains && !loads es x.1 && !deletes es x.1) with
    | some x => some ("0702", [fNat "REGION" e.1, fFi x.1])
    | none => none)

/-- What a committed configuration needs of a domain (Table 20-1, R124, R408, R672, R772). -/
def Chip.domNeeded (c : Chip) (g : Cfg) (n : Nat) : Bool :=
  let lane (i : Nat) : Bool := (g.lanes.get LaneCfg.init i).mode != .off
  let subs := !g.subs.isEmpty || !g.pubs.isEmpty
  let auth := g.subs.any (fun e => e.2.auth != .none) || g.pubs.any (fun e => e.2.auth != .none)
  let ip := [16, 17].any (fun p => !(g.ports.get PortCfg.init p).ip.isEmpty)
  let ins (p : Source → Bool) : Bool := g.fis.any (fun e => e.2.ins.any (fun x => p x.2))
  let outs (p : Target → Bool) : Bool := g.fis.any (fun e => e.2.outs.any (fun x => p x.2))
  if n < 8 then c.fis.any (fun e => (e.2.st == .admitted || e.2.st.acts) && (g.fi e.1).image.isSome && e.2.copies.any (fun x => x.cluster == n))
  else if 12 ≤ n ∧ n < 16 then (List.range 4).any (fun i => lane (4 * (n - 12) + i))
  else if n = 16 then (List.range 16).any lane || subs || ip
  else if n = 17 then subs
  else if n = 18 then auth
  else if n = 19 then c.mctl.smap.any (fun e => (g.fi e.1).image.isSome && e.2.any (fun x => decide (x < 8192))) || (regionGrans g.regions).any (fun x => decide (x < 8192))
  else if n = 21 then ins (fun s => match s with | .key _ | .touch _ => true | _ => false) || outs (fun t => match t with | .led _ | .display _ => true | _ => false) ||
    g.trips.any (fun e => e.2.plug.isSome)
  else if n = 22 then (g.lanes.get LaneCfg.init 14).mode == .rope && (g.lanes.get LaneCfg.init 15).mode == .rope
  else true

def Chip.domainRules (c : Chip) (g : Cfg) (offs : List Nat) : List Bad :=
  offs.map (fun n => must (!c.domNeeded g n) "0702" [fNat "DOMAIN" n])

/-! ### Bindings (R114, R136, R210, R218–R221, R568) -/

def srcVal : Source → Val
  | .sub s => .pair "SUB" s | .chan n => .pair "CHAN" n | .key k => .pair "KEY" k | .touch t => .pair "TOUCH" t | .input i => .pair "INPUT" i
  | .point p => .pair "POINT" p | .alive => .sym "ALIVE"
def tgtVal : Target → Val
  | .trip n => .pair "TRIP" n | .pub p => .pair "PUB" p | .event e => .pair "EVENT" e | .chan n => .pair "CHAN" n | .led l => .pair "LED" l | .display r => .pair "DISPLAY" r
def tgtKind : Target → OutKind
  | .trip _ => .trip | .pub _ => .pub | .event _ => .event | .chan _ => .chan | .led _ => .led | .display _ => .display

/-- One FI's bindings against their targets. -/
def Cfg.bindBad (g : Cfg) (n : Nat) : List Bad :=
  let f := g.fi n
  match f.image with
  | none => []
  | some i =>
    f.ins.map (fun e =>
      let bad : Bad := some ("0706", [fFi n, fNat "IN" e.1, ⟨"FROM", srcVal e.2⟩])
      let p := (i.inputs[e.1]?).getD ⟨false, false, false, false, []⟩
      let fed := (g.fis.filter (fun x => x.2.ins.any (fun y => y.2 == e.2))).length
      let ok := p.declared && (decide (fed ≤ 8) || (match e.2 with | .point _ => true | _ => false)) && (match e.2 with
        | .sub s => match g.subs.find s with
          | none => false
          | some x => match g.dtempl.find x.template with | none => true | some t => decide (t.items.length + 1 ≤ p.dests.length)
        | .chan ch => (g.chans.find ch).map Chan.peer == some n
        | .point q => (f.points.find q).isSome
        | _ => true)
      if ok then none else bad) ++
    f.outs.map (fun e =>
      let bad : Bad := some ("0706", [fFi n, fNat "OUT" e.1, ⟨"TO", tgtVal e.2⟩])
      let k := ((i.outputs[e.1]?).map OutPort.kind).getD .undeclared
      let other := g.fis.any (fun x => x.2.outs.any (fun y => (match e.2 with | .event _ => x.1 == n | _ => true) && y.2 == e.2 && (x.1 != n || y.1 != e.1)))
      let ok := k == tgtKind e.2 && !other && (match e.2 with
        | .pub p => (g.pubs.find p).isSome
        | .chan ch => (g.chans.find ch).map Chan.sender == some n
        | _ => true)
      if ok then none else bad) ++
    (if f.cls < 4 then
      (i.inputs.zipIdx).map (fun p => must (!p.1.required || (f.ins.find p.2).isSome) "070A" [fFi n, fNat "IN" p.2]) ++
      (i.outputs.zipIdx).map (fun p => must (!p.1.required || (f.outs.find p.2).isSome) "070A" [fFi n, fNat "OUT" p.2])
    else [])

/-- T of R568: the tokens one frame of a subscription delivers into each cluster. -/
def Cfg.tokenBad (g : Cfg) (pl : Placement) : List Bad :=
  g.subs.flatMap (fun s => match g.dtempl.find s.2.template with
    | none => []
    | some t =>
      let per := (if t.goose then 1 else t.asdus) * (t.items.length + 1)
      (List.range 8).map (fun cl =>
        let k := (pl.filter (fun e => e.2.2.head?.map clusterOf == some cl)).foldl (fun n e => n + ((g.fi e.1).ins.filter (fun x => x.2 == .sub s.1)).length * per) 0
        must (k ≤ 32) "0702" [fNat "SUB" s.1, fNat "CLUSTER" cl, fNat "TOKENS" k]))

def Chip.bindRules (c : Chip) (g : Cfg) (pl : Placement) : List Bad :=
  let slotOk (a : Auth) (s : Nat) : Bool := a == .none || ((c.slot s).st == .valid && !(c.slot s).bad && (c.slot s).authtag)
  (g.placed.map (fun n =>
    let f := g.fi n
    must (f.period == .timer || (match f.psrc.bind g.subs.find with | some s => s.typ.isGoose == (f.period == .goose) | none => false)) "0706" [fFi n, fSym "FIELD" "PSRC"])) ++
  g.subs.map (fun e => must (g.dtempl.find e.2.template).isSome "0706" [fNat "SUB" e.1, fSym "FIELD" "TEMPLATE"]) ++
  g.pubs.map (fun e => must (g.etempl.find e.2.template).isSome "0706" [fNat "PUB" e.1, fSym "FIELD" "TEMPLATE"]) ++
  g.subs.map (fun e => must (slotOk e.2.auth e.2.slot) "0706" [fNat "SUB" e.1, fSym "FIELD" "KEYSLOT"]) ++
  g.pubs.map (fun e => must (slotOk e.2.auth e.2.slot) "0706" [fNat "PUB" e.1, fSym "FIELD" "KEYSLOT"]) ++
  (g.fis.keys.flatMap g.bindBad) ++ g.tokenBad pl

/-! ### The whole validation -/

/-- Validates a staged set: the configuration it leads to with the placement, or the answer of the first failing rule (R76, R85, R122). -/
def Chip.validate (c : Chip) (l : List Staged) : Except (String × Fields) (Cfg × Placement) :=
  let (g, problems) := c.cfg.stage l
  let es := l.flatMap Staged.edits
  let offs := offsOf es
  let items := g.placed
  let early := problems ++
    [must (c.keys.life != .field || g.graphKey.isSome) "0205" [fSym "FIELD" "GRAPHKEY"]] ++
    g.fis.map (fun e => must e.2.image.isSome "0302" [fFi e.1]) ++
    c.stateRules g es ++ c.genRules es ++ c.tableRules g
  let fields := items.map (fun n => agreeBad n (g.fi n)) ++ c.unitRules g es ++ c.hitchRules g es ++ c.domainRules g offs
  let keep := items.filter (c.keepsTiles g es offs)
  let kept := c.placement keep
  let pl := placeAll g.fi (c.openTiles offs) kept (placeOrder g.fi (items.filter (fun n => !keep.contains n)))
  let figure := declaredFigure g.bookHot g.bookReserve c.rep.retired.length
  let booked := bookedSum g.fi items
  let admission := items.map (fun n => budgetBad n (g.fi n)) ++ [rankBad g.fi items] ++ items.map (fun n => deadlineBad n (g.fi n) (g.nominal (g.fi n))) ++
    [wideBad g.fi g.regions c.rep.privTaken items, keptBad g.fi kept,
     match pl with | .ok p => keptBad g.fi p | .error e => some e]
  let place := match pl with | .ok p => p | .error _ => kept
  let late := c.bindRules g place ++
    [must (decide (booked ≤ figure)) "0704" [fNat "BOOKED" booked, fNat "LIMIT" figure]] ++
    g.users.map (fun u => must ((c.slot u.slot).st == .valid && (c.slot u.slot).login && !(c.slot u.slot).bad) "0803" [⟨"USER", .str (String.ofList u.user)⟩, fNat "KEYSLOT" u.slot])
  match firstFailing (early ++ fields ++ admission ++ late) with
  | some e => .error e
  | none => .ok (g, place)

end Sys2Proof.Machine
end

