-- ==== Sys2Proof/Machine/Commit.lean ====
section
/-!
DEFINITION. COMMIT and what a commit applies: the configuration hitch, the edge, the unit-wide parts and the parts of the FIs (R74, R76–R79, R82, R83,
R85, R86, R98, R101, R124, R131, R134, R136, R156, R206, R469, R477, R533, R557, R597, R771, R772 of spec/).
-/
namespace Sys2Proof.Machine

/-! ### What changes with a configuration -/

/-- Outputs whose binding a change of configuration removed stop acting, and belays that the change begins or ends are recorded (R716). -/
def Chip.bindingsChanged (c before : Chip) : Chip :=
  let gone := before.boundOutputs.filter (fun o => !c.boundOutputs.contains o)
  let c1 := gone.foldl (fun c o => if before.belayed o then c else (c.enterBelay o).belayEvent o true "STATE") c
  let c2 : Chip := { c1 with belay := { c1.belay with fault := c1.belay.fault.filter (fun o => c1.boundOutputs.contains o) } }
  (c2.belayBegun before "STATE" false).belayEnded before "STATE"

/-- Settings of the time inputs that the edge changes (R597, R598, R621, R622). -/
def Chip.edgeTime (c : Chip) (old : TimeCfg) (es : List Edit) : Chip :=
  let t := c.cfg.time
  let refs := es.filterMap (fun e => match e with
    | .time fs => fs.findSome? (fun f => match f with | .ref r => some r | _ => none)
    | _ => none)
  let c1 := match refs.getLast? with
    | some .int25 => c.changeRef .int25
    | some .ext10 => if c.clk.extValid then c.changeRef .ext10 else if old.ref = .ext10 then c else c.raise 256 0 none [fSym "SRC" "EXT10"]
    | none => c
  let c2 : Chip := if t.irig && !old.irig then { c1 with clk := { c1.clk with irig := .unknown, irigLast := c1.clk.cycle } } else c1
  if t.pps && !old.pps then { c2 with clk := { c2.clk with pps := .unknown, ppsLast := c2.clk.cycle, ppsSeen := false } } else c2

/-- Domains in the order in which requests of one edge raise them; they are lowered in the reverse order (R771). -/
def domOrder : List Nat := [8, 9, 10, 11, 20, 16, 19, 21, 23, 12, 13, 14, 15, 17, 18, 22, 0, 1, 2, 3, 4, 5, 6, 7]

/-- Requests of an edge: committed OFF, committed ON, and what the configuration needs (R124, R477, R771, R772); with the domains it waits for. -/
def Chip.edgeDomains (c : Chip) (es : List Edit) : Chip × List Nat :=
  let offs := offsOf es
  let ons := (List.range 24).filter (fun n => !offs.contains n && es.any (fun e => match e with | .domain m _ => m == n | _ => false))
  let needs := (List.range 24).filter (fun n => 12 ≤ n && n != 20 && n != 23 && !c.domOn n && c.domNeeded c.cfg n)
  let stopping (n : Nat) : Bool := decide (12 ≤ n ∧ n < 16) && (List.range 4).any (fun i => (c.lane (4 * (n - 12) + i)).stopEnd.isSome)
  let c1 := (domOrder.reverse.filter offs.contains).foldl (fun c n => if stopping n then c.domLatch n (some false) else c.domRequest n false "COMMIT") c
  let c2 := (domOrder.filter (fun n => ons.contains n || needs.contains n)).foldl (fun c n => c.domRequest n true "COMMIT") c1
  (c2, needs.filter (fun n => !c2.domOn n))

/-- The forwarding tables (R130, R131, R134, R533, R534, R541, R557). -/
def Chip.edgeTables (c : Chip) (old : Cfg) : Chip :=
  let g := c.cfg
  let c1 := if g.macs = old.macs then c
    else ((c.sw' (fun s => (s.buildMacs old.macs g.macs).getD s)).bumpGen 0 1)
  let c2 := if g.lpm4 = old.lpm4 then c1 else c1.lpmSwap false g.lpm4
  let c3 := if g.lpm6 = old.lpm6 then c2 else c2.lpmSwap true g.lpm6
  let c4 := if g.subs = old.subs then c3 else (c3.sw' (fun s => (s.subBuild g.subs).getD s)).bumpGen 3 1
  let c5 := (List.range 18).foldl (fun c p =>
    let gone := (old.ports.get PortCfg.init p).vlans.filter (fun v => !(g.ports.get PortCfg.init p).vlans.contains v)
    if gone.isEmpty then c else c.forget (fun e => e.ports == [p] && gone.contains e.vlan)) c4
  c5.limitCheck

/-- The codec: entries deleted or created anew start from their reset content; a template loaded anew is whole again (R136, R570). -/
def Chip.edgeCodec (c : Chip) (old : Cfg) (es : List Edit) : Chip :=
  let g := c.cfg
  let subs := (old.subs.keys ++ g.subs.keys).filter (fun n => old.subs.find n != g.subs.find n || es.any (fun e => match e with | .delSub m => m == n | _ => false))
  let pubs := (old.pubs.keys ++ g.pubs.keys).filter (fun n => old.pubs.find n != g.pubs.find n || es.any (fun e => match e with | .delPub m => m == n | _ => false))
  let t := es.filterMap (fun e => match e with | .loadSub n _ => some n | .loadPub n _ => some (256 + n) | _ => none)
  let c1 := c.codec' (fun x => { x with
    subs := subs.foldl (fun m n => m.del n) x.subs
    pubs := pubs.foldl (fun m n => m.del n) x.pubs
    badTempl := x.badTempl.filter (fun n => !t.contains n) })
  c1.fab' (fun f => { f with binds := subs.foldl (fun m n => m.del n) f.binds })

/-- Hitches: the groups a SET HITCH names are restored, a region that is added starts free (R459, R469). -/
def Chip.edgeHitches (c : Chip) (es : List Edit) : Chip :=
  es.foldl (fun c e => match e with
    | .group k _ _ => (List.range 16).foldl (fun c i => if (c.hitch (16 * k + i)).broken then c.modHitch (16 * k + i) (fun _ => Hitch.init) else c) c
    | .addRegion r _ _ | .delRegion r => c.fab' (fun f => { f with
        hitches := f.hitches.filter (fun h => !(256 ≤ h.1 && (h.1 - 256) / 2097152 == r)), brokenRegions := f.brokenRegions.filter (· != r) })
    | _ => c) c

/-- Trip supervision follows SUPERVISE (R693). -/
def Chip.edgeTrips (c : Chip) (old : Cfg) : Chip :=
  (List.range 16).foldl (fun c n =>
    let was := (old.trips.get TripCfg.init n).supervise
    if (c.tripCfg n).supervise = was then c else c.modTrip n (fun t => { t with sup := if was then .off else .ok })) c

/-! ### FI parts -/

/-- What an FI has of a configuration: its settings and the channels it declares. -/
def Cfg.takeFi (g from' : Cfg) (n : Nat) : Cfg :=
  { g with
    fis := g.fis.put FiCfg.init n (from'.fi n)
    chans := (from'.chans.filter (fun e => e.2.sender == n)).foldl (fun t e => t.set e.1 e.2) (g.chans.filter (fun e => e.2.sender != n)) }

/-- The part of an FI finds the room that other parts of the commit have yet to release (R206). -/
def Chip.partFits (c : Chip) (k : Commit) (n : Nat) : Bool :=
  if k.fiParts = [n] then true
  else
    let g := c.cfg.takeFi k.cfg n
    let others := c.placedFis.filter (· != n)
    let pl := c.placement others ++ k.place.filter (fun e => e.1 == n)
    let items := others ++ (if k.place.any (fun e => e.1 == n) then [n] else [])
    (keptBad g.fi pl).isNone && (wideBad g.fi g.regions c.rep.privTaken items).isNone &&
      decide (bookedSum g.fi items ≤ declaredFigure k.cfg.bookHot k.cfg.bookReserve c.rep.retired.length)

/-- Applies an FI's part: settings, bindings and channels; load, admission in its place, or return to EMPTY (R76, R206, Table 5-9). -/
def CM.applyFi (cm : CM) (k : Commit) (n : Nat) : CM :=
  let c := cm.1
  let old := c.fiCfg n
  let c1 : Chip := { c with cfg := c.cfg.takeFi k.cfg n }
  let new := c1.fiCfg n
  let loaded := loads k.touched n
  let placed := k.place.any (fun e => e.1 == n)
  let cm2 : CM :=
    if (c.fi n).st.acts then (c1.modFi n (fun x => { x with copies := x.copies.map (fun y => { y with credit := y.credit + new.credit - old.credit }) }), cm.2)
    else if new.image.isNone then (if (c.fi n).st = .empty then (c1, cm.2) else CM.emptyFi (c1, cm.2) n "COMMIT")
    else
      let cm3 := if loaded then CM.loadFi (c1, cm.2) n "COMMIT" else (c1, cm.2)
      if placed then
        let areas := loaded || (cm3.1.fi n).st == .loaded
        let cm4 := if new.deep = old.deep then cm3 else (cm3.1.fab' (fun g => { g with deeps := g.deeps.del n }), cm3.2)
        CM.admitFi cm4 k.place n areas "COMMIT"
      else cm3
  let c3 := cm2.1.bindingsChanged c
  let c4 := if k.alive then c3.async k.session "CFG" [fWord "FI", fNat "COMMIT" k.number, fFi n, fTime "T" c3.now] else c3
  (c4.trev' (fun t => { t with commit := t.commit.map (fun x => { x with fiParts := x.fiParts.filter (· != n) }) }), cm2.2)

/-- The FI's part waits for a period boundary: the FI is RUNNING or DRAINING (R76, R98). -/
def Chip.partWaits (c : Chip) (n : Nat) : Bool := (c.fi n).st == .running || (c.fi n).st == .draining

/-- Applies every part that need not wait, again while one makes room for another. -/
def CM.applyReady : Nat → CM → CM
  | 0, cm => cm
  | i + 1, cm =>
    match cm.1.trev.commit with
    | none => cm
    | some k =>
      match k.fiParts.find? (fun n => !cm.1.partWaits n && cm.1.partFits k n) with
      | none => cm
      | some n => CM.applyReady i (cm.applyFi k n)

/-! ### The edge and the end of a commit -/

/-- Every part has applied: the transaction closes and the hitch passes on (R76 step 6). -/
def Chip.commitDone (c : Chip) : Chip :=
  match c.trev.commit with
  | none => c
  | some k =>
    if k.edge.isNone || !k.applied || !k.fiParts.isEmpty then c
    else
      let c1 := c.trev' (fun t => { t with commit := none })
      if k.alive then
        let c2 := c1.modSess k.session (fun x => { x with txn := false, staged := [], loaded := 0 })
        if (c2.hitch 0).holder = masterSess k.session then c2.hitchPass tell 0 else c2
      else c1

/-- The last unit-wide part has applied, when the domains it waits for are ON or will not come (R772). -/
def Chip.commitApplied (c : Chip) : Chip :=
  match c.trev.commit with
  | none => c
  | some k =>
    match k.edge with
    | none => c
    | some e =>
      if k.applied || k.raised.any (fun n => (c.dom n).st == .rising || ((c.dom n).st == .off && (c.dom n).latched == some true)) then c
      else
        let c1 := if k.alive then c.async k.session "CFG" [fWord "APPLIED", fNat "COMMIT" k.number, fTime "T" e] else c
        (c1.trev' (fun t => { t with commit := t.commit.map (fun x => { x with applied := true }) })).commitDone

/-- COMMIT_EDGE: the first millisecond boundary after the OK (R76 steps 4 and 5, R78). -/
def CM.commitEdge (cm : CM) : CM :=
  match cm.1.trev.commit with
  | none => cm
  | some k =>
    if k.edge.isSome then cm
    else
      let c := cm.1.advanceToTime cm.1.nextMs
      let old := c.cfg
      let g := k.fiParts.foldl (fun g n => g.takeFi old n) k.cfg
      let c1 := (({ c with cfg := g } : Chip).wear 0 0).trev' (fun t => { t with commit := some { k with edge := some c.now, edgeAt := c.clk.cycle } })
      let c2 := (c1.edgeTime old.time k.touched)
      let c3 := (List.range 16).foldl (fun c n => c.laneApply n (c.laneCfg n)) c2
      let c4 := (((c3.edgeTables old).edgeCodec old k.touched).edgeHitches k.touched).edgeTrips old
      let cm5 := CM.applyReady k.fiParts.length (c4.bindingsChanged c, cm.2)
      let (c6, waits) := cm5.1.edgeDomains k.touched
      let c7 := (c6.trev' (fun t => { t with commit := t.commit.map (fun x => { x with raised := waits }) })).testFlags
      (c7.commitApplied.commitDone, cm5.2)

/-- CFG_FI_APPLY: the FI has started a period at or after the edge, or is no longer RUNNING (R76, R98). -/
def CM.cfgFiApply (cm : CM) (n : Nat) : CM :=
  match cm.1.trev.commit with
  | none => cm
  | some k =>
    let c := cm.1
    if k.edge.isNone ∨ ¬ k.fiParts.contains n ∨ ¬ c.partFits k n ∨ (c.fi n).st = .draining ∨ ((c.fi n).st = .running ∧ (c.fi n).lastStart < k.edgeAt) then cm
    else
      let cm1 := CM.applyReady k.fiParts.length (cm.applyFi k n)
      (cm1.1.commitDone, cm1.2)

/-- CFG_FORCED_APPLY: 100 ms after the edge without a period start, once no period context is open; else 1 s after the edge, with event 0x0A5 (R77). -/
def CM.cfgForced (cm : CM) (n : Nat) : CM :=
  match cm.1.trev.commit with
  | none => cm
  | some k =>
    if k.edge.isNone ∨ ¬ k.fiParts.contains n then cm
    else
      let c1 := cm.1.advanceTo (100000000 + k.edgeAt)
      let idle := (c1.fi n).lastStart < k.edgeAt ∧ (c1.fi n).st ≠ .draining ∧ (c1.fi n).opens.all (fun p => !p.frames.any Option.isSome) = true ∧ c1.partFits k n
      let cm2 : CM := if idle then CM.applyFi (c1, cm.2) k n
        else
          let c2 := c1.advanceTo (1000000000 + k.edgeAt)
          CM.applyFi (c2.record 165 n [fFi n, fNat "COMMIT" k.number, fSym "CAUSE" "FORCED"], cm.2) k n
      let cm3 := CM.applyReady k.fiParts.length cm2
      (cm3.1.commitDone, cm3.2)

/-! ### COMMIT -/

/-- The session holds the configuration hitch: IF=, validation, the number, OK (R76, R79, R83, R85). -/
def Chip.commitHeld (c : Chip) (s : Nat) (ifn : Option Nat) : Chip × Answer :=
  let fail (code : String) (fs : Fields) : Chip × Answer := (c.hitchPass tell 0, .err code fs)
  if ifn.isSome ∧ ifn ≠ some c.trev.commitNum then fail "0406" [fNat "COMMIT" c.trev.commitNum]
  else match c.validate (c.sess s).staged with
    | .error e => fail e.1 e.2
    | .ok (g, pl) =>
      let n := (c.trev.commitNum + 1) % 4294967296
      let es := (c.sess s).staged.flatMap Staged.edits
      let k : Commit := { session := s, number := n, cfg := g, touched := es, fiParts := touchedFis es, edge := none, edgeAt := 0, alive := true, place := pl,
                          raised := [], applied := false }
      ((c.trev' (fun t => { t with commitNum := n, commit := some k })).modSess s (fun x => { x with staged := [], loaded := 0 }), .ok [])

/-- COMMIT takes the configuration hitch or waits for it (R76, R82, R86). -/
def Chip.commitLine (c : Chip) (s : Nat) (ifn : Option Nat) : Chip × Answer :=
  if (c.hitch 0).broken then (c, .err "0905" [])
  else
    let (r, c1) := c.hitchWrite 0 (masterSess s)
    match r with
    | .full => (c, .err "0504" [])
    | _ =>
      if (c1.hitch 0).holder = masterSess s ∧ c1.trev.commit.isNone then c1.commitHeld s ifn
      else (c1.modSess s (fun x => { x with waiting := .commit ifn (c1.clk.cycle + x.wait) }), .wait)

/-- COMMIT_HITCH_GRANTED: the hitch has passed to a session whose COMMIT waits, or it broke meanwhile (R76). -/
def Chip.commitGranted (c : Chip) (s : Nat) : Chip :=
  match (c.sess s).waiting with
  | .commit ifn _ =>
    let m := masterSess s
    let free := c.modSess s (fun x => { x with waiting := .nothing })
    if (c.hitch 0).holder = m then
      if c.trev.commit.isSome then c
      else let (c1, a) := free.commitHeld s ifn; c1.respond s a
    else if (c.hitch 0).queue.contains m then c
    else (free.raise 421 0 none [fSym "CODE" "0905"]).respond s (.err "0905" [])
  | _ => c

/-- COMMIT_WAIT_TIMEOUT: the wait limit passes (R86). -/
def Chip.commitTimeout (c : Chip) (s : Nat) : Chip :=
  match (c.sess s).waiting with
  | .commit _ t =>
    let m := masterSess s
    if (c.hitch 0).queue.contains m then
      let c1 := c.advanceTo t
      let c2 := c1.modHitch 0 (fun x => { x with queue := x.queue.filter (· != m) })
      (c2.modSess s (fun x => { x with waiting := .nothing })).respond s (.err "0404" [fMaster "HOLDER" (c2.hitch 0).holder])
    else c.commitGranted s
  | _ => c

end Sys2Proof.Machine
end

