-- ==== Sys2Proof/Machine/Lines.lean ====
section
/-!
DEFINITION. How a line reaches its verb: modes and framing (R28, R49–R63), the bulk state (R68), access (R43, R44, R97, R163, R176, R634, R665), and the
order of the checks (R87) of spec/.
-/
namespace Sys2Proof.Machine

/-! ### Waiting lines -/

/-- TAKE_HITCH_TIMEOUT: the wait ends, the session is withdrawn (R145). -/
def Chip.takeTimeout (c : Chip) (s : Nat) : Chip :=
  match (c.sess s).waiting with
  | .take h wait t rest data =>
    let m := masterSess s
    let c1 := (c.advanceTo t).modHitch h (fun x => { x with queue := x.queue.filter (· != m) })
    c1.takeOn s wait rest (data ++ [c1.notHeld h])
  | _ => c

/-- The lines of a session run one at a time: a line that still waits is answered first (R39). -/
def Chip.settleWait (c : Chip) (s : Nat) : Chip :=
  match (c.sess s).waiting with
  | .nothing => c
  | .take _ _ _ _ _ => c.takeTimeout s
  | .commit _ _ => c.commitTimeout s

/-! ### Verbs -/

/-- What a line needs of access and of the unit's state. -/
structure Verb where
  spec : VerbSpec
  login : Bool := false     -- accepted before a TCP session has logged in (R44)
  early : Bool := false     -- answered before step 8 ends (R176)
  rom : Bool := false       -- answered by the boot ROM in base camp NOIMAGE (R163)
  scrap : Bool := false     -- answered in SCRAPPED (R634)
  camp : Bool := false      -- refused in base camp (R97)
  life : Bool := false      -- MOVE LIFE, open to a session whose level came from presence (R665)
  flash : Bool := false     -- writes flash (R767)
  bulk : Bool := false      -- END and END CANCEL (R68)
  reserved : Nat → Bool := fun _ => false   -- items answered 010D (R715)
  need : Chip → Bad := fun _ => none        -- what the line asks of the unit beside this

/-- Presence gives only the lines below CONFIGURE, and MOVE LIFE, in FIELD and RETURN (R665). -/
def Chip.presentOnly (c : Chip) (s : Nat) : Bool := (c.sess s).present && (c.keys.life == .field || c.keys.life == .return)

/-- The boot ROM serves session 0 in place of the steward (R163). -/
def Chip.romServes (c : Chip) : Bool := c.unit.camp.any (fun e => e.1 == .noimage)

/-- Step 2 of R87. -/
def Chip.accessBad (c : Chip) (s : Nat) (v : Verb) : Bad :=
  let x := c.sess s
  if c.keys.life = .scrapped then must v.scrap "0205" []
  else if c.romServes then must v.rom "0206" []
  else firstBad [must (x.level.isSome || v.login) "0202" [],
    must (c.unit.started || v.early) "0401" [fSym "START" "BUSY"],
    must (v.login || decide (v.spec.level ≤ x.level.getD 0)) "0201" [],
    must (!(c.presentOnly s && decide (2 ≤ v.spec.level) && !v.life)) "0205" [],
    must (!(v.camp && !c.unit.camp.isEmpty)) "0206" [], v.need c]

/-- The session's own commit has been answered OK and has parts to apply (R76 step 6). -/
def Chip.applying (c : Chip) (s : Nat) : Bool :=
  match c.trev.commit with | some k => k.alive && k.session == s | none => false

/-- Steps 3 and 4 of R87 that every verb shares: the items selected, the transaction, the supply (R31, R74, R767). -/
def Chip.commonBad (c : Chip) (s : Nat) (v : Verb) (sel : Selector) : Bad :=
  firstBad [(match v.spec.sel with
    | some n => match sel.outside n with
      | some i => some ("0301", [⟨v.spec.obj, .int i⟩])
      | none => none
    | none => none),
    must (!v.spec.stage || (c.sess s).txn) "0402" [], must (!v.spec.stage || !c.applying s) "0401" [],
    must (!(v.flash && c.sup.warning)) "0401" [fSym "SUPPLY" "FAILING"]]

/-! ### The response -/

/-- Sends a response at once, with the number given in script mode. -/
def Chip.reply (c : Chip) (s : Nat) (num : Option Nat) (ls : List Line) : Chip :=
  c.modSess s (fun x => { x with answer := ls, answerNum := if x.script then num else none, sent := x.shows num ls })

/-- A 09xx answer raises COMMAND-HARDWARE with its code. -/
def Chip.hardwareFault (c : Chip) (s : Nat) : Answer → Chip
  | .err code _ => if codeStep code = 9 then c.raise 421 s none [fSym "CODE" code] else c
  | _ => c

/-! ### A line -/

/-- Steps 1 to 7 of R87 for a line in its form, then its effect. -/
def Chip.runVerb (c : Chip) (s : Nat) (v : Verb) (sel : Selector) (args : Args) (state valid : Chip → List Nat → Bad)
    (act : Chip → List Nat → Chip × Answer) : Chip × Answer :=
  let items := match v.spec.sel with | some n => sel.members n | none => [0]
  match firstBad [v.spec.lexBad args, must (!items.any v.reserved) "010D" [], c.accessBad s v, c.commonBad s v sel, state c items,
      must (!v.spec.stage || decide ((c.sess s).staged.length < 8192)) "0501" [], v.spec.rangeBad args, valid c items] with
  | some (code, fs) => (c, .err code fs)
  | none => act c items

/-- The line enters the history and, in script mode, the replay store (R50, R57, R61). -/
def Chip.executed (c : Chip) (h : Hdr) : Chip :=
  c.modSess h.sess (fun x => { x with
    line := [], rejected := false, histAt := 0
    history := if h.text.isEmpty then x.history else (h.text :: x.history).take 16
    lastNum := if x.script then h.num else x.lastNum
    store := if x.script then ({ num := h.num.getD 0, crc := h.crc, resp := [] } :: x.store).take 16 else x.store })

/-- The length of a line as received (R28, R55). -/
def Hdr.length (h : Hdr) (script : Bool) : Nat := h.text.length + (if script then 12 else 0)

/-- Framing: a line that is answered without being executed, or none (R28, R49, R55–R63). -/
def Chip.framing (c : Chip) (h : Hdr) : Option Chip :=
  let x := c.sess h.sess
  let refuse (code : String) (num : Option Nat) : Option Chip :=
    some ((c.modSess h.sess (fun x => { x with line := [], rejected := false, histAt := 0 })).reply h.sess num [.err code []])
  if h.length x.script > 1024 then refuse "0102" h.num
  else if !x.script then (if x.rejected then refuse "0101" none else none)
  else match h.num with
    | none => refuse "0105" none
    | some n =>
      if h.crc ≠ crc16 h.text then refuse "0104" (some n)
      else match x.store.find? (fun e => e.num == n), x.lastNum with
        | some e, _ =>
          if e.crc ≠ h.crc then refuse "0107" (some n)
          else if (e.resp.filter (fun l => match l with | .data _ => true | _ => false)).length > 256 then refuse "0505" (some n)
          else some (c.reply h.sess (some n) e.resp)
        | none, some m => if n = (m + 1) % 10000 then none else refuse "0106" (some n)
        | none, none => none

/-- A line arrives: it takes a cycle, after the line before it (R39, R40). -/
def Chip.lineArrives (c : Chip) (s : Nat) : Chip :=
  let c1 := (c.settleWait s).advance 1
  c1.modSess s (fun x => { x with lastLine := c1.clk.cycle, warned := false, inputHeld := 0 })

/-- A line from its arrival to its response. -/
def Chip.runLine (c : Chip) (h : Hdr) (v : Verb) (sel : Selector) (args : Args) (state valid : Chip → List Nat → Bad)
    (act : Chip → List Nat → Chip × Answer) : Chip :=
  if !(c.sess h.sess).active then c
  else
    let c1 := c.lineArrives h.sess
    match c1.framing h with
    | some c2 => c2
    | none =>
      let c2 := c1.executed h
      if (c2.sess h.sess).bulk.isSome ∧ ¬ v.bulk then c2.respond h.sess (.err "010F" [])
      else
        let (c3, a) := c2.runVerb h.sess v sel args state valid act
        let c4 := c3.hardwareFault h.sess a
        if a = .silent then c4 else c4.respond h.sess a

/-- What sets one kind of line apart: its verb with selector and arguments, its checks of state and validity (steps 4 and 7 of R87), and its effect on
the items selected. -/
structure LineDef where
  v : Verb
  sel : Selector
  args : Args
  state : Chip → List Nat → Bad
  valid : Chip → List Nat → Bad
  act : Chip → List Nat → Chip × Answer

/-- A line of a kind arrives and is answered. -/
def Chip.runDef (c : Chip) (h : Hdr) (d : LineDef) : Chip := c.runLine h d.v d.sel d.args d.state d.valid d.act

def noBad : Chip → List Nat → Bad := fun _ _ => none

/-- Acts on each item in turn, collecting the data lines; a failing item ends the line. -/
def eachItem (f : Chip → Nat → Chip × Answer) (c : Chip) (items : List Nat) : Chip × Answer :=
  items.foldl (fun r n => match r.2 with
    | .ok d => match f r.1 n with
      | (c', .ok d') => (c', .ok (d ++ d'))
      | r' => r'
    | _ => r) (c, .ok [])

/-- The first failing item. -/
def anyBad (f : Chip → Nat → Bad) (c : Chip) (items : List Nat) : Bad := items.findSome? (f c)

/-- Stages what one line changes (R75). -/
def Chip.stageEdits (c : Chip) (s level : Nat) (extra : List String) (es : List Edit) : Chip × Answer :=
  (c.modSess s (fun x => { x with staged := x.staged ++ [{ edits := es, level := level, extra := extra }] }), .ok [])

end Sys2Proof.Machine
end

