-- ==== Sys2Proof/Machine/Stage.lean ====
section
/-!
DEFINITION. The staging verbs: the forms of Tables 3-3 to 3-8 and the settings each line stages (R74, R75, R92–R94, R101–R151 of spec/). An argument
that does not apply beside the others of its line is staged with it and fails the COMMIT (R93).
-/
namespace Sys2Proof.Machine

/-- A staging line: what it lacks or gets wrong beside its own ranges, the arguments that do not apply, and what it stages for each item. -/
def stageLine (h : Hdr) (v : Verb) (sel : Selector) (args : Args) (bad : Bad) (extra : List Nat → List String) (edits : Nat → Edit) : LineDef :=
  LineDef.mk v sel args noBad (fun _ _ => bad) (fun c items => c.stageEdits h.sess v.spec.level (extra items) (items.map edits))

/-- Arguments that a line needs. -/
def needs (args : Args) (l : List String) : Bad := firstBad (l.map (fun n => must (args.has n) "070A" [fSym "FIELD" n]))
/-- Arguments present among those that do not apply. -/
def surplus (args : Args) (l : List String) : List String := l.filter args.has
/-- A setting that a line may carry. -/
def setting {α : Type} (args : Args) (n : String) (f : AVal → Option α) : List α := ((args.get? n).bind f).toList

def natArg (v : AVal) : Option Nat := match v with | .int i => some i.toNat | .hex n => some n | .dur d => some d.toNat | _ => none
def onArg (v : AVal) : Option Bool := match v with | .kw s => some (s == "ON" || s == "YES") | _ => none
def strArg (v : AVal) : Option (List Char) := match v with | .str s => some s | _ => none
def kwIn (l : List String) (v : AVal) : Option Nat := match v with | .kw s => if l.contains s then some (l.idxOf s) else none | _ => none
def orNone (v : AVal) : Option (Option Nat) := match v with | .kw _ => some none | v => (natArg v).map some
def listArg (v : AVal) : Option (List Nat) :=
  match v with | .int i => some [i.toNat] | .list x => some (sortNats (expand x)) | .kw _ => some [] | _ => none

/-! ### UNIT (Table 3-3) -/

def bauds : List Int := [9600, 19200, 38400, 57600, 115200, 230400, 460800, 921600, 1500000, 3000000]
def parities : List Parity := [.none, .even, .odd]

def vSetUnit : Verb := { spec := { obj := "UNIT", level := 2, stage := true, isSet := true, args :=
  [⟨"BAUD", .int 9600 3000000, false⟩, ⟨"PARITY", .kw ["NONE", "EVEN", "ODD"], false⟩, ⟨"IDLE_SERIAL", secs 60 86400, false⟩, ⟨"IDLE_USB", secs 60 86400, false⟩,
   ⟨"IDLE_TCP", secs 60 86400, false⟩, ⟨"NAME", .str 0 40, false⟩, ⟨"BOOKTEMP", .kw ["HOT", "COOL"], false⟩, ⟨"BOOKRESERVE", .int 0 32, false⟩,
   ⟨"GRAPHKEY", .intOr 0 4095 ["NONE"], false⟩] } }
/-- SET UNIT (R101). -/
def setUnitDef (h : Hdr) (args : Args) : LineDef :=
  let rate : Bad := match args.get? "BAUD" with | some (.int i) => must (bauds.contains i) "0701" [] | _ => none
  let fs := setting args "BAUD" (fun v => (natArg v).map UnitField.baud) ++
    setting args "PARITY" (fun v => ((kwIn ["NONE", "EVEN", "ODD"] v).bind (parities[·]?)).map UnitField.parity) ++
    setting args "IDLE_SERIAL" (fun v => (natArg v).map UnitField.idleSerial) ++ setting args "IDLE_USB" (fun v => (natArg v).map UnitField.idleUsb) ++
    setting args "IDLE_TCP" (fun v => (natArg v).map UnitField.idleTcp) ++ setting args "NAME" (fun v => (strArg v).map UnitField.name) ++
    setting args "BOOKTEMP" (fun v => (kwIn ["COOL", "HOT"] v).map (fun k => UnitField.bookHot (k == 1))) ++
    setting args "BOOKRESERVE" (fun v => (natArg v).map UnitField.bookReserve) ++ setting args "GRAPHKEY" (fun v => (orNone v).map UnitField.graphKey)
  stageLine h vSetUnit .all args rate (fun _ => []) (fun _ => .unit fs)

def vAddUnit : Verb := { spec := { obj := "UNIT", level := 3, stage := true, args :=
  [⟨"USER", .str 1 32, true⟩, ⟨"LEVEL", .kw levelNames, true⟩, ⟨"KEYSLOT", .int 0 4095, true⟩] } }
/-- ADD UNIT (R104). -/
def addUnitDef (h : Hdr) (args : Args) : LineDef :=
  stageLine h vAddUnit .all args none (fun _ => []) (fun _ =>
    .addUser { user := (args.str? "USER").getD [], level := levelOf ((args.kw? "LEVEL").getD "VIEW"), slot := (args.int? "KEYSLOT").getD 0 })

def vDeleteUnit : Verb := { spec := { obj := "UNIT", level := 3, stage := true, args := [⟨"USER", .str 1 32, true⟩] } }
/-- DELETE UNIT (R104). -/
def deleteUnitDef (h : Hdr) (args : Args) : LineDef :=
  stageLine h vDeleteUnit .all args none (fun _ => []) (fun _ => .delUser ((args.str? "USER").getD []))

/-! ### FI, REPAIR and DOMAIN (Table 3-4) -/

def classNames : List String := ["P0", "P1", "P2", "P3"]
def vSetFi : Verb := { spec := { obj := "FI", level := 2, stage := true, isSet := true, sel := some 1024, args :=
  [⟨"CLASS", .kw classNames, false⟩, ⟨"RANK", .int 0 1023, false⟩, ⟨"TWIN", onOff, false⟩, ⟨"ROPE", onOff, false⟩, ⟨"FALLBACK", .kw ["LOCAL", "STOP"], false⟩,
   ⟨"PERIOD", .kw ["SV", "GOOSE", "TIMER"], false⟩, ⟨"PSRC", .int 0 4095, false⟩, ⟨"TICK", .dur 50000 10000000000, false⟩, ⟨"DEADLINE", .dur 1000 10000000000, false⟩,
   ⟨"TILES", .int 1 48, false⟩, ⟨"PAGES", .int 1 768, false⟩, ⟨"PINNED", .int 0 1024, false⟩, ⟨"HASHED", .int 0 7168, false⟩, ⟨"FRAMES", .int 1 32768, false⟩,
   ⟨"CREDIT", .int 1 65535, false⟩, ⟨"DEEP", .int 16 256, false⟩, ⟨"BW", .int 0 1024000, false⟩, ⟨"STALL", .dur 1000 100000000, false⟩,
   ⟨"MISBEHAVE", .int 1 65535, false⟩] } }
/-- SET FI (R112). -/
def setFiDef (h : Hdr) (sel : Selector) (args : Args) : LineDef :=
  let nat (n : String) (f : Nat → FiField) : List FiField := setting args n (fun v => (natArg v).map f)
  let fs := setting args "CLASS" (fun v => (kwIn classNames v).map FiField.cls) ++ nat "RANK" .rank ++
    setting args "TWIN" (fun v => (onArg v).map FiField.twin) ++ setting args "ROPE" (fun v => (onArg v).map FiField.rope) ++
    setting args "FALLBACK" (fun v => (kwIn ["LOCAL", "STOP"] v).map (fun k => FiField.fallback (if k = 0 then .loc else .stop))) ++
    setting args "PERIOD" (fun v => (kwIn ["SV", "GOOSE", "TIMER"] v).map (fun k => FiField.period ([PeriodKind.sv, .goose, .timer].getD k .sv))) ++
    nat "PSRC" .psrc ++ nat "TICK" .tick ++ nat "DEADLINE" .deadline ++ nat "TILES" .tiles ++ nat "PAGES" .pages ++ nat "PINNED" .pinned ++
    nat "HASHED" .hashed ++ nat "FRAMES" .frames ++ nat "CREDIT" .credit ++ nat "DEEP" .deep ++ nat "BW" .bw ++ nat "STALL" .stall ++ nat "MISBEHAVE" .misbehave
  stageLine h vSetFi sel args none (fun _ => []) (fun n => .fi n fs)

/-- The number after the hyphen of a binding keyword. -/
def bindNum (s : String) : Nat := ((bindRef s).map Prod.snd).getD 0
def sourceOf (s : String) : Source :=
  match (bindRef s).map Prod.fst with
  | some "SUB" => .sub (bindNum s) | some "CHAN" => .chan (bindNum s) | some "KEY" => .key (bindNum s) | some "TOUCH" => .touch (bindNum s)
  | some "INPUT" => .input (bindNum s) | some "POINT" => .point (bindNum s) | _ => .alive
def targetOf (s : String) : Target :=
  match (bindRef s).map Prod.fst with
  | some "TRIP" => .trip (bindNum s) | some "PUB" => .pub (bindNum s) | some "EVENT" => .event (bindNum s) | some "CHAN" => .chan (bindNum s)
  | some "LED" => .led (bindNum s) | _ => .display (bindNum s)

def fiParts : List String := ["IN", "OUT", "CHAN", "POINT"]
def vAddFi : Verb := { spec := { obj := "FI", level := 2, stage := true, sel := some 1024, args :=
  [⟨"IN", .int 0 63, false⟩, ⟨"FROM", .bind [("SUB", 4095), ("CHAN", 4095), ("KEY", 63), ("TOUCH", 7), ("INPUT", 15), ("POINT", 255)] ["ALIVE"], false⟩,
   ⟨"OUT", .int 0 63, false⟩, ⟨"TO", .bind [("TRIP", 15), ("PUB", 1023), ("EVENT", 1), ("CHAN", 4095), ("LED", 47), ("DISPLAY", 3)] [], false⟩,
   ⟨"CHAN", .int 0 4095, false⟩, ⟨"PEER", .int 0 1023, false⟩, ⟨"POINT", .int 0 255, false⟩, ⟨"HITCH", .int 16 255, false⟩,
   ⟨"WINDOW", secs 2 30, false⟩] } }
/-- ADD FI: a binding, a channel or a command point (R112, R114, R118, R218, R219). -/
def addFiDef (h : Hdr) (sel : Selector) (args : Args) : LineDef :=
  let what := (fiParts.filter args.has).headD "IN"
  let own : List String := match what with | "IN" => ["FROM"] | "OUT" => ["TO"] | "CHAN" => ["PEER"] | _ => ["HITCH", "WINDOW"]
  let num (n : String) : Nat := (args.int? n).getD 0
  stageLine h vAddFi sel args (firstBad [oneOf args fiParts true, needs args (own.filter (· != "WINDOW"))])
    (fun _ => surplus args (["FROM", "TO", "PEER", "HITCH", "WINDOW"].filter (fun n => !own.contains n)))
    (fun n => match what with
      | "IN" => .addIn n (num "IN") (sourceOf ((args.kw? "FROM").getD "ALIVE"))
      | "OUT" => .addOut n (num "OUT") (targetOf ((args.kw? "TO").getD ""))
      | "CHAN" => .addChan n (num "CHAN") (num "PEER")
      | _ => .addPoint n (num "POINT") (num "HITCH") ((args.int? "WINDOW").getD 10000000000))

def vDeleteFi : Verb := { spec := { obj := "FI", level := 2, stage := true, sel := some 1024, args :=
  [⟨"IN", .int 0 63, false⟩, ⟨"OUT", .int 0 63, false⟩, ⟨"CHAN", .int 0 4095, false⟩, ⟨"POINT", .int 0 255, false⟩] } }
/-- DELETE FI: one of its parts, or its return to EMPTY (R112, R122). -/
def deleteFiDef (h : Hdr) (sel : Selector) (args : Args) : LineDef :=
  stageLine h vDeleteFi sel args (oneOf args fiParts false) (fun _ => []) (fun n =>
    match args.int? "IN", args.int? "OUT", args.int? "CHAN", args.int? "POINT" with
    | some p, _, _, _ => .delIn n p
    | _, some p, _, _ => .delOut n p
    | _, _, some p, _ => .delChan n p
    | _, _, _, some p => .delPoint n p
    | _, _, _, _ => .delFi n)

def vSetRepair : Verb := { spec := { obj := "REPAIR", level := 2, stage := true, isSet := true, args := [⟨"TRAVERSE", onOff, false⟩, ⟨"INTERVAL", secs 60 86400, false⟩] } }
/-- SET REPAIR (R112, R742). -/
def setRepairDef (h : Hdr) (args : Args) : LineDef :=
  stageLine h vSetRepair .all args none (fun _ => []) (fun _ => .repair (args.on? "TRAVERSE") (args.int? "INTERVAL"))

def vSetDomain : Verb := { spec := { obj := "DOMAIN", level := 2, stage := true, isSet := true, sel := some 24, args := [⟨"STATE", onOff, false⟩] } }
/-- SET DOMAIN (R124). -/
def setDomainDef (h : Hdr) (sel : Selector) (args : Args) : LineDef :=
  stageLine h vSetDomain sel args none (fun _ => []) (fun n => .domain n ((args.on? "STATE").getD true))

/-! ### LANE, PORT, TABLE, SUB and PUB (Table 3-5) -/

def laneModeNames : List String := ["100G-BP", "100G-CU", "100G-C2M", "50G-BP", "50G-CU", "25G-BP", "25G-CU", "10G-BP", "10G-SFI", "1G-BX", "ROPE", "OFF"]
def laneModes : List LaneMode := [.bp100, .cu100, .c2m100, .bp50, .cu50, .bp25, .cu25, .bp10, .sfi10, .bx1, .rope, .off]
def fecNames : List String := ["AUTO", "RS", "BASER", "NONE"]
def vSetLane : Verb := { spec := { obj := "LANE", level := 2, stage := true, isSet := true, sel := some 16, args :=
  [⟨"MODE", .kw laneModeNames, false⟩, ⟨"FEC", .kw fecNames, false⟩] } }
/-- SET LANE (R128). -/
def setLaneDef (h : Hdr) (sel : Selector) (args : Args) : LineDef :=
  let m := ((args.get? "MODE").bind (kwIn laneModeNames)).bind (laneModes[·]?)
  let f := ((args.get? "FEC").bind (kwIn fecNames)).bind ([Fec.auto, .rs, .baser, .none][·]?)
  stageLine h vSetLane sel args none (fun _ => []) (fun n => .lane n m f)

def redundNames : List String := ["NONE", "PRP-A", "PRP-B", "HSR"]
def vSetPort : Verb := { spec := { obj := "PORT", level := 2, stage := true, isSet := true, sel := some 18, args :=
  [⟨"PVID", .int 1 4094, false⟩, ⟨"VLANS", .list 1 4094 false, false⟩, ⟨"PRIO", .int 0 7, false⟩, ⟨"LEARN", .int 0 65535, false⟩,
   ⟨"EXCESS", .kw ["DROP", "FLOOD"], false⟩, ⟨"REDUND", .kw redundNames, false⟩, ⟨"PEER", .int 0 17, false⟩, ⟨"IP", .ip true, false⟩,
   ⟨"GATEWAY", .ip true, false⟩] } }
/-- SET PORT (R127, R511). -/
def setPortDef (h : Hdr) (sel : Selector) (args : Args) : LineDef :=
  let nat (n : String) (f : Nat → PortField) : List PortField := setting args n (fun v => (natArg v).map f)
  let fs := nat "PVID" .pvid ++ setting args "VLANS" (fun v => (listArg v).map PortField.vlans) ++ nat "PRIO" .prio ++ nat "LEARN" .learn ++
    setting args "EXCESS" (fun v => (kwIn ["DROP", "FLOOD"] v).map (fun k => PortField.flood (k == 1))) ++
    setting args "REDUND" (fun v => (kwIn redundNames v).map (fun k => PortField.redund ([Redund.none, .prpA, .prpB, .hsr].getD k .none))) ++
    nat "PEER" .peer ++ setting args "IP" (fun v => (strArg v).map PortField.ip) ++ setting args "GATEWAY" (fun v => (strArg v).map PortField.gateway)
  stageLine h vSetPort sel args none (fun l => if l.all (16 ≤ ·) then [] else surplus args ["IP", "GATEWAY"]) (fun n => .port n fs)

def tableKinds : List String := ["MAC", "LPM4", "LPM6"]
def tableArgs : List ArgSpec :=
  [⟨"KIND", .kw tableKinds, true⟩, ⟨"MAC", .mac, false⟩, ⟨"VLAN", .int 1 4094, false⟩, ⟨"PORTS", .list 0 17 false, false⟩, ⟨"PREFIX", .pfx, false⟩,
   ⟨"PORT", .int 0 17, false⟩, ⟨"NEXTHOP", .mac, false⟩, ⟨"GEN", .int 0 4294967295, false⟩]
def macArg (args : Args) (n : String) : Nat := ((args.str? n).bind parseMac).getD 0
/-- A prefix is of the version that KIND names. -/
def prefixBad (args : Args) : Bad :=
  match args.kw? "KIND", (args.str? "PREFIX").bind parsePfx with
  | some "LPM4", some (v6, _, _) => must (!v6) "0701" []
  | some "LPM6", some (v6, _, _) => must v6 "0701" []
  | _, _ => none

def vAddTable : Verb := { spec := { obj := "TABLE", level := 2, stage := true, args := tableArgs } }
/-- ADD TABLE (R130). -/
def addTableDef (h : Hdr) (args : Args) : LineDef :=
  let mac := args.kw? "KIND" == some "MAC"
  let v6 := args.kw? "KIND" == some "LPM6"
  let p := ((args.str? "PREFIX").bind parsePfx).getD (false, 0, 0)
  let num (n : String) : Nat := (args.int? n).getD 0
  stageLine h vAddTable .all args (firstBad [needs args (if mac then ["MAC", "VLAN", "PORTS"] else ["PREFIX", "PORT", "NEXTHOP"]), prefixBad args])
    (fun _ => surplus args (if mac then ["PREFIX", "PORT", "NEXTHOP"] else ["MAC", "VLAN", "PORTS"]))
    (fun _ => if mac then .addMac (macArg args "MAC") (num "VLAN") ((args.list? "PORTS").getD []) (args.int? "GEN")
      else .addPfx v6 { addr := p.2.1, len := p.2.2, port := num "PORT", mac := macArg args "NEXTHOP" } (args.int? "GEN"))

def vDeleteTable : Verb := { spec := { obj := "TABLE", level := 2, stage := true, args := tableArgs } }
/-- DELETE TABLE: the entry of the MAC and VLAN, or of the prefix (R130). -/
def deleteTableDef (h : Hdr) (args : Args) : LineDef :=
  let mac := args.kw? "KIND" == some "MAC"
  let v6 := args.kw? "KIND" == some "LPM6"
  let p := ((args.str? "PREFIX").bind parsePfx).getD (false, 0, 0)
  stageLine h vDeleteTable .all args (firstBad [needs args (if mac then ["MAC", "VLAN"] else ["PREFIX"]), prefixBad args])
    (fun _ => surplus args (if mac then ["PREFIX", "PORT", "NEXTHOP"] else ["MAC", "VLAN", "PORTS"]))
    (fun _ => if mac then .delMac (macArg args "MAC") ((args.int? "VLAN").getD 0) (args.int? "GEN") else .delPfx v6 p.2.1 p.2.2 (args.int? "GEN"))

def vSetTable : Verb := { spec := { obj := "TABLE", level := 2, stage := true, isSet := true, names := ["KIND"], args :=
  [⟨"KIND", .kw ["MAC"], true⟩, ⟨"AGE", secs 8 262140, false⟩] } }
/-- SET TABLE KIND=MAC AGE= (R537). -/
def setTableDef (h : Hdr) (args : Args) : LineDef :=
  let ns := (args.int? "AGE").getD 0
  stageLine h vSetTable .all args (must (ns % 4000000000 == 0) "0701" []) (fun _ => []) (fun _ => .age (ns / 1000000000))

def typeNames : List String := ["SV", "GOOSE", "RSV", "RGOOSE"]
def typeArg (args : Args) : SubType := match args.kw? "TYPE" with | some "GOOSE" => .goose | some "RSV" => .rsv | some "RGOOSE" => .rgoose | _ => .sv
def authArg (args : Args) : Auth := match args.kw? "AUTH" with | some "HMAC" => .hmac | some "GMAC" => .gmac | _ => .none
/-- KEYSLOT is needed when AUTH is not NONE, and applies only then. -/
def authNeeds (args : Args) : List String := if authArg args = .none then [] else ["KEYSLOT"]
def authSurplus (args : Args) : List String := if authArg args = .none then surplus args ["KEYSLOT"] else []

def vAddSub : Verb := { spec := { obj := "SUB", level := 2, stage := true, sel := some 4096, args :=
  [⟨"TYPE", .kw typeNames, true⟩, ⟨"MAC", .mac, false⟩, ⟨"VLAN", .int 0 4094, false⟩, ⟨"APPID", .hex 0 0xFFFF 1, false⟩, ⟨"DST", .ip false, false⟩,
   ⟨"UDP", .int 1 65535, false⟩, ⟨"PORTS", .list 0 17 false, true⟩, ⟨"TEMPLATE", .int 0 255, true⟩, ⟨"AUTH", .kw ["NONE", "HMAC", "GMAC"], false⟩,
   ⟨"KEYSLOT", .int 0 4095, false⟩] } }
/-- ADD SUB (R135, R136). -/
def addSubDef (h : Hdr) (sel : Selector) (args : Args) : LineDef :=
  let t := typeArg args
  let l2 := t == .sv || t == .goose
  let dst := ((args.str? "DST").bind parseIp).getD (false, 0)
  let num (n : String) : Nat := (args.int? n).getD 0
  let s : SubCfg := { typ := t, mac := macArg args "MAC", vlan := num "VLAN", appid := num "APPID", v6 := dst.1, dst := dst.2, udp := num "UDP",
                      ports := (args.list? "PORTS").getD [], template := num "TEMPLATE", auth := authArg args, slot := num "KEYSLOT" }
  stageLine h vAddSub sel args (needs args ((if l2 then ["MAC", "VLAN", "APPID"] else ["DST", "UDP"]) ++ authNeeds args))
    (fun _ => surplus args (if l2 then ["DST", "UDP"] else ["MAC", "VLAN", "APPID"]) ++ authSurplus args) (fun n => .addSub n s)

def vAddPub : Verb := { spec := { obj := "PUB", level := 2, stage := true, sel := some 1024, args :=
  [⟨"TYPE", .kw typeNames, true⟩, ⟨"TEMPLATE", .int 0 255, true⟩, ⟨"PORTS", .list 0 17 false, true⟩, ⟨"AUTH", .kw ["NONE", "HMAC", "GMAC"], false⟩,
   ⟨"KEYSLOT", .int 0 4095, false⟩, ⟨"VLAN", .int 0 4094, false⟩, ⟨"PRIO", .int 0 7, false⟩, ⟨"MIN", .dur 1000000 1000000000, false⟩,
   ⟨"MAX", .dur 100000000 60000000000, false⟩] } }
/-- ADD PUB (R127, R587). -/
def addPubDef (h : Hdr) (sel : Selector) (args : Args) : LineDef :=
  let num (n : String) (d : Nat) : Nat := (args.int? n).getD d
  let p : PubCfg := { typ := typeArg args, template := num "TEMPLATE" 0, ports := (args.list? "PORTS").getD [], auth := authArg args, slot := num "KEYSLOT" 0,
                      vlan := num "VLAN" 0, prio := num "PRIO" 4, min := num "MIN" 2000000, max := num "MAX" 1000000000 }
  stageLine h vAddPub sel args (needs args (authNeeds args)) (fun _ => authSurplus args) (fun n => .addPub n p)

def vDeleteSub : Verb := { spec := { obj := "SUB", level := 2, stage := true, sel := some 4096 } }
def vDeletePub : Verb := { spec := { obj := "PUB", level := 2, stage := true, sel := some 1024 } }
/-- DELETE SUB and DELETE PUB (R127). -/
def deleteSubDef (h : Hdr) (sel : Selector) (args : Args) : LineDef := stageLine h vDeleteSub sel args none (fun _ => []) .delSub
def deletePubDef (h : Hdr) (sel : Selector) (args : Args) : LineDef := stageLine h vDeletePub sel args none (fun _ => []) .delPub

/-! ### TIME (Table 3-6) -/

def vSetTime : Verb := { spec := { obj := "TIME", level := 2, stage := true, isSet := true, args :=
  [⟨"REF", .kw ["INT25", "EXT10"], false⟩, ⟨"PTP", .list 0 17 true, false⟩, ⟨"IRIG", onOff, false⟩, ⟨"PPS", onOff, false⟩, ⟨"UTCOFFSET", .int 0 255, false⟩,
   ⟨"LEAP", .kw ["NONE", "INSERT", "DELETE"], false⟩, ⟨"LEAPAT", .time, false⟩, ⟨"HOLDOVER", secs 1 86400, false⟩] } }
/-- SET TIME (R137, R142). -/
def setTimeDef (h : Hdr) (args : Args) : LineDef :=
  let fs := setting args "REF" (fun v => (kwIn ["INT25", "EXT10"] v).map (fun k => TimeField.ref (if k = 0 then .int25 else .ext10))) ++
    setting args "PTP" (fun v => (listArg v).map TimeField.ptp) ++ setting args "IRIG" (fun v => (onArg v).map TimeField.irig) ++
    setting args "PPS" (fun v => (onArg v).map TimeField.pps) ++ setting args "UTCOFFSET" (fun v => (natArg v).map TimeField.utcOffset) ++
    setting args "LEAP" (fun v => (kwIn ["NONE", "INSERT", "DELETE"] v).map (fun k => TimeField.leap ([Leap.none, .insert, .delete].getD k .none))) ++
    (args.time? "LEAPAT").toList.map TimeField.leapAt ++ setting args "HOLDOVER" (fun v => (natArg v).map TimeField.holdover)
  stageLine h vSetTime .all args none (fun _ => []) (fun _ => .time fs)

/-! ### HITCH, PANEL, TRIP and INPUT (Table 3-7) -/

def vSetHitch : Verb := { spec := { obj := "HITCH", level := 2, stage := true, isSet := true, names := ["GROUP"], args :=
  [⟨"GROUP", .int 1 15, true⟩, ⟨"FIS", .list 0 1023 true, false⟩, ⟨"LEVEL", .kw levelNames, false⟩] } }
/-- SET HITCH: FIS and LEVEL of a group (R144). -/
def setHitchDef (h : Hdr) (args : Args) : LineDef :=
  stageLine h vSetHitch .all args none (fun _ => []) (fun _ => .group ((args.int? "GROUP").getD 1) (args.list? "FIS") ((args.kw? "LEVEL").map levelOf))

def vAddHitch : Verb := { spec := { obj := "HITCH", level := 2, stage := true, args :=
  [⟨"REGION", .int 0 63, true⟩, ⟨"BASE", .hex 0 0xFFFFFFFFFFFFFFFF 8, true⟩, ⟨"LENGTH", .int 8 16777216, true⟩] } }
/-- ADD HITCH: a region in structure memory (R150, R459). -/
def addHitchDef (h : Hdr) (args : Args) : LineDef :=
  let len := (args.int? "LENGTH").getD 0
  stageLine h vAddHitch .all args (must (len % 8 == 0) "0701" []) (fun _ => [])
    (fun _ => .addRegion ((args.int? "REGION").getD 0) ((args.int? "BASE").getD 0) len)

def vDeleteHitch : Verb := { spec := { obj := "HITCH", level := 2, stage := true, args := [⟨"REGION", .int 0 63, true⟩] } }
/-- DELETE HITCH (R467). -/
def deleteHitchDef (h : Hdr) (args : Args) : LineDef :=
  stageLine h vDeleteHitch .all args none (fun _ => []) (fun _ => .delRegion ((args.int? "REGION").getD 0))

def patternNames : List String := ["OFF", "ON", "SLOW", "FAST"]
def vSetPanel : Verb := { spec := { obj := "PANEL", level := 2, stage := true, isSet := true, names := ["TOUCH", "LED"], args :=
  [⟨"DEBOUNCE", .dur 2000000 200000000, false⟩, ⟨"TOUCH", .int 0 7, false⟩, ⟨"THRESHOLD", .int 1 255, false⟩, ⟨"DRIFT", onOff, false⟩, ⟨"LED", .int 0 47, false⟩,
   ⟨"FAULT", .kw patternNames, false⟩] } }
/-- SET PANEL: debounce, a touch channel, an LED's belay pattern; one line can carry all three (R143, R151). -/
def setPanelDef (h : Hdr) (args : Args) : LineDef :=
  let th := args.int? "THRESHOLD"
  let dr := args.on? "DRIFT"
  let es := (args.int? "DEBOUNCE").toList.map Edit.debounce ++
    (match args.int? "TOUCH" with | some t => if th.isSome || dr.isSome then [Edit.touch t th dr] else [] | none => []) ++
    (match args.int? "LED", (args.get? "FAULT").bind (kwIn patternNames) with | some l, some p => [Edit.led l p] | _, _ => [])
  LineDef.mk vSetPanel .all args noBad (fun _ _ => none) (fun c _ => c.stageEdits h.sess 2
    ((if args.has "TOUCH" then [] else surplus args ["THRESHOLD", "DRIFT"]) ++ (if args.has "LED" then [] else surplus args ["FAULT"])) es)

def vSetTrip : Verb := { spec := { obj := "TRIP", level := 2, stage := true, isSet := true, sel := some 16, args :=
  [⟨"MINPULSE", .dur 0 500000000, false⟩, ⟨"SUPERVISE", onOff, false⟩, ⟨"PLUG", .intOr 0 3 ["NONE"], false⟩] } }
/-- SET TRIP (R143, R691). -/
def setTripDef (h : Hdr) (sel : Selector) (args : Args) : LineDef :=
  stageLine h vSetTrip sel args none (fun _ => []) (fun n => .trip n (args.int? "MINPULSE") (args.on? "SUPERVISE") ((args.get? "PLUG").bind orNone))

def vSetInput : Verb := { spec := { obj := "INPUT", level := 2, stage := true, isSet := true, sel := some 16, args :=
  [⟨"VNOM", .int 24 250, false⟩, ⟨"FILTER", .dur 0 100000000, false⟩, ⟨"INVERT", .kw ["YES", "NO"], false⟩] } }
/-- SET INPUT (R143, R688). -/
def setInputDef (h : Hdr) (sel : Selector) (args : Args) : LineDef :=
  let volts : Bad := match args.int? "VNOM" with | some n => must ([24, 48, 110, 125, 220, 250].contains n) "0701" [] | none => none
  stageLine h vSetInput sel args volts (fun _ => [])
    (fun n => .input n (args.int? "VNOM") (args.int? "FILTER") ((args.get? "INVERT").bind onArg))

/-! ### FAULT (Table 3-8) -/

def clsNames : List String := ["CORRECTED", "DEGRADED", "FI-FATAL", "UNIT-FATAL"]
def clsOfIdx (k : Nat) : Cls := [Cls.corrected, .degraded, .fiFatal, .unitFatal].getD k .corrected
def vSetFault : Verb := { reserved := fun n => (srcRow n).isNone, spec := { obj := "FAULT", level := 2, stage := true, isSet := true, sel := some 1024, args := [⟨"CLASS", .kw clsNames, false⟩] } }
/-- The class lies at or above the floor, and FI-FATAL stands only where a fault names an FI (R156, R709). -/
def SrcRow.classBad (r : SrcRow) (k : Cls) : Bad :=
  firstBad [must (decide (r.floor.code ≤ k.code)) "0701" [fSym "FLOOR" r.floor.name], must (k != .fiFatal || r.fiScope) "0701" [fSym "SCOPE" "UNIT"]]
/-- SET FAULT: a class at or above the source's floor (R156, R709); a reserved source is answered 010D, SCOPE=UNIT where FI-FATAL stands without an FI
(R710). -/
def setFaultDef (h : Hdr) (sel : Selector) (args : Args) : LineDef :=
  let k := clsOfIdx (((args.get? "CLASS").bind (kwIn clsNames)).getD 0)
  LineDef.mk vSetFault sel args noBad
    (fun _ l => l.findSome? (fun n => match srcRow n with | some r => r.classBad k | none => none))
    (fun c l => c.stageEdits h.sess 2 [] (l.map (fun n => .faultCls n k)))

end Sys2Proof.Machine
end

