-- ==== Sys2Proof/Machine/Parse.lean ====
section
/-!
DEFINITION. The octet strings that bulk loads carry: graph images and their load-time checks (R330–R346, R367, R368), templates (R565–R567, R583) and
prefixes (R555). Each reader answers the offset, or the code word, of the first failure of the first failing check.
-/
namespace Sys2Proof.Machine

/-! ### Reading octets -/

/-- A big-endian number of some octets (R6). -/
def be (l : List Byte) (off size : Nat) : Nat := beValue 256 (((l.drop off).take size).map BitVec.toNat)
/-- The first octet of a run that is not zero. -/
def zeros (l : List Byte) (off n : Nat) : Option Nat := (List.range n).findSome? (fun i => if octet l (off + i) = 0 then none else some (off + i))
def isAt (ok : Bool) (off : Nat) : Option Nat := if ok then none else some off
def firstOff (l : List (Option Nat)) : Option Nat := l.findSome? (fun x => x)
def chars (l : List Byte) (off n : Nat) : List Char := ((l.drop off).take n).map (fun b => Char.ofNat b.toNat)
def fOffset (n : Nat) : Fields := [⟨"OFFSET", .hex 8 n⟩]
def word64 (l : List Byte) (off : Nat) : Word := BitVec.ofNat 64 (be l off 8)

/-! ### Graph images (Tables 8-1, 8-2, 9-2) -/

/-- Offsets of the sections of Table 8-1. -/
structure Secs where
  analysis : Nat
  ports : Nat
  consts : Nat
  nConst : Nat
  desc : Nat
  code : Nat
  sig : Nat

def secsOf (l : List Byte) : Secs :=
  { analysis := be l 12 4, ports := be l 16 4, consts := be l 20 4, nConst := be l 24 2, desc := be l 28 4, code := be l 32 4, sig := be l 36 4 }

/-- The pages of a code section, or the offset of a page that does not lie within it (R334). -/
def codePages (l : List Byte) (stop : Nat) : Nat → Nat → Except Nat (List (List Word))
  | 0, _ => .ok []
  | i + 1, off =>
    if stop ≤ off then .ok []
    else
      let used := be l off 4
      if used = 0 ∨ 1024 < used ∨ stop < off + 8 + 8 * used then .error off
      else match zeros l (off + 4) 4 with
        | some z => .error z
        | none => (codePages l stop i (off + 8 + 8 * used)).map (fun t => (List.range used).map (fun j => word64 l (off + 8 + 8 * j)) :: t)

def sigSize (alg : Nat) : Nat := match alg with | 0 => 2 | 1 => 66 | _ => 98

/-- Check 1: the header, the sections and the signature's form (R330, R335). -/
def imageCheck1 (l : List Byte) : Option Nat :=
  let s := secsOf l
  let n := l.length
  let within (off size : Nat) : Bool := decide (off + size ≤ n)
  firstOff [isAt (octet l 0 == 0x45) 0, isAt (octet l 1 == 0x4C) 1, isAt (octet l 2 == 0x56) 2, isAt (octet l 3 == 0x47) 3, isAt (octet l 4 == 1) 4, zeros l 5 3,
    isAt (be l 8 4 == n) 8, isAt (decide (144 ≤ s.analysis) && within s.analysis 368) 12, isAt (decide (s.analysis + 368 ≤ s.ports) && within s.ports 640) 16,
    isAt (decide (s.ports + 640 ≤ s.consts) && within s.consts (16 * s.nConst)) 20, isAt (s.nConst ≤ 256) 24, zeros l 26 2,
    isAt (decide (s.consts + 16 * s.nConst ≤ s.desc) && within s.desc 416) 28, isAt (decide (s.desc + 416 ≤ s.code) && within s.code 0) 32,
    isAt (decide (s.code ≤ s.sig) && within s.sig 2) 36, zeros l 40 8,
    (match codePages l s.sig l.length s.code with | .ok _ => none | .error e => some e),
    isAt (decide (octet l s.sig ≤ 2) && within s.sig (sigSize (octet l s.sig))) s.sig, zeros l (s.sig + 1) 1]

/-- Cuts a list into pieces of given lengths. -/
def splitLens {α : Type} : List Nat → List α → List (List α)
  | [], _ => []
  | n :: t, l => l.take n :: splitLens t (l.drop n)

/-- Check 2: the analysis record (R331). -/
def imageCheck2 (l : List Byte) (pages : Nat) : Option Nat :=
  let a := (secsOf l).analysis
  let v := octet l a
  let overflow (off size : Nat) : List (Option Nat) := (List.range 48).map (fun i => if i < v then none else zeros l (off + size * i) size)
  firstOff ([isAt (decide (1 ≤ v ∧ v ≤ 48)) a, isAt (octet l (a + 1) < 2) (a + 1), isAt (decide (1 ≤ be l (a + 2) 2 ∧ be l (a + 2) 2 ≤ 32768)) (a + 2),
      isAt (decide (1 ≤ be l (a + 4) 4 ∧ be l (a + 4) 4 ≤ 65535)) (a + 4)] ++
    (List.range 48).map (fun i => let p := octet l (a + 20 + i); isAt (if i < v then decide (1 ≤ p ∧ p ≤ 16) else p == 0) (a + 20 + i)) ++
    overflow (a + 68) 2 ++ overflow (a + 164) 4 ++
    [zeros l (a + 356) 12, isAt ((List.range v).foldl (fun n i => n + octet l (a + 20 + i)) 0 == pages) (a + 20)])

def outKindOf (n : Nat) : OutKind := [OutKind.undeclared, .trip, .pub, .event, .chan, .led, .display, .rope].getD n .undeclared
def kindOf (n : Nat) : Kind := match n with | 0 => .data | 3 => .ctrl | _ => .time

/-- A destination names a used word, and port R one of FORM 00 (R341). -/
def destOk (code : List (List (List Word))) (d : Dest) : Bool :=
  match code[d.vt]? with
  | some t => match t[d.page]? with
    | some p => match p[d.off]? with
      | some w => !d.portR || Word.form w == 0
      | none => false
    | none => false
  | none => false

/-- Check 3: the port section (R332, R336). -/
def imageCheck3 (l : List Byte) (code : List (List (List Word))) : Option Nat :=
  let s := secsOf l
  let size := s.consts - s.ports
  let fallbacks (i : Nat) : Bool := (List.range i).any (fun j => octet l (s.ports + 8 * j) % 2 == 1 && octet l (s.ports + 8 * j) / 8 % 2 == 1)
  firstOff ((List.range 64).map (fun i =>
      let e := s.ports + 8 * i
      let fl := octet l e
      let n := be l (e + 2) 2
      let lo := be l (e + 4) 4
      firstOff [isAt (fl < 16) e, isAt (octet l (e + 1) == 0) (e + 1),
        if fl % 2 = 0 then none else
        firstOff ([isAt (fl / 8 % 2 == 0 || (fl / 4 % 2 == 0 && !fallbacks i)) e, isAt (decide (1 ≤ n ∧ n ≤ 256)) (e + 2),
          isAt (decide (640 ≤ lo ∧ lo + 4 * n ≤ size)) (e + 4)] ++
          (List.range n).map (fun j => isAt (octet l (s.ports + lo + 4 * j) == 0 && destOk code (Dest.of24 (be l (s.ports + lo + 4 * j + 1) 3))) (s.ports + lo + 4 * j)))]) ++
    (List.range 64).map (fun i =>
      let e := s.ports + 512 + 2 * i
      firstOff [isAt (octet l e < 8) e, isAt (octet l (e + 1) < 2) (e + 1)]))

/-- Check 4: constants (R333). -/
def imageCheck4 (l : List Byte) : Option Nat :=
  let s := secsOf l
  firstOff ((List.range s.nConst).map (fun i =>
    let e := s.consts + 16 * i
    firstOff [isAt ([0, 3, 4].contains (octet l e)) e, zeros l (e + 1) 7]))

/-- Check 5: the descriptor block (R367, R368). -/
def imageCheck5 (l : List Byte) : Option Nat :=
  let s := secsOf l
  let d := s.desc
  let hw := octet l (s.analysis + 1) % 2 == 1
  let hwt := be l (d + 20) 2
  firstOff ([isAt (decide (be l d 4 ≤ 16777216 ∧ be l d 4 % 64 = 0)) d, isAt (be l (d + 4) 2 ≤ 4096) (d + 4), isAt (octet l (d + 6) ≤ 64) (d + 6), zeros l (d + 7) 1,
      isAt (if hw then decide (100 ≤ hwt ∧ hwt ≤ 10000) else hwt == 0) (d + 20), zeros l (d + 22) 2] ++
    (List.range 16).map (fun i =>
      let e := d + 24 + 16 * i
      if octet l e % 2 = 0 then zeros l e 16
      else
        let base := be l (e + 3) 5
        let len := be l (e + 8) 4
        firstOff [isAt (octet l e == 1) e, zeros l (e + 1) 2, isAt (decide (base % 8 = 0 ∧ base + 8 * len ≤ 1099511627776)) (e + 3),
          isAt (decide (1 ≤ len ∧ len ≤ 16777216)) (e + 8), zeros l (e + 12) 4]) ++
    (List.range 8).map (fun i =>
      let e := d + 280 + 16 * i
      if octet l e % 2 = 0 then zeros l e 16
      else
        let w := octet l (e + 1)
        let fits (off : Nat) : Option Nat := isAt (decide (be l off 4 < 2 ^ w)) off
        firstOff [isAt (octet l e < 8) e, isAt ([8, 16, 32].contains w) (e + 1), zeros l (e + 2) 2, fits (e + 4), fits (e + 8), fits (e + 12)]) ++
    [zeros l (d + 408) 8])

/-- The image an octet string describes, its code section in pages (R330–R335, R367). -/
def imageOf (l : List Byte) (pages : List (List Word)) : Image :=
  let s := secsOf l
  let a := s.analysis
  let d := s.desc
  let v := octet l a
  let pg := (List.range v).map (fun i => octet l (a + 20 + i))
  { compat := (l.drop 48).take 96, digest := Config.sha256 l, v := v, hwait := octet l (a + 1) % 2 == 1, c := be l (a + 2) 2, k := be l (a + 4) 4, l := be l (a + 8) 4,
    kloop := (List.range 8).map (fun i => octet l (a + 12 + i)), pg := pg, w := (List.range v).map (fun i => be l (a + 68 + 2 * i) 2),
    f := (List.range v).map (fun i => be l (a + 164 + 4 * i) 4),
    inputs := (List.range 64).map (fun i =>
      let e := s.ports + 8 * i
      let fl := octet l e
      if fl % 2 = 0 then ⟨false, false, false, false, []⟩
      else ⟨true, fl / 2 % 2 == 1, fl / 4 % 2 == 1, fl / 8 % 2 == 1,
        (List.range (be l (e + 2) 2)).map (fun j => Dest.of24 (be l (s.ports + be l (e + 4) 4 + 4 * j + 1) 3))⟩),
    outputs := (List.range 64).map (fun i => ⟨outKindOf (octet l (s.ports + 512 + 2 * i)), octet l (s.ports + 513 + 2 * i) % 2 == 1⟩),
    consts := (List.range s.nConst).map (fun i => ⟨kindOf (octet l (s.consts + 16 * i)), word64 l (s.consts + 16 * i + 8)⟩),
    desc := { smem := be l d 4, priv := be l (d + 4) 2, cells := octet l (d + 6), banks := (List.range 4).map (fun i => be l (d + 8 + 3 * i) 3),
              hwt := be l (d + 20) 2,
              rings := (List.range 16).map (fun i => let e := d + 24 + 16 * i; ⟨octet l e % 2 == 1, be l (e + 3) 5, be l (e + 8) 4⟩),
              crcs := (List.range 8).map (fun i => let e := d + 280 + 16 * i
                ⟨octet l e % 2 == 1, octet l e / 2 % 2 == 1, octet l e / 4 % 2 == 1, octet l (e + 1), be l (e + 4) 4, be l (e + 8) 4, be l (e + 12) 4⟩) },
    code := splitLens pg pages, sigAlg := octet l s.sig }

/-- A code word passes check 6: its fields, and its destinations below V (R337–R341). -/
def loadWordOk (i : Image) (w : Word) : Bool :=
  wordOk i w && (opSilent (Word.op w) || (Word.dests w).all (destOk i.code))

/-- Check 6: the first code word, in image order, that fails. -/
def imageCheck6 (i : Image) : Option Fields :=
  i.code.zipIdx.findSome? (fun t => t.1.zipIdx.findSome? (fun p => p.1.zipIdx.findSome? (fun w =>
    if loadWordOk i w.1 then none
    else some [fNat "VT" t.2, ⟨"IA", .hex 4 (1024 * p.2 + w.2)⟩, ⟨"WORD", .hex 16 w.1.toNat⟩])))

def imageHasHwait (i : Image) : Bool := i.code.any (fun t => t.any (fun p => p.any (fun w => Word.op w == 0xE2)))

/-- The load-time checks of Table 8-8 in their order: the image, or the detail of 0707 (R344). -/
def parseImage (l : List Byte) : Except Fields Image :=
  match imageCheck1 l with
  | some e => .error (fOffset e)
  | none =>
    let s := secsOf l
    let pages := match codePages l s.sig l.length s.code with | .ok p => p | .error _ => []
    match imageCheck2 l pages.length with
    | some e => .error (fOffset e)
    | none =>
      let i := imageOf l pages
      match firstOff [imageCheck3 l i.code, imageCheck4 l, imageCheck5 l] with
      | some e => .error (fOffset e)
      | none => match imageCheck6 i with
        | some fs => .error fs
        | none => if imageHasHwait i == i.hwait then .ok i else .error (fOffset (s.analysis + 1))

/-! ### Templates -/

/-- A decode template (Table 14-1), or the offset of its first failing octet (R565–R567). -/
def parseDTempl (l : List Byte) : Except Nat DTempl :=
  let goose := octet l 2 == 2
  let n := octet l 7
  let idlen := octet l 12
  let item (i : Nat) : Option Nat :=
    let e := 152 + 8 * i
    let f := octet l e
    let x := be l (e + 2) 2
    firstOff [isAt (f == 3 || (if goose then decide (0x10 ≤ f ∧ f ≤ 0x15) else f == 1 || f == 2)) e,
      isAt (decide (octet l (e + 1) < 2) && (octet l (e + 1) == 0 || f == 1)) (e + 1),
      isAt (decide (x ≤ (if f = 3 then 0 else if goose then 255 else 63))) (e + 2), zeros l (e + 4) 4]
  match firstOff ([isAt (octet l 0 == 1) 0, isAt (octet l 1 == 1) 1, isAt (octet l 2 == 1 || goose) 2, isAt (decide (octet l 3 < (if goose then 4 else 2))) 3,
      isAt (if goose then be l 4 2 == 0 else be l 4 2 == 4800 || be l 4 2 == 14400) 4, isAt (if goose then octet l 6 == 0 else octet l 6 == 1 || octet l 6 == 2) 6,
      isAt (decide (1 ≤ n ∧ n ≤ 31) && l.length == 152 + 8 * n) 7, isAt (idlen ≤ 128) 12, zeros l 13 3, zeros l (16 + idlen) (128 - idlen), zeros l 144 8] ++
      (List.range n).map item) with
  | some e => .error e
  | none => .ok
    { goose := goose, simOk := octet l 3 % 2 == 1, newOnly := octet l 3 / 2 == 1, rate := be l 4 2, asdus := octet l 6, confRev := be l 8 4,
      ident := chars l 16 idlen, items := (List.range n).map (fun i => ⟨octet l (152 + 8 * i), octet l (153 + 8 * i) == 1, be l (154 + 8 * i) 2⟩) }

/-- DEFAULT of a member lies within its format's range. -/
def defaultOk (fmt bitlen : Nat) (w : Word) : Bool :=
  match fmt with
  | 1 => w == (w.setWidth 32).signExtend 64
  | 2 | 0x13 => decide (w.toNat < 4294967296)
  | 0x10 => decide (w.toNat < 2)
  | 0x14 => decide (w.toNat < 2 ^ bitlen)
  | 0x15 => decide (w.toNat % 1073741824 < 1000000000)
  | _ => true

/-- An encode template (Table 14-7), or the offset of its first failing octet (R583). -/
def parseETempl (l : List Byte) : Except Nat ETempl :=
  let goose := octet l 2 == 2
  let n := octet l 18
  let strAt (lenAt off : Nat) : Option Nat := zeros l (off + octet l lenAt) (128 - octet l lenAt)
  let member (i : Nat) : Option Nat :=
    let e := 424 + 12 * i
    let f := octet l e
    let b := octet l (e + 1)
    firstOff [isAt (if goose then decide (0x10 ≤ f ∧ f ≤ 0x15) else f == 1 || f == 2) e, isAt (if f = 0x14 then decide (1 ≤ b ∧ b ≤ 64) else b == 0) (e + 1),
      zeros l (e + 2) 2, isAt (defaultOk f b (word64 l (e + 4))) (e + 4)]
  match firstOff ([isAt (octet l 0 == 2) 0, isAt (octet l 1 == 1) 1, isAt (octet l 2 == 1 || goose) 2, zeros l 3 1,
      isAt (if goose then be l 16 2 == 0 else be l 16 2 == 4800 || be l 16 2 == 14400) 16,
      isAt (decide (1 ≤ n ∧ (goose ∨ n ≤ 64)) && l.length == 424 + 12 * n) 18, isAt (decide (1 ≤ octet l 19 ∧ octet l 19 ≤ 128)) 19, isAt (octet l 20 ≤ 128) 20,
      isAt (octet l 21 ≤ 128) 21, zeros l 22 2, strAt 19 24, strAt 20 152, strAt 21 280, zeros l 418 6] ++ (List.range n).map member) with
  | some e => .error e
  | none => .ok
    { goose := goose, appid := be l 4 2, dstMac := be l 6 6, confRev := be l 12 4, rate := be l 16 2, ref := chars l 24 (octet l 19), datSet := chars l 152 (octet l 20),
      goId := chars l 280 (octet l 21), dstIp := be l 408 4, srcIp := be l 412 4, udp := be l 416 2,
      members := (List.range n).map (fun i => ⟨octet l (424 + 12 * i), octet l (425 + 12 * i), word64 l (428 + 12 * i)⟩) }

/-! ### Prefixes of LOAD TABLE (R555) -/

/-- The prefixes of a table, or the offset of the first failing octet. -/
def parsePfxs (v6 : Bool) (l : List Byte) : Except Nat (List Pfx) :=
  let alen := if v6 then 16 else 4
  let rlen := if v6 then 32 else 16
  let n := l.length / rlen
  let at' (i : Nat) : Pfx := ⟨be l (rlen * i) alen, octet l (rlen * i + alen), octet l (rlen * i + alen + 1), be l (rlen * i + alen + 2) 6⟩
  let bad (i : Nat) : Option Nat :=
    let e := rlen * i
    let p := at' i
    let host := (List.range alen).findSome? (fun j =>
      let keep := min 8 (p.len - 8 * j)
      if octet l (e + j) % 2 ^ (8 - keep) = 0 then none else some (e + j))
    firstOff [isAt (p.len ≤ 8 * alen) (e + alen), host, isAt (p.port ≤ 17) (e + alen + 1), zeros l (e + alen + 8) (rlen - alen - 8),
      isAt (!(List.range i).any (fun j => (at' j).addr == p.addr && (at' j).len == p.len)) e]
  match firstOff ((List.range n).map bad ++ [isAt (l.length % rlen == 0) (rlen * n)]) with
  | some e => .error e
  | none => .ok ((List.range n).map at')

end Sys2Proof.Machine
end

