-- ==== Sys2Proof/Machine/Load.lean ====
section
/-!
DEFINITION. Bulk loads: the LOAD lines, records, END and its checks, and their cancellation (R68–R73, R81, R100, R105, R106, R115, R140, R141, R163, R335,
R555, R565, R583, R641–R646 of spec/).
-/
namespace Sys2Proof.Machine

/-! ### LOAD lines -/

/-- Octets of loaded data a session holds staged or is loading for staging (R81). -/
def Sess.held (x : Sess) : Nat :=
  x.loaded + (match x.bulk with
    | some b => (match b.what with | .image _ _ | .key _ _ _ _ _ _ => 0 | _ => b.length)
    | none => 0)
def mib64 : Nat := 67108864
/-- The staging limits that a load of some octets would pass (R81). -/
def Chip.loadRoom (c : Chip) (s n : Nat) : Bad :=
  let all := c.trev.sess.foldl (fun k e => k + e.2.held) 0
  must (decide ((c.sess s).held + n ≤ mib64 ∧ all + n ≤ 4 * mib64)) "0501" []

/-- A LOAD line: it puts the session into the bulk state (R68). -/
def loadLine (h : Hdr) (v : Verb) (sel : Selector) (args : Args) (state valid : Chip → List Nat → Bad) (what : List Nat → LoadWhat) : LineDef :=
  let n := (args.int? "LENGTH").getD 0
  LineDef.mk v sel args (fun c l => firstBad [state c l, if v.spec.stage then c.loadRoom h.sess n else none]) valid (fun c l =>
    (c.modSess h.sess (fun x => { x with bulk := some { what := what l, length := n, data := [], discarding := false, last := c.clk.cycle, level := v.spec.level } }),
     .ok []))

/-- The NOIMAGE line set asks for physical presence on its loads (R163, R638). -/
def Chip.romPresence (c : Chip) : Bad := must (!c.romServes || c.panel.presence.isSome) "0805" []

def bankArg (args : Args) : Bool := args.kw? "BANK" == some "B"
def vLoadImage : Verb := { rom := true, flash := true, spec := { obj := "IMAGE", level := 3, args :=
  [⟨"BANK", .kw ["A", "B"], true⟩, ⟨"KIND", .kw ["WARDEN", "STEWARD"], true⟩, ⟨"LENGTH", .int 1 16777216, true⟩] } }
/-- LOAD IMAGE: a bank that does not run (R106). -/
def loadImageDef (h : Hdr) (args : Args) : LineDef :=
  let steward := args.kw? "KIND" == some "STEWARD"
  let running (c : Chip) : Bool := (if steward then c.unit.runS else c.unit.runW) == some (bankArg args)
  loadLine h vLoadImage .all args (fun c _ => must (!running c) "0401" []) (fun c _ => c.romPresence) (fun _ => .image (!steward) (bankArg args))

def vLoadFi : Verb := { spec := { obj := "FI", level := 2, stage := true, sel := some 1024, args := [⟨"LENGTH", .int 1 67108864, true⟩] } }
/-- LOAD FI (R115). -/
def loadFiDef (h : Hdr) (sel : Selector) (args : Args) : LineDef := loadLine h vLoadFi sel args noBad noBad .fi

def vLoadTable : Verb := { spec := { obj := "TABLE", level := 2, stage := true, args :=
  [⟨"KIND", .kw ["LPM4", "LPM6"], true⟩, ⟨"LENGTH", .int 1 1048576, true⟩] } }
/-- LOAD TABLE (R131, R555). -/
def loadTableDef (h : Hdr) (args : Args) : LineDef := loadLine h vLoadTable .all args noBad noBad (fun _ => .table (args.kw? "KIND" == some "LPM6"))

def templArgs : List ArgSpec := [⟨"TEMPLATE", .int 0 255, true⟩, ⟨"LENGTH", .int 1 4096, true⟩]
def vLoadSub : Verb := { spec := { obj := "SUB", level := 2, stage := true, args := templArgs } }
def vLoadPub : Verb := { spec := { obj := "PUB", level := 2, stage := true, args := templArgs } }
/-- LOAD SUB and LOAD PUB: a decode or an encode template (R127, R565, R583). -/
def loadSubDef (h : Hdr) (args : Args) : LineDef := loadLine h vLoadSub .all args noBad noBad (fun _ => .sub ((args.int? "TEMPLATE").getD 0))
def loadPubDef (h : Hdr) (args : Args) : LineDef := loadLine h vLoadPub .all args noBad noBad (fun _ => .pub ((args.int? "TEMPLATE").getD 0))

def algNames : List String := ["AES256", "HMAC256", "ECP256", "ECP384"]
def Alg.ofIdx (n : Nat) : Alg := [Alg.aes256, .hmac256, .ecp256, .ecp384].getD n .aes256
def Alg.idx : Alg → Nat | .aes256 => 0 | .hmac256 => 1 | .ecp256 => 2 | .ecp384 => 3
/-- Octets of key material of an algorithm (R639). -/
def Alg.size : Alg → Nat | .aes256 | .hmac256 => 32 | .ecp256 => 65 | .ecp384 => 97
def useNames : List String := ["AUTHTAG", "LOGIN", "GRAPH", "SESSION"]

/-- The combinations of Table 16-4, and FROM before UNTIL (R641). -/
def keyAgree (alg : Alg) (use : List Bool) (fi : Option Nat) (from' until' : Nat × Nat) : Bad :=
  let on (i : Nat) : Bool := use.getD i false
  let anyFi := fi.isNone
  let ecp := alg == .ecp256 || alg == .ecp384
  firstBad [must (!on 0 || !(on 1 || on 2 || on 3)) "0702" [fSym "FIELDS" "USE"],
    must (!on 0 || !ecp) "0702" [⟨"FIELDS", .syms ["ALG", "USE"]⟩], must (!on 1 || alg != .aes256) "0702" [⟨"FIELDS", .syms ["ALG", "USE"]⟩],
    must (!on 2 || ecp) "0702" [⟨"FIELDS", .syms ["ALG", "USE"]⟩], must (!on 3 || alg == .hmac256) "0702" [⟨"FIELDS", .syms ["ALG", "USE"]⟩],
    must (on 0 || anyFi) "0702" [⟨"FIELDS", .syms ["USE", "FI"]⟩], must (!timeLe until' from') "0702" [⟨"FIELDS", .syms ["FROM", "UNTIL"]⟩]]

/-- Key slots are loaded and revoked only in ISSUED and FIELD, and not in base camp with cause SEAL (R645). -/
def Chip.keyNeed (c : Chip) : Bad :=
  firstBad [must (c.keys.life == .issued || c.keys.life == .field) "0205" [], must (!c.unit.camp.any (fun e => e.1 == .seal)) "0206" []]

def Chip.freeSlots (c : Chip) : Nat := 4096 - (c.keys.slots.filter (fun e => e.2.st != .free)).length

def vLoadKey : Verb := { flash := true, need := Chip.keyNeed, spec := { obj := "KEYSLOT", level := 3, sel := some 4096, args :=
  [⟨"ALG", .kw algNames, true⟩, ⟨"USE", .kws useNames, true⟩, ⟨"FI", .intOr 0 1023 ["ANY"], false⟩, ⟨"FROM", .time, true⟩, ⟨"UNTIL", .time, true⟩,
   ⟨"LENGTH", .int 1 512, true⟩] } }
/-- LOAD KEYSLOT (R140, R141, R641, R642, R648). -/
def loadKeyDef (h : Hdr) (sel : Selector) (args : Args) : LineDef :=
  let alg := Alg.ofIdx (((args.get? "ALG").bind (kwIn algNames)).getD 0)
  let use := useNames.map (fun u => ((args.kws? "USE").getD []).contains u)
  let fi := ((args.get? "FI").bind orNone).getD none
  let a := (args.time? "FROM").getD (0, 0)
  let b := (args.time? "UNTIL").getD (0, 0)
  loadLine h vLoadKey sel args
    (fun c l => firstBad [must (c.freeSlots != 0) "0503" [], must (l.all (fun n => (c.slot n).st == .free)) "0401" []])
    (fun _ _ => firstBad [must (args.int? "LENGTH" == some (97 + alg.size)) "0701" [], keyAgree alg use fi a b])
    (fun l => .key l alg use fi a b)

/-! ### Records (R69–R72) -/

/-- A hexadecimal digit in its uppercase form. -/
def upHex (c : Char) : Bool := (hexVal c).isSome && !('a'.toNat ≤ c.toNat && c.toNat ≤ 'f'.toNat)

/-- The octets that pairs of digits stand for. -/
def pairsOf : List Char → Option (List Byte)
  | [] => some []
  | a :: b :: t => match digitsVal 16 [a, b], pairsOf t with
    | some n, some l => some (BitVec.ofNat 8 n :: l)
    | _, _ => none
  | _ => none

/-- A record in its form with a good check: offset and octets. -/
def parseRecord (t : List Char) : Option (Nat × List Byte) :=
  match t with
  | ':' :: r =>
    let n := r.length
    let body := r.take (n - 6)
    let tail := r.drop (n - 6)
    let data := body.drop 9
    if n < 17 ∨ tail.take 2 ≠ [' ', '*'] ∨ body[8]? ≠ some ' ' ∨ ¬ (body.take 8 ++ data ++ tail.drop 2).all upHex ∨ 128 < data.length then none
    else match digitsVal 16 (body.take 8), pairsOf data, digitsVal 16 (tail.drop 2) with
      | some off, some l, some crc => if crc = crc16 body ∧ l ≠ [] then some (off, l) else none
      | _, _, _ => none
  | _ => none

/-- BULK_RECORD: a record at the offset that is due is added; another is answered 010E once, and those after it are discarded until one has that
offset (R69–R72). -/
def Chip.bulkRecord (c : Chip) (s : Nat) (t : List Char) : Chip :=
  if !(c.sess s).active then c
  else
    let c1 := c.lineArrives s
    match (c1.sess s).bulk with
    | none => c1
    | some b =>
      let put (b : Bulk) : Chip := c1.modSess s (fun x => { x with bulk := some b })
      let b1 := { b with last := c1.clk.cycle }
      match parseRecord t with
      | some (off, l) =>
        if off = b.data.length then put { b1 with data := b.data ++ l, discarding := false }
        else if b.discarding then put b1
        else (put { b1 with discarding := true }).reply s none [.err "010E" [⟨"NEXT", .hex 8 b.data.length⟩]]
      | none =>
        if b.discarding then put b1
        else (put { b1 with discarding := true }).reply s none [.err "010E" [⟨"NEXT", .hex 8 b.data.length⟩]]

/-- LOAD_IDLE_CANCEL: 30 s without a record or END (R73). -/
def Chip.loadIdle (c : Chip) (s : Nat) : Chip :=
  match (c.sess s).bulk with
  | none => c
  | some b => ((c.advanceTo (30000000000 + b.last)).modSess s (fun x => { x with bulk := none })).async s "LOAD" [fWord "CANCELLED", fSym "CAUSE" "IDLE"]

/-! ### END -/

/-- The signature of a graph image when GRAPHKEY names a slot (R105, R335, R646). -/
def Chip.graphSigBad (c : Chip) (l : List Byte) : Bad :=
  match c.cfg.graphKey with
  | none => none
  | some n =>
    let x := c.slot n
    let s := secsOf l
    let alg := octet l s.sig
    firstBad [must (x.st == .valid && !x.bad) "0804" [], must (x.graph && timeLe x.from? c.now && !timeLe x.until? c.now) "0803" [],
      must ((alg == 1 && x.alg == .ecp256) || (alg == 2 && x.alg == .ecp384)) "0802" [],
      must (Config.verifies alg x.key (l.take s.sig) ((l.drop (s.sig + 2)).take (sigSize alg - 2))) "0802" []]

/-- END of LOAD FI: signature and set, ISA revision, compatibility, load-time checks, in this order (R87, R115, R165, R167, R344). -/
def Chip.endFi (c : Chip) (l : List Byte) : Except (String × Fields) Image :=
  let set := decodeCompat ((l.drop 48).take 96)
  let g := set.getD Compat.empty
  match firstBad [c.graphSigBad l, must set.isSome "0802" [], must (g.kind == 3) "0602" [], must (!c.isaBad g) "0601" [],
      must (c.graphPairs g (Config.sha256 l)).isEmpty "0602" []] with
  | some e => .error e
  | none => match parseImage l with
    | .ok i => .ok i
    | .error fs => .error ("0707", fs)

def numOctets (size n : Nat) : List Byte := (List.range size).map (fun i => BitVec.ofNat 8 (n / 256 ^ (size - 1 - i)))
def timeOctets (t : Nat × Nat) : List Byte := numOctets 6 t.1 ++ numOctets 4 t.2
def textOctets (l : List Char) : List Byte := l.map (fun ch => BitVec.ofNat 8 ch.toNat)

/-- The blob of LOAD KEYSLOT unwrapped for a slot (R642–R644). -/
def Chip.openBlob (c : Chip) (n : Nat) (alg : Alg) (use : List Bool) (fi : Option Nat) (from' until' : Nat × Nat) (l : List Byte) : Except (String × Fields) (List Byte) :=
  let useBits := use.zipIdx.foldl (fun k e => if e.1 then k + 2 ^ e.2 else k) 0
  let epk := (l.drop 4).take 65
  let aad := textOctets c.unit.serial ++ numOctets 2 n ++ numOctets 1 (alg.idx + 1) ++ numOctets 1 useBits ++ numOctets 2 (fi.getD 65535) ++ timeOctets from' ++
    timeOctets until'
  let z := Config.ecdh (c.keys.ktr.getD 0) epk
  let key := Config.hkdf z (String.ofList c.unit.serial) (String.ofList ("HXC-1024 KEYSLOT".toList ++ [Char.ofNat (n / 256), Char.ofNat (n % 256)])) 32
  match firstOff [isAt (octet l 0 == 1) 0, isAt (octet l 1 == alg.idx + 1) 1, zeros l 2 2, isAt (Config.onCurve 256 epk) 4] with
  | some e => .error ("0707", fOffset e)
  | none => match Config.gcmOpen key ((l.drop 69).take 12) aad (l.drop 81) with
    | none => .error ("0707", [fSym "CAUSE" "TAG"])
    | some m =>
      if (alg = .ecp256 && !Config.onCurve 256 m) || (alg = .ecp384 && !Config.onCurve 384 m) then .error ("0707", fOffset 81) else .ok m

/-- The slot is written, unless its flash fails (R640, R644). -/
def Chip.writeSlot (c : Chip) (n : Nat) (alg : Alg) (use : List Bool) (fi : Option Nat) (from' until' : Nat × Nat) (m : List Byte) : Chip :=
  let on (i : Nat) : Bool := use.getD i false
  let x : Slot := { st := .valid, alg := alg, authtag := on 0, login := on 1, graph := on 2, session := on 3, sealgen := c.keys.gen.getD 0, fi := fi,
                    from? := from', until? := until', key := m, revokedAt := none, bad := false }
  (c.keys' (fun k => { k with slots := k.slots.put Slot.init n x })).record 250 n
    [fNat "SLOT" n, fSym "ALG" (algNames.getD alg.idx ""), ⟨"USE", .syms ((useNames.zipIdx.filter (fun e => on e.2)).map Prod.fst)⟩,
     match fi with | some k => fFi k | none => fSym "FI" "ANY"]

/-- END of LOAD KEYSLOT for one slot (R644). -/
def Chip.endKey (c : Chip) (n : Nat) (alg : Alg) (use : List Bool) (fi : Option Nat) (from' until' : Nat × Nat) (l : List Byte) (flashOk : Bool) : Chip × Answer :=
  match c.openBlob n alg use fi from' until' l with
  | .error e => (c, .err e.1 e.2)
  | .ok m =>
    if (c.slot n).st ≠ .free then (c, .err "0401" [])
    else if !flashOk then (c, .err "0903" [])
    else (c.writeSlot n alg use fi from' until' m, .ok [[fWord "KEYSLOT", fNum n, fSym "STATE" "VALID"]])

/-- END of LOAD IMAGE: signature, stepping, flash (R106, R160, R165). -/
def Chip.endImage (c : Chip) (warden side : Bool) (l : List Byte) (flashOk : Bool) : Chip × Answer :=
  let set := decodeCompat (Config.imageCompat l)
  let g := set.getD Compat.empty
  let key := (if warden then 0 else 2) + (if side then 1 else 0)
  match firstBad [must (Config.imageSigned l && set.isSome) "0802" [], must (g.kind == (if warden then 1 else 2) && g.steppings.contains stepping) "0602" []] with
  | some e => (c, .err e.1 e.2)
  | none =>
    let c1 := c.wear 2 key
    let put (good : Bool) : Chip := c1.unit' (fun u => { u with banks := u.banks.put Bank.empty key { present := true, sigGood := good, set := g } })
    if flashOk then (put true, .ok []) else (put false, .err "0903" [])

/-- What a load of a length and content comes to; an image or key goes to flash, the rest is staged (R71, R100). -/
def Chip.endContent (c : Chip) (s : Nat) (b : Bulk) (flashOk : Bool) : Chip × Answer :=
  let stage (es : List Edit) : Chip × Answer :=
    (c.stageEdits s b.level [] es).1.modSess s (fun x => { x with loaded := x.loaded + b.length }) |> fun c' => (c', .ok [])
  let at0707 {α : Type} (r : Except Nat α) (f : α → List Edit) : Chip × Answer :=
    match r with
    | .ok x => stage (f x)
    | .error e => (c, .err "0707" (fOffset e))
  if b.data.length ≠ b.length then (c, .err "0701" [])
  else match b.what with
    | .image w side => c.endImage w side b.data flashOk
    | .fi l => (match c.endFi b.data with
      | .ok i => stage (l.map (fun n => .loadFi n i))
      | .error e => (c, .err e.1 e.2))
    | .table v6 => at0707 (parsePfxs v6 b.data) (fun p => [.loadTable v6 p])
    | .sub n => at0707 (parseDTempl b.data) (fun t => [.loadSub n t])
    | .pub n => at0707 (parseETempl b.data) (fun t => [.loadPub n t])
    | .key l alg use fi f u => eachItem (fun c n => c.endKey n alg use fi f u b.data flashOk) c l

def LoadWhat.flash : LoadWhat → Bool | .image _ _ | .key _ _ _ _ _ _ => true | _ => false

def vEnd : Verb := { login := true, early := true, rom := true, bulk := true, spec := { obj := "", level := 0 } }
/-- END: length and content, then LENGTH and SHA256 (R71). -/
def endLoadDef (h : Hdr) (flashOk : Bool) : LineDef :=
  LineDef.mk vEnd .all [] (fun c _ => match (c.sess h.sess).bulk with
      | none => some ("0401", [])
      | some b => must (!(b.what.flash && c.sup.warning)) "0401" [fSym "SUPPLY" "FAILING"])
    noBad (fun c _ => match (c.sess h.sess).bulk with
      | none => (c, .err "0401" [])
      | some b =>
        let (c1, a) := (c.modSess h.sess (fun x => { x with bulk := none })).endContent h.sess b flashOk
        (c1, match a with
          | .ok d => .ok (d ++ [[fNat "LENGTH" b.length], [⟨"SHA256", .raw 64 (Config.sha256 b.data)⟩]])
          | a => a))

/-- END CANCEL discards the load (R71). -/
def endCancelDef (h : Hdr) : LineDef :=
  LineDef.mk vEnd .all [] (fun c _ => must (c.sess h.sess).bulk.isSome "0401" []) noBad
    (fun c _ => (c.modSess h.sess (fun x => { x with bulk := none }), .ok []))

end Sys2Proof.Machine
end

