-- ==== Sys2Proof/Machine/Show.lean ====
section
/-!
DEFINITION. The SHOW lines and DUMP TABLE (R91, R92, R99, R102, R113, R119–R121, R129, R132, R139, R140, R146, R154, R155, R157, R161, R327, R471, R505, R506,
R563, R594, R628, R715, R733, R836 of spec/). A form that the spec does not give lists the fields of the object's settings in their table's order
(DESIGN CHOICE).
-/
namespace Sys2Proof.Machine

/-! ### Printed values -/

/-- Six hexadecimal octets joined by `-` (R127). -/
def macText (m : Nat) : String := String.ofList (List.intercalate ['-'] ((List.range 6).map (fun i => digitsText 16 2 (m / 256 ^ (5 - i) % 256))))
/-- An address: decimal octets, or eight groups. -/
def ipText (v6 : Bool) (a : Nat) : String :=
  if v6 then String.ofList (List.intercalate [':'] ((List.range 8).map (fun i => digitsText 16 4 (a / 65536 ^ (7 - i) % 65536))))
  else ".".intercalate ((List.range 4).map (fun i => toString (a / 256 ^ (3 - i) % 256)))
/-- A 256-bit number as eight groups of eight digits (R628). -/
def groupsText (v : Nat) : String := String.ofList (List.intercalate ['-'] ((List.range 8).map (fun i => digitsText 16 8 (v / 4294967296 ^ (7 - i) % 4294967296))))
def fText (n : String) (s : List Char) : Fld := ⟨n, .str (String.ofList s)⟩
def fDur (n : String) (ns : Nat) : Fld := ⟨n, .dur ns⟩
/-- Numbers joined by commas, or NONE. -/
def fNats (n : String) (l : List Nat) : Fld := ⟨n, if l.isEmpty then .none else .nats l⟩
def fSyms (n : String) (l : List String) : Fld := ⟨n, if l.isEmpty then .none else .syms l⟩
def fTimeOpt (n : String) (t : Option (Nat × Nat)) : Fld := match t with | some x => fTime n x | none => ⟨n, .none⟩
/-- An item: its object and number. -/
def itemHead (obj : String) (n : Nat) : Fields := [fWord obj, fNum n]
/-- A value as text. -/
def Val.text (v : Val) : String := String.ofList v.chars

/-! ### The line -/

def viewArg : ArgSpec := ⟨"VIEW", .kw ["COMMITTED", "STAGED"], false⟩
/-- A SHOW line's form. -/
def showSpec (obj : String) (sel : Option Nat) (args : List ArgSpec) : VerbSpec := { obj := obj, level := 0, sel := sel, args := args ++ [viewArg] }
def stagedView (args : Args) : Bool := args.kw? "VIEW" == some "STAGED"
/-- The chip with the configuration the line views (R92). -/
def Chip.viewed (c : Chip) (s : Nat) (args : Args) : Chip :=
  if stagedView args then { c with cfg := (c.cfg.stage (c.sess s).staged).1 } else c

/-- A SHOW line: its items' existence, its own state checks, the view, the answer (R91, R92; Table 2-6, 0302). -/
def showLine (h : Hdr) (v : Verb) (sel : Selector) (args : Args) (holds : Chip → Nat → Bool) (state : Chip → Bad)
    (f : Chip → List Nat → List Fields) : LineDef :=
  LineDef.mk v sel args
    (fun c items =>
      let w := c.viewed h.sess args
      firstBad [if sel = .all then none else items.findSome? (fun n => must (holds w n) "0302" [fNat v.spec.obj n]), state c,
        must (!stagedView args || (c.sess h.sess).txn) "0402" []])
    noBad (fun c items => (c, .ok (f (c.viewed h.sess args) items)))

def always : Chip → Nat → Bool := fun _ _ => true
def noState : Chip → Bad := fun _ => none
def itemArg (args : Args) (d : String) : String := (args.kw? "ITEM").getD d
/-- `DOMAIN=OFF` beside an item whose domain is not ON (R99). -/
def Chip.domOff (c : Chip) (d : Nat) : Fields := if c.domOn d then [] else [fSym "DOMAIN" "OFF"]

/-! ### UNIT, IMAGE and LIFE -/

def Bank.text (b : Bank) : Val := if b.present then .sym b.set.version else .none
def runName : Option Bool → Val
  | some b => .sym (bankName b)
  | none => .none
def Life.name : Life → String
  | .factory => "FACTORY" | .issued => "ISSUED" | .field => "FIELD" | .return => "RETURN" | .scrapped => "SCRAPPED"
def carrierName (s : Nat) : String := ["SERIAL", "USB", "TCP"].getD (carrierOf s) "TCP"
def levelName (n : Nat) : String := levelNames.getD n "VIEW"

def Chip.unitVersion (c : Chip) : List Fields :=
  let kind (n : String) (steward : Bool) (run : Option Bool) : Fields :=
    [fWord n, ⟨"A", (c.bank steward false).text⟩, ⟨"B", (c.bank steward true).text⟩, ⟨"RUN", runName run⟩]
  [[fWord "STEPPING", fWord (String.ofList stepping)], kind "WARDEN" false c.unit.runW, kind "STEWARD" true c.unit.runS,
   [fWord "ELVIT", ⟨"", match c.stewardSet.supported with | some m => .sym ("1." ++ toString m) | none => .none⟩], [fWord "TREVLINE", fNum 2]]
def Chip.unitStatus (c : Chip) : Fields :=
  [fWord "STATUS", fSym "LIFE" c.keys.life.name, fYes "BASECAMP" (!c.unit.camp.isEmpty), fNat "COMMIT" c.trev.commitNum,
   fSym "SERIAL" (String.ofList c.unit.serial), fText "NAME" c.cfg.name, fSym "ALIVE" (if c.alive.toggling then "TOGGLING" else "LOW")]
def Chip.sessionLine (c : Chip) (s : Nat) : Fields :=
  let x := c.sess s
  itemHead "SESSION" s ++ [fSym "CARRIER" (carrierName s), ⟨"LEVEL", match x.level with | some l => .sym (levelName l) | none => .none⟩,
    ⟨"USER", match x.user with | some u => .str (String.ofList u) | none => .none⟩, fSym "TXN" (if x.txn then "OPEN" else "NONE"), fNat "STAGED" x.staged.length]
def vShowUnit : Verb := { early := true, rom := true, scrap := true, spec := showSpec "UNIT" none [⟨"ITEM", .kw ["VERSION", "STATUS", "SESSIONS"], false⟩] }
/-- SHOW UNIT (R102). -/
def showUnitDef (h : Hdr) (args : Args) : LineDef :=
  showLine h vShowUnit .all args always noState (fun c _ => match itemArg args "VERSION" with
    | "STATUS" => [c.unitStatus]
    | "SESSIONS" => ((List.range 16).filter (fun s => (c.sess s).active)).map c.sessionLine
    | _ => c.unitVersion)

def partnerText (p : Nat × Nat × Nat) : String :=
  (match p.1 with | 1 => "WARDEN" | 2 => "STEWARD" | _ => "ISA") ++ "-" ++ toString p.2.1 ++ "." ++ toString p.2.2
def Chip.imageLine (c : Chip) (steward side : Bool) : Fields :=
  let b := c.bank steward side
  let u := c.unit
  [fWord "IMAGE", fSym "KIND" (if steward then "STEWARD" else "WARDEN"), fSym "BANK" (bankName side), ⟨"VERSION", b.text⟩,
   fSym "SIG" (if !b.present then "EMPTY" else if b.sigGood then "GOOD" else "BAD"), fYes "RUN" ((if steward then u.runS else u.runW) == some side),
   fYes "NEXT" ((if steward then u.nextS else u.nextW) == side), fSyms "STEPPINGS" (if b.present then b.set.steppings.map String.ofList else []),
   fSyms "PARTNERS" (if b.present then b.set.partners.map partnerText else [])]
def vShowImage : Verb := { early := true, rom := true, spec := showSpec "IMAGE" none [] }
/-- SHOW IMAGE (R161). -/
def showImageDef (h : Hdr) (args : Args) : LineDef :=
  showLine h vShowImage .all args always noState
    (fun c _ => [c.imageLine false false, c.imageLine false true, c.imageLine true false, c.imageLine true true])

/-- Time left of physical presence, in cycles. -/
def Chip.presenceLeft (c : Chip) : Nat := match c.panel.presence with | some e => e - c.clk.cycle | none => 0
def vShowLife : Verb := { early := true, rom := true, scrap := true, spec := showSpec "LIFE" none [] }
/-- SHOW LIFE (R628). -/
def showLifeDef (h : Hdr) (args : Args) : LineDef :=
  showLine h vShowLife .all args always noState (fun c _ =>
    let p := c.keys.ktr.map (Config.publicPoint 256)
    let gen := if c.keys.life = .issued ∨ c.keys.life = .field then c.keys.gen else none
    let xy (n : String) (v : Option Nat) : Fld := ⟨n, match v with | some x => .str (groupsText x) | none => .none⟩
    [[fWord "LIFE", fSym "STATE" c.keys.life.name, fOpt "SEALGEN" gen, fNat "SEALLEFT" c.keys.blankGens.length,
      fSym "PRESENCE" (if c.panel.presence.isSome then "ACTIVE" else "NONE"), fDur "LEFT" c.presenceLeft, fNat "SLOTSFREE" c.freeSlots, fNat "TOISSUED" c.keys.toIssued],
     [fWord "TRANSPORT", fSym "CURVE" "P256", xy "X" (p.map Prod.fst), xy "Y" (p.map Prod.snd)]])

/-! ### FI, TILE, REPAIR and DOMAIN -/

/-- The FI holds nothing. -/
def Chip.fiEmpty (c : Chip) (n : Nat) : Bool := (c.fi n).st == .empty && (c.fiCfg n).image.isNone
def Chip.fiStateLine (c : Chip) (n : Nat) : Fields :=
  let f := c.fiCfg n
  let x := c.fi n
  itemHead "FI" n ++ [fSym "STATE" x.st.name, ⟨"CLASS", match classNames[f.cls]? with | some k => .sym k | none => .none⟩,
    fOpt "RANK" (if f.cls = 0 then f.rank else none), fOn "TWIN" f.twin, fOn "ROPE" f.rope, fNat "GEN" x.gen, fSym "REARM" (if x.rearm then "PENDING" else "NONE"),
    fNat "PERIODS" x.periods, fNat "OVERRUNS" x.overruns, fNat "MISBEHAVE" x.misbehave]
def Chip.fiCountLine (c : Chip) (n k : Nat) : Fields :=
  let t := (c.copy n k).cnt
  itemHead "FI" n ++ [fSym "COPY" (copyName k), fNat "STALEGEN" t.stalegen, fNat "ORPHANS" t.orphans, fNat "CHANDISC" t.chandisc, fNat "HELD" t.held,
    fNat "SPILLS" t.spills, fNat "FILLS" t.fills, fNat "DEEPMISS" t.deepmiss, fNat "RECIRC" t.recirc, fNat "DEEPHOLD" t.deephold, fNat "DEEPPEAK" t.deeppeak,
    fNat "PINPEAK" t.pinpeak, fNat "LOOKUPSLOW" t.lookupslow]
def Chip.fiBudgetLine (c : Chip) (n : Nat) : Fields :=
  let f := c.fiCfg n
  let durOpt (m : String) (v : Option Nat) : Fld := ⟨m, match v with | some d => .dur d | none => .none⟩
  itemHead "FI" n ++ [⟨"CLASS", match classNames[f.cls]? with | some k => .sym k | none => .none⟩, fOpt "RANK" f.rank, fOn "TWIN" f.twin, fOn "ROPE" f.rope,
    fSym "FALLBACK" (if f.fallback = .loc then "LOCAL" else "STOP"),
    ⟨"PERIOD", if f.periodSet then .sym (match f.period with | .sv => "SV" | .goose => "GOOSE" | .timer => "TIMER") else .none⟩, fOpt "PSRC" f.psrc, durOpt "TICK" f.tick,
    durOpt "DEADLINE" f.deadline, fNat "TILES" f.tiles, fNat "PAGES" f.pages, fNat "PINNED" f.pinned, fNat "HASHED" f.hashed, fNat "FRAMES" f.frames,
    fNat "CREDIT" f.credit, fNat "DEEP" f.deep, fNat "BW" f.bw, fDur "STALL" f.stall, fNat "MISBEHAVE" f.misbehave]
def Chip.fiBindLine (c : Chip) (n : Nat) : Fields :=
  let f := c.fiCfg n
  let at' (p : Nat) (v : Val) : String := toString p ++ ":" ++ v.text
  itemHead "FI" n ++ [fSyms "IN" (f.ins.map (fun e => at' e.1 (srcVal e.2))), fSyms "OUT" (f.outs.map (fun e => at' e.1 (tgtVal e.2))),
    fSyms "CHAN" ((c.cfg.chans.filter (fun e => e.2.sender == n)).map (fun e => at' e.1 (.nat e.2.peer))),
    fSyms "POINT" (f.points.map (fun e => at' e.1 (.nat e.2.hitch) ++ ":" ++ toString (e.2.window / 1000000000) ++ "s"))]
def vShowFi : Verb := { spec := showSpec "FI" (some 1024) [⟨"ITEM", .kw ["STATE", "BUDGET", "BINDINGS", "COUNTS"], false⟩] }
/-- SHOW FI (R113, R327). -/
def showFiDef (h : Hdr) (sel : Selector) (args : Args) : LineDef :=
  showLine h vShowFi sel args (fun c n => !c.fiEmpty n) noState (fun c l => l.flatMap (fun n =>
    if c.fiEmpty n then [itemHead "FI" n ++ [fSym "STATE" "EMPTY"]]
    else match itemArg args "STATE" with
      | "BUDGET" => [c.fiBudgetLine n]
      | "BINDINGS" => [c.fiBindLine n]
      | "COUNTS" => (List.range (max 1 (c.nCopies n))).map (c.fiCountLine n)
      | _ => [c.fiStateLine n]))

def TileSt.name : TileSt → String
  | .active => "ACTIVE" | .spare => "SPARE" | .testing => "TESTING" | .spliced => "SPLICED"
def vShowTile : Verb := { spec := showSpec "TILE" (some 416) [] }
/-- SHOW TILE (R119). -/
def showTileDef (h : Hdr) (sel : Selector) (args : Args) : LineDef :=
  showLine h vShowTile sel args always noState (fun c l => l.map (fun t =>
    let r := c.tileRep t
    itemHead "TILE" t ++ [fNat "CLUSTER" (clusterOf t), fSym "STATE" r.st.name, fNats "FI" (sortNats ((c.slotsOn t).map (·.1))), fTimeOpt "LASTTEST" r.last] ++
      c.domOff (clusterOf t)))

def vShowRepair : Verb := { spec := showSpec "REPAIR" none [⟨"CLUSTER", .int 0 7, false⟩] }
/-- SHOW REPAIR (R120, R755). -/
def showRepairDef (h : Hdr) (args : Args) : LineDef :=
  showLine h vShowRepair .all args always noState (fun c _ =>
    (match args.int? "CLUSTER" with | some k => [k] | none => List.range 8).map (fun k =>
      let n (s : TileSt) : Nat := ((tilesOf k).filter (fun t => (c.tileRep t).st == s)).length
      [fWord "REPAIR", fNat "CLUSTER" k, fNat "SPARES" (n .spare), fNat "SPLICED" (n .spliced), ⟨"FUSES", .ratio c.rep.fuses.length 32⟩, fNat "MARGIN" (c.margin k)] ++
        c.domOff k))

/-- The n-th measured quantity that a line reads (R782): the hardware's, open to the model. -/
def Chip.measured (c : Chip) (n bits : Nat) : Nat := (Config.freeValue (c.free + n)).toNat % 2 ^ bits
/-- The free values of one line are used up. -/
def Chip.measure (c : Chip) : Chip := { c with free := c.free + 512 }
/-- A line that answers measured quantities. -/
def LineDef.measured (d : LineDef) : LineDef := { d with act := fun c l => let r := d.act c l; (r.1.measure, r.2) }
def vShowDomain : Verb := { spec := showSpec "DOMAIN" (some 24) [] }
/-- SHOW DOMAIN (R121); POWER is measured. -/
def showDomainDef (h : Hdr) (sel : Selector) (args : Args) : LineDef :=
  (showLine h vShowDomain sel args always noState (fun c l => l.map (fun n =>
    let d := c.dom n
    itemHead "DOMAIN" n ++ [fSym "STATE" d.st.name, ⟨"LATCHED", latchName d.latched⟩, fNat "POWER" (c.measured n 16)]))).measured

/-! ### LANE, PORT, TABLE, SUB and PUB -/

/-- The setting a lane runs, or will run when its stop phase ends (R483). -/
def Chip.laneRuns (c : Chip) (n : Nat) : LaneCfg := if (c.lane n).stopEnd.isSome then (c.lane n).next else (c.lane n).run
def vShowLane : Verb := { spec := showSpec "LANE" (some 16) [] }
/-- SHOW LANE (R129, R483). -/
def showLaneDef (h : Hdr) (sel : Selector) (args : Args) : LineDef :=
  showLine h vShowLane sel args always noState (fun c l => l.map (fun n =>
    let x := c.lane n
    let g := if stagedView args then c.laneCfg n else c.laneRuns n
    let k := c.port n
    itemHead "LANE" n ++ [fSym "MODE" g.mode.name, fSym "FEC" g.fec.name, fSym "STATE" x.st.name, fYes "LOS" x.los,
      fSym "MODULE" (if c.module (n / 4) then "PRESENT" else "ABSENT"), fNat "FEC_CORR" k.fecc, fNat "FEC_UNCORR" k.fecu,
      ⟨"LATCHED", match x.latched with | some m => .sym m.mode.name | none => .none⟩] ++ c.domOff (12 + n / 4)))

/-- The counters of Table 12-7 in its order. -/
def PortCnt.list (k : PortCnt) : List (String × Nat) :=
  [("RXF", k.rxf), ("RXO", k.rxo), ("TXF", k.txf), ("TXO", k.txo), ("FCS", k.fcs), ("RUNT", k.runt), ("GIANT", k.giant), ("CODE", k.code), ("NOCELL", k.nocell),
   ("VLAN", k.vlan), ("LEARN", k.learn), ("LINKDOWN", k.linkdown), ("ABORT", k.abort), ("DUP", k.dup), ("LEARNEV", k.learnev), ("DOWNS", k.downs),
   ("FECC", k.fecc), ("FECU", k.fecu)]
def RopeCnt.list (k : RopeCnt) : List (String × Nat) :=
  [("TXTOK", k.txtok), ("RXTOK", k.rxtok), ("TXDISC", k.txdisc), ("DISC", k.disc), ("MIRTX", k.mirtx), ("MIRRX", k.mirrx), ("MIRDROP", k.mirdrop),
   ("LOST", k.lost), ("STALE", k.stale), ("BADVER", k.badver), ("BADTYPE", k.badtype), ("SWITCH", k.switch)]
def counters (l : List (String × Nat)) : Fields := l.map (fun e => fNat e.1 e.2)
/-- The rope line (R505). -/
def Chip.ropeLine (c : Chip) : Fields :=
  let p := c.links.peer
  [fWord "ROPE", fSym "STATE" (if c.links.ropeUp then "UP" else "LOST"), fNat "TX" c.links.txLane,
   ⟨"PEER", match p with | some b => .str (String.ofList b.serial) | none => .none⟩,
   ⟨"PEERALIVE", match p with | some b => .sym (if b.alive then "TOGGLING" else "LOW") | none => .none⟩,
   ⟨"PEERBASECAMP", match p with | some b => .sym (if b.basecamp then "YES" else "NO") | none => .none⟩,
   ⟨"OFFSET", match c.links.offset with | some o => .int o.1 | none => .none⟩, ⟨"DELAY", match c.links.offset with | some o => .int o.2 | none => .none⟩] ++
  counters c.links.cnt.list
def Redund.name : Redund → String
  | .none => "NONE" | .prpA => "PRP-A" | .prpB => "PRP-B" | .hsr => "HSR"
/-- Domain whose hardware keeps a port's counters. -/
def portDom (p : Nat) : Nat := if p < 16 then 12 + p / 4 else 16
def Chip.portLines (c : Chip) (counts : Bool) (p : Nat) : List Fields :=
  let g := c.portCfg p
  if counts then
    [itemHead "PORT" p ++ counters (c.port p).list ++ c.domOff (portDom p)] ++
      (if p = 14 ∧ (c.laneCfg 14).mode = .rope ∧ (c.laneCfg 15).mode = .rope then [c.ropeLine ++ c.domOff 22] else [])
  else
    [itemHead "PORT" p ++ [fNat "PVID" g.pvid, fNats "VLANS" g.vlans, fNat "PRIO" g.prio, fNat "LEARN" g.learn, fSym "EXCESS" (if g.flood then "FLOOD" else "DROP"),
      fSym "REDUND" g.redund.name, fOpt "PEER" g.peer, fText "IP" g.ip, fText "GATEWAY" g.gateway] ++
      (if 16 ≤ p then [fSym "LINK" (if c.links.mgmt.contains p then "UP" else "DOWN")] else []) ++ c.domOff (portDom p)]
def vShowPort : Verb := { spec := showSpec "PORT" (some 18) [⟨"ITEM", .kw ["CONFIG", "COUNTERS"], false⟩] }
/-- SHOW PORT (R129, R486, R505, R506). -/
def showPortDef (h : Hdr) (sel : Selector) (args : Args) : LineDef :=
  showLine h vShowPort sel args always noState (fun c l => l.flatMap (c.portLines (itemArg args "CONFIG" == "COUNTERS")))

def dumpMac (c : Chip) (e : MacEnt) : Fields :=
  [fWord "MAC", ⟨"", .str (macText e.mac)⟩, fNat "VLAN" e.vlan, fNats "PORTS" e.ports, fYes "STATIC" e.static,
   if e.static then ⟨"AGE", .none⟩ else fNat "AGE" ((65536 + c.sw.tick - e.stamp) % 65536 * 4)]
def dumpPfx (v6 : Bool) (p : Pfx) : Fields :=
  [fWord "LPM", ⟨"PREFIX", .str (ipText v6 p.addr ++ "/" ++ toString p.len)⟩, fNat "PORT" p.port, ⟨"NEXTHOP", .str (macText p.mac)⟩]
def dumpSub (c : Chip) (e : SubEnt) (place : String) : List Fields :=
  match e.pay with
  | .sub n => [[fWord "SUB", fNum n, fSym "TYPE" (c.subCfg n).typ.name, fNat "PORT" e.port, fSym "PLACE" place]]
  | .dup _ _ => []
/-- Lines of a table, in the order of its stores (R563). -/
def Chip.dumpLines (c : Chip) (kind : String) (learned : Bool) : Nat × List Fields :=
  match kind with
  | "LPM4" => (1, c.sw.lpm4.map (dumpPfx false))
  | "LPM6" => (2, c.sw.lpm6.map (dumpPfx true))
  | "SUB" => (3, (c.sw.buckets.flatMap (fun b => b.2.flatMap (fun e => dumpSub c e "BUCKET"))) ++ c.sw.overflow.flatMap (fun e => dumpSub c e "OVERFLOW"))
  | _ => (0, (c.sw.macs.filter (fun e => learned || e.static)).map (dumpMac c))
def vDumpTable : Verb := { spec := { obj := "TABLE", level := 0, args := [⟨"KIND", .kw ["MAC", "LPM4", "LPM6", "SUB"], true⟩, ⟨"LEARNED", .kw ["YES", "NO"], false⟩] } }
/-- DUMP TABLE: a snapshot of one cycle, refused with D16 not ON (R99, R130, R563). -/
def dumpTableDef (_h : Hdr) (args : Args) : LineDef :=
  LineDef.mk vDumpTable .all args noBad noBad (fun c _ =>
    if !c.domOn 16 then (c, .err "0901" [])
    else
      let kind := (args.kw? "KIND").getD "MAC"
      let (k, l) := c.dumpLines kind (args.kw? "LEARNED" != some "NO")
      (c, .ok ([fWord "TABLE", fSym "KIND" kind, fNat "GEN" (c.sw.gens.get 0 k), fNat "COUNT" l.length] :: l)))

def Chip.subLine (c : Chip) (n : Nat) : Fields :=
  let g := c.subCfg n
  let x := c.sub n
  let b := c.fab.binds.get BindCnt.init n
  itemHead "SUB" n ++ [fSym "TYPE" g.typ.name, fNat "TEMPLATE" g.template] ++ counters [("ACCEPTED", x.accepted), ("FCS", x.fcs), ("MALFORMED", x.malformed),
    ("SIM", x.sim), ("AUTH", x.auth), ("DUP", x.dup), ("REPEAT", x.rep), ("OVERLOAD", x.overload), ("NOTARMED", x.notarmed), ("LATE", b.late), ("NOCTX", b.noctx),
    ("UNSTARTED", b.unstarted), ("STALE", x.staleCnt), ("MIRRORED", x.mirrored)] ++ c.domOff 17
def Chip.pubLine (c : Chip) (n : Nat) : Fields :=
  let g := c.pubCfg n
  let x := c.pub n
  itemHead "PUB" n ++ [fSym "TYPE" g.typ.name, fNat "TEMPLATE" g.template, fOn "TEST" x.test] ++ counters [("STNUM", x.stNum), ("SQNUM", x.sqNum), ("SENT", x.sent),
    ("RETRANS", x.retrans), ("UNCHANGED", x.unchanged), ("BELAYED", x.belayed), ("COALESCED", x.coalesced), ("NOCELL", x.nocell), ("NOROUTE", x.noroute),
    ("TOOBIG", x.toobig)] ++ c.domOff 17
def vShowSub : Verb := { spec := showSpec "SUB" (some 4096) [] }
/-- SHOW SUB (R132, R594). -/
def showSubDef (h : Hdr) (sel : Selector) (args : Args) : LineDef :=
  let held (c : Chip) (n : Nat) : Bool := (c.cfg.subs.find n).isSome
  showLine h vShowSub sel args held noState (fun c l => l.map (fun n => if held c n then c.subLine n else itemHead "SUB" n ++ [fSym "STATE" "FREE"]))
def vShowPub : Verb := { spec := showSpec "PUB" (some 1024) [] }
/-- SHOW PUB (R132, R594). -/
def showPubDef (h : Hdr) (sel : Selector) (args : Args) : LineDef :=
  let held (c : Chip) (n : Nat) : Bool := (c.cfg.pubs.find n).isSome
  showLine h vShowPub sel args held noState (fun c l => l.map (fun n => if held c n then c.pubLine n else itemHead "PUB" n ++ [fSym "STATE" "FREE"]))

/-! ### TIME and KEYSLOT -/

def RefClk.name : RefClk → String | .int25 => "INT25" | .ext10 => "EXT10"
def Leap.name : Leap → String | .none => "NONE" | .insert => "INSERT" | .delete => "DELETE"
def Chip.timeNow (c : Chip) (staged : Bool) : Fields :=
  [fWord "TIME"] ++ fStamp c.stamp ++ [⟨"RATE", .int c.clk.anchor.rate⟩, ⟨"UTCOFFSET", .int c.cfg.time.utcOffset⟩,
    fSym "REF" (if staged then c.cfg.time.ref.name else c.clk.refIn.name), fTimeOpt "LASTADJ" c.clk.lastAdj]
def Chip.timeQuality (c : Chip) : Fields :=
  let q := c.quality
  [fWord "TIME", ⟨"Q", .raw 4 q.toNat⟩, fSym "STATE" c.clk.disc.name, fYes "LEAPPEND" (q.getLsbD 2), fYes "STEPPED" (q.getLsbD 3), fYes "EXTREF" (q.getLsbD 4),
   fYes "UNSETTLED" (q.getLsbD 5), fDur "HOLDOVER" c.cfg.time.holdover, fSym "LEAP" c.cfg.time.leap.name, fTimeOpt "LEAPAT" c.cfg.time.leapAt]
def vShowTime : Verb := { spec := showSpec "TIME" none [⟨"ITEM", .kw ["NOW", "CAPTURES", "QUALITY"], false⟩, ⟨"COUNT", .int 1 256, false⟩] }
/-- SHOW TIME (R139, R618); REF is the reference in use. -/
def showTimeDef (h : Hdr) (args : Args) : LineDef :=
  showLine h vShowTime .all args always noState (fun c _ => match itemArg args "NOW" with
    | "CAPTURES" => (c.clk.captures.take ((args.int? "COUNT").getD 16)).map (fun k =>
        [fWord "CAPTURE", fSym "SRC" k.src, fNat "PORT" k.port, fNat "SEQ" k.seq] ++ fStamp k.stamp ++ k.fields)
    | "QUALITY" => [c.timeQuality]
    | _ => [c.timeNow (stagedView args)])

def Slot.uses (x : Slot) : List String := (useNames.zip [x.authtag, x.login, x.graph, x.session]).filterMap (fun e => if e.2 then some e.1 else none)
def vShowKey : Verb := { spec := showSpec "KEYSLOT" (some 4096) [] }
/-- SHOW KEYSLOT: never key material (R140). -/
def showKeyDef (h : Hdr) (sel : Selector) (args : Args) : LineDef :=
  showLine h vShowKey sel args (fun c n => (c.slot n).st != .free) noState (fun c l => l.map (fun n =>
    let x := c.slot n
    if x.st = .free then itemHead "KEYSLOT" n ++ [fSym "STATE" "FREE"]
    else itemHead "KEYSLOT" n ++ [fSym "STATE" (if x.st = .valid then "VALID" else "REVOKED"), fSym "ALG" (algNames.getD x.alg.idx ""), fSyms "USE" x.uses,
      (match x.fi with | some k => fFi k | none => fSym "FI" "ANY"), fTime "FROM" x.from?, fTime "UNTIL" x.until?]))

/-! ### HITCH, PANEL, TRIP and INPUT -/

def vShowHitch : Verb := { spec := showSpec "HITCH" (some 256) [] }
/-- SHOW HITCH (R471). -/
def showHitchDef (h : Hdr) (sel : Selector) (args : Args) : LineDef :=
  showLine h vShowHitch sel args always noState (fun c l => l.map (fun n =>
    let x := c.hitch n
    let g := c.cfg.groups.get HGroup.init (n / 16)
    itemHead "HITCH" n ++ [fNat "GROUP" (n / 16), fMaster "HOLDER" x.holder, fNat "QUEUE" x.queue.length, fYes "BROKEN" x.broken,
      fSym "LEVEL" (if n < 16 then "UNIT" else levelName g.level), fNats "FIS" (if n < 16 then [] else g.fis)]))

def patternName (n : Nat) : String := patternNames.getD n "OFF"
/-- Lines of SHOW PANEL after its first (R836). -/
def Chip.panelLines (c : Chip) (item : String) : List Fields :=
  let on (s : Source) : Fld := fNats "FI" (sortNats (c.fisOn s))
  let out (t : Target) : Fld := fOpt "FI" (c.fiOf t)
  let off := c.domOff 21
  match item with
  | "KEYS" => (List.range 64).map (fun k => itemHead "KEY" k ++
      [fSym "STATE" (if (c.key k).stuck then "STUCK" else if (c.key k).pressed then "PRESSED" else "RELEASED"), on (.key k)] ++ off)
  | "TOUCH" => (List.range 8).map (fun t =>
      let x := c.touch t
      let g := c.touchCfg t
      itemHead "TOUCH" t ++ [fSym "STATE" (if x.bad then "FAULT" else if x.touched then "TOUCHED" else "RELEASED"), fNat "COUNT" x.count, fNat "BASE" x.base,
        fNat "THRESHOLD" g.threshold, fOn "DRIFT" g.drift, on (.touch t)] ++ off)
  | "LEDS" => (List.range 48).map (fun l => itemHead "LED" l ++ [fSym "STATE" (patternName (c.led l)), fSym "FAULT" (patternName (c.ledPattern l)), out (.led l)] ++ off)
  | "DISPLAY" => (List.range 4).map (fun r => itemHead "DISPLAY" r ++ [fText "TEXT" (c.line r), out (.display r)] ++ off)
  | _ => (List.range 16).map (fun i => itemHead "PRESENCE" i ++
      [fSym "STATE" (if (c.pres i).fault then "FAULT" else if (c.pres i).active then "ACTIVE" else "INACTIVE")])
def vShowPanel : Verb := { spec := showSpec "PANEL" none [⟨"ITEM", .kw ["KEYS", "TOUCH", "PRESENCE", "LEDS", "DISPLAY"], false⟩] }
/-- SHOW PANEL (R836). -/
def showPanelDef (h : Hdr) (args : Args) : LineDef :=
  showLine h vShowPanel .all args always noState (fun c _ =>
    [fWord "PANEL", fDur "DEBOUNCE" c.cfg.debounce, fSym "BOARD" (if c.board then "PRESENT" else "ABSENT")] :: c.panelLines (itemArg args "PRESENCE"))

def vShowTrip : Verb := { spec := showSpec "TRIP" (some 16) [] }
/-- SHOW TRIP (R146, R717). -/
def showTripDef (h : Hdr) (sel : Selector) (args : Args) : LineDef :=
  showLine h vShowTrip sel args always noState (fun c l => l.map (fun n =>
    let x := c.trip n
    itemHead "TRIP" n ++ [fOn "STATE" (x.drive != .off), fSym "SUP" x.sup.name, fYes "BELAY" (c.latched (.trip n)), ⟨"PLUG", plugName (c.plugIn n)⟩,
      fOpt "FI" (c.fiOf (.trip n)), fNat "PULSES" x.pulses]))

def vShowInput : Verb := { spec := showSpec "INPUT" (some 16) [] }
/-- SHOW INPUT (R836). -/
def showInputDef (h : Hdr) (sel : Selector) (args : Args) : LineDef :=
  showLine h vShowInput sel args always noState (fun c l => l.map (fun n =>
    let x := c.binIn n
    let g := c.inputCfg n
    itemHead "INPUT" n ++ [fActive (c.inputState n), fSym "RAW" (if x.raw then "HIGH" else "LOW"), fYes "BLOCKED" x.blocked, fNat "VNOM" g.vnom, fDur "FILTER" g.filter,
      fYes "INVERT" g.invert, fNats "FI" (sortNats (c.fisOn (.input n))), fNat "CHANGES" x.changes]))

/-! ### EVENT, FAULT and LOG -/

def vShowEvent : Verb := { spec := showSpec "EVENT" (some 4096) [] }
/-- SHOW EVENT (R154). -/
def showEventDef (h : Hdr) (sel : Selector) (args : Args) : LineDef :=
  showLine h vShowEvent sel args always noState (fun c l => l.map (fun n =>
    let k := c.trev.evCount.find n
    [fWord "EVENT", ⟨"", .hex 3 n⟩, fNat "COUNT" ((k.map Prod.fst).getD 0), fTimeOpt "LAST" (k.map (fun e => (e.2.sec, e.2.ns))),
     fOn "NOTIFY" (c.routes (c.sess h.sess) n)]))

/-- The line of a fault source; a reserved one has no name (R154, R715). -/
def Chip.faultLine (c : Chip) (n : Nat) : Fields :=
  let x := c.src n
  match srcRow n with
  | none => itemHead "FAULT" n ++ [fSym "NAME" "RESERVED", ⟨"FLOOR", .none⟩, ⟨"DEFAULT", .none⟩, ⟨"CLASS", .none⟩, fNat "COUNT" 0, fYes "LATCHED" false, ⟨"LAST", .none⟩]
  | some r => itemHead "FAULT" n ++ [fSym "NAME" (r.full n), fSym "FLOOR" r.floor.name, fSym "DEFAULT" r.dflt.name, fSym "CLASS" (c.srcClass n).name,
      fNat "COUNT" x.count, fYes "LATCHED" x.latched, fTimeOpt "LAST" (x.last.map (fun s => (s.sec, s.ns)))]
def vShowFault : Verb := { spec := showSpec "FAULT" (some 1024) [] }
/-- SHOW FAULT (R154, R715). -/
def showFaultDef (h : Hdr) (sel : Selector) (args : Args) : LineDef :=
  showLine h vShowFault sel args always noState (fun c l => l.map c.faultLine)

/-- The log holds a record. -/
def Cairn.some? (k : Cairn) : Bool := decide (k.oldest < k.next)
/-- The line of a record number (R155, R733). -/
def Cairn.logLine (k : Cairn) (s : Nat) : Fields :=
  match (if k.corrupt.contains s then none else k.find s) with
  | none => [fWord "LOG", fNat "SEQ" s, fYes "CORRUPT" true]
  | some r => [fWord "LOG", fNat "SEQ" s, ⟨"ID", .hex 3 r.id⟩] ++ fStamp r.stamp ++ r.detail ++ (if r.trunc then [fYes "TRUNC" true] else [])
/-- Records from a number, or the newest ones, in ascending order (R155, R157). -/
def Cairn.logLines (k : Cairn) (from' : Option Nat) (count : Nat) : List Fields :=
  let a := match from' with | some n => n | none => max k.oldest (k.next - count)
  (List.range (min count (k.next - a))).map (fun i => k.logLine (a + i))
def vShowLog : Verb := { early := true, spec := showSpec "LOG" none [⟨"FROM", .int 0 18446744073709551615, false⟩, ⟨"COUNT", .int 1 256, false⟩, ⟨"ITEM", .kw ["RECORDS", "RANGE"], false⟩] }
/-- SHOW LOG (R155, R157, R733). -/
def showLogDef (h : Hdr) (args : Args) : LineDef :=
  showLine h vShowLog .all args always
    (fun c => match args.int? "FROM" with
      | some n => must (!(c.cairn.some? && decide (n < c.cairn.oldest)) || itemArg args "RECORDS" == "RANGE") "0305" [fNat "OLDEST" c.cairn.oldest]
      | none => none)
    (fun c _ =>
      let k := c.cairn
      if itemArg args "RECORDS" = "RANGE" then
        [[fWord "LOG", if k.some? then fNat "OLDEST" k.oldest else ⟨"OLDEST", .none⟩, if k.some? then fNat "NEWEST" (k.next - 1) else ⟨"NEWEST", .none⟩]]
      else if k.some? then k.logLines (args.int? "FROM") ((args.int? "COUNT").getD 16) else [])

end Sys2Proof.Machine
end

