-- ==== Sys2Proof/Machine/Registers.lean ====
section
/-!
DEFINITION. The register map: what each register reads (R784–R790, R796–R811), READ REG and WRITE REG (R108), fault injection (R791–R795) and the cage
window (R489, R490 of spec/). A measured quantity reads as a free value.
-/
namespace Sys2Proof.Machine

/-! ### Cells of the map -/

/-- How a register is written (Table 21-1): RO, RC and RS refuse. -/
inductive RegKind | ro | rw | cp1 | cp2 | wa | win
deriving DecidableEq, Repr

/-- A register: what a write does, the domain a read needs, the reserved bits' complement, its value. -/
structure RegCell where
  kind : RegKind := .ro
  dom : Option Nat := none
  bits : Nat := 4294967295      -- bits that are not reserved
  val : Nat

/-- A field's value at a bit position. -/
def at' (lo v : Nat) : Nat := v * 2 ^ lo
def bitAt (lo : Nat) (b : Bool) : Nat := if b then 2 ^ lo else 0
def mod32 (i : Int) : Nat := (i % 4294967296).toNat
/-- The low or the high half of a 64-bit counter (R788). -/
def half64 (hi : Bool) (n : Nat) : Nat := if hi then n / 4294967296 % 4294967296 else n % 4294967296
def stop32 (n : Nat) : Nat := min 4294967295 n
def roCell (dom : Option Nat) (v : Nat) : Option RegCell := some { dom := dom, val := v % 4294967296 }
def bitmap (l : List Nat) : Nat := l.foldl (fun n i => n + 2 ^ i) 0

/-! ### UNIT, FI, TILE (Tables 21-4 to 21-6) -/

def Life.code : Life → Nat | .factory => 0 | .issued => 1 | .field => 2 | .return => 3 | .scrapped => 4
def Compat.verReg (s : Compat) : Nat := at' 24 s.major + at' 16 s.minor + s.build
/-- UNIT_CPAIR_PEND: a held fault-injection selection, and an LPM root written for a commit that waits for its edge (R792, R804). -/
def Chip.cpairPend (c : Chip) : Nat :=
  let waits (f : Cfg → List Pfx) : Bool := match c.trev.commit with | some k => k.edge.isNone && f k.cfg != f c.cfg | none => false
  bitAt 0 (c.unit.latches.find 0).isSome + bitAt 1 (waits Cfg.lpm4) + bitAt 2 (waits Cfg.lpm6)
def Chip.regUnit (c : Chip) (a : Nat) : Option RegCell :=
  let u := c.unit
  match a with
  | 0x00 => roCell none 0x4331
  | 0x04 => roCell none c.wardenSet.verReg
  | 0x08 => roCell none c.stewardSet.verReg
  | 0x0C => roCell none (at' 16 2 + at' 8 1 + (c.stewardSet.supported.getD 0))
  | 0x10 => roCell none (c.keys.life.code + bitAt 3 (!u.camp.isEmpty) + bitAt 4 c.alive.toggling + bitAt 5 (u.runW == some true) + bitAt 6 (u.runS == some true) +
      bitAt 7 u.nextW + bitAt 8 u.nextS + bitAt 9 (!u.started))
  | 0x14 => roCell none c.trev.commitNum
  | 0x18 => roCell none c.cpairPend
  | 0x1C => some { kind := .rw, val := u.regs.scratch }
  | 0x20 => roCell none (bitmap ((List.range 16).filter (fun s => (c.sess s).active)))
  | _ => none

def FiSt.code : FiSt → Nat | .empty => 0 | .loaded => 1 | .admitted => 2 | .armed => 3 | .running => 4 | .draining => 5 | .stopped => 6
/-- A counter of both copies together. -/
def Chip.bothCopies (c : Chip) (n : Nat) (f : Cnt → Nat) : Nat := stop32 ((c.fi n).copies.foldl (fun k x => k + f x.cnt) 0)
def Chip.regFi (c : Chip) (n off : Nat) : Option RegCell :=
  let x := c.fi n
  let f := c.fiCfg n
  let cnt (g : Cnt → Nat) : Option RegCell := roCell none (c.bothCopies n g)
  match off with
  | 0x00 => roCell none (x.st.code + at' 3 x.gen + bitAt 6 x.rearm + bitAt 7 x.intent + (if f.cls < 4 then at' 8 f.cls else 0) + bitAt 10 f.twin + bitAt 11 f.rope +
      (if f.cls = 0 then at' 16 (f.rank.getD 0) else 0))
  | 0x04 => roCell none (stop32 x.periods)
  | 0x08 => roCell none (stop32 x.overruns)
  | 0x0C => roCell none (min 65535 x.misbehave)
  | 0x10 => cnt Cnt.sat | 0x14 => cnt Cnt.divz | 0x18 => cnt Cnt.finv | 0x1C => cnt Cnt.fdz | 0x20 => cnt Cnt.fovf | 0x24 => cnt Cnt.voidmade
  | 0x28 => cnt Cnt.voidsup | 0x2C => cnt Cnt.recirc | 0x30 => cnt Cnt.defretry | 0x34 => cnt Cnt.slowmem | 0x38 => cnt Cnt.pageretry
  | 0x3C => roCell none f.bw
  | _ => none

def TileSt.code : TileSt → Nat | .active => 0 | .spare => 1 | .testing => 2 | .spliced => 3
def Chip.regTile (c : Chip) (t off : Nat) : Option RegCell :=
  let r := c.tileRep t
  let d := some (clusterOf t)
  let halves := (c.rep.links.flatMap (fun e => if e.2.half then (e.2.ends.filter (fun x => x.1 == t)).map Prod.snd else [])).eraseDups
  match off with
  | 0 => roCell d (r.st.code + bitAt 2 (c.fab.marks.contains t) + at' 4 (clusterOf t) + at' 8 (c.slotsOn t).length + at' 16 (bitmap halves))
  | 4 => roCell d (match r.last with | some l => l.1 % 4294967296 | none => 0)
  | 8 => roCell d (((c.tile t).store.filter (fun e => e.cls == 0)).length + at' 16 (c.tile t).hashed)
  | 12 => roCell d (c.measured (64 + t) 5 + at' 16 (c.unit.regs.tileCorr.get 0 t))
  | _ => none

/-! ### MEM, ALLOC, HITCH (Tables 21-7 to 21-9) -/

def scaled (f : Nat × Nat) : Nat := if f.2 = 0 then 1023 else 1023 * f.1 / f.2
def Chip.regMem (c : Chip) (a : Nat) : Option RegCell :=
  let m := c.mctl
  let hot := c.cfg.bookHot
  if 0x10 ≤ a ∧ a < 0x20 then
    let s := (a - 0x10) / 4
    let gs := groupsOf s
    roCell none (bitAt 0 ((c.sensor (16 + s)).st != .normal) + at' 1 (gs.filter c.rep.retired.contains).length +
      at' 16 (min 65535 (gs.foldl (fun n g => n + m.groupCorr.get 0 g) 0)))
  else match a with
  | 0x00 => roCell none c.capacity
  | 0x04 => roCell none (bookedSum c.fiCfg c.placedFis)
  | 0x08 => roCell none (declaredFigure hot c.cfg.bookReserve c.rep.retired.length + bitAt 20 hot + at' 21 c.cfg.bookReserve)
  | 0x0C => roCell none (bitAt 0 m.p3Zero + at' 1 (scaled m.f2) + at' 11 (scaled m.f1) + bitAt 21 (!m.p0Stop.isEmpty))
  | 0x20 => roCell none (c.rep.retired.length + at' 8 (4 - c.rep.reloc))
  | 0x24 => roCell none (bitmap (c.rep.retired.filter (· < 32)))
  | 0x28 => roCell none (bitmap ((c.rep.retired.filter (32 ≤ ·)).map (· - 32)))
  | 0x2C => roCell none (stop32 (m.halfCorr.get 0 0))
  | 0x30 => roCell none (stop32 (m.halfCorr.get 0 1))
  | 0x34 => roCell none c.unit.regs.sramPasses
  | 0x38 => roCell none (m.marked.foldl (fun n e => n + e.2.length) 0)
  | _ => none
def Chip.regAlloc (c : Chip) (a : Nat) : Option RegCell :=
  if a < 0x80 then
    let k := a / 16
    match a % 16 with
    | 0 => roCell (some k) (c.framesFree k)
    | 4 => roCell (some k) (c.framesRsv k)
    | 8 => roCell (some k) (c.framePool k).ptr
    | _ => roCell (some k) (c.framePool k).lost
  else match a with
  | 0x80 => roCell (some 16) c.cellsFree
  | 0x84 => roCell (some 16) (c.cellsRsv c.portOn)
  | 0x88 => roCell (some 16) c.fab.cellPtr
  | 0x8C => roCell (some 16) c.fab.cellLost
  | 0x90 => roCell none c.deepFree
  | 0x94 => roCell none 0
  | 0x98 => roCell none c.fab.deepPtr
  | 0x9C => roCell none c.fab.deepLost
  | 0xA0 => roCell none c.fab.pageLost
  | _ => none
def Chip.regHitch (c : Chip) (a : Nat) : Option RegCell :=
  if a < 0x400 then
    let x := c.hitch (a / 4)
    roCell none (x.holder + at' 12 x.queue.length + bitAt 18 x.broken)
  else if a < 0xC00 then
    let g := (a - 0x400) / 128
    let w := (a - 0x400) % 128 / 4
    roCell none (if g = 0 then 0 else bitmap ((((c.cfg.groups.get HGroup.init g).fis).filter (fun n => n / 32 == w)).map (· % 32)))
  else if a < 0xC40 then
    let g := (a - 0xC00) / 4
    roCell none (if g = 0 then 4 else (c.cfg.groups.get HGroup.init g).level)
  else if 0xD00 ≤ a ∧ a < 0xF00 then
    match c.cfg.regions.find ((a - 0xD00) / 8), decide (a % 8 = 0) with
    | some r, true => roCell none (r.base % 67108864 + 2147483648)
    | some r, false => roCell none r.len
    | none, _ => roCell none 0
  else none

/-! ### PORT (Tables 21-10 to 21-12) -/

def LaneMode.code : LaneMode → Nat
  | .off => 0 | .bp100 => 1 | .cu100 => 2 | .c2m100 => 3 | .bp50 => 4 | .cu50 => 5 | .bp25 => 6 | .cu25 => 7 | .bp10 => 8 | .sfi10 => 9 | .bx1 => 10 | .rope => 11
/-- FEC in use: NONE, BASER, RS(528,514), RS(544,514) (Tables 12-1, 21-11). -/
def LaneCfg.fecCode (l : LaneCfg) : Nat :=
  match l.fecRun with
  | .baser => 1
  | .rs => (match l.mode with | .bp25 | .cu25 => 2 | _ => 3)
  | _ => 0
def LaneSt.code : LaneSt → Nat | .off => 0 | .training => 1 | .up => 2 | .down => 3
def Redund.code : Redund → Nat | .none => 0 | .prpA => 1 | .prpB => 2 | .hsr => 3
def Chip.regPort (c : Chip) (p off : Nat) : Option RegCell :=
  let d := some 16
  let g := c.portCfg p
  let x := c.lane p
  if 0x20 ≤ off ∧ off < 0xB0 then
    match ((c.port p).list.map Prod.snd)[(off - 0x20) / 8]? with
    | some n => roCell d (half64 (off % 8 != 0) n)
    | none => none
  else match off with
  | 0x00 =>
    if p < 16 then
      let r := c.laneRuns p
      roCell d (r.mode.code + at' 4 (if r.mode = .off then 0 else r.fecCode) + (match x.latched with | some m => at' 8 m.mode.code + bitAt 12 true | none => 0) +
        at' 16 x.st.code + (if r.mode = .off then 0 else bitAt 18 x.los) + bitAt 19 (c.module (p / 4)))
    else roCell d (12 + at' 16 (if c.links.mgmt.contains p then 2 else 3))
  | 0x04 => roCell d (g.pvid + at' 12 g.prio + bitAt 15 g.flood + at' 16 g.redund.code + at' 18 (g.peer.getD 31))
  | 0x08 => roCell d (g.learn + at' 16 (c.learned p))
  | 0x0C => some { kind := .rw, dom := d, val := c.links.linkDly.get 0 p }
  | 0x10 => roCell d (bitAt 0 (c.cfg.time.ptp.contains p))
  | _ => none
def Chip.regRope (c : Chip) (a : Nat) : Option RegCell :=
  let d := some 22
  if 0x10 ≤ a ∧ a < 0x70 then
    match (c.links.cnt.list.map Prod.snd)[(a - 0x10) / 8]? with
    | some n => roCell d (half64 (a % 8 != 0) n)
    | none => none
  else match a with
  | 0 => roCell d (bitAt 0 c.links.ropeUp + bitAt 1 (c.links.txLane == 15) + bitAt 2 (c.links.peer.any Beacon.alive) + bitAt 3 (c.links.peer.any Beacon.basecamp))
  | 4 => roCell d (mod32 ((c.links.offset.map Prod.fst).getD 0))
  | 8 => roCell d (mod32 ((c.links.offset.map Prod.snd).getD 0))
  | _ => none
/-- Cage registers; a window's value is the module's answer. -/
def Chip.regCage (c : Chip) (a : Nat) : Option RegCell :=
  if a < 0x400 then some { kind := .win, val := 0 }
  else if a < 0x410 then some { kind := .wa, bits := 65535, val := 0 }
  else if a < 0x420 then
    let q := (a - 0x410) / 4
    roCell none (bitAt 0 (c.module q) + bitAt 1 (c.cage q).intl + bitAt 2 (!(c.cage q).resetOut))
  else none

/-! ### FWD, CODEC, TIME, KEY (Tables 21-13 to 21-16) -/

def FwdCnt.list (k : FwdCnt) : List Nat := [k.rsvdrop, k.learnq, k.learnfail, k.staticsrc, k.dupmiss, k.wronglan, k.noroute, k.ptprsv, k.ptpnomatch]
def Chip.regFwd (c : Chip) (a : Nat) : Option RegCell :=
  let d := some 16
  let s := c.sw
  let subs := s.buckets.flatMap (fun b => b.2) ++ s.overflow
  let cp (k : RegKind) (v : Nat) : Option RegCell := some { kind := k, dom := d, val := v % 4294967296 }
  if 0x40 ≤ a ∧ a < 0x98 then
    match (s.cnt.list ++ [c.measured 32 32, s.toSteward])[(a - 0x40) / 8]? with
    | some n => roCell d (half64 (a % 8 != 0) n)
    | none => none
  else match a with
  | 0x00 => roCell d (s.gens.get 0 0)
  | 0x04 => roCell d (s.macs.length + at' 24 s.stash.length)
  | 0x08 => roCell d (c.cfg.age / 4 + at' 16 s.tick)
  | 0x0C => roCell d (s.gens.get 0 3)
  | 0x10 => roCell d ((subs.filter (fun e => !e.isDup)).length + at' 16 (subs.filter SubEnt.isDup).length)
  | 0x14 => roCell d s.lpm4.length
  | 0x18 => roCell d s.lpm6.length
  | 0x20 => cp .ro (3 * s.roots.get 0 0)
  | 0x24 => cp .ro (s.gens.get 0 1)
  | 0x28 => cp .ro (3 * s.roots.get 0 1)
  | 0x2C => cp .ro (s.gens.get 0 2)
  | _ => none
def Chip.regCodec (c : Chip) (a : Nat) : Option RegCell :=
  let d := some 17
  let k := c.codec
  let subs (f : SubSt → Nat) : Nat := k.subs.foldl (fun n e => n + f e.2) 0
  if 0x10 ≤ a ∧ a < 0x38 then
    match [subs SubSt.accepted, subs SubSt.overload, k.pubs.foldl (fun n e => n + e.2.sent) 0, subs SubSt.auth, c.unit.regs.holdDisc][(a - 0x10) / 8]? with
    | some n => roCell d (half64 (a % 8 != 0) n)
    | none => none
  else match a with
  | 0x00 => roCell d (min 256000 (k.bucket + 24 * (c.clk.cycle - k.bucketAt)) / 1000 + at' 16 (min 64000 (k.build + 8 * (c.clk.cycle - k.buildAt)) / 1000))
  | 0x04 => roCell d (c.cfg.dtempl.length + at' 16 c.cfg.etempl.length)
  | 0x08 => roCell d (k.waiting.length + at' 8 c.keys.tagQ.length)
  | _ => none
def InState.code : InState → Nat | .present => 1 | .invalid => 3 | .unknown | .absent => 2
def Chip.regTime (c : Chip) (a : Nat) : Option RegCell :=
  let k := c.clk
  let t := c.cfg.time
  let r := c.unit.regs
  match a with
  | 0x00 => roCell none (k.anchor.sec / 4294967296)
  | 0x04 => roCell none (k.anchor.sec % 4294967296)
  | 0x08 => roCell none k.anchor.ns
  | 0x0C => roCell none (k.anchor.sub / 4294967296)
  | 0x10 => roCell none (c.quality.toNat % 64)
  | 0x14 => roCell none (mod32 k.anchor.rate)
  | 0x18 => roCell none ((t.utcOffset % 256).toNat + at' 8 (match t.leap with | .none => 0 | .insert => 1 | .delete => 2) + bitAt 10 (t.ref == .ext10) + bitAt 11 t.irig +
      bitAt 12 t.pps)
  | 0x1C => roCell none (t.holdover / 1000000000)
  | 0x20 => roCell none ((if t.irig then k.irig.code else 0) + at' 2 r.irig.1 + at' 16 r.irig.2)
  | 0x24 => roCell none k.irigBad
  | 0x28 => roCell none ((if t.pps then k.pps.code else 0) + at' 16 (k.ppsGlitch % 65536))
  | 0x2C => roCell none (bitAt 0 k.extValid + bitAt 1 (k.refIn == .ext10) + at' 16 (r.extLosses % 65536))
  | _ => none
def Chip.regKey (c : Chip) (a : Nat) : Option RegCell :=
  let k := c.keys
  let gen := if k.life = .issued ∨ k.life = .field then k.gen.getD 7 else 7
  match a with
  | 0x00 => roCell none (bitAt 0 k.work.isSome + at' 1 (k.work.getD 0))
  | 0x04 => roCell none (c.freeSlots % 8192 + at' 16 ((k.slots.filter (fun e => e.2.st == .valid)).length))
  | 0x08 => roCell none (gen + at' 4 k.blankGens.length + at' 8 (k.toIssued % 4))
  | 0x0C => roCell none (bitAt 0 k.cur.isSome + at' 1 (match k.cur with | some r => if r.codec then 0x901 else 0xA00 | none => 0) + at' 13 (k.waiters.length % 4))
  | 0x10 => roCell none c.unit.regs.engSwitches
  | 0x14 => roCell none c.unit.regs.engMaxWait
  | 0x18 => roCell none (bitAt 0 c.panel.presence.isSome + at' 1 ((999999999 + c.presenceLeft) / 1000000000))
  | _ => none

/-! ### FIELD, FAULT, REPAIR, POWER (Tables 21-17 to 21-20) -/

/-- The pattern an LED shows: its belay pattern, OFF after a belay, or the last commanded one (R686). -/
def Chip.ledShown (c : Chip) (l : Nat) : Nat :=
  if c.belayed (.led l) && (c.fiOf (.led l)).isSome then c.ledPattern l else if c.panel.ledOff.contains l then 0 else c.led l
def Sup.code : Sup → Nat | .ok => 0 | .opened => 1 | .off => 2
/-- ALIVE_OUT's level: 500,000 cycles high, then as many low, from a rising edge (R722). -/
def Chip.aliveLevel (c : Chip) : Bool := c.alive.toggling && (c.clk.cycle - c.alive.since) / 500000 % 2 == 0
/-- A trip output's registers; STATEBELAY is set while STATE alone holds the output (DEDUCED from R717 and the reset value of Table 21-17). -/
def Chip.regTrip (c : Chip) (n off : Nat) : Option RegCell :=
  let x := c.trip n
  let g := c.tripCfg n
  let o := OutId.trip n
  match off with
  | 0 => roCell none (bitAt 0 (x.drive != .off) + at' 1 x.sup.code + bitAt 3 (c.latched o) + bitAt 4 (c.stateBelay o && !c.latched o) +
      at' 5 (match c.plugIn n with | none => 0 | some false => 1 | some true => 2) + bitAt 7 x.latched + bitAt 8 x.held + bitAt 9 (x.drive == .test))
  | 4 => roCell none (g.minPulse / 1000000 + bitAt 9 g.supervise + at' 10 (g.plug.getD 7))
  | 8 => roCell none (stop32 x.pulses)
  | _ => roCell none (c.measured (33 + n) 12)
def voltCode (n : Nat) : Nat := [24, 48, 110, 125, 220, 250].idxOf n
def Chip.regField (c : Chip) (a : Nat) : Option RegCell :=
  let d := some 21
  let keysWhere (f : Key → Bool) (hi : Bool) : Nat := bitmap ((List.range 32).filter (fun i => f (c.key (i + if hi then 32 else 0))))
  if a < 0x100 then c.regTrip (a / 16) (a % 16)
  else if a < 0x180 then
    let i := (a - 0x100) / 8
    let x := c.binIn i
    let g := c.inputCfg i
    if a % 8 = 0 then roCell none (bitAt 0 x.raw + bitAt 1 (c.inputState i) + bitAt 2 x.blocked + at' 3 (voltCode g.vnom) + bitAt 6 g.invert + at' 8 (g.filter / 1000000))
    else roCell none (stop32 x.changes)
  else if 0x1A0 ≤ a ∧ a < 0x1C0 then
    let x := c.touch ((a - 0x1A0) / 4)
    roCell d (x.count + at' 12 x.base + bitAt 24 x.touched + bitAt 25 x.bad)
  else if 0x1C0 ≤ a ∧ a < 0x1CC then
    let w := (a - 0x1C0) / 4
    roCell d ((List.range 16).foldl (fun n j => n + at' (2 * j) (c.ledShown (16 * w + j))) 0)
  else match a with
  | 0x180 => roCell none (bitmap ((List.range 16).filter (fun i => (c.pres i).active)))
  | 0x184 => roCell none (bitmap ((List.range 16).filter (fun i => (c.pres i).fault)))
  | 0x188 => roCell d (keysWhere Key.pressed false)
  | 0x18C => roCell d (keysWhere Key.pressed true)
  | 0x190 => roCell d (keysWhere Key.stuck false)
  | 0x194 => roCell d (keysWhere Key.stuck true)
  | 0x1D0 => roCell none (bitAt 0 c.alive.toggling + bitAt 1 c.aliveLevel + bitAt 2 c.alive.inToggling + bitmap (c.aliveFailing.map (· + 2)))
  | 0x1D4 => roCell none (c.cfg.debounce / 1000000)
  | _ => none
/-- A fault source's registers; a reserved one reads zero (R809). -/
def Chip.regSrc (c : Chip) (n : Nat) (count : Bool) : Nat :=
  match srcRow n with
  | none => 0
  | some r => if count then stop32 (c.src n).count
      else (c.srcClass n).code + at' 2 r.floor.code + at' 4 r.dflt.code + bitAt 6 (!r.fiScope) + bitAt 7 (c.src n).latched
def Chip.regFault (c : Chip) (a : Nat) : Option RegCell :=
  let b := c.belay
  if a < 0x2000 then roCell none (c.regSrc (a / 8) (a % 8 != 0))
  else match a with
  | 0x2000 => some { kind := .cp1, bits := 0x03FF03FF, val := c.unit.latches.get 0 3 }
  | 0x2004 => some { kind := .cp2, bits := 0xFF, val := 0 }
  | 0x2008 => roCell none c.coll.queue.length
  | 0x200C => roCell none (stop32 c.coll.unrecorded)
  | 0x2010 => roCell none (bitAt 0 b.start + bitAt 1 b.basecamp + bitAt 2 b.unit)
  | 0x2014 => roCell none (c.cairn.next / 4294967296)
  | 0x2018 => roCell none (c.cairn.next % 4294967296)
  | 0x201C => roCell none c.cairn.held.length
  | 0x2020 => roCell none (stop32 c.cairn.lost)
  | _ => none
def Chip.regRepair (c : Chip) (a : Nat) : Option RegCell :=
  let r := c.rep
  if a < 0x80 then
    let k := a / 16
    let n (s : TileSt) : Nat := ((tilesOf k).filter (fun t => (c.tileRep t).st == s)).length
    match a % 16 with
    | 0 => roCell none (n .spare + at' 3 (n .spliced) + at' 9 (c.margin k) + bitAt 12 (r.steps.find k).isSome)
    | 4 => roCell none (c.unit.regs.lastStep.get 0 k)
    | _ => none
  else if 0xA0 ≤ a ∧ a < 0xBC then
    let i := (a - 0xA0) / 4
    let worst := (List.range 4).foldl (fun n b => max n (r.wear.get 0 (i + 8 * b))) 0
    roCell none (if wearLimit i = 0 then 0 else min 65535 (1000 * worst / wearLimit i))
  else match a with
  | 0x80 => roCell none r.fuses.length
  | 0x84 => roCell none (4 - r.reloc)
  | 0x88 => roCell none (16 - r.rows.foldl (fun n e => max n e.2) 0)
  | 0x8C => roCell none (r.sram.length + at' 16 r.dram.length)
  | 0x90 => roCell none (stop32 r.unrecorded)
  | 0x94 => roCell none ((r.links.filter (fun e => e.2.half)).length + at' 8 (r.links.foldl (fun n e => n + e.2.spares) 0))
  | 0x98 => roCell none (bitAt 0 c.cfg.traverse + at' 1 (c.cfg.interval / 1000000000))
  | _ => none
def DomSt.code : DomSt → Nat | .off => 0 | .rising => 1 | .on => 2 | .falling => 3
def Chip.regPower (c : Chip) (a : Nat) : Option RegCell :=
  if a < 0xC0 then
    let n := a / 8
    let d := c.dom n
    if a % 8 = 0 then roCell none (d.st.code + at' 2 (match d.latched with | none => 0 | some true => 1 | some false => 2) + bitAt 4 d.forced + bitAt 5 d.retried)
    else roCell none (c.measured n 16)
  else if 0x100 ≤ a ∧ a < 0x158 then
    let x := c.sensor ((a - 0x100) / 4)
    roCell none ((x.temp % 512).toNat + at' 9 x.st.code + bitAt 11 x.bad)
  else match a with
  | 0xC0 => roCell none (c.measured 24 16)
  | 0xC4 => roCell none (c.measured 25 18)
  | 0xC8 => roCell none (c.measured 26 2 + bitAt 2 c.sup.warning + bitAt 3 c.sup.powered + at' 4 (c.measured 27 12))
  | 0xCC => roCell none (c.measured 28 20)
  | 0x180 => roCell none c.sup.step
  | _ => none

/-- The register at an address, none when it is unassigned (R785). -/
def Chip.reg (c : Chip) (a : Nat) : Option RegCell :=
  let hi := a / 0x10000
  if hi = 0 then c.regUnit a
  else if hi = 1 then c.regFi ((a - 0x10000) / 64) (a % 64)
  else if 0x100000 ≤ a ∧ a < 0x101A00 then c.regTile ((a - 0x100000) / 16) (a % 16)
  else if hi = 0x20 then c.regMem (a - 0x200000)
  else if hi = 0x30 then c.regAlloc (a - 0x300000)
  else if hi = 0x31 then c.regHitch (a - 0x310000)
  else if hi = 0x40 then
    let b := a - 0x400000
    if b < 0x1200 then c.regPort (b / 256) (b % 256)
    else if 0xC000 ≤ b ∧ b < 0xE000 then c.regRope (b - 0xC000)
    else if 0xE000 ≤ b then c.regCage (b - 0xE000) else none
  else if hi = 0x50 then c.regFwd (a - 0x500000)
  else if hi = 0x60 then c.regCodec (a - 0x600000)
  else if hi = 0x70 then c.regTime (a - 0x700000)
  else if hi = 0x80 then c.regKey (a - 0x800000)
  else if hi = 0x90 then c.regField (a - 0x900000)
  else if hi = 0xA0 then c.regFault (a - 0xA00000)
  else if hi = 0xB0 then c.regRepair (a - 0xB00000)
  else if hi = 0xC0 then c.regPower (a - 0xC00000)
  else none

/-! ### READ REG -/

/-- An address with its underscore (R91). -/
def addrVal (a : Nat) : Val := .sym (String.ofList (['0', 'x'] ++ digitsText 16 4 (a / 65536) ++ ['_'] ++ digitsText 16 4 (a % 65536)))
def fAddr (a : Nat) : Fld := ⟨"ADDR", addrVal a⟩
/-- The cage of a window or of a write register, and whether its module can be reached (R490). -/
def cageOf (a : Nat) : Nat := let b := a - 0x40E000; if b < 0x400 then b / 256 else (b - 0x400) / 4
def Chip.cageReady (c : Chip) (q : Nat) : Bool := c.module q && c.domOn (12 + q)
/-- The octets of windows come one transaction after another, in address order; one that is not acknowledged ends the line (R489, R490, R786). -/
def Chip.readCells (c : Chip) : List Nat → List (Option Nat) → List Fields → Chip × Answer
  | [], _, out => (c, .ok out)
  | a :: t, wins, out =>
    let line (v : Nat) : Fields := [fWord "REG", ⟨"", addrVal a⟩, ⟨"", .hex 8 v⟩]
    match c.reg a with
    | none => (c, .err "0303" [fAddr a])
    | some r =>
      if r.kind = .win then
        match wins with
        | some v :: ws => c.readCells t ws (out ++ [line (v % 4294967296)])
        | _ => (c.advance 5000000, .err "0902" [])
      else c.readCells t wins (out ++ [line r.val])

def vReadReg : Verb := { spec := { obj := "REG", level := 2, args := [⟨"ADDR", .hex 0 0xFFFFFFFFFFFFFFFF 4, true⟩, ⟨"COUNT", .int 1 64, false⟩] } }
/-- READ REG (R108, R786); `wins` are the modules' answers to window reads, none where a module does not acknowledge. -/
def readRegDef (_h : Hdr) (args : Args) (wins : List (Option Nat)) : LineDef :=
  let run := (List.range ((args.int? "COUNT").getD 1)).map (fun i => (args.int? "ADDR").getD 0 + 4 * i)
  (LineDef.mk vReadReg .all args
    (fun c _ => firstBad [run.findSome? (fun a => must (c.reg a).isSome "0303" [fAddr a]),
      run.findSome? (fun a => match c.reg a with | some r => must (r.kind != .win || c.cageReady (cageOf a)) "0401" [] | none => none)]) noBad
    (fun c _ =>
      if run.any (fun a => match c.reg a with | some r => (match r.dom with | some d => !c.domOn d | none => false) | none => false) then (c, .err "0901" [])
      else c.readCells run wins [])).measured

/-! ### WRITE REG and fault injection -/

/-- Instances that a source can name (R795); a source without instances of its own takes any. -/
def instances (src : Nat) : Nat :=
  if src = 1 ∨ src = 80 ∨ src = 81 then 416 else if src = 71 ∨ (192 ≤ src ∧ src ≤ 209) then 18 else if 393 ≤ src ∧ src ≤ 416 then 24
  else if 320 ≤ src ∧ src ≤ 367 then 16 else if src = 76 ∨ src = 79 then 64 else if 72 ≤ src ∧ src ≤ 75 then 4 else 1024
def isPair (a : Nat) : Bool := a == 0xA02000 || a == 0xA02004
/-- What a selection for fault injection gets wrong (R795). -/
def selBad (v : Nat) : Bad :=
  firstBad [must (srcRow (v % 1024)).isSome "0701" [], must (decide (v / 65536 % 1024 < instances (v % 1024))) "0701" []]
/-- The raise of a completed pair (R794). -/
def Chip.inject (c : Chip) (sel tag : Nat) : Chip :=
  let src := sel % 1024
  let inst := sel / 65536 % 1024
  let fi := match srcRow src with | some r => if r.fiScope then some inst else none | none => none
  ((c.unit' (fun u => { u with latches := (u.latches.del 0).put 0 3 sel })).advance 1).raise src inst fi [⟨"INJ", .hex 2 (tag % 256)⟩]

def vWriteReg (pair : Bool) : Verb :=
  { need := fun c => must (!pair || c.keys.life == .issued) "0205" [],
    spec := { obj := "REG", level := 3, args := [⟨"ADDR", .hex 0 0xFFFFFFFFFFFFFFFF 4, true⟩, ⟨"VALUE", .hex 0 0xFFFFFFFF 1, true⟩] } }
/-- WRITE REG (R7, R108, R787, R791–R795, R489); `ack` says whether a module acknowledges a cage write. -/
def writeRegDef (_h : Hdr) (args : Args) (ack : Bool) : LineDef :=
  let a := (args.int? "ADDR").getD 0
  let v := (args.int? "VALUE").getD 0
  LineDef.mk (vWriteReg (isPair a)) .all args
    (fun c _ => match c.reg a with
      | none => some ("0303", [fAddr a])
      | some r => firstBad [must (r.kind != .ro && r.kind != .win) "0401" [], must (r.kind != .cp2 || (c.unit.latches.find 0).isSome) "0401" [],
          must (r.kind != .wa || c.cageReady (cageOf a)) "0401" []])
    (fun c _ => match c.reg a with
      | none => none
      | some r => firstBad [must (v &&& r.bits == v) "0709" [], if r.kind = .cp1 then selBad v else none])
    (fun c _ => match c.reg a with
      | none => (c, .ok [])
      | some r =>
        if (match r.dom with | some d => !c.domOn d | none => false) then (c, .err "0901" [])
        else match r.kind with
          | .rw => (if a = 0x1C then c.unit' (fun u => { u with regs := { u.regs with scratch := v } })
              else c.links' (fun l => { l with linkDly := l.linkDly.put 0 ((a - 0x400000) / 256) v }), .ok [])
          | .cp1 => (c.unit' (fun u => { u with latches := u.latches.set 0 v }), .ok [])
          | .cp2 => (c.inject (c.unit.latches.get 0 0) v, .ok [])
          | .wa =>
            if ack then (c.modCage (cageOf a) (fun x => { x with written := x.written.set (v / 256 % 256) (v % 256) }), .ok [])
            else (c.advance 5000000, .err "0902" [])
          | _ => (c, .ok []))

def regArgs (a v : Nat) : Args := [⟨"ADDR", .hex a⟩, ⟨"VALUE", .hex v⟩]
/-- The lines that name the fault-injection pair, a cage's write register and its window (R489, R792, R794). -/
def writeSelDef (h : Hdr) (v : Nat) : LineDef := writeRegDef h (regArgs 0xA02000 v) true
def writeGoDef (h : Hdr) (v : Nat) : LineDef := writeRegDef h (regArgs 0xA02004 v) true
def writeCageDef (h : Hdr) (q v : Nat) (ack : Bool) : LineDef := writeRegDef h (regArgs (0x40E400 + 4 * q) v) ack
def readWindowDef (h : Hdr) (q k : Nat) (answer : Option Nat) : LineDef :=
  readRegDef h [⟨"ADDR", .hex (0x40E000 + 256 * q + 4 * k)⟩] [answer]

end Sys2Proof.Machine
end

