-- ==== Sys2Proof/Machine/Verbs.lean ====
section
/-!
DEFINITION. The immediate verbs of 03_trevline_reference.md other than SHOW, DUMP, READ and WRITE REG: restart, images, life cycle, FIs and command points,
tiles and repair, counters, time, keys, hitches, the panel, trip tests, routing and faults (R95–R158, and the rules named at each).
-/
namespace Sys2Proof.Machine

/-- Acts on each item in turn; when one fails the line has no effect (R39, R47). -/
def eachOrNone (f : Chip → Nat → Chip × Answer) (c : Chip) (items : List Nat) : Chip × Answer :=
  match eachItem f c items with
  | (c', .ok d) => (c', .ok d)
  | (_, a) => (c, a)

/-! ### Restart, images and life cycle -/

def vRestart (cold : Bool) : Verb :=
  { rom := cold, flash := cold, spec := { obj := "UNIT", level := 2, args := [⟨"KIND", .kw ["WARM", "COLD"], false⟩] } }
/-- RESTART UNIT: the restart is pending until every answered commit has applied (R111, R195); a cold one writes the flash tail (R191). -/
def restartUnitDef (_h : Hdr) (args : Args) : LineDef :=
  let cold := args.kw? "KIND" == some "COLD"
  LineDef.mk (vRestart cold) .all args (fun c _ => must c.unit.restart.isNone "0407" []) noBad
    (fun c _ => (c.unit' (fun u => { u with restart := some (if cold then .cold else .warm) }), .ok []))

def vSwitchImage : Verb := { rom := true, flash := true, spec := { obj := "IMAGE", level := 3, args :=
  [⟨"BANK", .kw ["A", "B"], true⟩, ⟨"KIND", .kw ["WARDEN", "STEWARD", "BOTH"], false⟩] } }
/-- SWITCH IMAGE: the next-bank selection (R106, R159, R163). -/
def switchImageDef (_h : Hdr) (args : Args) : LineDef :=
  let k := (args.kw? "KIND").getD "BOTH"
  LineDef.mk vSwitchImage .all args noBad (fun c _ => c.romPresence) (fun c _ =>
    ((c.unit' (fun u => { u with nextW := if k = "STEWARD" then u.nextW else bankArg args, nextS := if k = "WARDEN" then u.nextS else bankArg args })).wear 3 0, .ok []))

/-- The pairings behind the causes WARDEN, STEWARD and GRAPH (R187). -/
def Chip.untested (c : Chip) : List Pairing :=
  let graphs := c.cfg.fis.flatMap (fun e => match e.2.image with | some i => c.graphPairs i.set i.digest | none => [])
  ((c.wardenPairs ++ c.stewardPairs).map Prod.fst ++ graphs).eraseDups
def verText (v : Nat × Nat × Nat) : String := toString v.1 ++ "." ++ toString v.2.1 ++ "." ++ String.ofList (padNat 4 v.2.2)
/-- Event 0x096: kinds and versions of an accepted pairing (Table 4-8). -/
def Chip.pairRecord (c : Chip) (p : Pairing) : Chip :=
  c.record 150 0 (match p.cause with
    | .warden => [fSym "STEPPING" (String.ofList stepping), fSym "WARDEN" (verText p.a)]
    | .graph => [fSym "STEWARD" (verText p.a), fSym "GRAPH" (verText p.b)]
    | _ => [fSym "STEWARD" (verText p.a), fSym "WARDEN" (verText p.b)])
def vAccept : Verb := { flash := true, spec := { obj := "IMAGE", level := 3 } }
/-- ACCEPT IMAGE UNTESTED (R107, R168, R187). -/
def acceptImageDef (_h : Hdr) : LineDef :=
  LineDef.mk vAccept .all [] (fun c _ => firstBad [must (!c.unit.camp.isEmpty) "0401" [], must (decide (c.unit.accepted.length < 16)) "0503" [],
      must (!c.unit.camp.any (fun e => e.1 == .isa)) "0601" [], must (c.keys.life == .issued) "0604" []]) noBad
    (fun c _ =>
      let new := c.untested
      ((new.foldl Chip.pairRecord (c.unit' (fun u => { u with accepted := (u.accepted ++ new).eraseDups.take 16 }))).wear 3 0, .ok []))

/-- What a transition destroys and erases, none when Table 16-2 has no such row; CONFIG and BANKS are erased as the restart begins. -/
def lifeRow : Life → Life → Option (List String)
  | .factory, .issued => some ["WORK"]
  | .issued, .field => some ["WORK", "PAIRS"]
  | .field, .issued => some ["SEAL", "WORK"]
  | .factory, .return | .issued, .return | .field, .return => some ["SEALS", "WORK", "CONFIG"]
  | .return, .scrapped => some ["KDEV", "BANKS"]
  | _, _ => none
/-- The transitions that ask for physical presence (Table 16-2). -/
def lifePresence (fr dest : Life) : Bool := fr == .field || (fr == .return && dest == .scrapped)
def lifeNames : List String := ["ISSUED", "FIELD", "RETURN", "SCRAPPED"]
def lifeOf (s : String) : Life := [Life.issued, .field, .return, .scrapped].getD (lifeNames.idxOf s) .issued
/-- GRAPHKEY names a VALID slot of usage GRAPH, and a SECURE account has a VALID LOGIN slot (Table 16-2). -/
def Chip.fieldReady (c : Chip) : Bad :=
  let ok (n : Nat) (f : Slot → Bool) : Bool := (c.slot n).st == .valid && !(c.slot n).bad && f (c.slot n)
  firstBad [must (match c.cfg.graphKey with | some n => ok n Slot.graph | none => false) "0702" [fSym "FIELDS" "GRAPHKEY"],
    must (c.cfg.users.any (fun a => a.level == 3 && ok a.slot Slot.login)) "0702" [fSym "FIELDS" "USER"]]
def vMoveLife : Verb := { life := true, spec := { obj := "LIFE", level := 3, args := [⟨"TO", .kw lifeNames, true⟩, ⟨"CONFIRM", .str 0 255, true⟩] } }
/-- MOVE LIFE (R110, R195, R630–R636): the transition, its destructions, and a cold restart that is pending; `otpOk` says whether every programming
step reads back. -/
def moveLifeDef (h : Hdr) (args : Args) (otpOk : Bool) : LineDef :=
  let dest := lifeOf ((args.kw? "TO").getD "ISSUED")
  let known := args.has "TO"
  LineDef.mk vMoveLife .all args
    (fun c _ => if !known then none else
      let fr := c.keys.life
      firstBad [must c.unit.restart.isNone "0407" [], must (lifeRow fr dest).isSome "0401" [],
        must (!(c.sup.warning && !(fr == .factory && dest == .issued))) "0401" [fSym "SUPPLY" "FAILING"],
        must (!(fr == .field && dest == .issued && c.keys.blankGens.isEmpty)) "0503" []])
    (fun c _ =>
      let fr := c.keys.life
      firstBad [must (args.str? "CONFIRM" == some c.unit.serial) "0701" [], if fr = .issued ∧ dest = .field then c.fieldReady else none,
        must (!(lifePresence fr dest) || (c.present && decide (h.sess < 2))) "0805" []])
    (fun c _ =>
      let fr := c.keys.life
      let row := (lifeRow fr dest).getD []
      let now := row.filter (fun s => s != "CONFIG" && s != "BANKS")
      let c1 := (c.record 249 0 [fSym "FROM" fr.name, fSym "TO" dest.name]).keys' (fun k =>
        { k with life := dest, toIssued := if fr = .field ∧ dest = .issued then k.toIssued + 1 else k.toIssued })
      let c2 := if otpOk then (now.foldl Chip.lifeErase c1).keys' (fun k => { k with owed := k.owed ++ row.filter (fun s => s == "CONFIG" || s == "BANKS") })
        else (c1.keys' (fun k => { k with owed := k.owed ++ row, storeBad := true })).raise 259 0 none []
      (c2.unit' (fun u => { u with restart := some .life }), .ok []))

/-! ### Function instances -/

def vFi (level : Nat) (args : List ArgSpec) : VerbSpec := { obj := "FI", level := level, sel := some 1024, args := args }
def Chip.fiLine (c : Chip) (n : Nat) (rearm : Bool) : Fields :=
  itemHead "FI" n ++ [fSym "STATE" (c.fi n).st.name, fNat "GEN" (c.fi n).gen] ++ (if rearm then [fSym "REARM" "PENDING"] else [])
/-- Run intent, written before the line answers (R175). -/
def Chip.setIntent (c : Chip) (n : Nat) (b : Bool) : Chip := if (c.fi n).intent = b then c else (c.modFi n (fun x => { x with intent := b })).wear 1 0

/-- An item that is EMPTY holds nothing (Table 2-6, 0302), which R87 checks before its state. -/
def Chip.fisHeld (c : Chip) (l : List Nat) : Bad := l.findSome? (fun n => must ((c.fi n).st != .empty) "0302" [fFi n])

def vArm : Verb := { camp := true, flash := true, spec := vFi 2 [] }
/-- ARM FI on one FI (R116, R117, R175, R229, R230, R440). -/
def Chip.armItem (c : Chip) (n : Nat) : Chip × Answer :=
  let live := c.targetLive n
  let later (c : Chip) : Chip × Answer := ((c.setIntent n true).modFi n (fun x => { x with rearm := true }), .err "0405" [fNat "COUNT" live])
  if !c.armRoom n then (c, .err "0704" [])
  else match (c.fi n).st with
    | .admitted | .stopped =>
      if live = 0 then
        let c1 := (c.setIntent n true).armFi n "ARM"
        (c1, .ok [c1.fiLine n false])
      else later c
    | .draining =>
      if live = 0 then
        let c1 := (c.setIntent n true).modFi n (fun x => { x with rearm := true })
        (c1, .ok [c1.fiLine n true])
      else later c
    | _ => (c, .err "0401" [])
/-- A state of an FI that a verb needs. -/
def Chip.fiStates (c : Chip) (l : List Nat) (f : FiSt → Bool) : Bad := l.findSome? (fun n => must (f (c.fi n).st) "0401" [fFi n])
/-- ARM FI: an FI in the wrong state refuses the whole line; 0405 leaves the flag it set (R117). -/
def armDef (_h : Hdr) (sel : Selector) : LineDef :=
  LineDef.mk vArm sel [] (fun c l => firstBad [c.fisHeld l, c.fiStates l (fun s => s == .admitted || s == .stopped || s == .draining)]) noBad (eachItem Chip.armItem)

def vStop : Verb := { flash := true, spec := vFi 2 [] }
/-- STOP FI on one FI (R116, R117, R175, R229). -/
def Chip.stopItem (c : Chip) (n : Nat) : Chip × Answer :=
  let c1 := (c.setIntent n false).modFi n (fun x => { x with rearm := false, ropeStopped := false })
  let c2 := if (c1.fi n).st.active then c1.drainFi n "STOP" else c1
  (c2, .ok [c2.fiLine n false])
def stopDef (_h : Hdr) (sel : Selector) : LineDef :=
  LineDef.mk vStop sel [] (fun c l => firstBad [c.fisHeld l, c.fiStates l FiSt.acts]) noBad (eachItem Chip.stopItem)

def vClearFi : Verb := { spec := vFi 2 [] }
/-- CLEAR FI COUNTS (R242, R327, R351, R797). -/
def clearCountsDef (_h : Hdr) (sel : Selector) : LineDef :=
  LineDef.mk vClearFi sel [] Chip.fisHeld noBad (fun c l =>
    (l.foldl (fun c n => c.modFi n (fun x => { x with misbehave := 0, copies := x.copies.map (fun y => { y with cnt := Cnt.init }) })) c, .ok []))
/-- CLEAR FI POISON: the poisoned lines of the FI's area are marked for the scrubber (R126, R427). -/
def clearPoisonDef (m : Mem) (_h : Hdr) (sel : Selector) : LineDef :=
  LineDef.mk vClearFi sel [] Chip.fisHeld noBad (eachItem (fun c n =>
    let ls := CM.poisonedLines (c, m) n
    (if ls.isEmpty then c else { c with mctl := { c.mctl with marked := c.mctl.marked.set n ls } }, .ok [itemHead "FI" n ++ [fNat "POISONED" ls.length]])))

/-! ### Command points (R118, R123, R472, R473, R699) -/

def pointArg : ArgSpec := ⟨"POINT", .int 0 255, true⟩
def valueNames : List String := ["OPEN", "CLOSE", "OFF", "ON"]
/-- A session's level is at least its hitch group's (R144, R466). -/
def Chip.groupLevel (c : Chip) (h : Nat) : Nat := (c.cfg.groups.get HGroup.init (h / 16)).level
def Chip.maskBad (c : Chip) (s h : Nat) : Bad := must (decide (h < 16) || decide (c.groupLevel h ≤ (c.sess s).level.getD 0)) "0207" []
/-- The point of an FI, or 0302 when none is declared. -/
def Chip.pointOf (c : Chip) (n p : Nat) : Option Point := (c.fiCfg n).points.find p

def vSelect : Verb := { camp := true, spec := vFi 1 [pointArg, ⟨"VALUE", .kw valueNames, true⟩] }
/-- SELECT FI on one FI (R118, R123, R144, R469, R472). -/
def Chip.pointSelect (c : Chip) (s p v n : Nat) : Chip × Answer :=
  match c.pointOf n p with
  | none => (c, .err "0302" [fFi n])
  | some x =>
    let hx := c.hitch x.hitch
    let m := masterSess s
    if hx.broken then (c, .err "0905" [])
    else if hx.holder ≠ 0 then (c, .err "0407" [fMaster "HOLDER" hx.holder])
    else
      let e : Sel := { fi := n, point := p, hitch := x.hitch, value := v, until? := c.clk.cycle + x.window }
      let c1 := ((c.modHitch x.hitch (fun y => { y with holder := m })).modSess s (fun y => { y with sels := y.sels ++ [e] })).selectRecord s e "SELECT"
      let t := c.clk.anchor.after x.window
      (c1, .ok [[fWord "POINT", fNum p, fWord "SELECTED", fTime "UNTIL" (t.sec, t.ns)]])
/-- SELECT FI. -/
def selectDef (h : Hdr) (sel : Selector) (args : Args) : LineDef :=
  let p := (args.int? "POINT").getD 0
  let v := ((args.get? "VALUE").bind (kwIn valueNames)).getD 0
  LineDef.mk vSelect sel args (fun c l => firstBad [c.fisHeld l, l.findSome? (fun n => match c.pointOf n p with | some x => c.maskBad h.sess x.hitch | none => none)]) noBad
    (eachOrNone (fun c n => c.pointSelect h.sess p v n))

/-- A selection ends: the hitch passes on. -/
def Chip.endSel (c : Chip) (s : Nat) (e : Sel) : Chip :=
  let c1 := c.modSess s (fun x => { x with sels := x.sels.filter (· != e) })
  if (c1.hitch e.hitch).holder = masterSess s then c1.hitchPass tell e.hitch else c1
/-- Event 0x0A4 of a hitch that a session loses (R470). -/
def Chip.hitchEvent (c : Chip) (s hitch : Nat) (cause : String) : Chip :=
  c.record 164 hitch [fNat "HITCH" hitch, fMaster "MASTER" (masterSess s), fSym "CAUSE" cause]
/-- A select window has ended (R123, R470). -/
def Chip.expireSel (c : Chip) (s : Nat) (e : Sel) : Chip := (c.hitchEvent s e.hitch "EXPIRY").endSel s e
def Chip.selOf (c : Chip) (s n p : Nat) : Option Sel := (c.sess s).sels.find? (fun e => e.fi == n && e.point == p)
/-- The point's hitch is broken. -/
def Chip.pointBroken (c : Chip) (n p : Nat) : Bool := match c.pointOf n p with | some x => (c.hitch x.hitch).broken | none => false

def vExecute : Verb := { camp := true, spec := vFi 1 [pointArg] }
/-- EXECUTE FI on one FI: the value goes to the standing context of the FI's input bound FROM=POINT-p, and the hitch passes on (R118, R123, R470,
R472, R473, R699). -/
def Chip.executeItem (c : Chip) (s p n : Nat) : Chip × Answer :=
  if c.pointBroken n p then (c, .err "0905" [])
  else match c.selOf s n p with
    | none => (c, .err "0401" [])
    | some e =>
      if e.until? ≤ c.clk.cycle then (c.expireSel s e, .err "0401" [])
      else if !(c.fi n).st.active then ((c.hitchEvent s e.hitch "STOP").endSel s e, .err "0401" [])
      else
        let ports := ((c.fiCfg n).ins.filter (fun i => i.2 == .point p)).map Prod.fst
        let c1 := ports.foldl (fun c q => c.deliverStanding n { port := q, idx := 0, op := ⟨.data, BitVec.ofNat 64 e.value⟩, start := false } 0 none) c
        ((c1.selectRecord s e "EXECUTE").endSel s e, .ok [])
def executeDef (h : Hdr) (sel : Selector) (args : Args) : LineDef :=
  LineDef.mk vExecute sel args Chip.fisHeld noBad (eachItem (fun c n => c.executeItem h.sess ((args.int? "POINT").getD 0) n))

def vCancel : Verb := { spec := vFi 1 [pointArg] }
/-- CANCEL FI on one FI (R118, R123, R472). -/
def Chip.cancelItem (c : Chip) (s p n : Nat) : Chip × Answer :=
  if c.pointBroken n p then (c, .err "0905" [])
  else match c.selOf s n p with
    | none => (c, .err "0401" [])
    | some e => if e.until? ≤ c.clk.cycle then (c.expireSel s e, .err "0401" []) else ((c.selectRecord s e "CANCEL").endSel s e, .ok [])
def cancelDef (h : Hdr) (sel : Selector) (args : Args) : LineDef :=
  LineDef.mk vCancel sel args Chip.fisHeld noBad (eachItem (fun c n => c.cancelItem h.sess ((args.int? "POINT").getD 0) n))

/-- SELECT_EXPIRY: the window of a session's selection ends (R123, R470, R473). -/
def Chip.selectExpiry (c : Chip) (s n p : Nat) : Chip :=
  match c.selOf s n p with
  | some e => (c.advanceTo e.until?).expireSel s e
  | none => c

/-! ### Tiles, repair, ports -/

def vTestTile : Verb := { spec := { obj := "TILE", level := 2, sel := some 416 } }
/-- TEST TILE: D23 rises, the test takes 20 ms, and D23 falls unless a traverse step needs it (R99, R119, R125, R747); `r` is what the engine finds. -/
def testTileDef (_h : Hdr) (sel : Selector) (r : Option Nat) : LineDef :=
  LineDef.mk vTestTile sel [] (fun c l => l.findSome? (fun t => must ((c.tileRep t).st == .spare) "0401" [])) noBad
    (eachItem (fun c t =>
      if !c.domOn (clusterOf t) then (c, .err "0901" [])
      else
        let c1 := (c.modTileRep t (fun x => { x with st := .testing })).advance 23000000
        let c2 := c1.tileTested t r .traverse
        (c2, if r.isSome then .ok [] else .err "0904" [])))

def vStartRepair : Verb := { camp := true, spec := { obj := "REPAIR", level := 2, args := [⟨"CLUSTER", .int 0 7, true⟩] } }
/-- START REPAIR: one traverse step now (R99, R120, R125, R763, R779). -/
def startRepairDef (_h : Hdr) (args : Args) : LineDef :=
  let cl := (args.int? "CLUSTER").getD 0
  LineDef.mk vStartRepair .all args
    (fun c _ => if args.has "CLUSTER" then firstBad [must (c.step' cl).isNone "0407" [], must (!c.stepsHeld) "0401" []] else none) noBad
    (fun c _ => if !c.domOn cl then (c, .err "0901" []) else (c.stepStart cl false, .ok []))

def vClearPort : Verb := { spec := { obj := "PORT", level := 1, sel := some 18 } }
/-- CLEAR PORT COUNTERS (R507). -/
def clearPortDef (_h : Hdr) (sel : Selector) : LineDef :=
  LineDef.mk vClearPort sel [] noBad noBad (fun c l =>
    (l.foldl (fun c p =>
      let c1 := c.modPort p (fun _ => PortCnt.init)
      if p = 14 then c1.links' (fun x => { x with cnt := RopeCnt.reset }) else c1) c, .ok []))

/-! ### ADJUST TIME (R138, R600, R603–R607) -/

def vAdjust : Verb := { spec := { obj := "TIME", level := 2, args :=
  [⟨"RATE", .int (-200000000) 200000000, false⟩, ⟨"STEP", .dur (-140737488355328000000000) 140737488355328000000000, false⟩, ⟨"SET", .time, false⟩, ⟨"AT", .time, false⟩] } }
def jumpOf (args : Args) : Option Jump :=
  match args.signed? "STEP", args.time? "SET" with
  | some d, _ => some (.step (decide (d < 0)) (d.natAbs / 1000000000) (d.natAbs % 1000000000))
  | none, some t => some (.set t.1 t.2)
  | none, none => none
/-- ADJUST TIME (R138): without AT it acts in the next cycle, with AT it replaces the pending one; either counts as discipline. -/
def adjustTimeDef (_h : Hdr) (args : Args) : LineDef :=
  let a : Adjust := { rate := args.signed? "RATE", jump := jumpOf args, at? := args.time? "AT" }
  LineDef.mk vAdjust .all args noBad
    (fun c _ => firstBad [must (args.has "RATE" || args.has "STEP" || args.has "SET") "070A" [⟨"FIELD", .syms ["RATE", "STEP", "SET"]⟩],
      must (!(args.has "STEP" && args.has "SET")) "0702" [⟨"FIELDS", .syms ["STEP", "SET"]⟩],
      (match a.at? with | some t => must (!timeLe t c.now) "0701" [] | none => none),
      must (a.at?.isSome || decide ((c.clk.dueNext.foldl (fun n d => n + d.rate.getD 0) c.clk.anchor.rate + a.rate.getD 0).natAbs ≤ 200000000)) "0701" []])
    (fun c _ =>
      let c1 : Chip := match a.at? with
        | some _ => { c with clk := { c.clk with pendingAdj := some a } }
        | none => { c with clk := { c.clk with dueNext := c.clk.dueNext ++ [a] } }
      (c1.disciplined, .ok []))

/-! ### Key slots (R141, R640, R645, R647) -/

def vRevoke : Verb := { flash := true, need := Chip.keyNeed, spec := { obj := "KEYSLOT", level := 3, sel := some 4096 } }
/-- REVOKE KEYSLOT; `flashOk` says whether the flash write verifies. -/
def revokeKeyDef (_h : Hdr) (sel : Selector) (flashOk : Bool) : LineDef :=
  LineDef.mk vRevoke sel [] (fun c l => firstBad [l.findSome? (fun n => must ((c.slot n).st != .free) "0302" [fNat "KEYSLOT" n]),
    l.findSome? (fun n => must ((c.slot n).st == .valid) "0401" [])]) noBad
    (fun c l =>
      if !flashOk then (c, .err "0903" [])
      else (l.foldl (fun c n =>
        let c1 := (c.keys' (fun k => { k with slots := k.slots.put Slot.init n { c.slot n with st := .revoked, revokedAt := some c.now } })).record 251 n [fNat "SLOT" n]
        if c1.keys.work = some n ∧ c1.keys.cur.isNone then c1.zeroize true else c1) c, .ok []))

/-! ### Hitches (R144, R145, R149, R458, R468) -/

def vHitch (args : List ArgSpec) : Verb := { spec := { obj := "HITCH", level := 1, sel := some 256, args := args } }
/-- TAKE HITCH. -/
def takeDef (h : Hdr) (sel : Selector) (args : Args) : LineDef :=
  LineDef.mk (vHitch [⟨"WAIT", secs 0 600, false⟩]) sel args
    (fun c l => firstBad [l.findSome? (c.maskBad h.sess), must (l.all (16 ≤ ·)) "0401" [],
      must (!l.any (fun n => (c.hitch n).holder == masterSess h.sess || (c.hitch n).queue.contains (masterSess h.sess))) "0407" []]) noBad
    (fun c l => c.takeNext h.sess ((args.int? "WAIT").getD (c.sess h.sess).wait) l [])
/-- RELEASE HITCH; one by another than the holder raises the hitch-misuse fault. -/
def releaseDef (h : Hdr) (sel : Selector) : LineDef :=
  let m := masterSess h.sess
  LineDef.mk (vHitch []) sel [] (fun _ l => must (l.all (16 ≤ ·)) "0401" []) noBad
    (eachItem (fun c n =>
      if (c.hitch n).broken then (c, .err "0905" [])
      else if (c.hitch n).holder ≠ m then (c.raise 131 n none [fNat "HITCH" n, fMaster "MASTER" m], .err "0401" [])
      else
        let gone := (c.sess h.sess).sels.filter (fun e => e.hitch == n)
        let c1 := gone.foldl (fun c e => c.selectRecord h.sess e "CANCEL") c
        ((c1.modSess h.sess (fun x => { x with sels := x.sels.filter (fun e => e.hitch != n) })).hitchPass tell n, .ok [])))

/-! ### Display lines and trip tests (R147, R148, R687, R691, R702) -/

def vWritePanel : Verb := { spec := { obj := "PANEL", level := 1, args := [⟨"LINE", .int 0 3, true⟩, ⟨"TEXT", .str 0 40, true⟩] } }
def padLine (t : List Char) : List Char := (t ++ blankLine).take 40
/-- WRITE PANEL. -/
def writePanelDef (h : Hdr) (args : Args) : LineDef :=
  let r := (args.int? "LINE").getD 0
  LineDef.mk vWritePanel .all args noBad (fun c _ => must (c.fiOf (.display r)).isNone "0706" [])
    (fun c _ => ((c.setLine r (padLine ((args.str? "TEXT").getD []))).record 256 r [fNat "LINE" r, fNat "SESSION" h.sess], .ok []))

def vTestTrip : Verb := { camp := true, spec := { obj := "TRIP", level := 2, sel := some 16, args := [⟨"PULSE", .dur 10000000 500000000, false⟩] } }
/-- What stands against a test of a channel, in the order of R147. -/
def Chip.testBad (c : Chip) (n : Nat) : Bad :=
  let fi := c.fiOf (.trip n)
  firstBad [must ((c.trip n).drive != .test) "0407" [], must (!c.latched (.trip n)) "0401" [fSym "CAUSE" "BELAY"],
    match fi with | some f => must (!(c.fi f).st.active) "0401" [fSym "CAUSE" "ARMED", fFi f] | none => none]
/-- TEST TRIP begins on a channel; one latched off after an overcurrent stays de-energized, and its test ends at once. -/
def Chip.testStart (c : Chip) (pulse n : Nat) : Chip :=
  let c1 := c.modTrip n (fun t => { t with testPulse := pulse, testEnd := c.clk.cycle + pulse })
  if (c.trip n).latched then (c1.testRecord n true .none).testRecord n false (.sym "OVERCURRENT")
  else if (c.trip n).drive ≠ .off then (c1.testRecord n true .none).testRecord n false (.sym "FI")
  else ((c1.modTrip n (fun t => { t with drive := .test, held := false, pulses := t.pulses + 1 })).tripRecord n true "TEST").testRecord n true .none
/-- TEST TRIP. -/
def testTripDef (_h : Hdr) (sel : Selector) (args : Args) : LineDef :=
  LineDef.mk vTestTrip sel args (fun c l => anyBad Chip.testBad c l) noBad (fun c l => (l.foldl (fun c n => c.testStart ((args.int? "PULSE").getD 100000000) n) c, .ok []))

/-! ### Routing and faults (R153, R158, R711, R715, R727) -/

def stateArg : List ArgSpec := [⟨"STATE", onOff, true⟩]
def reservedSrc (n : Nat) : Bool := (srcRow n).isNone
/-- Routes a record ID for a session. -/
def Sess.route (x : Sess) (on : Bool) (id : Nat) : Sess :=
  match faultOf id with
  | some n => { x with faults := x.faults.set n on }
  | none => { x with events := if on then insNat x.events id else x.events.filter (· != id) }
def vNotifyEvent : Verb := { reserved := fun n => match faultOf n with | some k => reservedSrc k | none => false, spec := { obj := "EVENT", level := 0, sel := some 4096, args := stateArg } }
def vNotifyFault : Verb := { reserved := reservedSrc, spec := { obj := "FAULT", level := 0, sel := some 1024, args := stateArg } }
/-- NOTIFY EVENT and NOTIFY FAULT. -/
def notifyEventDef (h : Hdr) (sel : Selector) (args : Args) : LineDef :=
  LineDef.mk vNotifyEvent sel args noBad noBad (fun c l => (c.modSess h.sess (fun x => l.foldl (fun x n => x.route ((args.on? "STATE").getD false) n) x), .ok []))
def notifyFaultDef (h : Hdr) (sel : Selector) (args : Args) : LineDef :=
  LineDef.mk vNotifyFault sel args noBad noBad (fun c l =>
    (c.modSess h.sess (fun x => l.foldl (fun x n => x.route ((args.on? "STATE").getD false) (1024 + n)) x), .ok []))

def vClearFault : Verb := { spec := { obj := "FAULT", level := 1, sel := some 1024 } }
/-- CLEAR FAULT of one source: count and latch, with event 0x114; that of a trip driver ends its overcurrent latch (R697); a reserved source has nothing
to clear. -/
def Chip.clearItem (c : Chip) (s n : Nat) : Chip :=
  if reservedSrc n then c
  else
    let c1 : Chip := { c with coll := { c.coll with srcs := c.coll.srcs.set n { c.src n with count := 0, latched := false } } }
    let c2 := if 336 ≤ n ∧ n < 352 then c1.modTrip (n - 336) (fun t => { t with latched := false }) else c1
    c2.record 276 n [fNat "SRC" n, fNat "SESSION" s]
def clearFaultDef (h : Hdr) (sel : Selector) : LineDef :=
  LineDef.mk vClearFault sel [] noBad noBad (fun c l => (l.foldl (fun c n => c.clearItem h.sess n) c, .ok []))

/-! ### Reserved verbs and objects (R89, R90) -/

/-- PATCH, TRACE, DEBUG, FORCE, and the objects MEMORY, BUS and SCRIPT: 010D. -/
def reservedDef (_h : Hdr) : LineDef :=
  LineDef.mk { reserved := fun _ => true, spec := { obj := "", level := 0 } } .all [] noBad noBad (fun c _ => (c, .ok []))

end Sys2Proof.Machine
end

