-- ==== Sys2Proof/Machine/Login.lean ====
section
/-!
DEFINITION. Session control: MODE, LOGIN, LOGOUT, BEGIN, ABORT, COMMIT (R38, R43–R46, R53, R54, R74–R86, R661, R663–R667), empty, long and repeated lines
(R33, R34, R58) and the editing keys (R48–R50).
-/
namespace Sys2Proof.Machine

/-! ### MODE (R53, R54) -/

/-- MODE's form: a mode keyword or at least one argument. -/
def vMode (word : Option Bool) : Verb :=
  { early := true, rom := true, spec := { obj := "", level := 0, isSet := word.isNone, args :=
    [⟨"PROTO", .int (-9223372036854775808) 18446744073709551615, false⟩, ⟨"ECHO", onOff, false⟩, ⟨"WAIT", secs 1 600, false⟩] } }
/-- MODE; `word` is SCRIPT when true, INTERACTIVE when false. It is answered in the mode the session was in. -/
def modeDef (h : Hdr) (word : Option Bool) (args : Args) : LineDef :=
  LineDef.mk (vMode word) .all args
    (fun _ _ => match args.signed? "PROTO" with | some p => must (p == 2) "0603" [] | none => none)
    (fun c _ => must (!args.has "ECHO" || (match word with | some s => !s | none => !(c.sess h.sess).script)) "0702" [⟨"FIELDS", .syms ["MODE", "ECHO"]⟩])
    (fun c _ => ((c.reply h.sess h.num [.ok]).modSess h.sess (fun x => { x with
      echo := (args.on? "ECHO").getD x.echo
      wait := (args.int? "WAIT").getD x.wait
      script := word.getD x.script
      lastNum := if word.isSome then none else x.lastNum
      store := if word.isSome then [] else (match x.store with | e :: t => if x.script then { e with resp := [.ok] } :: t else e :: t | [] => []) }), .silent))

/-! ### LOGIN (R43–R46, R663–R667) -/

/-- The highest level a carrier grants (R45). -/
def carrierMax (s : Nat) : Nat := if s < 2 then 3 else 2
def Chip.locked (c : Chip) (s : Nat) : Bool := decide (c.clk.cycle < c.trev.locks.get 0 (carrierOf s))
/-- Event 0x0FC of a login attempt (R666). -/
def Chip.loginRecord (c : Chip) (s : Nat) (user : Option (List Char)) (level : Nat) (cause : Option String) : Chip :=
  c.record 252 s [fNat "SESSION" s, ⟨"USER", match user with | some u => .str (String.ofList u) | none => .none⟩, fSym "LEVEL" (levelName level),
    fSym "RESULT" (if cause.isNone then "GRANTED" else "FAILED"), fCause cause]
/-- An attempt that is refused, with its record. -/
def Chip.loginFail (c : Chip) (s : Nat) (user : Option (List Char)) (level : Nat) (code cause : String) : Chip × Answer :=
  (c.loginRecord s user level (some cause), .err code [])
/-- The refusals of step 2 of R87 stand before a range failure of the same line. -/
def Chip.loginNeed (c : Chip) (s level : Nat) (spec : VerbSpec) (args : Args) : Bad :=
  if (spec.rangeBad args).isNone then none
  else firstBad [must (!c.locked s) "0203" [], must (!args.has "LEVEL" || decide (level ≤ carrierMax s)) "0204" []]
def levelArg (args : Args) : Nat := levelOf ((args.kw? "LEVEL").getD "VIEW")

def sUser : VerbSpec := { obj := "", level := 0, args := [⟨"USER", .str 1 32, true⟩, ⟨"LEVEL", .kw levelNames, true⟩] }
def nonceText (l : List Byte) : String :=
  String.ofList (List.intercalate ['-'] ((List.range 4).map (fun i => digitsText 16 8 (beValue 256 (((l.drop (4 * i)).take 4).map BitVec.toNat)))))
/-- LOGIN USER: a challenge whose nonce is a free value (R663, R667). -/
def loginUserDef (h : Hdr) (args : Args) : LineDef :=
  let s := h.sess
  let level := levelArg args
  let user := (args.str? "USER").getD []
  LineDef.mk { login := true, early := true, need := fun c => c.loginNeed s level sUser args, spec := sUser } .all args noBad noBad (fun c _ =>
    if c.locked s then c.loginFail s (some user) level "0203" "LOCKED"
    else if carrierMax s < level then c.loginFail s (some user) level "0204" "CARRIER"
    else
      let k := carrierOf s
      let id := c.trev.challenges.get 0 k % 65536
      let (a, c1) := c.takeFree
      let (b, c2) := c1.takeFree
      let nonce := numOctets 8 a.toNat ++ numOctets 8 b.toNat
      let c3 := c2.trev' (fun t => { t with challenges := t.challenges.put 0 k ((id + 1) % 65536) })
      (c3.modSess s (fun x => { x with challenge := some { num := id, user := user, level := level, nonce := nonce, at? := c.clk.cycle, answered := false } }),
       .ok [[fWord "CHALLENGE", fNat "ID" id, ⟨"NONCE", .str (nonceText nonce)⟩, fDur "EXPIRES" 30000000000]]))

/-- The message M of Table 16-9. -/
def Chip.loginMessage (c : Chip) (s : Nat) (k : Challenge) : List Byte :=
  textOctets "HXCLOGIN".toList ++ textOctets c.unit.serial ++ numOctets 1 s ++ numOctets 1 k.level ++ numOctets 2 k.num ++ numOctets 1 k.user.length ++
    textOctets k.user ++ k.nonce
/-- What is wrong with an answer, none when its credential is right (R646, R661, R664, R666). -/
def Chip.credentialBad (c : Chip) (s : Nat) (k : Challenge) (ans : List Byte) : Option String :=
  match c.cfg.users.find? (fun a => a.user == k.user) with
  | none => some "NOUSER"
  | some a =>
    let x := c.slot a.slot
    if x.st = .free then some "FREE"
    else if x.st ≠ .valid ∨ x.bad ∨ c.keys.storeBad then some "REVOKED"
    else if !x.login ∨ x.alg = .aes256 then some "USE"
    else if !(timeLe x.from? c.now && !timeLe x.until? c.now) then some "WINDOW"
    else
      let m := c.loginMessage s k
      let ok := match x.alg with
        | .hmac256 => ans.length == 16 && (Config.mac x.key [] m).take 16 == ans
        | .ecp256 => ans.length == 64 && Config.verifies 1 x.key m ans
        | .ecp384 => ans.length == 96 && Config.verifies 2 x.key m ans
        | .aes256 => false
      if ok then none else some "WRONG"
/-- The engine that an HMAC256 slot needs has no power (R661). -/
def Chip.needsEngine (c : Chip) (k : Challenge) : Bool :=
  match c.cfg.users.find? (fun a => a.user == k.user) with
  | some a => (c.slot a.slot).alg == .hmac256 && (c.slot a.slot).st == .valid && (c.slot a.slot).login && !c.domOn 18
  | none => false
/-- A failed login counts; the fifth within 300 s locks the carrier for 300 s (R46). -/
def Chip.countFail (c : Chip) (s : Nat) : Chip :=
  let k := carrierOf s
  let now := c.clk.cycle
  let l := ((c.trev.fails.get [] k).filter (fun t => decide (now < 300000000000 + t))) ++ [now]
  if l.length < 5 then c.trev' (fun t => { t with fails := t.fails.put [] k l })
  else (c.trev' (fun t => { t with fails := t.fails.del k, locks := t.locks.put 0 k (300000000000 + now) })).record (Config.openEvent 1) k
    [fSym "CARRIER" (carrierName s), fDur "LOCKED" 300000000000]

def sAnswer : VerbSpec := { obj := "", level := 0, args := [⟨"ANSWER", .groups, true⟩] }
/-- LOGIN ANSWER. -/
def loginAnswerDef (h : Hdr) (args : Args) : LineDef :=
  let s := h.sess
  let ans := (((args.str? "ANSWER").bind parseGroups).getD []).flatMap (numOctets 4)
  LineDef.mk { login := true, early := true, need := fun c => c.loginNeed s 0 sAnswer args, spec := sAnswer } .all args noBad noBad (fun c _ =>
    let k? := (c.sess s).challenge
    let user := k?.map Challenge.user
    let level := (k?.map Challenge.level).getD 0
    if c.locked s then c.loginFail s user level "0203" "LOCKED"
    else match k? with
      | none => c.loginFail s none 0 "0806" "EXPIRED"
      | some k =>
        if k.answered ∨ k.at? + 30000000000 < c.clk.cycle then c.loginFail s user level "0806" "EXPIRED"
        else
          let c1 := c.modSess s (fun x => { x with challenge := some { k with answered := true } })
          if c.needsEngine k then c1.loginFail s user level "0901" "ENGINE"
          else match c.credentialBad s k ans with
            | some cause => (c1.countFail s).loginFail s user level "0801" cause
            | none =>
              let top := ((c.cfg.users.find? (fun a => a.user == k.user)).map Account.level).getD 0
              if top < level then c1.loginFail s user level "0201" "LEVEL"
              else
                (((c1.modSess s (fun x => { x with level := some level, user := some k.user, present := false })).loginRecord s user level none),
                 .ok [[fWord "LOGIN", fText "USER" k.user, fSym "LEVEL" (levelName level)]]))

def sPresence : VerbSpec := { obj := "", level := 0, args := [⟨"LEVEL", .kw levelNames, true⟩] }
/-- LOGIN PRESENCE (R665). -/
def loginPresenceDef (h : Hdr) (args : Args) : LineDef :=
  let s := h.sess
  let level := levelArg args
  let need (c : Chip) : Bad :=
    if (sPresence.rangeBad args).isNone then none else firstBad [must (!c.locked s) "0203" [], must (decide (s < 2)) "0204" []]
  LineDef.mk { login := true, early := true, need := need, spec := sPresence } .all args noBad noBad (fun c _ =>
    if c.locked s then c.loginFail s none level "0203" "LOCKED"
    else if 2 ≤ s then c.loginFail s none level "0204" "CARRIER"
    else if !c.present then c.loginFail s none level "0805" "PRESENCE"
    else
      ((c.modSess s (fun x => { x with level := some level, user := none, present := true })).loginRecord s none level none,
       .ok [[fWord "LOGIN", ⟨"USER", .none⟩, fSym "LEVEL" (levelName level)]]))

/-- LOGOUT: the session is answered and ends; on sessions 0 and 1 a new one begins at VIEW (R45). -/
def logoutDef (h : Hdr) : LineDef :=
  let s := h.sess
  LineDef.mk { early := true, spec := { obj := "", level := 0 } } .all [] noBad noBad (fun c _ =>
    let said := (c.reply s h.num [.ok]).sess s
    let c1 := c.endSession s "LOGOUT"
    let c2 := if s = 1 ∧ ¬ (c1.sess 1).active then c1.beginSession 1 else c1
    (c2.modSess s (fun x => { x with answer := said.answer, answerNum := said.answerNum, sent := said.sent }), .silent))

/-! ### Transactions (R74–R86) -/

/-- BEGIN opens a transaction (R74, R84). -/
def beginDef (h : Hdr) : LineDef :=
  LineDef.mk { spec := { obj := "", level := 0 } } .all [] (fun c _ => must (!(c.sess h.sess).txn) "0403" []) noBad
    (fun c _ => (c.modSess h.sess (fun x => { x with txn := true, staged := [], loaded := 0 }), .ok []))

/-- ABORT discards the staged set and closes the transaction (R80). -/
def abortDef (h : Hdr) : LineDef :=
  LineDef.mk { spec := { obj := "", level := 0 } } .all [] (fun c _ => firstBad [must (c.sess h.sess).txn "0402" [], must (!c.applying h.sess) "0401" []]) noBad
    (fun c _ => (c.modSess h.sess (fun x => { x with txn := false, staged := [], loaded := 0 }), .ok []))

/-- The highest level that a staged line required (R74). -/
def Sess.needs (x : Sess) : Nat := x.staged.foldl (fun n e => max n e.level) 0
/-- COMMIT (R74, R76, R83, R195). -/
def commitCommandDef (h : Hdr) (args : Args) : LineDef :=
  let s := h.sess
  let v : Verb := { flash := true, spec := { obj := "", level := 0, args := [⟨"IF", .int 0 4294967295, false⟩] }
                    need := fun c => firstBad [must (decide ((c.sess s).needs ≤ (c.sess s).level.getD 0)) "0201" [fSym "LEVEL" (levelName (c.sess s).needs)],
                      must (!(c.presentOnly s && decide (2 ≤ (c.sess s).needs))) "0205" []] }
  LineDef.mk v .all args (fun c _ => firstBad [must (c.sess s).txn "0402" [], must (c.unit.restart.isNone && !c.applying s) "0401" []]) noBad
    (fun c _ => c.commitLine s (args.int? "IF"))

/-! ### Lines that are not executed -/

/-- EMPTY_LINE: no response, the prompt in interactive mode (R33); a pending rejection is answered 0101 (R49). -/
def Chip.emptyLine (c : Chip) (s : Nat) : Chip :=
  if !(c.sess s).active then c
  else
    let c1 := c.lineArrives s
    if (c1.sess s).rejected ∧ ¬ (c1.sess s).script then
      (c1.modSess s (fun x => { x with line := [], rejected := false, tooLong := false, histAt := 0 })).reply s none [.err "0101" []]
    else c1.modSess s (fun x => { x with line := [], rejected := false, tooLong := false, histAt := 0, sent := if x.script then [] else prompt })

/-- LONG_LINE: a line over 1,024 characters, answered at its terminator (R28, R34); `num` is its number where it can be read. -/
def Chip.longLine (c : Chip) (s : Nat) (num : Option Nat) : Chip :=
  if !(c.sess s).active then c
  else ((c.lineArrives s).modSess s (fun x => { x with line := [], rejected := false, tooLong := false, histAt := 0 })).reply s num [.err "0102" []]

/-- SCRIPT_LINE_REPLAY: a stored number with the same check code; nothing is executed (R58, R62). -/
def Chip.scriptReplay (c : Chip) (h : Hdr) : Chip :=
  let x := c.sess h.sess
  if x.active ∧ x.script ∧ h.crc = crc16 h.text ∧ x.store.any (fun e => some e.num == h.num && e.crc == h.crc) then
    let c1 := c.lineArrives h.sess
    (c1.framing h).getD c1
  else c

/-! ### Editing keys (R48–R50, Table 2-3) -/

/-- Characters shown when ECHO is on. -/
def Sess.echoes (x : Sess) (cs : List Char) : List Char := if x.echo then cs else []
/-- A key of an interactive session. -/
def Chip.keyed (c : Chip) (s : Nat) (g : Sess → Sess) : Chip := if (c.sess s).active ∧ ¬ (c.sess s).script then c.modSess s g else c

/-- ACCEPTED_CHARACTER: while a line waits for its answer, 8 KiB are held and the rest is discarded (R41, R48); past 1,024 characters the line is
discarded up to its terminator (R34). -/
def Sess.accept (x : Sess) (ch : Char) : Sess :=
  if x.waiting ≠ Waiting.nothing ∧ 8192 ≤ x.inputHeld then { x with overrun := x.overrun + 1 }
  else
    let y := { x with inputHeld := if x.waiting = Waiting.nothing then 0 else x.inputHeld + 1, sent := if x.waiting = Waiting.nothing then x.echoes [ch] else [] }
    if x.tooLong ∨ 1024 ≤ x.line.length then { y with tooLong := true, line := [], sent := [] } else { y with line := x.line ++ [ch] }
/-- A printable character, 0x20 to 0x7E, typed in interactive mode. -/
def Chip.acceptChar (c : Chip) (s : Nat) (ch : Char) : Chip := if 32 ≤ ch.toNat ∧ ch.toNat ≤ 126 then c.keyed s (fun x => x.accept ch) else c

/-- The line loses its last characters. -/
def Sess.eraseTo (x : Sess) (n : Nat) : Sess := { x with line := x.line.take n, sent := x.echoes (erasure (x.line.length - n)) }
def Chip.eraseChar (c : Chip) (s : Nat) : Chip := c.keyed s (fun x => x.eraseTo (x.line.length - 1))
def Chip.eraseLine (c : Chip) (s : Nat) : Chip := c.keyed s (fun x => { x.eraseTo 0 with rejected := false })
/-- What Ctrl-W leaves: the spaces at the end, the last word and the spaces before it go. -/
def eraseWordOf (l : List Char) : List Char := (((l.reverse.dropWhile (· == ' ')).dropWhile (· != ' ')).dropWhile (· == ' ')).reverse
def Chip.eraseWord (c : Chip) (s : Nat) : Chip := c.keyed s (fun x => x.eraseTo (eraseWordOf x.line).length)
/-- Ctrl-C. -/
def Chip.ctrlC (c : Chip) (s : Nat) : Chip :=
  c.keyed s (fun x => { x with line := [], rejected := false, tooLong := false, histAt := 0, sent := x.echoes (['^', 'C'] ++ crlf) ++ prompt })
/-- A history line replaces the line. -/
def Sess.recall (x : Sess) (i : Nat) : Sess :=
  match x.history[i - 1]? with
  | some t => if i = 0 then x else { x with line := t, rejected := false, tooLong := false, histAt := i, sent := x.echoes (erasure x.line.length ++ t) }
  | none => x
def Chip.historyBack (c : Chip) (s : Nat) : Chip := c.keyed s (fun x => x.recall (x.histAt + 1))
def Chip.historyForth (c : Chip) (s : Nat) : Chip := c.keyed s (fun x => x.recall (x.histAt - 1))
/-- A control character that Table 2-3 rejects. -/
def Chip.rejectChar (c : Chip) (s : Nat) : Chip := c.keyed s (fun x => { x with rejected := true, sent := [] })

/-! ### Asynchronous lines (R65, R66) -/

/-- The oldest asynchronous line of a session leaves its queue between responses. -/
def Chip.sendAsync (c : Chip) (s : Nat) : Chip :=
  match (c.sess s).waiting, (c.sess s).queue with
  | .nothing, l :: t => c.modSess s (fun x => { x with queue := t, sent := x.showsAsync l })
  | _, _ => c

/-- A tick of an idle block: one cycle passes, and each session sends one asynchronous line. -/
def Chip.idleTick (c : Chip) : Chip := (List.range 16).foldl Chip.sendAsync (c.advance 1)

end Sys2Proof.Machine
end

