-- ==== Sys2Proof/Machine/Lexer.lean ====
section
/-!
DEFINITION. The text of a line: words and quoted strings, keywords and their abbreviations, selectors and values, and the code of the first lexical rule
that a text breaks (R27–R32, R34, R51, R55, R89, R90, R93, R94, R127 and Table 2-6 of spec/).
-/
namespace Sys2Proof.Machine

/-! ### Words (R29) -/

/-- A piece of a word: a character, or a quoted string with its escapes resolved. -/
inductive Piece
  | ch (c : Char)
  | str (s : List Char)
deriving DecidableEq, Repr

abbrev LexWord := List Piece

/-- The splitter's state: words, the word and the quoted string being read (all in reverse), a backslash read, a malformed string. -/
structure Splitter where
  done : List LexWord
  cur : LexWord
  str : Option (List Char)
  esc : Bool
  bad : Bool

def Splitter.step (x : Splitter) (c : Char) : Splitter :=
  match x.str with
  | some s =>
    if x.esc then { x with esc := false, str := some (c :: s), bad := x.bad || !(c == '"' || c == '\\') }
    else if c = '\\' then { x with esc := true }
    else if c = '"' then { x with str := none, cur := .str s.reverse :: x.cur }
    else { x with str := some (c :: s) }
  | none =>
    if c = '"' then { x with str := some [] }
    else if c = ' ' then (if x.cur.isEmpty then x else { x with done := x.cur.reverse :: x.done, cur := [] })
    else { x with cur := .ch c.toUpper :: x.cur }

/-- The words of a text, letters outside strings in capitals; none when a string is malformed or does not end. -/
def lexWords (t : List Char) : Option (List LexWord) :=
  let x := t.foldl Splitter.step { done := [], cur := [], str := none, esc := false, bad := false }
  if x.bad || x.str.isSome then none else some ((if x.cur.isEmpty then x.done else x.cur.reverse :: x.done).reverse)

/-- The characters of a word without a string. -/
def LexWord.plain (w : LexWord) : Option (List Char) := allSome (w.map (fun p => match p with | .ch c => some c | .str _ => none))

/-! ### Keywords (R51) -/

/-- The keyword that a word names among those valid in its position, or the code of its failure. -/
def matchKw (script : Bool) (l : List String) (w : List Char) : Except String String :=
  let s := String.ofList w
  if l.contains s then .ok s
  else match l.filter (fun k => w.isPrefixOf k.toList) with
    | [] => .error "0108"
    | [k] => if script || decide (w.length < 3) then .error "0109" else .ok k
    | _ => if script || decide (w.length < 3) then .error "0109" else .error "0103"

/-! ### Values (Table 2-1) -/

def lexNat (w : List Char) : Option Nat := if w.all Char.isDigit then digitsVal 10 w else none
def lexInt : List Char → Option Int
  | '-' :: t => (lexNat t).map (fun n => -(n : Int))
  | w => (lexNat w).map Int.ofNat
/-- 0x, then 1 to 16 digits, underscores between digits. -/
def lexHex : List Char → Option Nat
  | '0' :: 'X' :: t =>
    let ps := splitChar '_' t
    let ds := ps.flatten
    if ps.all (fun p => !p.isEmpty) ∧ ds.length ≤ 16 then digitsVal 16 ds else none
  | _ => none
def lexDur (w : List Char) : Option Int :=
  match w.reverse with
  | 'S' :: 'N' :: t => lexInt t.reverse
  | 'S' :: 'U' :: t => (lexInt t.reverse).map (· * 1000)
  | 'S' :: 'M' :: t => (lexInt t.reverse).map (· * 1000000)
  | 'S' :: t => (lexInt t.reverse).map (· * 1000000000)
  | _ => none
def lexTime (w : List Char) : Option (Nat × Nat) :=
  match splitChar '.' w with
  | [a, b] => match lexNat a, (if b.length = 9 then lexNat b else none) with
    | some s, some n => some (s, n)
    | _, _ => none
  | _ => none
/-- The two ends of an item of a list: an integer, or a range a..b. -/
def lexItem (w : List Char) : Option (Int × Int) :=
  match splitChar '.' w with
  | [a] => (lexInt a).map (fun i => (i, i))
  | [a, [], b] => match lexInt a, lexInt b with
    | some x, some y => some (x, y)
    | _, _ => none
  | _ => none
def lexList (w : List Char) : Option (List (Int × Int)) := allSome ((splitChar ',' w).map lexItem)

/-- The code of a keyword value. -/
def kwCode (script : Bool) (l : List String) (w : List Char) : Option String :=
  match matchKw script l w with | .ok _ => none | .error e => some e

/-- The code of a value that is not of its argument's type (R30), none when it is. -/
def valueCode (script : Bool) (t : ATy) (v : LexWord) : Option String :=
  let check (o : Option AVal) : Option String := match o with | some a => t.form a | none => some "010C"
  match LexWord.plain v with
  | none => (match v, t with
    | [.str s], .str _ _ => t.form (.str s)
    | [.str s], .mac => t.form (.str s)
    | [.str s], .pfx => t.form (.str s)
    | [.str s], .groups => t.form (.str s)
    | [.str s], .ip _ => t.form (.str s)
    | _, _ => some "010C")
  | some w => match t with
    | .int _ _ => check ((lexInt w).map AVal.int)
    | .intOr _ _ l => (match lexInt w with
      | some i => t.form (.int i)
      | none => if (w.headD ' ').isAlpha then kwCode script l w else some "010C")
    | .hex _ _ _ => check ((lexHex w).map AVal.hex)
    | .kw l => kwCode script l w
    | .dur _ _ => check ((lexDur w).map AVal.dur)
    | .time => check ((lexTime w).map (fun p => AVal.time p.1 p.2))
    | .list _ _ none' => if none' && (w.headD ' ').isAlpha then kwCode script ["NONE"] w else check ((lexList w).map AVal.list)
    | .kws l => (splitChar ',' w).findSome? (kwCode script l)
    | .bind _ plain => (match kwCode script plain w with
      | none => none
      | some _ => t.form (.kw (String.ofList w)))
    | .str _ _ | .mac | .pfx | .groups | .ip _ => some "010C"

/-! ### The forms of lines -/

/-- A line: its verb, what stands behind it, and the keywords that stand in it without a value. -/
structure Form where
  verb : String
  spec : VerbSpec
  words : List String := []
  wordNeeded : Bool := false

def showForms : List Form :=
  [vShowUnit, vShowImage, vShowLife, vShowFi, vShowTile, vShowRepair, vShowDomain, vShowLane, vShowPort, vShowSub, vShowPub, vShowTime, vShowKey, vShowHitch,
   vShowPanel, vShowTrip, vShowInput, vShowEvent, vShowFault, vShowLog].map (fun v => { verb := "SHOW", spec := v.spec })
def stageForms : List Form :=
  [vSetUnit, vSetFi, vSetRepair, vSetDomain, vSetLane, vSetPort, vSetTable, vSetTime, vSetHitch, vSetPanel, vSetTrip, vSetInput, vSetFault].map
    (fun v => { verb := "SET", spec := v.spec }) ++
  [vAddUnit, vAddFi, vAddTable, vAddSub, vAddPub, vAddHitch].map (fun v => { verb := "ADD", spec := v.spec }) ++
  [vDeleteUnit, vDeleteFi, vDeleteTable, vDeleteSub, vDeletePub, vDeleteHitch].map (fun v => { verb := "DELETE", spec := v.spec }) ++
  [vLoadImage, vLoadFi, vLoadTable, vLoadSub, vLoadPub, vLoadKey].map (fun v => { verb := "LOAD", spec := v.spec })
def actForms : List Form :=
  [⟨"DUMP", vDumpTable.spec, [], false⟩, ⟨"ARM", vArm.spec, [], false⟩, ⟨"STOP", vStop.spec, [], false⟩, ⟨"SELECT", vSelect.spec, [], false⟩,
   ⟨"EXECUTE", vExecute.spec, [], false⟩, ⟨"CANCEL", vCancel.spec, [], false⟩, ⟨"TEST", vTestTile.spec, [], false⟩, ⟨"TEST", vTestTrip.spec, [], false⟩,
   ⟨"CLEAR", vClearFi.spec, ["POISON", "COUNTS"], true⟩, ⟨"CLEAR", vClearPort.spec, ["COUNTERS"], true⟩, ⟨"CLEAR", vClearFault.spec, [], false⟩,
   ⟨"ADJUST", vAdjust.spec, [], false⟩, ⟨"TAKE", (vHitch [⟨"WAIT", secs 0 600, false⟩]).spec, [], false⟩, ⟨"RELEASE", (vHitch []).spec, [], false⟩,
   ⟨"NOTIFY", vNotifyEvent.spec, [], false⟩, ⟨"NOTIFY", vNotifyFault.spec, [], false⟩, ⟨"REVOKE", vRevoke.spec, [], false⟩, ⟨"READ", vReadReg.spec, [], false⟩,
   ⟨"WRITE", (vWriteReg false).spec, [], false⟩, ⟨"WRITE", vWritePanel.spec, [], false⟩, ⟨"MOVE", vMoveLife.spec, [], false⟩,
   ⟨"SWITCH", vSwitchImage.spec, [], false⟩, ⟨"ACCEPT", vAccept.spec, ["UNTESTED"], true⟩, ⟨"START", vStartRepair.spec, [], false⟩,
   ⟨"RESTART", (vRestart false).spec, [], false⟩]
def sessionForms : List Form :=
  [⟨"MODE", (vMode (some true)).spec, ["SCRIPT", "INTERACTIVE"], false⟩,
   ⟨"LOGIN", { obj := "", level := 0, args := sUser.args ++ sAnswer.args }, ["PRESENCE"], false⟩, ⟨"LOGOUT", { obj := "", level := 0 }, [], false⟩,
   ⟨"BEGIN", { obj := "", level := 0 }, [], false⟩, ⟨"COMMIT", { obj := "", level := 0, args := [⟨"IF", .int 0 4294967295, false⟩] }, [], false⟩,
   ⟨"ABORT", { obj := "", level := 0 }, [], false⟩, ⟨"END", { obj := "", level := 0 }, ["CANCEL"], false⟩]
def lineForms : List Form := showForms ++ stageForms ++ actForms ++ sessionForms
def reservedVerbs : List String := ["PATCH", "TRACE", "DEBUG", "FORCE"]
def reservedObjs : List String := ["MEMORY", "BUS", "SCRIPT"]
def formVerbs : List String := (lineForms.map Form.verb).eraseDups ++ reservedVerbs

/-! ### A line's words against its form -/

/-- A word cut at its first `=`. -/
def cutEq : LexWord → LexWord × Option LexWord
  | [] => ([], none)
  | .ch '=' :: t => ([], some t)
  | p :: t => let r := cutEq t; (p :: r.1, r.2)

/-- The words after object and selector: arguments, each name once, and keywords without a value. -/
def argsCode (script : Bool) (f : Form) : List LexWord → List String → Option String
  | [], seen =>
    if f.wordNeeded ∧ ¬ seen.any f.words.contains then some "010A"
    else if f.spec.isSet ∧ seen.all f.spec.names.contains then some "010A" else none
  | w :: t, seen =>
    let names := f.spec.args.map ArgSpec.name
    match LexWord.plain (cutEq w).1, (cutEq w).2 with
    | some n, some v =>
      if n.isEmpty || (n.headD ' ').isDigit then some "010A"
      else match matchKw script names n with
        | .error e => some e
        | .ok k =>
          if seen.contains k then some "010B"
          else match f.spec.args.find? (fun a => a.name == k) with
            | none => some "0108"
            | some a => match valueCode script a.ty v with
              | some e => some e
              | none => argsCode script f t (k :: seen)
    | some n, none =>
      if !(n.headD ' ').isAlpha then some "010A"
      else match matchKw script (f.words ++ names) n with
        | .error e => some e
        | .ok k => if !f.words.contains k then some "010A" else if seen.contains k then some "010B" else argsCode script f t (k :: seen)
    | none, _ => some "010A"

/-- A selector's code (R31): ALL, or integers and ranges. -/
def selectorCode (script : Bool) (w : LexWord) : Option String :=
  match LexWord.plain w with
  | none => some "010C"
  | some t =>
    if (t.headD ' ').isAlpha then (if (cutEq w).2.isSome then some "010A" else kwCode script ["ALL"] t)
    else match lexList t with
      | some l => if l.all (fun p => intForm p.1 && intForm p.2 && decide (p.1 ≤ p.2)) then none else some "010C"
      | none => some "010C"

/-- The words after a verb. -/
def verbCode (script : Bool) (verb : String) (l : List LexWord) : Option String :=
  let fs := lineForms.filter (fun f => f.verb == verb)
  if reservedVerbs.contains verb then none
  else match fs.find? (fun f => f.spec.obj == "") with
    | some f => argsCode script f l []
    | none => match l with
      | [] => some "010A"
      | o :: t => match LexWord.plain o with
        | none => some "010A"
        | some n =>
          if !(n.headD ' ').isAlpha then some "010A"
          else match matchKw script (fs.map (fun f => f.spec.obj) ++ reservedObjs) n with
            | .error e => some e
            | .ok k => match fs.find? (fun f => f.spec.obj == k) with
              | none => none
              | some f => match f.spec.sel, t with
                | none, t => argsCode script f t []
                | some _, [] => some "010A"
                | some _, s :: t => match selectorCode script s with
                  | some e => some e
                  | none => argsCode script f t []

/-- The code of the first lexical rule that a text breaks, none when it breaks none. -/
def lexCode (script : Bool) (t : List Char) : Option String :=
  if t.any (fun c => c.toNat < 32 || 126 < c.toNat) then some "0101"
  else match lexWords t with
    | none => some "010A"
    | some [] => none
    | some (w :: l) => match LexWord.plain w with
      | none => some "010A"
      | some n => if !(n.headD ' ').isAlpha then some "010A"
        else match matchKw script formVerbs n with
          | .error e => some e
          | .ok v => verbCode script v l

/-- MALFORMED_LINE: one error line, and nothing executed (R34); a text that breaks no rule is none of this command's. -/
def Chip.malformedLine (c : Chip) (h : Hdr) : Chip :=
  let x := c.sess h.sess
  if !x.active then c
  else
    let c1 := c.lineArrives h.sess
    match c1.framing h with
    | some c2 => c2
    | none => match lexCode x.script h.text with
      | none => c
      | some code => (c1.executed h).respond h.sess (.err (if x.bulk.isSome then "010F" else code) [])

end Sys2Proof.Machine
end

