-- ==== Sys2Proof/Machine/LineCommands.lean ====
section
/-!
DEFINITION. The commands of Trevline: lines, characters, sessions, logins, commits and loads (02 and 03 of spec/).
-/
namespace Sys2Proof.Machine

/-- MODE (R54). -/
def execModeLine (h : Hdr) (word : Option Bool) (args : Args) (s : State) : Result := s.onChip (fun c => c.runDef h (modeDef h word args))
/-- LOGIN_USER (R663). -/
def execLoginUser (h : Hdr) (args : Args) (s : State) : Result := s.onChip (fun c => c.runDef h (loginUserDef h args))
/-- LOGIN_ANSWER (R664). -/
def execLoginAnswer (h : Hdr) (args : Args) (s : State) : Result := s.onChip (fun c => c.runDef h (loginAnswerDef h args))
/-- LOGIN_PRESENCE (R665). -/
def execLoginPresence (h : Hdr) (args : Args) (s : State) : Result := s.onChip (fun c => c.runDef h (loginPresenceDef h args))
/-- LOGOUT (R45). -/
def execLogoutLine (h : Hdr) (s : State) : Result := s.onChip (fun c => c.runDef h (logoutDef h))
/-- BEGIN (R74). -/
def execBeginTxn (h : Hdr) (s : State) : Result := s.onChip (fun c => c.runDef h (beginDef h))
/-- COMMIT (R76). -/
def execCommitLine (h : Hdr) (args : Args) (s : State) : Result := s.onChip (fun c => c.runDef h (commitCommandDef h args))
/-- COMMIT_HITCH_GRANTED (R76). -/
def execCommitHitchGranted (sess : Fin 16) (s : State) : Result := s.onChip (fun c => c.commitGranted sess)
/-- COMMIT_WAIT_TIMEOUT (R86). -/
def execCommitWaitTimeout (sess : Fin 16) (s : State) : Result := s.onChip (fun c => c.commitTimeout sess)
/-- COMMIT_EDGE (R78). -/
def execCommitEdge (ext10 : Bool) (s : State) : Result :=
  s.onCM (fun cm => CM.commitEdge ({ cm.1 with clk := { cm.1.clk with extValid := ext10 } }, cm.2))
/-- CFG_FI_APPLY (R77). -/
def execCfgFiApply (fi : Fin 1024) (s : State) : Result := s.onCM (fun cm => CM.cfgFiApply cm fi)
/-- CFG_FORCED_APPLY (R77). -/
def execCfgForcedApply (fi : Fin 1024) (s : State) : Result := s.onCM (fun cm => CM.cfgForced cm fi)
/-- ABORT (R80). -/
def execAbortLine (h : Hdr) (s : State) : Result := s.onChip (fun c => c.runDef h (abortDef h))
/-- END (R71). -/
def execEndLoad (h : Hdr) (flashOk : Bool) (s : State) : Result := s.onChip (fun c => c.runDef h (endLoadDef h flashOk))
/-- END_CANCEL (R71). -/
def execEndCancel (h : Hdr) (s : State) : Result := s.onChip (fun c => c.runDef h (endCancelDef h))
/-- BULK_RECORD (R69). -/
def execBulkRecord (sess : Fin 16) (text : List Char) (s : State) : Result := s.onChip (fun c => c.bulkRecord sess text)
/-- LOAD_IDLE_CANCEL (R73). -/
def execLoadIdleCancel (sess : Fin 16) (s : State) : Result := s.onChip (fun c => c.loadIdle sess)
/-- EMPTY_LINE (R33). -/
def execEmptyLine (sess : Fin 16) (s : State) : Result := s.onChip (fun c => c.emptyLine sess)
/-- LONG_LINE (R34). -/
def execLongLine (sess : Fin 16) (num : Option (Fin 10000)) (s : State) : Result := s.onChip (fun c => c.longLine sess (num.map (fun n => n.val)))
/-- SCRIPT_LINE_REPLAY (R58). -/
def execScriptLineReplay (h : Hdr) (s : State) : Result := s.onChip (fun c => c.scriptReplay h)
/-- ERASE_CHAR (R49). -/
def execEraseChar (sess : Fin 16) (s : State) : Result := s.onChip (fun c => c.eraseChar sess)
/-- ERASE_LINE (R49). -/
def execEraseLine (sess : Fin 16) (s : State) : Result := s.onChip (fun c => c.eraseLine sess)
/-- ERASE_WORD (R49). -/
def execEraseWord (sess : Fin 16) (s : State) : Result := s.onChip (fun c => c.eraseWord sess)
/-- CTRL_C (R49). -/
def execCtrlC (sess : Fin 16) (s : State) : Result := s.onChip (fun c => c.ctrlC sess)
/-- HISTORY_PREVIOUS (R49). -/
def execHistoryPrevious (sess : Fin 16) (s : State) : Result := s.onChip (fun c => c.historyBack sess)
/-- HISTORY_NEXT (R49). -/
def execHistoryNext (sess : Fin 16) (s : State) : Result := s.onChip (fun c => c.historyForth sess)
/-- REJECTED_CONTROL_CHAR (R49). -/
def execRejectedControlChar (sess : Fin 16) (s : State) : Result := s.onChip (fun c => c.rejectChar sess)
/-- OVERRUN_REPORT (R41). -/
def execOverrunReport (sess : Fin 16) (s : State) : Result := s.onChip (fun c => c.overrunReport sess)
/-- LOST_REPORT (R66). -/
def execLostReport (sess : Fin 16) (s : State) : Result := s.onChip (fun c => c.lostReport sess)
/-- USB_DTR_ASSERT (R35). -/
def execUsbDtrAssert (s : State) : Result := s.onChip (fun c => c.usbAssert)
/-- USB_DETACH (R683). -/
def execUsbDetach (s : State) : Result := s.onChip (fun c => c.endSession 1 "USB")
/-- TLS_HANDSHAKE (R668). -/
def execTlsHandshake (ok : Bool) (cause : String) (s : State) : Result := s.onChip (fun c => c.tlsHandshake ok cause)
/-- TCP_CLOSE (R42). -/
def execTcpClose (conn : Fin 14) (cause : String) (s : State) : Result := s.onChip (fun c => c.endSession (2 + conn) cause)
/-- SESSION_IDLE_WARNING (R40). -/
def execSessionIdleWarning (sess : Fin 16) (s : State) : Result := s.onChip (fun c => c.idleWarning sess)
/-- SESSION_IDLE_TIMEOUT (R40). -/
def execSessionIdleTimeout (sess : Fin 16) (s : State) : Result := s.onChip (fun c => c.idleTimeout sess)
/-- LOGIN_LOCK_EXPIRY (R46). -/
def execLoginLockExpiry (carrier : Fin 3) (s : State) : Result := s.onChip (fun c => c.lockExpiry carrier)
/-- SHOW_UNIT (R102). -/
def execShowUnit (h : Hdr) (args : Args) (s : State) : Result := s.onChip (fun c => c.runDef h (showUnitDef h args))
/-- SET_UNIT (R101). -/
def execSetUnit (h : Hdr) (args : Args) (s : State) : Result := s.onChip (fun c => c.runDef h (setUnitDef h args))
/-- ADD_UNIT (R104). -/
def execAddUnit (h : Hdr) (args : Args) (s : State) : Result := s.onChip (fun c => c.runDef h (addUnitDef h args))
/-- DELETE_UNIT (R104). -/
def execDeleteUnit (h : Hdr) (args : Args) (s : State) : Result := s.onChip (fun c => c.runDef h (deleteUnitDef h args))
/-- RESTART_UNIT (R111). -/
def execRestartUnit (h : Hdr) (args : Args) (s : State) : Result := s.onChip (fun c => c.runDef h (restartUnitDef h args))
/-- SHOW_IMAGE (R161). -/
def execShowImage (h : Hdr) (args : Args) (s : State) : Result := s.onChip (fun c => c.runDef h (showImageDef h args))
/-- LOAD_IMAGE (R106). -/
def execLoadImage (h : Hdr) (args : Args) (s : State) : Result := s.onChip (fun c => c.runDef h (loadImageDef h args))
/-- SWITCH_IMAGE (R159). -/
def execSwitchImage (h : Hdr) (args : Args) (s : State) : Result := s.onChip (fun c => c.runDef h (switchImageDef h args))
/-- ACCEPT_IMAGE_UNTESTED (R187). -/
def execAcceptImageUntested (h : Hdr) (s : State) : Result := s.onChip (fun c => c.runDef h (acceptImageDef h))
/-- SHOW_LIFE (R628). -/
def execShowLife (h : Hdr) (args : Args) (s : State) : Result := s.onChip (fun c => c.runDef h (showLifeDef h args))
/-- MOVE_LIFE (R632). -/
def execMoveLife (h : Hdr) (args : Args) (otpOk : Bool) (s : State) : Result := s.onChip (fun c => c.runDef h (moveLifeDef h args otpOk))
/-- READ_REG (R786). -/
def execReadReg (h : Hdr) (args : Args) (wins : List (Option Nat)) (s : State) : Result := s.onChip (fun c => c.runDef h (readRegDef h args wins))
/-- WRITE_REG (R108). -/
def execWriteReg (h : Hdr) (args : Args) (ack : Bool) (s : State) : Result := s.onChip (fun c => c.runDef h (writeRegDef h args ack))
/-- FAULT_INJ_SEL_WRITE (R792). -/
def execFaultInjSelWrite (h : Hdr) (v : BitVec 32) (s : State) : Result := s.onChip (fun c => c.runDef h (writeSelDef h v.toNat))
/-- FAULT_INJ_GO_WRITE (R794). -/
def execFaultInjGoWrite (h : Hdr) (v : BitVec 32) (s : State) : Result := s.onChip (fun c => c.runDef h (writeGoDef h v.toNat))
/-- PORT_CAGE_WR_WRITE (R489). -/
def execPortCageWrWrite (h : Hdr) (cage : Fin 4) (v : BitVec 32) (ack : Bool) (s : State) : Result :=
  s.onChip (fun c => c.runDef h (writeCageDef h cage v.toNat ack))
/-- CAGE_WINDOW_READ (R489). -/
def execCageWindowRead (h : Hdr) (cage : Fin 4) (word : Fin 64) (answer : Option (BitVec 32)) (s : State) : Result :=
  s.onChip (fun c => c.runDef h (readWindowDef h cage word (answer.map BitVec.toNat)))
/-- SHOW_FI (R113). -/
def execShowFi (h : Hdr) (sel : Selector) (args : Args) (s : State) : Result := s.onChip (fun c => c.runDef h (showFiDef h sel args))
/-- LOAD_FI (R115). -/
def execLoadFi (h : Hdr) (sel : Selector) (args : Args) (s : State) : Result := s.onChip (fun c => c.runDef h (loadFiDef h sel args))
/-- SET_FI (R112). -/
def execSetFi (h : Hdr) (sel : Selector) (args : Args) (s : State) : Result := s.onChip (fun c => c.runDef h (setFiDef h sel args))
/-- ADD_FI (R219). -/
def execAddFi (h : Hdr) (sel : Selector) (args : Args) (s : State) : Result := s.onChip (fun c => c.runDef h (addFiDef h sel args))
/-- DELETE_FI (R122). -/
def execDeleteFi (h : Hdr) (sel : Selector) (args : Args) (s : State) : Result := s.onChip (fun c => c.runDef h (deleteFiDef h sel args))
/-- ARM_FI (R116). -/
def execArmFi (h : Hdr) (sel : Selector) (s : State) : Result := s.onChip (fun c => c.runDef h (armDef h sel))
/-- STOP_FI (R227). -/
def execStopFi (h : Hdr) (sel : Selector) (s : State) : Result := s.onChip (fun c => c.runDef h (stopDef h sel))
/-- CLEAR_FI_POISON (R126). -/
def execClearFiPoison (h : Hdr) (sel : Selector) (s : State) : Result := s.onCM (fun cm => (cm.1.runDef h (clearPoisonDef cm.2 h sel), cm.2))
/-- CLEAR_FI_COUNTS (R327). -/
def execClearFiCounts (h : Hdr) (sel : Selector) (s : State) : Result := s.onChip (fun c => c.runDef h (clearCountsDef h sel))
/-- SELECT_FI (R118). -/
def execSelectFi (h : Hdr) (sel : Selector) (args : Args) (s : State) : Result := s.onChip (fun c => c.runDef h (selectDef h sel args))
/-- EXECUTE_FI (R699). -/
def execExecuteFi (h : Hdr) (sel : Selector) (args : Args) (s : State) : Result := s.onChip (fun c => c.runDef h (executeDef h sel args))
/-- CANCEL_FI (R118). -/
def execCancelFi (h : Hdr) (sel : Selector) (args : Args) (s : State) : Result := s.onChip (fun c => c.runDef h (cancelDef h sel args))
/-- SELECT_EXPIRY (R123). -/
def execSelectExpiry (sess : Fin 16) (fi : Fin 1024) (point : Fin 256) (s : State) : Result := s.onChip (fun c => c.selectExpiry sess fi point)
/-- SHOW_TILE (R119). -/
def execShowTile (h : Hdr) (sel : Selector) (args : Args) (s : State) : Result := s.onChip (fun c => c.runDef h (showTileDef h sel args))
/-- TEST_TILE (R119). -/
def execTestTile (h : Hdr) (sel : Selector) (outcome : Option Nat) (s : State) : Result := s.onChip (fun c => c.runDef h (testTileDef h sel outcome))
/-- SHOW_REPAIR (R120). -/
def execShowRepair (h : Hdr) (args : Args) (s : State) : Result := s.onChip (fun c => c.runDef h (showRepairDef h args))
/-- SET_REPAIR (R742). -/
def execSetRepair (h : Hdr) (args : Args) (s : State) : Result := s.onChip (fun c => c.runDef h (setRepairDef h args))
/-- START_REPAIR (R120). -/
def execStartRepair (h : Hdr) (args : Args) (s : State) : Result := s.onChip (fun c => c.runDef h (startRepairDef h args))
/-- SHOW_DOMAIN (R121). -/
def execShowDomain (h : Hdr) (sel : Selector) (args : Args) (s : State) : Result := s.onChip (fun c => c.runDef h (showDomainDef h sel args))
/-- SET_DOMAIN (R124). -/
def execSetDomain (h : Hdr) (sel : Selector) (args : Args) (s : State) : Result := s.onChip (fun c => c.runDef h (setDomainDef h sel args))
/-- SHOW_LANE (R129). -/
def execShowLane (h : Hdr) (sel : Selector) (args : Args) (s : State) : Result := s.onChip (fun c => c.runDef h (showLaneDef h sel args))
/-- SET_LANE (R128). -/
def execSetLane (h : Hdr) (sel : Selector) (args : Args) (s : State) : Result := s.onChip (fun c => c.runDef h (setLaneDef h sel args))
/-- SHOW_PORT (R506). -/
def execShowPort (h : Hdr) (sel : Selector) (args : Args) (s : State) : Result := s.onChip (fun c => c.runDef h (showPortDef h sel args))
/-- SET_PORT (R511). -/
def execSetPort (h : Hdr) (sel : Selector) (args : Args) (s : State) : Result := s.onChip (fun c => c.runDef h (setPortDef h sel args))
/-- CLEAR_PORT (R507). -/
def execClearPort (h : Hdr) (sel : Selector) (s : State) : Result := s.onChip (fun c => c.runDef h (clearPortDef h sel))
/-- ADD_TABLE (R130). -/
def execAddTable (h : Hdr) (args : Args) (s : State) : Result := s.onChip (fun c => c.runDef h (addTableDef h args))
/-- DELETE_TABLE (R130). -/
def execDeleteTable (h : Hdr) (args : Args) (s : State) : Result := s.onChip (fun c => c.runDef h (deleteTableDef h args))
/-- SET_TABLE (R537). -/
def execSetTable (h : Hdr) (args : Args) (s : State) : Result := s.onChip (fun c => c.runDef h (setTableDef h args))
/-- DUMP_TABLE (R563). -/
def execDumpTable (h : Hdr) (args : Args) (s : State) : Result := s.onChip (fun c => c.runDef h (dumpTableDef h args))
/-- LOAD_TABLE (R555). -/
def execLoadTable (h : Hdr) (args : Args) (s : State) : Result := s.onChip (fun c => c.runDef h (loadTableDef h args))
/-- SHOW_SUB (R594). -/
def execShowSub (h : Hdr) (sel : Selector) (args : Args) (s : State) : Result := s.onChip (fun c => c.runDef h (showSubDef h sel args))
/-- SHOW_PUB (R594). -/
def execShowPub (h : Hdr) (sel : Selector) (args : Args) (s : State) : Result := s.onChip (fun c => c.runDef h (showPubDef h sel args))
/-- ADD_SUB (R135). -/
def execAddSub (h : Hdr) (sel : Selector) (args : Args) (s : State) : Result := s.onChip (fun c => c.runDef h (addSubDef h sel args))
/-- ADD_PUB (R587). -/
def execAddPub (h : Hdr) (sel : Selector) (args : Args) (s : State) : Result := s.onChip (fun c => c.runDef h (addPubDef h sel args))
/-- DELETE_SUB (R127). -/
def execDeleteSub (h : Hdr) (sel : Selector) (args : Args) (s : State) : Result := s.onChip (fun c => c.runDef h (deleteSubDef h sel args))
/-- DELETE_PUB (R127). -/
def execDeletePub (h : Hdr) (sel : Selector) (args : Args) (s : State) : Result := s.onChip (fun c => c.runDef h (deletePubDef h sel args))
/-- LOAD_SUB (R565). -/
def execLoadSub (h : Hdr) (args : Args) (s : State) : Result := s.onChip (fun c => c.runDef h (loadSubDef h args))
/-- LOAD_PUB (R583). -/
def execLoadPub (h : Hdr) (args : Args) (s : State) : Result := s.onChip (fun c => c.runDef h (loadPubDef h args))
/-- SHOW_TIME (R139). -/
def execShowTime (h : Hdr) (args : Args) (s : State) : Result := s.onChip (fun c => c.runDef h (showTimeDef h args))
/-- SET_TIME (R137). -/
def execSetTime (h : Hdr) (args : Args) (s : State) : Result := s.onChip (fun c => c.runDef h (setTimeDef h args))
/-- ADJUST_TIME (R603). -/
def execAdjustTime (h : Hdr) (args : Args) (s : State) : Result := s.onChip (fun c => c.runDef h (adjustTimeDef h args))
/-- ADJUST_AT_DUE (R604). -/
def execAdjustAtDue (s : State) : Result := s.onChip (fun c => c.adjustAtDue)
/-- SHOW_KEYSLOT (R140). -/
def execShowKeyslot (h : Hdr) (sel : Selector) (args : Args) (s : State) : Result := s.onChip (fun c => c.runDef h (showKeyDef h sel args))
/-- LOAD_KEYSLOT (R644). -/
def execLoadKeyslot (h : Hdr) (sel : Selector) (args : Args) (s : State) : Result := s.onChip (fun c => c.runDef h (loadKeyDef h sel args))
/-- REVOKE_KEYSLOT (R647). -/
def execRevokeKeyslot (h : Hdr) (sel : Selector) (flashOk : Bool) (s : State) : Result := s.onChip (fun c => c.runDef h (revokeKeyDef h sel flashOk))
/-- SHOW_HITCH (R471). -/
def execShowHitch (h : Hdr) (sel : Selector) (args : Args) (s : State) : Result := s.onChip (fun c => c.runDef h (showHitchDef h sel args))
/-- SET_HITCH (R144). -/
def execSetHitch (h : Hdr) (args : Args) (s : State) : Result := s.onChip (fun c => c.runDef h (setHitchDef h args))
/-- ADD_HITCH (R459). -/
def execAddHitch (h : Hdr) (args : Args) (s : State) : Result := s.onChip (fun c => c.runDef h (addHitchDef h args))
/-- DELETE_HITCH (R467). -/
def execDeleteHitch (h : Hdr) (args : Args) (s : State) : Result := s.onChip (fun c => c.runDef h (deleteHitchDef h args))
/-- TAKE_HITCH (R145). -/
def execTakeHitch (h : Hdr) (sel : Selector) (args : Args) (s : State) : Result := s.onChip (fun c => c.runDef h (takeDef h sel args))
/-- TAKE_HITCH_TIMEOUT (R145). -/
def execTakeHitchTimeout (sess : Fin 16) (s : State) : Result := s.onChip (fun c => c.takeTimeout sess)
/-- RELEASE_HITCH (R458). -/
def execReleaseHitch (h : Hdr) (sel : Selector) (s : State) : Result := s.onChip (fun c => c.runDef h (releaseDef h sel))
/-- SHOW_PANEL (R836). -/
def execShowPanel (h : Hdr) (args : Args) (s : State) : Result := s.onChip (fun c => c.runDef h (showPanelDef h args))
/-- SET_PANEL (R151). -/
def execSetPanel (h : Hdr) (args : Args) (s : State) : Result := s.onChip (fun c => c.runDef h (setPanelDef h args))
/-- WRITE_PANEL (R148). -/
def execWritePanel (h : Hdr) (args : Args) (s : State) : Result := s.onChip (fun c => c.runDef h (writePanelDef h args))
/-- SHOW_TRIP (R146). -/
def execShowTrip (h : Hdr) (sel : Selector) (args : Args) (s : State) : Result := s.onChip (fun c => c.runDef h (showTripDef h sel args))
/-- SET_TRIP (R691). -/
def execSetTrip (h : Hdr) (sel : Selector) (args : Args) (s : State) : Result := s.onChip (fun c => c.runDef h (setTripDef h sel args))
/-- TEST_TRIP (R147). -/
def execTestTrip (h : Hdr) (sel : Selector) (args : Args) (s : State) : Result := s.onChip (fun c => c.runDef h (testTripDef h sel args))
/-- TEST_PULSE_END (R147). -/
def execTestPulseEnd (trip : Fin 16) (s : State) : Result := s.onChip (fun c => c.testPulseEnd trip)
/-- SHOW_INPUT (R836). -/
def execShowInput (h : Hdr) (sel : Selector) (args : Args) (s : State) : Result := s.onChip (fun c => c.runDef h (showInputDef h sel args))
/-- SET_INPUT (R688). -/
def execSetInput (h : Hdr) (sel : Selector) (args : Args) (s : State) : Result := s.onChip (fun c => c.runDef h (setInputDef h sel args))
/-- SHOW_EVENT (R154). -/
def execShowEvent (h : Hdr) (sel : Selector) (args : Args) (s : State) : Result := s.onChip (fun c => c.runDef h (showEventDef h sel args))
/-- NOTIFY_EVENT (R153). -/
def execNotifyEvent (h : Hdr) (sel : Selector) (args : Args) (s : State) : Result := s.onChip (fun c => c.runDef h (notifyEventDef h sel args))
/-- SHOW_FAULT (R154). -/
def execShowFault (h : Hdr) (sel : Selector) (args : Args) (s : State) : Result := s.onChip (fun c => c.runDef h (showFaultDef h sel args))
/-- NOTIFY_FAULT (R153). -/
def execNotifyFault (h : Hdr) (sel : Selector) (args : Args) (s : State) : Result := s.onChip (fun c => c.runDef h (notifyFaultDef h sel args))
/-- SET_FAULT (R709). -/
def execSetFault (h : Hdr) (sel : Selector) (args : Args) (s : State) : Result := s.onChip (fun c => c.runDef h (setFaultDef h sel args))
/-- CLEAR_FAULT (R158). -/
def execClearFault (h : Hdr) (sel : Selector) (s : State) : Result := s.onChip (fun c => c.runDef h (clearFaultDef h sel))
/-- SHOW_LOG (R155). -/
def execShowLog (h : Hdr) (args : Args) (s : State) : Result := s.onChip (fun c => c.runDef h (showLogDef h args))
/-- RESERVED_VERB (R89). -/
def execReservedVerb (h : Hdr) (s : State) : Result := s.onChip (fun c => c.runDef h (reservedDef h))
/-- ACCEPTED_CHARACTER (R48). -/
def execAcceptedCharacter (sess : Fin 16) (ch : Char) (s : State) : Result := s.onChip (fun c => c.acceptChar sess ch)
/-- MALFORMED_LINE (R34). -/
def execMalformedLine (h : Hdr) (s : State) : Result := s.onChip (fun c => c.malformedLine h)

end Sys2Proof.Machine
end

