-- ==== Sys2Proof/Machine/NetCommands.lean ====
section
/-!
DEFINITION. The commands of ports, switch, codec, engine, lanes and the rope link (12–14 and 16 of spec/).
-/
namespace Sys2Proof.Machine

/-- FRAME_RECEIVE (R509). -/
def execFrameReceive (port : Fin 18) (frame : Frame) (s : State) : Result := s.onChip (fun c => c.frameReceive port frame)
/-- FRAME_TRANSMIT (R514). -/
def execFrameTransmit (port : Fin 18) (s : State) : Result := s.onChip (fun c => c.frameTransmit port)
/-- MAC_LEARN (R528). -/
def execMacLearn (s : State) : Result := s.onChip (fun c => c.macLearn)
/-- STASH_RETURN (R526). -/
def execStashReturn (s : State) : Result := s.onChip (fun c => c.sw' Switch.stashReturn)
/-- AGE_SWEEP (R535). -/
def execAgeSweep (s : State) : Result := s.onChip (fun c => c.ageSweep)
/-- PTP_SYNC_EXPIRY (R562). -/
def execPtpSyncExpiry (port : Fin 18) (s : State) : Result := s.onChip (fun c => c.syncExpiry port)
/-- TABLE_ENTRY_RESTORE (R518). -/
def execTableEntryRestore (s : State) : Result := s.onChip (fun c => c.tableRestore)
/-- CODEC_AUTH_DONE (R582). -/
def execCodecAuthDone (s : State) : Result := s.onChip (fun c => c.authDone)
/-- GOOSE_TAL_EXPIRY (R575). -/
def execGooseTalExpiry (sub : Fin 4096) (s : State) : Result := s.onChip (fun c => c.talExpiry sub)
/-- PUBLISH_BUILD (R591). -/
def execPublishBuild (s : State) : Result := s.onChip (fun c => c.publishBuild)
/-- GOOSE_RETRANSMIT (R587). -/
def execGooseRetransmit (pub : Fin 1024) (s : State) : Result := s.onChip (fun c => c.retransmit pub)
/-- ENGINE_REQUEST (R656). -/
def execEngineRequest (request : Option (EngOp × Option Nat × Nat)) (unwraps : Bool) (s : State) : Result :=
  s.onChip (fun c => c.engineRequest request unwraps)
/-- ENGINE_SEGMENT_END (R658). -/
def execEngineSegmentEnd (unwraps : Bool) (s : State) : Result := s.onChip (fun c => c.segmentEnd unwraps)
/-- ENGINE_IDLE_ZEROIZE (R652). -/
def execEngineIdleZeroize (ok : Bool) (s : State) : Result := s.onChip (fun c => c.idleZeroize ok)
/-- ENGINE_TIMEOUT (R662). -/
def execEngineTimeout (unwraps : Bool) (s : State) : Result := s.onChip (fun c => c.engineTimeout unwraps)
/-- LANE_TRAINED (R480). -/
def execLaneTrained (lane : Fin 16) (s : State) : Result := s.onChip (fun c => c.laneTrained lane)
/-- LANE_TRAIN_TIMEOUT (R480). -/
def execLaneTrainTimeout (lane : Fin 16) (s : State) : Result := s.onChip (fun c => c.laneTimeout lane)
/-- LANE_LOSS (R480). -/
def execLaneLoss (lane : Fin 16) (los : Bool) (s : State) : Result := s.onChip (fun c => c.laneLoss lane los)
/-- LANE_RETRY (R480). -/
def execLaneRetry (lane : Fin 16) (s : State) : Result := s.onChip (fun c => c.laneRetry lane)
/-- LANE_STOP_PHASE_END (R481). -/
def execLaneStopPhaseEnd (lane : Fin 16) (s : State) : Result := s.onChip (fun c => (c.laneStopEnd lane).domWaiting [12 + lane / 4])
/-- LANE_HARDWARE_FAIL (R479). -/
def execLaneHardwareFail (lane : Fin 16) (s : State) : Result := s.onChip (fun c => c.laneHardware lane)
/-- MGMT_LINK_CHANGE (R486). -/
def execMgmtLinkChange (port : Fin 2) (up : Bool) (s : State) : Result := s.onChip (fun c => c.mgmtLink (16 + port) up)
/-- MODULE_RESET_RELEASE (R487). -/
def execModuleResetRelease (cage : Fin 4) (s : State) : Result := s.onChip (fun c => c.resetRelease cage)
/-- CAGE_INTL_CHANGE (R488). -/
def execCageIntlChange (cage : Fin 4) (asserted : Bool) (s : State) : Result := s.onChip (fun c => c.intlChange cage asserted)
/-- ROPE_FRAME_CLOSE (R493). -/
def execRopeFrameClose (s : State) : Result := s.onChip (fun c => c.ropeClose)
/-- ROPE_FRAME_RECEIVE (R501). -/
def execRopeFrameReceive (lane : Fin 2) (frame : RopeFrame) (s : State) : Result := s.onChip (fun c => c.ropeReceive (14 + lane) frame)
/-- BEACON_SEND (R498). -/
def execBeaconSend (s : State) : Result := s.onChip (fun c => c.beaconSend)
/-- BEACON_RECEIVE (R499). -/
def execBeaconReceive (lane : Fin 2) (seq : Fin 65536) (body : Beacon) (s : State) : Result :=
  s.onChip (fun c => c.beaconReceive (14 + lane) seq body)
/-- ROPE_LANE_SWITCH (R502). -/
def execRopeLaneSwitch (s : State) : Result := s.onChip (fun c => c.ropeSwitch)
/-- ROPE_LINK_LOST (R24). -/
def execRopeLinkLost (s : State) : Result := s.onChip (fun c => c.ropeLost)
/-- ROPE_FALLBACK (R240). -/
def execRopeFallback (fi : Fin 1024) (s : State) : Result := s.onChip (fun c => c.ropeFallback fi)
/-- ROPE_STANDBY_DOWN (R754). -/
def execRopeStandbyDown (s : State) : Result := s.onChip (fun c => c.standbyDown)
/-- ROPE_RECOVERY_ARM (R240). -/
def execRopeRecoveryArm (fi : Fin 1024) (s : State) : Result := s.onChip (fun c => c.ropeRecovery fi)
/-- TEMPLATE_REWRITE (R570). -/
def execTemplateRewrite (template : Fin 512) (s : State) : Result :=
  s.onChip (fun c => c.codec' (fun k => { k with badTempl := k.badTempl.filter (· != template.val) }))

end Sys2Proof.Machine
end

