-- ==== Sys2Proof/Machine/PanelCommands.lean ====
section
/-!
DEFINITION. The commands of the front panel and the field inputs and outputs (16 and 17 of spec/).
-/
namespace Sys2Proof.Machine

/-- A presence input reads anew. An input that D21 reads is not read while D21 is off: its level is then what the first scan finds (R670, R671). A
changed state acts on what depends on it: test flags (R682), session 1 (R683), the board (R673), presence (R637), the cages (R487). -/
def Chip.presenceInput (c : Chip) (i : Nat) (r : PresRead) : Chip :=
  if (i < 4 ∨ i = 5 ∨ i = 6 ∨ 11 ≤ i) ∧ c.domOn 21 = false then
    match r with
    | .active => c.modPres i (fun _ => { active := true, fault := false, since := c.clk.cycle })
    | .inactive => c.modPres i (fun _ => { active := false, fault := false, since := c.clk.cycle })
    | _ => c
  else
    let (moved, c1) := c.presRead i r
    let now := (c1.pres i).active
    if !moved then c1
    else if i < 4 then c1.testFlags
    else if i = 4 then (if now then c1 else c1.endSession 1 "USB")
    else if i = 5 then (if now then c1.boardReturn else c1.boardGone)
    else if i = 6 then (if now then c1 else c1.presenceEnd "DOOR")
    else if i ≤ 10 then c1.cageCheck (i - 7)
    else c1

/-- PRESENCE_ACTIVE (R637). -/
def execPresenceActive (s : State) : Result := s.onChip (fun c => c.presenceActive)
/-- PRESENCE_END (R637). -/
def execPresenceEnd (s : State) : Result := s.onChip (fun c => c.presenceTimeout)
/-- KEY_CHANGE (R674). -/
def execKeyChange (key : Fin 64) (down : Bool) (s : State) : Result := s.onChip (fun c => c.keyChange key down)
/-- KEY_STUCK (R676). -/
def execKeyStuck (key : Fin 64) (s : State) : Result := s.onChip (fun c => c.keyStuck key)
/-- TOUCH_CHANGE (R677). -/
def execTouchChange (channel : Fin 8) (count : Fin 4096) (s : State) : Result := s.onChip (fun c => c.touchChange channel count)
/-- TOUCH_DRIFT (R678). -/
def execTouchDrift (channel : Fin 8) (s : State) : Result := s.onChip (fun c => c.touchDrift channel)
/-- TOUCH_RECAL (R679). -/
def execTouchRecal (channel : Fin 8) (s : State) : Result := s.onChip (fun c => c.touchRecal channel)
/-- TOUCH_FAULT (R680). -/
def execTouchFault (channel : Fin 8) (high : Bool) (s : State) : Result := s.onChip (fun c => c.touchFault channel high)
/-- PRESENCE_INPUT_CHANGE (R681). -/
def execPresenceInputChange (input : Fin 16) (reading : PresRead) (s : State) : Result := s.onChip (fun c => c.presenceInput input reading)
/-- BOARD_REMOVE (R673). -/
def execBoardRemove (s : State) : Result := s.onChip (fun c => c.presenceInput 5 .inactive)
/-- BOARD_RETURN (R673). -/
def execBoardReturn (s : State) : Result := s.onChip (fun c => c.presenceInput 5 .active)
/-- BINARY_INPUT_CHANGE (R689). -/
def execBinaryInputChange (input : Fin 16) (high : Bool) (s : State) : Result := s.onChip (fun c => c.inputChange input high)
/-- INPUT_UNBLOCK (R690). -/
def execInputUnblock (input : Fin 16) (s : State) : Result := s.onChip (fun c => c.inputUnblock input)
/-- MINPULSE_END (R691). -/
def execMinpulseEnd (trip : Fin 16) (s : State) : Result := s.onChip (fun c => c.minPulseEnd trip)
/-- SUP_CHANGE (R693). -/
def execSupChange (trip : Fin 16) (low : Bool) (s : State) : Result := s.onChip (fun c => c.supChange trip low)
/-- TRIP_OVERCURRENT (R697). -/
def execTripOvercurrent (trip : Fin 16) (s : State) : Result := s.onChip (fun c => c.overcurrent trip)
/-- TRIP_READBACK_FAULT (R698). -/
def execTripReadbackFault (trip : Fin 16) (s : State) : Result := s.onChip (fun c => c.readbackFault trip)

end Sys2Proof.Machine
end

