-- ==== Sys2Proof/Machine/PowerCommands.lean ====
section
/-!
DEFINITION. The commands of the supply, the starts, the power domains and the sensors (04, 10 and 20 of spec/).
-/
namespace Sys2Proof.Machine

/-- A domain reaches ON; a commit that waited for it may be complete (R772, R773). -/
def CM.roseTo (cm : CM) (n : Nat) : CM :=
  let r := CM.riseDone cm n
  (r.1.commitApplied, r.2)

/-- POWER_ON (R169). -/
def execPowerOn (found : StartFindings) (s : State) : Result := s.onPower (fun cm => CM.powerOn cm found)
/-- START_EDGE (R176). -/
def execStartEdge (s : State) : Result := s.onChip (fun c => c.startEdge)
/-- WARM_RESTART (R190). -/
def execWarmRestart (s : State) : Result := s.onChip (fun c => c.warmRestart)
/-- COLD_RESTART (R191). -/
def execColdRestart (found : StartFindings) (s : State) : Result := s.onCM (fun cm => CM.coldRestart cm found)
/-- SUPPLY_WARNING (R763). -/
def execSupplyWarning (s : State) : Result := s.onChip (fun c => c.supplyWarning)
/-- SHUTDOWN (R764). -/
def execShutdown (s : State) : Result := s.onChip (fun c => c.shutdown)
/-- SUPPLY_RESTORED (R765). -/
def execSupplyRestored (ms : Nat) (s : State) : Result := s.onChip (fun c => c.supplyRestored ms)
/-- SUPPLY_DIP (R766). -/
def execSupplyDip (ms : Nat) (s : State) : Result := s.onChip (fun c => c.supplyDip ms)
/-- DOMAIN_RISE_DONE (R773). -/
def execDomainRiseDone (domain : Fin 24) (s : State) : Result := s.onCM (fun cm => CM.roseTo cm domain)
/-- DOMAIN_FALL_DONE (R773). -/
def execDomainFallDone (domain : Fin 24) (s : State) : Result := s.onChip (fun c => c.fallDone domain)
/-- DOMAIN_FAULT (R777). -/
def execDomainFault (domain : Fin 24) (s : State) : Result := s.onCM (fun cm => CM.domainFault cm domain)
/-- DOMAIN_RETRY (R777). -/
def execDomainRetry (domain : Fin 24) (s : State) : Result := s.onChip (fun c => c.domainRetry domain)
/-- SENSOR_READ (R778). -/
def execSensorRead (sensor : Fin 22) (reading : Option Int) (s : State) : Result := s.onCM (fun cm => CM.sensorRead cm sensor reading)
/-- STACK_COOL (R435). -/
def execStackCool (stack : Fin 4) (s : State) : Result := s.onCM (fun cm => CM.stackCool cm stack)
/-- GOVERNOR_REFILL (R436). -/
def execGovernorRefill (s : State) : Result := s.onChip (fun c => c.governorRefill)

end Sys2Proof.Machine
end

