-- ==== Sys2Proof/Machine/RepairCommands.lean ====
section
/-!
DEFINITION. The commands of the scrubber, the patrol and the repair of tiles, DRAM groups and links (10 and 19 of spec/).
-/
namespace Sys2Proof.Machine

/-- SRAM_SCRUB (R425). -/
def execSramScrub (found : List Finding) (s : State) : Result := s.onCM (fun cm => CM.sramScrub cm found)
/-- DRAM_PATROL (R426). -/
def execDramPatrol (found : List Finding) (s : State) : Result := s.onCM (fun cm => CM.dramPatrol cm found)
/-- POISON_CLEAR_DONE (R427). -/
def execPoisonClearDone (fi : Fin 1024) (s : State) : Result := s.onCM (fun cm => CM.poisonClearDone cm fi)
/-- TRAVERSE_STEP (R742). -/
def execTraverseStep (s : State) : Result := s.onChip (fun c => c.traverseStep)
/-- SLOT_SWITCH (R746). -/
def execSlotSwitch (cluster : Fin 8) (fi : Fin 1024) (copy : Fin 2) (s : State) : Result := s.onChip (fun c => c.slotSwitch cluster fi copy)
/-- TILE_TEST_DONE (R747). -/
def execTileTestDone (cluster : Fin 8) (outcome : Option Nat) (s : State) : Result := s.onChip (fun c => c.testDone cluster outcome)
/-- TRAVERSE_COMPARE_FAIL (R751). -/
def execTraverseCompareFail (cluster : Fin 8) (s : State) : Result := s.onChip (fun c => c.compareFail cluster)
/-- DRAM_GROUP_RETIRE (R752). -/
def execDramGroupRetire (group : Fin 64) (s : State) : Result := s.onChip (fun c => c.groupRetire group)
/-- BIT_LANE_SPARE (R753). -/
def execBitLaneSpare (link : Nat) (s : State) : Result := s.onChip (fun c => c.bitLaneSpare link)
/-- LINK_HALF_WIDTH (R754). -/
def execLinkHalfWidth (link : Nat) (ends : List (Fin 416 × Fin 4)) (s : State) : Result :=
  s.onChip (fun c => c.linkHalf link (ends.map (fun e => (e.1.val, e.2.val))))
/-- TRAVERSE_PHASE_END (R743). -/
def execTraversePhaseEnd (cluster : Fin 8) (s : State) : Result := s.onChip (fun c => c.phaseEnd cluster)

end Sys2Proof.Machine
end

