-- ==== Sys2Proof/Machine/TimeCommands.lean ====
section
/-!
DEFINITION. The commands of the clock and the anchor (15 of spec/).
-/
namespace Sys2Proof.Machine

/-- EXT10_LOSS (R598). -/
def execExt10Loss (s : State) : Result := s.onChip (fun c => c.ext10Loss)
/-- ANCHOR_VOTE_FAULT (R602). -/
def execAnchorVoteFault (x0 x1 x2 : Option Anchor) (s : State) : Result := s.onChip (fun c => c.anchorVote x0 x1 x2)
/-- HOLDOVER_ENTRY (R610). -/
def execHoldoverEntry (s : State) : Result := s.onChip (fun c => c.holdoverEntry)
/-- UNDISCIPLINED_ENTRY (R610). -/
def execUndisciplinedEntry (s : State) : Result := s.onChip (fun c => c.undisciplinedEntry)
/-- STEPPED_EXPIRY (R609). -/
def execSteppedExpiry (s : State) : Result := s.onChip (fun c => c.steppedExpiry)
/-- WARMUP_END (R609). -/
def execWarmupEnd (s : State) : Result := s.onChip (fun c => c.warmupEnd)
/-- LEAP_DUE (R613). -/
def execLeapDue (s : State) : Result := s.onChip (fun c => c.leapDue)
/-- IRIG_FRAME (R620). -/
def execIrigFrame (valid : Bool) (fmt : Fin 8) (back : Nat) (fields : Fields) (s : State) : Result :=
  s.onChip (fun c => c.irigFrame valid fmt back fields)
/-- PPS_EDGE (R621). -/
def execPpsEdge (s : State) : Result := s.onChip (fun c => c.ppsEdge)
/-- TIME_INPUT_ABSENT (R622). -/
def execTimeInputAbsent (irig : Bool) (s : State) : Result := s.onChip (fun c => c.timeInputAbsent irig)

end Sys2Proof.Machine
end

