-- ==== Sys2Proof/Machine/Dispatch.lean ====
section
/-!
DEFINITION. The meaning of each command: one arm per constructor, one call of its meaning.
-/
namespace Sys2Proof.Machine

/-- The effect of a command on everything but the queue. -/
def exec (i : Instr) (s : State) : Host.Outcome State Fault Refusal :=
  match i with
  | .modeLine h word args => Sys2Proof.Machine.execModeLine h word args s
  | .loginUser h args => Sys2Proof.Machine.execLoginUser h args s
  | .loginAnswer h args => Sys2Proof.Machine.execLoginAnswer h args s
  | .loginPresence h args => Sys2Proof.Machine.execLoginPresence h args s
  | .logoutLine h => Sys2Proof.Machine.execLogoutLine h s
  | .beginTxn h => Sys2Proof.Machine.execBeginTxn h s
  | .commitLine h args => Sys2Proof.Machine.execCommitLine h args s
  | .commitHitchGranted sess => Sys2Proof.Machine.execCommitHitchGranted sess s
  | .commitWaitTimeout sess => Sys2Proof.Machine.execCommitWaitTimeout sess s
  | .commitEdge ext10 => Sys2Proof.Machine.execCommitEdge ext10 s
  | .cfgFiApply fi => Sys2Proof.Machine.execCfgFiApply fi s
  | .cfgForcedApply fi => Sys2Proof.Machine.execCfgForcedApply fi s
  | .abortLine h => Sys2Proof.Machine.execAbortLine h s
  | .endLoad h flashOk => Sys2Proof.Machine.execEndLoad h flashOk s
  | .endCancel h => Sys2Proof.Machine.execEndCancel h s
  | .bulkRecord sess text => Sys2Proof.Machine.execBulkRecord sess text s
  | .loadIdleCancel sess => Sys2Proof.Machine.execLoadIdleCancel sess s
  | .emptyLine sess => Sys2Proof.Machine.execEmptyLine sess s
  | .longLine sess num => Sys2Proof.Machine.execLongLine sess num s
  | .scriptLineReplay h => Sys2Proof.Machine.execScriptLineReplay h s
  | .eraseChar sess => Sys2Proof.Machine.execEraseChar sess s
  | .eraseLine sess => Sys2Proof.Machine.execEraseLine sess s
  | .eraseWord sess => Sys2Proof.Machine.execEraseWord sess s
  | .ctrlC sess => Sys2Proof.Machine.execCtrlC sess s
  | .historyPrevious sess => Sys2Proof.Machine.execHistoryPrevious sess s
  | .historyNext sess => Sys2Proof.Machine.execHistoryNext sess s
  | .rejectedControlChar sess => Sys2Proof.Machine.execRejectedControlChar sess s
  | .overrunReport sess => Sys2Proof.Machine.execOverrunReport sess s
  | .lostReport sess => Sys2Proof.Machine.execLostReport sess s
  | .usbDtrAssert => Sys2Proof.Machine.execUsbDtrAssert s
  | .usbDetach => Sys2Proof.Machine.execUsbDetach s
  | .tlsHandshake ok cause => Sys2Proof.Machine.execTlsHandshake ok cause s
  | .tcpClose conn cause => Sys2Proof.Machine.execTcpClose conn cause s
  | .sessionIdleWarning sess => Sys2Proof.Machine.execSessionIdleWarning sess s
  | .sessionIdleTimeout sess => Sys2Proof.Machine.execSessionIdleTimeout sess s
  | .loginLockExpiry carrier => Sys2Proof.Machine.execLoginLockExpiry carrier s
  | .showUnit h args => Sys2Proof.Machine.execShowUnit h args s
  | .setUnit h args => Sys2Proof.Machine.execSetUnit h args s
  | .addUnit h args => Sys2Proof.Machine.execAddUnit h args s
  | .deleteUnit h args => Sys2Proof.Machine.execDeleteUnit h args s
  | .restartUnit h args => Sys2Proof.Machine.execRestartUnit h args s
  | .showImage h args => Sys2Proof.Machine.execShowImage h args s
  | .loadImage h args => Sys2Proof.Machine.execLoadImage h args s
  | .switchImage h args => Sys2Proof.Machine.execSwitchImage h args s
  | .acceptImageUntested h => Sys2Proof.Machine.execAcceptImageUntested h s
  | .showLife h args => Sys2Proof.Machine.execShowLife h args s
  | .moveLife h args otpOk => Sys2Proof.Machine.execMoveLife h args otpOk s
  | .readReg h args wins => Sys2Proof.Machine.execReadReg h args wins s
  | .writeReg h args ack => Sys2Proof.Machine.execWriteReg h args ack s
  | .faultInjSelWrite h v => Sys2Proof.Machine.execFaultInjSelWrite h v s
  | .faultInjGoWrite h v => Sys2Proof.Machine.execFaultInjGoWrite h v s
  | .portCageWrWrite h cage v ack => Sys2Proof.Machine.execPortCageWrWrite h cage v ack s
  | .cageWindowRead h cage word answer => Sys2Proof.Machine.execCageWindowRead h cage word answer s
  | .showFi h sel args => Sys2Proof.Machine.execShowFi h sel args s
  | .loadFi h sel args => Sys2Proof.Machine.execLoadFi h sel args s
  | .setFi h sel args => Sys2Proof.Machine.execSetFi h sel args s
  | .addFi h sel args => Sys2Proof.Machine.execAddFi h sel args s
  | .deleteFi h sel args => Sys2Proof.Machine.execDeleteFi h sel args s
  | .armFi h sel => Sys2Proof.Machine.execArmFi h sel s
  | .stopFi h sel => Sys2Proof.Machine.execStopFi h sel s
  | .clearFiPoison h sel => Sys2Proof.Machine.execClearFiPoison h sel s
  | .clearFiCounts h sel => Sys2Proof.Machine.execClearFiCounts h sel s
  | .selectFi h sel args => Sys2Proof.Machine.execSelectFi h sel args s
  | .executeFi h sel args => Sys2Proof.Machine.execExecuteFi h sel args s
  | .cancelFi h sel args => Sys2Proof.Machine.execCancelFi h sel args s
  | .selectExpiry sess fi point => Sys2Proof.Machine.execSelectExpiry sess fi point s
  | .showTile h sel args => Sys2Proof.Machine.execShowTile h sel args s
  | .testTile h sel outcome => Sys2Proof.Machine.execTestTile h sel outcome s
  | .showRepair h args => Sys2Proof.Machine.execShowRepair h args s
  | .setRepair h args => Sys2Proof.Machine.execSetRepair h args s
  | .startRepair h args => Sys2Proof.Machine.execStartRepair h args s
  | .showDomain h sel args => Sys2Proof.Machine.execShowDomain h sel args s
  | .setDomain h sel args => Sys2Proof.Machine.execSetDomain h sel args s
  | .showLane h sel args => Sys2Proof.Machine.execShowLane h sel args s
  | .setLane h sel args => Sys2Proof.Machine.execSetLane h sel args s
  | .showPort h sel args => Sys2Proof.Machine.execShowPort h sel args s
  | .setPort h sel args => Sys2Proof.Machine.execSetPort h sel args s
  | .clearPort h sel => Sys2Proof.Machine.execClearPort h sel s
  | .addTable h args => Sys2Proof.Machine.execAddTable h args s
  | .deleteTable h args => Sys2Proof.Machine.execDeleteTable h args s
  | .setTable h args => Sys2Proof.Machine.execSetTable h args s
  | .dumpTable h args => Sys2Proof.Machine.execDumpTable h args s
  | .loadTable h args => Sys2Proof.Machine.execLoadTable h args s
  | .showSub h sel args => Sys2Proof.Machine.execShowSub h sel args s
  | .showPub h sel args => Sys2Proof.Machine.execShowPub h sel args s
  | .addSub h sel args => Sys2Proof.Machine.execAddSub h sel args s
  | .addPub h sel args => Sys2Proof.Machine.execAddPub h sel args s
  | .deleteSub h sel args => Sys2Proof.Machine.execDeleteSub h sel args s
  | .deletePub h sel args => Sys2Proof.Machine.execDeletePub h sel args s
  | .loadSub h args => Sys2Proof.Machine.execLoadSub h args s
  | .loadPub h args => Sys2Proof.Machine.execLoadPub h args s
  | .showTime h args => Sys2Proof.Machine.execShowTime h args s
  | .setTime h args => Sys2Proof.Machine.execSetTime h args s
  | .adjustTime h args => Sys2Proof.Machine.execAdjustTime h args s
  | .adjustAtDue => Sys2Proof.Machine.execAdjustAtDue s
  | .showKeyslot h sel args => Sys2Proof.Machine.execShowKeyslot h sel args s
  | .loadKeyslot h sel args => Sys2Proof.Machine.execLoadKeyslot h sel args s
  | .revokeKeyslot h sel flashOk => Sys2Proof.Machine.execRevokeKeyslot h sel flashOk s
  | .showHitch h sel args => Sys2Proof.Machine.execShowHitch h sel args s
  | .setHitch h args => Sys2Proof.Machine.execSetHitch h args s
  | .addHitch h args => Sys2Proof.Machine.execAddHitch h args s
  | .deleteHitch h args => Sys2Proof.Machine.execDeleteHitch h args s
  | .takeHitch h sel args => Sys2Proof.Machine.execTakeHitch h sel args s
  | .takeHitchTimeout sess => Sys2Proof.Machine.execTakeHitchTimeout sess s
  | .releaseHitch h sel => Sys2Proof.Machine.execReleaseHitch h sel s
  | .showPanel h args => Sys2Proof.Machine.execShowPanel h args s
  | .setPanel h args => Sys2Proof.Machine.execSetPanel h args s
  | .writePanel h args => Sys2Proof.Machine.execWritePanel h args s
  | .showTrip h sel args => Sys2Proof.Machine.execShowTrip h sel args s
  | .setTrip h sel args => Sys2Proof.Machine.execSetTrip h sel args s
  | .testTrip h sel args => Sys2Proof.Machine.execTestTrip h sel args s
  | .testPulseEnd trip => Sys2Proof.Machine.execTestPulseEnd trip s
  | .showInput h sel args => Sys2Proof.Machine.execShowInput h sel args s
  | .setInput h sel args => Sys2Proof.Machine.execSetInput h sel args s
  | .showEvent h sel args => Sys2Proof.Machine.execShowEvent h sel args s
  | .notifyEvent h sel args => Sys2Proof.Machine.execNotifyEvent h sel args s
  | .showFault h sel args => Sys2Proof.Machine.execShowFault h sel args s
  | .notifyFault h sel args => Sys2Proof.Machine.execNotifyFault h sel args s
  | .setFault h sel args => Sys2Proof.Machine.execSetFault h sel args s
  | .clearFault h sel => Sys2Proof.Machine.execClearFault h sel s
  | .showLog h args => Sys2Proof.Machine.execShowLog h args s
  | .reservedVerb h => Sys2Proof.Machine.execReservedVerb h s
  | .tokenQueued flight => Sys2Proof.Machine.execTokenQueued flight s
  | .tokenSelect tile => Sys2Proof.Machine.execTokenSelect tile s
  | .guardRequeue tile => Sys2Proof.Machine.execGuardRequeue tile s
  | .predicateMirrorUpdate cluster frame => Sys2Proof.Machine.execPredicateMirrorUpdate cluster frame s
  | .deepSpillWrite fi => Sys2Proof.Machine.execDeepSpillWrite fi s
  | .deepLookupReply fi => Sys2Proof.Machine.execDeepLookupReply fi s
  | .creditGrant fi copy => Sys2Proof.Machine.execCreditGrant fi copy s
  | .frameGrant cluster => Sys2Proof.Machine.execFrameGrant cluster s
  | .memoryReply reply => Sys2Proof.Machine.execMemoryReply reply s
  | .deferralRetry => Sys2Proof.Machine.execDeferralRetry s
  | .frameWordRelease tile => Sys2Proof.Machine.execFrameWordRelease tile s
  | .pageInstall tile good => Sys2Proof.Machine.execPageInstall tile good s
  | .pageRetry tile => Sys2Proof.Machine.execPageRetry tile s
  | .sharedPageReturn tile => Sys2Proof.Machine.execSharedPageReturn tile s
  | .pageBackingRewrite tile => Sys2Proof.Machine.execPageBackingRewrite tile s
  | .dstMergeExpiry fi copy => Sys2Proof.Machine.execDstMergeExpiry fi copy s
  | .purgeSweep tile => Sys2Proof.Machine.execPurgeSweep tile s
  | .purgeComplete cluster frame => Sys2Proof.Machine.execPurgeComplete cluster frame s
  | .timerTick fi => Sys2Proof.Machine.execTimerTick fi s
  | .periodDoneArrive => Sys2Proof.Machine.execPeriodDoneArrive s
  | .deadlineOverrun fi => Sys2Proof.Machine.execDeadlineOverrun fi s
  | .sourceLoss fi => Sys2Proof.Machine.execSourceLoss fi s
  | .stallDetect fi copy => Sys2Proof.Machine.execStallDetect fi copy s
  | .drainPurge fi => Sys2Proof.Machine.execDrainPurge fi s
  | .drainComplete fi => Sys2Proof.Machine.execDrainComplete fi s
  | .rearmComplete fi => Sys2Proof.Machine.execRearmComplete fi s
  | .twinCompare fi stream => Sys2Proof.Machine.execTwinCompare fi stream s
  | .twinPartnerTimeout fi stream => Sys2Proof.Machine.execTwinPartnerTimeout fi stream s
  | .hwaitTimeout fi => Sys2Proof.Machine.execHwaitTimeout fi s
  | .hitchBroken hitch => Sys2Proof.Machine.execHitchBroken hitch s
  | .hitchRestore hitch => Sys2Proof.Machine.execHitchRestore hitch s
  | .mov tile => Sys2Proof.Machine.execMov tile s
  | .steer tile => Sys2Proof.Machine.execSteer tile s
  | .gate tile => Sys2Proof.Machine.execGate tile s
  | .sink tile => Sys2Proof.Machine.execSink tile s
  | .kset tile => Sys2Proof.Machine.execKset tile s
  | .ktest tile => Sys2Proof.Machine.execKtest tile s
  | .tread tile => Sys2Proof.Machine.execTread tile s
  | .lit tile => Sys2Proof.Machine.execLit tile s
  | .tqual tile => Sys2Proof.Machine.execTqual tile s
  | .add tile => Sys2Proof.Machine.execAdd tile s
  | .sub tile => Sys2Proof.Machine.execSub tile s
  | .mul tile => Sys2Proof.Machine.execMul tile s
  | .mulh tile => Sys2Proof.Machine.execMulh tile s
  | .mulhu tile => Sys2Proof.Machine.execMulhu tile s
  | .div tile => Sys2Proof.Machine.execDiv tile s
  | .divu tile => Sys2Proof.Machine.execDivu tile s
  | .rem tile => Sys2Proof.Machine.execRem tile s
  | .remu tile => Sys2Proof.Machine.execRemu tile s
  | .and tile => Sys2Proof.Machine.execAnd tile s
  | .or tile => Sys2Proof.Machine.execOr tile s
  | .xor tile => Sys2Proof.Machine.execXor tile s
  | .andn tile => Sys2Proof.Machine.execAndn tile s
  | .shl tile => Sys2Proof.Machine.execShl tile s
  | .shr tile => Sys2Proof.Machine.execShr tile s
  | .sar tile => Sys2Proof.Machine.execSar tile s
  | .rol tile => Sys2Proof.Machine.execRol tile s
  | .ror tile => Sys2Proof.Machine.execRor tile s
  | .min tile => Sys2Proof.Machine.execMin tile s
  | .max tile => Sys2Proof.Machine.execMax tile s
  | .minu tile => Sys2Proof.Machine.execMinu tile s
  | .maxu tile => Sys2Proof.Machine.execMaxu tile s
  | .neg tile => Sys2Proof.Machine.execNeg tile s
  | .not tile => Sys2Proof.Machine.execNot tile s
  | .abs tile => Sys2Proof.Machine.execAbs tile s
  | .sext tile => Sys2Proof.Machine.execSext tile s
  | .zext tile => Sys2Proof.Machine.execZext tile s
  | .extr tile => Sys2Proof.Machine.execExtr tile s
  | .adds tile => Sys2Proof.Machine.execAdds tile s
  | .subs tile => Sys2Proof.Machine.execSubs tile s
  | .add32 tile => Sys2Proof.Machine.execAdd32 tile s
  | .sub32 tile => Sys2Proof.Machine.execSub32 tile s
  | .mul32 tile => Sys2Proof.Machine.execMul32 tile s
  | .qadd tile => Sys2Proof.Machine.execQadd tile s
  | .qsub tile => Sys2Proof.Machine.execQsub tile s
  | .qmul tile => Sys2Proof.Machine.execQmul tile s
  | .qneg tile => Sys2Proof.Machine.execQneg tile s
  | .qabs tile => Sys2Proof.Machine.execQabs tile s
  | .qshl tile => Sys2Proof.Machine.execQshl tile s
  | .qshr tile => Sys2Proof.Machine.execQshr tile s
  | .hadd tile => Sys2Proof.Machine.execHadd tile s
  | .hsub tile => Sys2Proof.Machine.execHsub tile s
  | .hmul tile => Sys2Proof.Machine.execHmul tile s
  | .hneg tile => Sys2Proof.Machine.execHneg tile s
  | .habs tile => Sys2Proof.Machine.execHabs tile s
  | .hshl tile => Sys2Proof.Machine.execHshl tile s
  | .hshr tile => Sys2Proof.Machine.execHshr tile s
  | .q2h tile => Sys2Proof.Machine.execQ2h tile s
  | .h2q tile => Sys2Proof.Machine.execH2q tile s
  | .qmul64 tile => Sys2Proof.Machine.execQmul64 tile s
  | .qrnd tile => Sys2Proof.Machine.execQrnd tile s
  | .fadd tile => Sys2Proof.Machine.execFadd tile s
  | .fsub tile => Sys2Proof.Machine.execFsub tile s
  | .fmul tile => Sys2Proof.Machine.execFmul tile s
  | .fdiv tile => Sys2Proof.Machine.execFdiv tile s
  | .fsqrt tile => Sys2Proof.Machine.execFsqrt tile s
  | .fmin tile => Sys2Proof.Machine.execFmin tile s
  | .fmax tile => Sys2Proof.Machine.execFmax tile s
  | .fneg tile => Sys2Proof.Machine.execFneg tile s
  | .fabs tile => Sys2Proof.Machine.execFabs tile s
  | .fmov tile => Sys2Proof.Machine.execFmov tile s
  | .fclt tile => Sys2Proof.Machine.execFclt tile s
  | .fcle tile => Sys2Proof.Machine.execFcle tile s
  | .fceq tile => Sys2Proof.Machine.execFceq tile s
  | .f2i tile => Sys2Proof.Machine.execF2i tile s
  | .i2f tile => Sys2Proof.Machine.execI2f tile s
  | .f2q tile => Sys2Proof.Machine.execF2q tile s
  | .q2f tile => Sys2Proof.Machine.execQ2f tile s
  | .f2d tile => Sys2Proof.Machine.execF2d tile s
  | .d2f tile => Sys2Proof.Machine.execD2f tile s
  | .fhypot tile => Sys2Proof.Machine.execFhypot tile s
  | .dadd tile => Sys2Proof.Machine.execDadd tile s
  | .dsub tile => Sys2Proof.Machine.execDsub tile s
  | .dmul tile => Sys2Proof.Machine.execDmul tile s
  | .ddiv tile => Sys2Proof.Machine.execDdiv tile s
  | .dsqrt tile => Sys2Proof.Machine.execDsqrt tile s
  | .dmin tile => Sys2Proof.Machine.execDmin tile s
  | .dmax tile => Sys2Proof.Machine.execDmax tile s
  | .dneg tile => Sys2Proof.Machine.execDneg tile s
  | .dabs tile => Sys2Proof.Machine.execDabs tile s
  | .dclt tile => Sys2Proof.Machine.execDclt tile s
  | .dcle tile => Sys2Proof.Machine.execDcle tile s
  | .dceq tile => Sys2Proof.Machine.execDceq tile s
  | .d2i tile => Sys2Proof.Machine.execD2i tile s
  | .i2d tile => Sys2Proof.Machine.execI2d tile s
  | .ceq tile => Sys2Proof.Machine.execCeq tile s
  | .cne tile => Sys2Proof.Machine.execCne tile s
  | .clt tile => Sys2Proof.Machine.execClt tile s
  | .cle tile => Sys2Proof.Machine.execCle tile s
  | .cltu tile => Sys2Proof.Machine.execCltu tile s
  | .cleu tile => Sys2Proof.Machine.execCleu tile s
  | .ctst tile => Sys2Proof.Machine.execCtst tile s
  | .pset tile => Sys2Proof.Machine.execPset tile s
  | .psetw tile => Sys2Proof.Machine.execPsetw tile s
  | .peq tile => Sys2Proof.Machine.execPeq tile s
  | .plt tile => Sys2Proof.Machine.execPlt tile s
  | .pltu tile => Sys2Proof.Machine.execPltu tile s
  | .ptst tile => Sys2Proof.Machine.execPtst tile s
  | .qchk tile => Sys2Proof.Machine.execQchk tile s
  | .sld tile => Sys2Proof.Machine.execSld tile s
  | .sst tile => Sys2Proof.Machine.execSst tile s
  | .slde tile => Sys2Proof.Machine.execSlde tile s
  | .sclr tile => Sys2Proof.Machine.execSclr tile s
  | .dld tile => Sys2Proof.Machine.execDld tile s
  | .dst tile => Sys2Proof.Machine.execDst tile s
  | .kld tile => Sys2Proof.Machine.execKld tile s
  | .agen tile => Sys2Proof.Machine.execAgen tile s
  | .crcw tile => Sys2Proof.Machine.execCrcw tile s
  | .crcb tile => Sys2Proof.Machine.execCrcb tile s
  | .crcf tile => Sys2Proof.Machine.execCrcf tile s
  | .par tile => Sys2Proof.Machine.execPar tile s
  | .brev tile => Sys2Proof.Machine.execBrev tile s
  | .popc tile => Sys2Proof.Machine.execPopc tile s
  | .bswap tile => Sys2Proof.Machine.execBswap tile s
  | .clz tile => Sys2Proof.Machine.execClz tile s
  | .ctz tile => Sys2Proof.Machine.execCtz tile s
  | .cnew tile => Sys2Proof.Machine.execCnew tile s
  | .cself tile => Sys2Proof.Machine.execCself tile s
  | .cput tile => Sys2Proof.Machine.execCput tile s
  | .crel tile => Sys2Proof.Machine.execCrel tile s
  | .pdone tile => Sys2Proof.Machine.execPdone tile s
  | .inext tile => Sys2Proof.Machine.execInext tile s
  | .iset tile => Sys2Proof.Machine.execIset tile s
  | .frd tile => Sys2Proof.Machine.execFrd tile s
  | .fwr tile => Sys2Proof.Machine.execFwr tile s
  | .hwr tile => Sys2Proof.Machine.execHwr tile s
  | .hrd tile => Sys2Proof.Machine.execHrd tile s
  | .hwait tile => Sys2Proof.Machine.execHwait tile s
  | .hpark tile => Sys2Proof.Machine.execHpark tile s
  | .hrel tile => Sys2Proof.Machine.execHrel tile s
  | .salloc tile => Sys2Proof.Machine.execSalloc tile s
  | .sfree tile => Sys2Proof.Machine.execSfree tile s
  | .trip tile => Sys2Proof.Machine.execTrip tile s
  | .pub tile => Sys2Proof.Machine.execPub tile s
  | .evt tile => Sys2Proof.Machine.execEvt tile s
  | .chan tile => Sys2Proof.Machine.execChan tile s
  | .led tile => Sys2Proof.Machine.execLed tile s
  | .disp tile => Sys2Proof.Machine.execDisp tile s
  | .rope tile => Sys2Proof.Machine.execRope tile s
  | .reservedOpcode tile corrupt => Sys2Proof.Machine.execReservedOpcode tile corrupt s
  | .frameReceive port frame => Sys2Proof.Machine.execFrameReceive port frame s
  | .frameTransmit port => Sys2Proof.Machine.execFrameTransmit port s
  | .macLearn => Sys2Proof.Machine.execMacLearn s
  | .stashReturn => Sys2Proof.Machine.execStashReturn s
  | .ageSweep => Sys2Proof.Machine.execAgeSweep s
  | .ptpSyncExpiry port => Sys2Proof.Machine.execPtpSyncExpiry port s
  | .tableEntryRestore => Sys2Proof.Machine.execTableEntryRestore s
  | .codecAuthDone => Sys2Proof.Machine.execCodecAuthDone s
  | .gooseTalExpiry sub => Sys2Proof.Machine.execGooseTalExpiry sub s
  | .publishBuild => Sys2Proof.Machine.execPublishBuild s
  | .gooseRetransmit pub => Sys2Proof.Machine.execGooseRetransmit pub s
  | .engineRequest request unwraps => Sys2Proof.Machine.execEngineRequest request unwraps s
  | .engineSegmentEnd unwraps => Sys2Proof.Machine.execEngineSegmentEnd unwraps s
  | .engineIdleZeroize ok => Sys2Proof.Machine.execEngineIdleZeroize ok s
  | .engineTimeout unwraps => Sys2Proof.Machine.execEngineTimeout unwraps s
  | .laneTrained lane => Sys2Proof.Machine.execLaneTrained lane s
  | .laneTrainTimeout lane => Sys2Proof.Machine.execLaneTrainTimeout lane s
  | .laneLoss lane los => Sys2Proof.Machine.execLaneLoss lane los s
  | .laneRetry lane => Sys2Proof.Machine.execLaneRetry lane s
  | .laneStopPhaseEnd lane => Sys2Proof.Machine.execLaneStopPhaseEnd lane s
  | .laneHardwareFail lane => Sys2Proof.Machine.execLaneHardwareFail lane s
  | .mgmtLinkChange port up => Sys2Proof.Machine.execMgmtLinkChange port up s
  | .moduleResetRelease cage => Sys2Proof.Machine.execModuleResetRelease cage s
  | .cageIntlChange cage asserted => Sys2Proof.Machine.execCageIntlChange cage asserted s
  | .ropeFrameClose => Sys2Proof.Machine.execRopeFrameClose s
  | .ropeFrameReceive lane frame => Sys2Proof.Machine.execRopeFrameReceive lane frame s
  | .beaconSend => Sys2Proof.Machine.execBeaconSend s
  | .beaconReceive lane seq body => Sys2Proof.Machine.execBeaconReceive lane seq body s
  | .ropeLaneSwitch => Sys2Proof.Machine.execRopeLaneSwitch s
  | .ropeLinkLost => Sys2Proof.Machine.execRopeLinkLost s
  | .ropeFallback fi => Sys2Proof.Machine.execRopeFallback fi s
  | .ropeStandbyDown => Sys2Proof.Machine.execRopeStandbyDown s
  | .ext10Loss => Sys2Proof.Machine.execExt10Loss s
  | .anchorVoteFault x0 x1 x2 => Sys2Proof.Machine.execAnchorVoteFault x0 x1 x2 s
  | .holdoverEntry => Sys2Proof.Machine.execHoldoverEntry s
  | .undisciplinedEntry => Sys2Proof.Machine.execUndisciplinedEntry s
  | .steppedExpiry => Sys2Proof.Machine.execSteppedExpiry s
  | .warmupEnd => Sys2Proof.Machine.execWarmupEnd s
  | .leapDue => Sys2Proof.Machine.execLeapDue s
  | .irigFrame valid fmt back fields => Sys2Proof.Machine.execIrigFrame valid fmt back fields s
  | .ppsEdge => Sys2Proof.Machine.execPpsEdge s
  | .timeInputAbsent irig => Sys2Proof.Machine.execTimeInputAbsent irig s
  | .presenceActive => Sys2Proof.Machine.execPresenceActive s
  | .presenceEnd => Sys2Proof.Machine.execPresenceEnd s
  | .keyChange key down => Sys2Proof.Machine.execKeyChange key down s
  | .keyStuck key => Sys2Proof.Machine.execKeyStuck key s
  | .touchChange channel count => Sys2Proof.Machine.execTouchChange channel count s
  | .touchDrift channel => Sys2Proof.Machine.execTouchDrift channel s
  | .touchRecal channel => Sys2Proof.Machine.execTouchRecal channel s
  | .touchFault channel high => Sys2Proof.Machine.execTouchFault channel high s
  | .presenceInputChange input reading => Sys2Proof.Machine.execPresenceInputChange input reading s
  | .boardRemove => Sys2Proof.Machine.execBoardRemove s
  | .boardReturn => Sys2Proof.Machine.execBoardReturn s
  | .binaryInputChange input high => Sys2Proof.Machine.execBinaryInputChange input high s
  | .inputUnblock input => Sys2Proof.Machine.execInputUnblock input s
  | .minpulseEnd trip => Sys2Proof.Machine.execMinpulseEnd trip s
  | .supChange trip low => Sys2Proof.Machine.execSupChange trip low s
  | .tripOvercurrent trip => Sys2Proof.Machine.execTripOvercurrent trip s
  | .tripReadbackFault trip => Sys2Proof.Machine.execTripReadbackFault trip s
  | .faultRaise raise => Sys2Proof.Machine.execFaultRaise raise s
  | .lockstepMismatch => Sys2Proof.Machine.execLockstepMismatch s
  | .stewardHeartbeat => Sys2Proof.Machine.execStewardHeartbeat s
  | .heartbeatLoss => Sys2Proof.Machine.execHeartbeatLoss s
  | .stewardWatchdog => Sys2Proof.Machine.execStewardWatchdog s
  | .aliveStop => Sys2Proof.Machine.execAliveStop s
  | .aliveResume => Sys2Proof.Machine.execAliveResume s
  | .aliveMonitorForce => Sys2Proof.Machine.execAliveMonitorForce s
  | .aliveInChange toggling => Sys2Proof.Machine.execAliveInChange toggling s
  | .aliveReadbackFault => Sys2Proof.Machine.execAliveReadbackFault s
  | .cairnWrite => Sys2Proof.Machine.execCairnWrite s
  | .tailSaveComplete ok => Sys2Proof.Machine.execTailSaveComplete ok s
  | .powerOn found => Sys2Proof.Machine.execPowerOn found s
  | .startEdge => Sys2Proof.Machine.execStartEdge s
  | .warmRestart => Sys2Proof.Machine.execWarmRestart s
  | .coldRestart found => Sys2Proof.Machine.execColdRestart found s
  | .supplyWarning => Sys2Proof.Machine.execSupplyWarning s
  | .shutdown => Sys2Proof.Machine.execShutdown s
  | .supplyRestored ms => Sys2Proof.Machine.execSupplyRestored ms s
  | .supplyDip ms => Sys2Proof.Machine.execSupplyDip ms s
  | .domainRiseDone domain => Sys2Proof.Machine.execDomainRiseDone domain s
  | .domainFallDone domain => Sys2Proof.Machine.execDomainFallDone domain s
  | .domainFault domain => Sys2Proof.Machine.execDomainFault domain s
  | .domainRetry domain => Sys2Proof.Machine.execDomainRetry domain s
  | .sensorRead sensor reading => Sys2Proof.Machine.execSensorRead sensor reading s
  | .stackCool stack => Sys2Proof.Machine.execStackCool stack s
  | .governorRefill => Sys2Proof.Machine.execGovernorRefill s
  | .sramScrub found => Sys2Proof.Machine.execSramScrub found s
  | .dramPatrol found => Sys2Proof.Machine.execDramPatrol found s
  | .poisonClearDone fi => Sys2Proof.Machine.execPoisonClearDone fi s
  | .traverseStep => Sys2Proof.Machine.execTraverseStep s
  | .slotSwitch cluster fi copy => Sys2Proof.Machine.execSlotSwitch cluster fi copy s
  | .tileTestDone cluster outcome => Sys2Proof.Machine.execTileTestDone cluster outcome s
  | .traverseCompareFail cluster => Sys2Proof.Machine.execTraverseCompareFail cluster s
  | .dramGroupRetire group => Sys2Proof.Machine.execDramGroupRetire group s
  | .bitLaneSpare link => Sys2Proof.Machine.execBitLaneSpare link s
  | .linkHalfWidth link ends => Sys2Proof.Machine.execLinkHalfWidth link ends s
  | .acceptedCharacter sess ch => Sys2Proof.Machine.execAcceptedCharacter sess ch s
  | .malformedLine h => Sys2Proof.Machine.execMalformedLine h s
  | .ropeRecoveryArm fi => Sys2Proof.Machine.execRopeRecoveryArm fi s
  | .templateRewrite template => Sys2Proof.Machine.execTemplateRewrite template s
  | .wardenRestart => Sys2Proof.Machine.execWardenRestart s
  | .traversePhaseEnd cluster => Sys2Proof.Machine.execTraversePhaseEnd cluster s

end Sys2Proof.Machine
end

