-- ==== Sys2Proof/Safety.lean ====
section
/-!
DEFINITION. The words that claims about the unit use: a command that completes, a line that a session's unit takes, and what counts as a safe state.
-/
namespace Sys2Proof.Machine

/-! ### Commands -/

/-- The command answers a next state, of which P holds. -/
def Completes (i : Instr) (s : State) (P : State → Prop) : Prop := ∃ t, exec i s = .next t ∧ P t

/-- The command changes the unit alone, and its effect on the unit is known. -/
def CompletesChip (i : Instr) (s : State) (P : Chip → Prop) : Prop := Completes i s (fun t => t.mem = s.mem ∧ t.pending = s.pending ∧ P t.u)

/-! ### Lines -/

/-- The line that a command stands for, with what came with it. -/
def lineOf (s : State) : Instr → Option (Hdr × LineDef)
  | .modeLine h word args => some (h, modeDef h word args)
  | .loginUser h args => some (h, loginUserDef h args)
  | .loginAnswer h args => some (h, loginAnswerDef h args)
  | .loginPresence h args => some (h, loginPresenceDef h args)
  | .logoutLine h => some (h, logoutDef h)
  | .beginTxn h => some (h, beginDef h)
  | .commitLine h args => some (h, commitCommandDef h args)
  | .abortLine h => some (h, abortDef h)
  | .endLoad h flashOk => some (h, endLoadDef h flashOk)
  | .endCancel h => some (h, endCancelDef h)
  | .showUnit h args => some (h, showUnitDef h args)
  | .setUnit h args => some (h, setUnitDef h args)
  | .addUnit h args => some (h, addUnitDef h args)
  | .deleteUnit h args => some (h, deleteUnitDef h args)
  | .restartUnit h args => some (h, restartUnitDef h args)
  | .showImage h args => some (h, showImageDef h args)
  | .loadImage h args => some (h, loadImageDef h args)
  | .switchImage h args => some (h, switchImageDef h args)
  | .acceptImageUntested h => some (h, acceptImageDef h)
  | .showLife h args => some (h, showLifeDef h args)
  | .moveLife h args otpOk => some (h, moveLifeDef h args otpOk)
  | .readReg h args wins => some (h, readRegDef h args wins)
  | .writeReg h args ack => some (h, writeRegDef h args ack)
  | .faultInjSelWrite h v => some (h, writeSelDef h v.toNat)
  | .faultInjGoWrite h v => some (h, writeGoDef h v.toNat)
  | .portCageWrWrite h cage v ack => some (h, writeCageDef h cage v.toNat ack)
  | .cageWindowRead h cage word answer => some (h, readWindowDef h cage word (answer.map BitVec.toNat))
  | .showFi h sel args => some (h, showFiDef h sel args)
  | .loadFi h sel args => some (h, loadFiDef h sel args)
  | .setFi h sel args => some (h, setFiDef h sel args)
  | .addFi h sel args => some (h, addFiDef h sel args)
  | .deleteFi h sel args => some (h, deleteFiDef h sel args)
  | .armFi h sel => some (h, armDef h sel)
  | .stopFi h sel => some (h, stopDef h sel)
  | .clearFiPoison h sel => some (h, clearPoisonDef s.mem h sel)
  | .clearFiCounts h sel => some (h, clearCountsDef h sel)
  | .selectFi h sel args => some (h, selectDef h sel args)
  | .executeFi h sel args => some (h, executeDef h sel args)
  | .cancelFi h sel args => some (h, cancelDef h sel args)
  | .showTile h sel args => some (h, showTileDef h sel args)
  | .testTile h sel outcome => some (h, testTileDef h sel outcome)
  | .showRepair h args => some (h, showRepairDef h args)
  | .setRepair h args => some (h, setRepairDef h args)
  | .startRepair h args => some (h, startRepairDef h args)
  | .showDomain h sel args => some (h, showDomainDef h sel args)
  | .setDomain h sel args => some (h, setDomainDef h sel args)
  | .showLane h sel args => some (h, showLaneDef h sel args)
  | .setLane h sel args => some (h, setLaneDef h sel args)
  | .showPort h sel args => some (h, showPortDef h sel args)
  | .setPort h sel args => some (h, setPortDef h sel args)
  | .clearPort h sel => some (h, clearPortDef h sel)
  | .addTable h args => some (h, addTableDef h args)
  | .deleteTable h args => some (h, deleteTableDef h args)
  | .setTable h args => some (h, setTableDef h args)
  | .dumpTable h args => some (h, dumpTableDef h args)
  | .loadTable h args => some (h, loadTableDef h args)
  | .showSub h sel args => some (h, showSubDef h sel args)
  | .showPub h sel args => some (h, showPubDef h sel args)
  | .addSub h sel args => some (h, addSubDef h sel args)
  | .addPub h sel args => some (h, addPubDef h sel args)
  | .deleteSub h sel args => some (h, deleteSubDef h sel args)
  | .deletePub h sel args => some (h, deletePubDef h sel args)
  | .loadSub h args => some (h, loadSubDef h args)
  | .loadPub h args => some (h, loadPubDef h args)
  | .showTime h args => some (h, showTimeDef h args)
  | .setTime h args => some (h, setTimeDef h args)
  | .adjustTime h args => some (h, adjustTimeDef h args)
  | .showKeyslot h sel args => some (h, showKeyDef h sel args)
  | .loadKeyslot h sel args => some (h, loadKeyDef h sel args)
  | .revokeKeyslot h sel flashOk => some (h, revokeKeyDef h sel flashOk)
  | .showHitch h sel args => some (h, showHitchDef h sel args)
  | .setHitch h args => some (h, setHitchDef h args)
  | .addHitch h args => some (h, addHitchDef h args)
  | .deleteHitch h args => some (h, deleteHitchDef h args)
  | .takeHitch h sel args => some (h, takeDef h sel args)
  | .releaseHitch h sel => some (h, releaseDef h sel)
  | .showPanel h args => some (h, showPanelDef h args)
  | .setPanel h args => some (h, setPanelDef h args)
  | .writePanel h args => some (h, writePanelDef h args)
  | .showTrip h sel args => some (h, showTripDef h sel args)
  | .setTrip h sel args => some (h, setTripDef h sel args)
  | .testTrip h sel args => some (h, testTripDef h sel args)
  | .showInput h sel args => some (h, showInputDef h sel args)
  | .setInput h sel args => some (h, setInputDef h sel args)
  | .showEvent h sel args => some (h, showEventDef h sel args)
  | .notifyEvent h sel args => some (h, notifyEventDef h sel args)
  | .showFault h sel args => some (h, showFaultDef h sel args)
  | .notifyFault h sel args => some (h, notifyFaultDef h sel args)
  | .setFault h sel args => some (h, setFaultDef h sel args)
  | .clearFault h sel => some (h, clearFaultDef h sel)
  | .showLog h args => some (h, showLogDef h args)
  | .reservedVerb h => some (h, reservedDef h)
  | _ => none

/-- The unit as a line's checks and effect find it: one cycle later, with the line in the history (R39, R40, R50, R57). -/
def Chip.arrived (c : Chip) (h : Hdr) : Chip := (c.lineArrives h.sess).executed h

/-- The items a line selects (R31); one without a selector acts once. -/
def LineDef.items (d : LineDef) : List Nat := match d.v.spec.sel with | some n => d.sel.members n | none => [0]

/-- The first of R87's steps that a line fails, step by step: form, access, items and transaction, state, room, ranges, validity. -/
def LineDef.bad (d : LineDef) (h : Hdr) (c : Chip) : Bad :=
  firstBad [d.v.spec.lexBad d.args, must (!d.items.any d.v.reserved) "010D" [], c.accessBad h.sess d.v, c.commonBad h.sess d.v d.sel,
    d.state c d.items, must (!d.v.spec.stage || decide ((c.sess h.sess).staged.length < 8192)) "0501" [], d.v.spec.rangeBad d.args, d.valid c d.items]

/-- A line reaches its verb: the unit has power, the session is in use, the framing is right, and a bulk state takes it (R28, R49–R63, R68). -/
structure LineReaches (s : State) (h : Hdr) (d : LineDef) : Prop where
  powered : s.u.sup.powered = true
  active : (s.u.sess h.sess).active = true
  framed : (s.u.lineArrives h.sess).framing h = none
  bulk : ((s.u.arrived h).sess h.sess).bulk = none ∨ d.v.bulk = true

/-- A line is taken: it reaches its verb and fails no step of R87. -/
structure LineTaken (s : State) (h : Hdr) (d : LineDef) : Prop extends LineReaches s h d where
  good : d.bad h (s.u.arrived h) = none

/-- What an answer makes of the unit: a 09xx code raises COMMAND-HARDWARE (R87), and the session gets its response (R64). -/
def Chip.answered (c : Chip) (h : Hdr) (a : Answer) : Chip :=
  let c1 := c.hardwareFault h.sess a
  if a = .silent then c1 else c1.respond h.sess a

/-- A line is taken, and after it its session has a property. -/
def LineEffect (i : Instr) (s : State) (h : Hdr) (d : LineDef) (P : Chip → Chip → Prop) : Prop :=
  LineTaken s h d → CompletesChip i s (fun u => P (s.u.arrived h) u)

/-- A key of an interactive session: it changes the session's line and what its terminal shows. -/
def Edited (i : Instr) (s : State) (n : Nat) (g : Sess → Sess) : Prop :=
  CompletesChip i s (fun u => ∃ sent, u = s.u.modSess n (fun x => { g x with sent := sent }))

/-- A staging line: one entry with the edits and the level it required joins the staged set, and nothing else changes but the response (R74, R75). -/
def Stages (i : Instr) (s : State) (h : Hdr) (d : LineDef) (P : List Edit → Prop) : Prop :=
  LineEffect i s h d (fun c u => ∃ e : Staged, e.level = d.v.spec.level ∧ P e.edits ∧
    u = (c.modSess h.sess (fun x => { x with staged := x.staged ++ [e] })).respond h.sess (.ok []))

/-- A LOAD line: it opens a bulk load, and nothing else changes but the response (R68). -/
def Loads (i : Instr) (s : State) (h : Hdr) (d : LineDef) (args : Args) (w : LoadWhat) : Prop :=
  LineEffect i s h d (fun c u => ∃ b : Bulk, b.what = w ∧ b.length = (args.int? "LENGTH").getD 0 ∧ b.data = [] ∧ b.discarding = false ∧
    b.last = c.clk.cycle ∧ u = (c.modSess h.sess (fun x => { x with bulk := some b })).respond h.sess (.ok []))

/-! ### Firings -/

/-- The firing at the head of a tile's pipeline holds a legal word of an opcode, in a unit with power (R264, R342). -/
structure Fires (s : State) (tile : Fin 416) (op : Nat) (f : Firing) (rest : List Firing) : Prop where
  powered : s.u.sup.powered = true
  head : (s.u.tile tile).pipe = f :: rest
  opcode : Word.op f.word = op
  legal : wordOk (s.u.image f.tok.fi) f.word = true

/-- The unit once that firing has left the pipeline. -/
def Chip.popped (c : Chip) (tile : Nat) (rest : List Firing) : Chip := c.modTile tile (fun t => { t with pipe := rest })

/-- The unit once that firing has left the pipeline and its operand tokens are consumed (R264). -/
def Chip.fired (c : Chip) (tile : Nat) (f : Firing) (rest : List Firing) : Chip := (c.popped tile rest).consume f

/-- A compute instruction of an opcode: from L and R data it emits one DATA result, for which P holds, to the word's destinations, and counts as R351
says; a VOID or POISON operand is combined and emitted (R270, R352). -/
def Yields (i : Fin 416 → Instr) (op : Nat) (P : Word → Word → Res → Prop) : Prop :=
  ∀ (s : State) (tile : Fin 416) (f : Firing) (rest : List Firing), Fires s tile op f rest →
    (∀ o, combine f.tok.op f.rOpnd = some o → CompletesChip (i tile) s (fun u => u = (s.u.fired tile f rest).emit f o)) ∧
    (combine f.tok.op f.rOpnd = none → ∃ x : Res, P f.tok.op.data f.r.data x ∧
      CompletesChip (i tile) s (fun u =>
        u = ((s.u.fired tile f rest).count f.tok.fi f.copy (fun n => n.addRes x)).emit f ⟨.data, x.data⟩))

/-- A result that counts nothing (R351). -/
def Res.quiet (x : Res) : Prop := x = Res.pure x.data

/-- A result saturated to the n-bit signed range, with one SAT exactly when the exact value lies outside (R358, R359). -/
def Clamped (n : Nat) (i : Int) (x : Res) : Prop :=
  x.data.toInt = max (-(2 ^ (n - 1))) (min (2 ^ (n - 1) - 1) i) ∧
  x = { data := x.data, sat := decide (i < -(2 ^ (n - 1)) ∨ 2 ^ (n - 1) ≤ i) }

/-- An instruction that consumes its operands and emits one operand of its own to the word's destinations. -/
def Emits (i : Fin 416 → Instr) (op : Nat) (g : Chip → Firing → Opnd) : Prop :=
  ∀ (s : State) (tile : Fin 416) (f : Firing) (rest : List Firing), Fires s tile op f rest →
    CompletesChip (i tile) s (fun u => u = (s.u.fired tile f rest).emit f (g (s.u.fired tile f rest) f))

/-- The unit once that firing has left the pipeline and its tile counts its request (R372). -/
def Chip.requested (c : Chip) (tile : Nat) (rest : List Firing) : Chip :=
  (c.popped tile rest).modTile tile (fun t => { t with reqs := t.reqs + 1 })

/-- A firing that makes its request at once: it fires with an operand that is neither VOID nor POISON, its tile has a request place free, and its FI
is not twinned (R235, R372, R379). -/
structure Requesting (s : State) (tile : Fin 416) (op : Nat) (f : Firing) (rest : List Firing) : Prop extends Fires s tile op f rest where
  kind : f.tok.op.kind ≠ .void ∧ f.tok.op.kind ≠ .poison
  place : (s.u.tile tile).reqs < 32
  single : (s.u.fiCfg f.tok.fi).twin = false

/-- The data operand of a store that writes (R379). -/
def Firing.writes (f : Firing) : Prop := f.r.kind ≠ .void ∧ f.r.kind ≠ .poison

/-- The firing's request is answered: one reply with its operand joins those on their way (R377). -/
def Replied (c u : Chip) (f : Firing) (o : Option Opnd) : Prop := u.fab.replies = c.fab.replies ++ [{ firing := f, op := o, entry := none }]

/-- An event record of an ID, instance and detail is handed to the cairn writer (R726, R730). -/
def Recorded (a b : Cairn) (id inst : Nat) (detail : Fields) : Prop := ∃ r : Rec, b = a.hold r ∧ r.id = id ∧ r.inst = inst ∧ r.detail = detail

/-- A fault of a source and instance is raised (R703). -/
def Raised (a b : Collector) (src inst : Nat) : Prop :=
  b.inbound.map (fun r => (r.src, r.inst)) = a.inbound.map (fun r => (r.src, r.inst)) ++ [(src, inst)]

/-- A predicate writer of an opcode: in a live context it makes its predicate present with the value g gives for data operands, 0 for a VOID or POISON
one, and the mirrors follow 24 cycles later; a predicate already present is a fault unless the writer overwrites (R268, R271, R363, R364). -/
def WritesPredicate (i : Fin 416 → Instr) (op : Nat) (overwrites : Bool) (g : Word → Word → Bool) : Prop :=
  ∀ s tile f rest, Fires s tile op f rest →
    let c := s.u.fired tile f rest
    let key := c.ctxOf f.tok f.copy
    let p := Word.dest1 f.word % 8
    let v := decide (combine f.tok.op f.rOpnd = none) && g f.tok.op.data f.r.data
    c.ctxLive f.tok f.copy = true →
      ((c.ctx key).preds.find p = none ∨ overwrites = true → CompletesChip (i tile) s (fun u =>
        (u.ctx key).preds.find p = some v ∧ (∀ q, q ≠ p → (u.ctx key).preds.find q = (c.ctx key).preds.find q) ∧
        (u.ctx key).updates = (c.ctx key).updates ++ [(p, v, c.clk.cycle + 24)] ∧ (u.ctx key).mirror = (c.ctx key).mirror ∧
        u.fab.net = s.u.fab.net)) ∧
      ((c.ctx key).preds.find p ≠ none → overwrites = false → CompletesChip (i tile) s (fun u =>
        u.ctx key = c.ctx key ∧ Raised s.u.coll u.coll 4 f.tok.fi))

/-- A command leaves all but the fabric, the FIs' running state and the faults raised as it was. -/
def FabricAlone (c u : Chip) : Prop := { u with fab := c.fab, fis := c.fis, coll := c.coll } = c

/-- A command leaves all but the clock, the cairn and the faults raised as it was. -/
def ClockAlone (c u : Chip) : Prop := { u with clk := c.clk, cairn := c.cairn, coll := c.coll } = c

/-- A command leaves all but the panel and field inputs and outputs, the clock, the cairn and the faults raised as it was. -/
def PanelAlone (c u : Chip) : Prop := { u with panel := c.panel, clk := c.clk, cairn := c.cairn, coll := c.coll } = c

/-! ### Safe states -/

/-- A state is safe when its addressed memories have their canonical form. -/
def State.Safe (s : State) : Prop := s.mem.wf = true

end Sys2Proof.Machine
end

