-- ==== Sys2Proof/Certificates/Slice0/Obligations.lean ====
section
/-!
DEFINITION. The statements about the unit that the provers are asked for, each with the rules of the spec it formalises.
-/
open Sys2Proof Sys2Proof.Machine

/-! ## The step, the queue and the power -/

/-- A step with a command at the front of the queue is that command's execution on the rest of the queue. -/
def Obligations.StepRunsFront : Prop := ∀ s i rest, s.pending = i :: rest → step s = exec i { s with pending := rest }

/-- R1, R600 and the model's choice of assumption 2: with no command waiting, one cycle of 1 ns passes in a powered unit; the memories, the settings, the
fabric and the panel stay as they are. A unit without power stays as it is. -/
def Obligations.IdleTick : Prop :=
  ∀ s, s.pending = [] →
    (s.u.sup.powered = true → ∃ t, step s = .next t ∧ t.u.clk.cycle = s.u.clk.cycle + 1 ∧ t.mem = s.mem ∧ t.pending = [] ∧ t.u.cfg = s.u.cfg ∧
      t.u.fis = s.u.fis ∧ t.u.fab = s.u.fab ∧ t.u.panel = s.u.panel ∧ t.u.keys = s.u.keys ∧ t.u.coll = s.u.coll) ∧
    (s.u.sup.powered = false → step s = .next s)

/-- R600: with no adjustment due, a cycle adds 1 ns and the rate word's share to the anchor, carried into seconds at 10⁹ ns. -/
def Obligations.AnchorAdvances : Prop :=
  ∀ s, s.pending = [] → s.u.sup.powered = true → s.u.clk.dueNext = [] → s.u.clk.anchor.ns < 10 ^ 9 → s.u.clk.anchor.sub < 2 ^ 48 →
    s.u.clk.anchor.sec < 2 ^ 48 - 1 → s.u.clk.anchor.rate.natAbs ≤ 200000000 →
    ∃ t, step s = .next t ∧ t.u.clk.anchor.ns < 10 ^ 9 ∧ t.u.clk.anchor.rate = s.u.clk.anchor.rate ∧
      (2 ^ 48 * (10 ^ 9 * t.u.clk.anchor.sec + t.u.clk.anchor.ns) + t.u.clk.anchor.sub : Int) =
        2 ^ 48 * (10 ^ 9 * s.u.clk.anchor.sec + s.u.clk.anchor.ns) + s.u.clk.anchor.sub + 2 ^ 48 + Anchor.perCycle s.u.clk.anchor.rate

/-- Every command is executed to a next state: none faults and none is refused, and none changes the commands that wait behind it. -/
def Obligations.AlwaysNext : Prop := ∀ i s, ∃ t, exec i s = .next t ∧ t.pending = s.pending

/-- R164, R764 and the model's choice of assumption 4: a unit without power takes no command but the power-on. -/
def Obligations.UnpoweredIgnores : Prop :=
  ∀ i s, s.u.sup.powered = false → (∀ f, i ≠ .powerOn f) → exec i s = .next s

/-- R403, R406, R410: the addressed memories keep their canonical form in every step, from every state that has it. -/
def Obligations.MemoryKeptCanonical : Prop := ∀ s t, s.Safe → step s = .next t → t.Safe

/-- The memories have their canonical form at reset. -/
def Obligations.ResetSafe : Prop := State.reset.Safe

/-- R365, R376, R380, R406, R414, R420: only memory instructions, the comparator's and the merge buffer's ends, commits, starts and the events of domains,
temperatures, scrubs and repairs change an octet of structure memory or DRAM; every other command leaves every octet as it was. -/
def Obligations.MemoryFrame : Prop :=
  ∀ i s t, exec i s = .next t →
    (match i with
      | .commitEdge _ | .cfgFiApply _ | .cfgForcedApply _ | .deferralRetry | .dstMergeExpiry _ _ | .twinCompare _ _ | .sst _ | .slde _ | .sclr _
      | .dld _ | .dst _ | .powerOn _ | .coldRestart _ | .domainRiseDone _ | .domainFault _ | .sensorRead _ _ | .stackCool _ | .sramScrub _
      | .dramPatrol _ | .poisonClearDone _ => True
      | _ => t.mem = s.mem)

/-- R406, R414, R773, R224, R717: at reset every octet reads zero, every structure word is empty, the unit's granules are its own and the others free, every
function instance is EMPTY, every output is belayed with cause START, no session is in use, and no command waits. -/
def Obligations.ResetState : Prop :=
  (∀ a, cellGet State.reset.mem.sram a = 0 ∧ cellGet State.reset.mem.dram a = 0) ∧ (∀ w, State.reset.mem.present' w = false) ∧
  (∀ g, State.reset.mem.owner g = if g ≥ 15872 then .unit else .free) ∧
  (∀ n, (State.reset.u.fi n).st = .empty) ∧ (∀ o, State.reset.u.belayed o = true) ∧ (∀ n, (State.reset.u.sess n).active = false) ∧
  State.reset.u.sup.powered = false ∧ State.reset.u.clk.anchor = { sec := 0, ns := 0, sub := 0, rate := 0 } ∧ State.reset.pending = []

/-! ## Trevline: the lines -/

/-- R31, R64, R87: a line that reaches its verb and passes every check acts on what it selects, and its session gets the answer. This holds of every
command that stands for a line. -/
def Obligations.LinesAct : Prop :=
  ∀ s i h d, lineOf s i = some (h, d) → LineTaken s h d → let r := d.act (s.u.arrived h) d.items
    CompletesChip i s (fun u => u = r.1.answered h r.2)

/-- R35, R42, R87: a session that is not in use takes no line; a line that fails a check is answered with the first failing step's code, and changes
nothing but its session's record of lines, the clock, and, for a 09xx code, the raise it makes. -/
def Obligations.LinesRefused : Prop :=
  (∀ s i h d, lineOf s i = some (h, d) → s.u.sup.powered = true → (s.u.sess h.sess).active = false → CompletesChip i s (fun u => u = s.u)) ∧
  ∀ s i h d code fs, lineOf s i = some (h, d) → LineReaches s h d →
    (s.u.sess h.sess).waiting = .nothing → d.bad h (s.u.arrived h) = some (code, fs) →
    CompletesChip i s (fun u => u = (s.u.arrived h).answered h (.err code fs) ∧
      (u.sess h.sess).answer = Answer.lines (.err code fs) ∧ u.cfg = s.u.cfg ∧ u.fis = s.u.fis ∧ u.fab = s.u.fab ∧ u.panel = s.u.panel ∧
      u.keys = s.u.keys ∧ u.links = s.u.links ∧ u.sw = s.u.sw ∧ u.codec = s.u.codec ∧ u.belay = s.u.belay)

/-! ## Elvit: compute, compare and bit instructions (08, 09 of spec/) -/

/-- R357, Table 8-11: the integer instructions without saturation or division, in the 64-bit views. -/
def Obligations.IntegerResults : Prop :=
  Yields .add 0x10 (fun l r x => x.data.toNat = (l.toNat + r.toNat) % 2 ^ 64 ∧ x.quiet) ∧
  Yields .sub 0x11 (fun l r x => (x.data.toNat + r.toNat) % 2 ^ 64 = l.toNat ∧ x.quiet) ∧
  Yields .mul 0x12 (fun l r x => x.data.toNat = l.toNat * r.toNat % 2 ^ 64 ∧ x.quiet) ∧
  Yields .mulh 0x13 (fun l r x => x.data.toInt = l.toInt * r.toInt / 2 ^ 64 ∧ x.quiet) ∧
  Yields .mulhu 0x14 (fun l r x => x.data.toNat = l.toNat * r.toNat / 2 ^ 64 ∧ x.quiet) ∧
  Yields .and 0x19 (fun l r x => (∀ k, x.data.getLsbD k = (l.getLsbD k && r.getLsbD k)) ∧ x.quiet) ∧
  Yields .or 0x1A (fun l r x => (∀ k, x.data.getLsbD k = (l.getLsbD k || r.getLsbD k)) ∧ x.quiet) ∧
  Yields .xor 0x1B (fun l r x => (∀ k, x.data.getLsbD k = (l.getLsbD k != r.getLsbD k)) ∧ x.quiet) ∧
  Yields .andn 0x1C (fun l r x => (∀ k, x.data.getLsbD k = (l.getLsbD k && !r.getLsbD k)) ∧ x.quiet) ∧
  Yields .shl 0x1D (fun l r x => x.data.toNat = l.toNat * 2 ^ (r.toNat % 64) % 2 ^ 64 ∧ x.quiet) ∧
  Yields .shr 0x1E (fun l r x => x.data.toNat = l.toNat / 2 ^ (r.toNat % 64) ∧ x.quiet) ∧
  Yields .sar 0x1F (fun l r x => x.data.toInt = l.toInt / 2 ^ (r.toNat % 64) ∧ x.quiet) ∧
  Yields .rol 0x20 (fun l r x => (∀ k, k < 64 → x.data.getLsbD ((k + r.toNat) % 64) = l.getLsbD k) ∧ x.quiet) ∧
  Yields .ror 0x21 (fun l r x => (∀ k, k < 64 → x.data.getLsbD k = l.getLsbD ((k + r.toNat) % 64)) ∧ x.quiet) ∧
  Yields .min 0x22 (fun l r x => x.data.toInt = min l.toInt r.toInt ∧ x.quiet) ∧
  Yields .max 0x23 (fun l r x => x.data.toInt = max l.toInt r.toInt ∧ x.quiet) ∧
  Yields .minu 0x24 (fun l r x => x.data.toNat = min l.toNat r.toNat ∧ x.quiet) ∧
  Yields .maxu 0x25 (fun l r x => x.data.toNat = max l.toNat r.toNat ∧ x.quiet) ∧
  Yields .neg 0x26 (fun l _ x => (x.data.toNat + l.toNat) % 2 ^ 64 = 0 ∧ x.quiet) ∧
  Yields .not 0x27 (fun l _ x => x.data.toNat + l.toNat = 2 ^ 64 - 1 ∧ x.quiet) ∧
  Yields .abs 0x28 (fun l _ x => x.data.toNat = l.toInt.natAbs ∧ x.quiet) ∧
  Yields .sext 0x29 (fun l r x => (∀ k, k < 64 → x.data.getLsbD k = l.getLsbD (min k (r.toNat % 64))) ∧ x.quiet) ∧
  Yields .zext 0x2A (fun l r x => (∀ k, x.data.getLsbD k = (decide (k ≤ r.toNat % 64) && l.getLsbD k)) ∧ x.quiet) ∧
  Yields .extr 0x2B (fun l r x =>
    (∀ k, x.data.getLsbD k = (decide (k < if r.toNat / 64 % 64 = 0 then 64 else r.toNat / 64 % 64) && l.getLsbD (k + r.toNat % 64))) ∧ x.quiet) ∧
  Yields .add32 0x2E (fun l r x => x.data.toInt = Int.bmod (i32 l + i32 r) (2 ^ 32) ∧ x.quiet) ∧
  Yields .sub32 0x2F (fun l r x => x.data.toInt = Int.bmod (i32 l - i32 r) (2 ^ 32) ∧ x.quiet) ∧
  Yields .mul32 0x30 (fun l r x => x.data.toInt = Int.bmod (i32 l * i32 r) (2 ^ 32) ∧ x.quiet)

/-- R358: division by zero with its one DIVZ, the one overflowing quotient, and the saturating sums. -/
def Obligations.DivisionAndSaturation : Prop :=
  Yields .div 0x15 (fun l r x => if r = 0 then x = { data := BitVec.allOnes 64, divz := true } else
    x.data.toInt = (if l.toInt = -(2 ^ 63) ∧ r.toInt = -1 then -(2 ^ 63) else l.toInt.tdiv r.toInt) ∧ x.quiet) ∧
  Yields .divu 0x16 (fun l r x => if r = 0 then x = { data := BitVec.allOnes 64, divz := true } else x.data.toNat = l.toNat / r.toNat ∧ x.quiet) ∧
  Yields .rem 0x17 (fun l r x => if r = 0 then x = { data := l, divz := true } else x.data.toInt = l.toInt.tmod r.toInt ∧ x.quiet) ∧
  Yields .remu 0x18 (fun l r x => if r = 0 then x = { data := l, divz := true } else x.data.toNat = l.toNat % r.toNat ∧ x.quiet) ∧
  Yields .adds 0x2C (fun l r => Clamped 64 (l.toInt + r.toInt)) ∧
  Yields .subs 0x2D (fun l r => Clamped 64 (l.toInt - r.toInt))

/-- R359, Table 8-12: the fixed-point instructions, each with its FORMs, saturated to its view with one SAT, rounding with ties toward +∞. -/
def Obligations.FixedPointResults : Prop :=
  Yields .qadd 0x40 (fun l r => Clamped 32 (i32 l + i32 r)) ∧
  Yields .qsub 0x41 (fun l r => Clamped 32 (i32 l - i32 r)) ∧
  Yields .qmul 0x42 (fun l r => Clamped 32 ((i32 l * i32 r + 2 ^ 30) / 2 ^ 31)) ∧
  Yields .qneg 0x43 (fun l _ => Clamped 32 (-(i32 l))) ∧
  Yields .qabs 0x44 (fun l _ => Clamped 32 (max (i32 l) (-(i32 l)))) ∧
  Yields .qshl 0x45 (fun l r => Clamped 32 (i32 l * 2 ^ (r.toNat % 32))) ∧
  Yields .qshr 0x46 (fun l r =>
    Clamped 32 (if r.toNat % 32 = 0 then i32 l else (i32 l + 2 ^ (r.toNat % 32 - 1)) / 2 ^ (r.toNat % 32))) ∧
  Yields .hadd 0x48 (fun l r => Clamped 16 (i16 l + i16 r)) ∧
  Yields .hsub 0x49 (fun l r => Clamped 16 (i16 l - i16 r)) ∧
  Yields .hmul 0x4A (fun l r => Clamped 16 ((i16 l * i16 r + 2 ^ 14) / 2 ^ 15)) ∧
  Yields .hneg 0x4B (fun l _ => Clamped 16 (-(i16 l))) ∧
  Yields .habs 0x4C (fun l _ => Clamped 16 (max (i16 l) (-(i16 l)))) ∧
  Yields .hshl 0x4D (fun l r => Clamped 16 (i16 l * 2 ^ (r.toNat % 16))) ∧
  Yields .hshr 0x4E (fun l r =>
    Clamped 16 (if r.toNat % 16 = 0 then i16 l else (i16 l + 2 ^ (r.toNat % 16 - 1)) / 2 ^ (r.toNat % 16))) ∧
  Yields .q2h 0x50 (fun l _ => Clamped 16 ((i32 l + 2 ^ 15) / 2 ^ 16)) ∧
  Yields .h2q 0x51 (fun l _ x => x.data.toInt = i16 l * 2 ^ 16 ∧ x.quiet) ∧
  Yields .qmul64 0x52 (fun l r => Clamped 64 (i32 l * i32 r * 2)) ∧
  Yields .qrnd 0x53 (fun l _ => Clamped 32 ((l.toInt + 2 ^ 31) / 2 ^ 32)) ∧
  (∀ op, op ∈ [0x40, 0x41, 0x42, 0x45, 0x46, 0x48, 0x49, 0x4A, 0x4D, 0x4E, 0x52] → opForms op = [0, 2, 3]) ∧
  ∀ op, op ∈ [0x43, 0x44, 0x4B, 0x4C, 0x50, 0x51, 0x53] → opForms op = [1]

/-- R362: a compare instruction permits FORMs 00, 10 and 11, emits DATA 1 when its relation holds and 0 otherwise, and counts nothing. -/
def Obligations.CompareResults : Prop :=
  Yields .ceq 0x90 (fun l r x => x = .pure (if l.toNat = r.toNat then 1 else 0)) ∧
  Yields .cne 0x91 (fun l r x => x = .pure (if l.toNat = r.toNat then 0 else 1)) ∧
  Yields .clt 0x92 (fun l r x => x = .pure (if l.toInt < r.toInt then 1 else 0)) ∧
  Yields .cle 0x93 (fun l r x => x = .pure (if l.toInt ≤ r.toInt then 1 else 0)) ∧
  Yields .cltu 0x94 (fun l r x => x = .pure (if l.toNat < r.toNat then 1 else 0)) ∧
  Yields .cleu 0x95 (fun l r x => x = .pure (if l.toNat ≤ r.toNat then 1 else 0)) ∧
  Yields .ctst 0x96 (fun l r x => x = .pure (if l &&& r = 0 then 0 else 1)) ∧
  ∀ op, 0x90 ≤ op → op ≤ 0x96 → opForms op = [0, 2, 3]

/-- R360, R361, Table 8-13: every floating-point instruction computes its IEEE 754 operation on its two views; FMOV keeps the kind and strips L[63:32]; in
both formats, the operations that give the canonical NaN with one FINV, and a finite value divided by zero. -/
def Obligations.FloatResults : Prop :=
  Yields .fadd 0x60 (fun l r x => x = f32.addV (f32.unpack l) (f32.unpack r)) ∧
  Yields .fsub 0x61 (fun l r x => x = f32.addV (f32.unpack l) (f32.unpack r).neg) ∧
  Yields .fmul 0x62 (fun l r x => x = f32.mulV (f32.unpack l) (f32.unpack r)) ∧
  Yields .fdiv 0x63 (fun l r x => x = f32.divV (f32.unpack l) (f32.unpack r)) ∧
  Yields .fsqrt 0x64 (fun l _ x => x = f32.sqrtV (f32.unpack l)) ∧
  Yields .fmin 0x65 (fun l r x => x = f32.minmax false l r) ∧
  Yields .fmax 0x66 (fun l r x => x = f32.minmax true l r) ∧
  Yields .fneg 0x67 (fun l _ x => (∀ k, x.data.getLsbD k = (decide (k < 32) && (l.getLsbD k != decide (k = 31)))) ∧ x.quiet) ∧
  Yields .fabs 0x68 (fun l _ x => (∀ k, x.data.getLsbD k = (decide (k < 31) && l.getLsbD k)) ∧ x.quiet) ∧
  Emits .fmov 0x69 (fun _ f => (combine f.tok.op none).getD ⟨f.tok.op.kind, BitVec.ofNat 64 (f.tok.op.data.toNat % 2 ^ 32)⟩) ∧
  Yields .fclt 0x6A (fun l r x => x = f32.cmp FVal.lt l r) ∧
  Yields .fcle 0x6B (fun l r x => x = f32.cmp FVal.lev l r) ∧
  Yields .fceq 0x6C (fun l r x => x = f32.cmp FVal.eqv l r) ∧
  Yields .f2i 0x6D (fun l _ x => x = f32.toI64 l) ∧
  Yields .i2f 0x6E (fun l _ x => x = f32.round (l.toInt < 0) l.toInt.natAbs 1) ∧
  Yields .f2q 0x6F (fun l _ x => x = fToQ l) ∧
  Yields .q2f 0x70 (fun l _ x => x = f32.round (i32 l < 0) (i32 l).natAbs (2 ^ 31)) ∧
  Yields .f2d 0x71 (fun l _ x => x = FFmt.convert f32 f64 l) ∧
  Yields .d2f 0x72 (fun l _ x => x = FFmt.convert f64 f32 l) ∧
  Yields .fhypot 0x73 (fun l r x => x = f32.hypotV (f32.unpack l) (f32.unpack r)) ∧
  Yields .dadd 0x80 (fun l r x => x = f64.addV (f64.unpack l) (f64.unpack r)) ∧
  Yields .dsub 0x81 (fun l r x => x = f64.addV (f64.unpack l) (f64.unpack r).neg) ∧
  Yields .dmul 0x82 (fun l r x => x = f64.mulV (f64.unpack l) (f64.unpack r)) ∧
  Yields .ddiv 0x83 (fun l r x => x = f64.divV (f64.unpack l) (f64.unpack r)) ∧
  Yields .dsqrt 0x84 (fun l _ x => x = f64.sqrtV (f64.unpack l)) ∧
  Yields .dmin 0x85 (fun l r x => x = f64.minmax false l r) ∧
  Yields .dmax 0x86 (fun l r x => x = f64.minmax true l r) ∧
  Yields .dneg 0x87 (fun l _ x => (∀ k, x.data.getLsbD k = (decide (k < 64) && (l.getLsbD k != decide (k = 63)))) ∧ x.quiet) ∧
  Yields .dabs 0x88 (fun l _ x => (∀ k, x.data.getLsbD k = (decide (k < 63) && l.getLsbD k)) ∧ x.quiet) ∧
  Yields .dclt 0x89 (fun l r x => x = f64.cmp FVal.lt l r) ∧
  Yields .dcle 0x8A (fun l r x => x = f64.cmp FVal.lev l r) ∧
  Yields .dceq 0x8B (fun l r x => x = f64.cmp FVal.eqv l r) ∧
  Yields .d2i 0x8C (fun l _ x => x = f64.toI64 l) ∧
  Yields .i2d 0x8D (fun l _ x => x = f64.round (l.toInt < 0) l.toInt.natAbs 1) ∧
  f32.nan = 0x7FC00000 ∧ f64.nan = 0x7FF8000000000000 ∧
  ∀ f, f = f32 ∨ f = f64 →
    (∀ x e y, f.mulV (.fin x 0 e) (.inf y) = { data := f.nan, finv := true } ∧ f.mulV (.inf y) (.fin x 0 e) = { data := f.nan, finv := true }) ∧
    (∀ x, f.addV (.inf x) (.inf !x) = { data := f.nan, finv := true }) ∧
    (∀ x y e g, f.divV (.fin x 0 e) (.fin y 0 g) = { data := f.nan, finv := true }) ∧
    (∀ x y, f.divV (.inf x) (.inf y) = { data := f.nan, finv := true }) ∧
    (∀ m e, m ≠ 0 → f.sqrtV (.fin true m e) = { data := f.nan, finv := true }) ∧ f.sqrtV (.inf true) = { data := f.nan, finv := true } ∧
    (∀ x y m e g, m ≠ 0 → f.divV (.fin x m e) (.fin y 0 g) = { data := f.inf (x != y), fdz := true }) ∧
    (∀ b s, f.addV (.nan s) b = { data := f.nan, finv := s || b.isSig } ∧ f.mulV (.nan s) b = { data := f.nan, finv := s || b.isSig } ∧
      f.divV (.nan s) b = { data := f.nan, finv := s || b.isSig } ∧ f.addV b (.nan s) = { data := f.nan, finv := b.isSig || s } ∧
      f.mulV b (.nan s) = { data := f.nan, finv := b.isSig || s } ∧ f.divV b (.nan s) = { data := f.nan, finv := b.isSig || s }) ∧
    (∀ rel l r, (f.unpack l).isNan = true ∨ (f.unpack r).isNan = true → (f.cmp rel l r).data = 0) ∧
    (∀ l, (f.unpack l).isNan = true → f.toI64 l = { data := 0, finv := true }) ∧
    (∀ x b, f.hypotV (.inf x) b = { data := f.inf false, finv := b.isSig } ∧ f.hypotV b (.inf x) = { data := f.inf false, finv := b.isSig })

/-- R360: an exact value n/d is rounded to the nearest value of the format, to the even one of two that are equally near; beyond the largest finite
value the result is an infinity with one FOVF (R361). Values are compared in units of 2^qmin, the least place of the format. -/
def Obligations.FloatRounding : Prop :=
  ∀ f, f = f32 ∨ f = f64 → ∀ neg n d, n ≠ 0 → d ≠ 0 →
    let unit := (-f.qmin).toNat
    let value (m : Nat) (e : Int) : Nat := m * 2 ^ (e - f.qmin).toNat * d
    let dist (m : Nat) (e : Int) : Nat := (value m e - n * 2 ^ unit) + (n * 2 ^ unit - value m e)
    let x := f.round neg n d
    (x.fovf = true → x.data = f.inf neg ∧ ∀ w m e, f.unpack w = .fin neg m e → value m e < n * 2 ^ unit) ∧
    (x.fovf = false → ∃ m e, f.unpack x.data = .fin neg m e ∧ x = .pure x.data ∧
      ∀ w m' e', f.unpack w = .fin neg m' e' →
        dist m e < dist m' e' ∨ (dist m e = dist m' e' ∧ (value m e = value m' e' ∨ m % 2 = 0)))

/-- R387, R388, Tables 9-7 and 9-8: the bit instructions; VOID and POISON combine as in Table 6-9 (R389). -/
def Obligations.BitResults : Prop :=
  Emits .par 0xC3 (fun _ f => (combine f.tok.op f.rOpnd).getD
    ⟨.data, if ((List.range 64).filter (fun k => f.tok.op.data.getLsbD k && ((f.rOpnd.map Opnd.data).getD (BitVec.allOnes 64)).getLsbD k)).length % 2 = 1
      then 1 else 0⟩) ∧
  Yields .brev 0xC4 (fun l r x =>
    (∀ k, x.data.getLsbD k = (let n := if r.toNat % 64 = 0 then 64 else r.toNat % 64; decide (k < n) && l.getLsbD (n - 1 - k))) ∧ x.quiet) ∧
  Yields .popc 0xC5 (fun l _ x => x.data.toNat = ((List.range 64).filter l.getLsbD).length ∧ x.quiet) ∧
  Yields .bswap 0xC6 (fun l _ x => (∀ k, k < 64 → x.data.getLsbD k = l.getLsbD (8 * (7 - k / 8) + k % 8)) ∧ x.quiet) ∧
  Yields .clz 0xC7 (fun l _ x => x.data.toNat ≤ 64 ∧ (∀ k, k < x.data.toNat → l.getLsbD (63 - k) = false) ∧
    (x.data.toNat < 64 → l.getLsbD (63 - x.data.toNat) = true) ∧ x.quiet) ∧
  Yields .ctz 0xC8 (fun l _ x => x.data.toNat ≤ 64 ∧ (∀ k, k < x.data.toNat → l.getLsbD k = false) ∧
    (x.data.toNat < 64 → l.getLsbD x.data.toNat = true) ∧ x.quiet) ∧
  (∀ s tile f rest d, combine f.tok.op f.rOpnd = none → (s.u.image f.tok.fi).desc.crcs[Word.aux f.word]? = some d →
    (Fires s tile 0xC0 f rest → CompletesChip (.crcw tile) s (fun u => u = (s.u.fired tile f rest).emit f
      ⟨.data, BitVec.ofNat 64 ((octets f.r.data).foldl (crcOctet d) (crcReg d f.tok.op.data))⟩)) ∧
    (Fires s tile 0xC1 f rest → CompletesChip (.crcb tile) s (fun u => u = (s.u.fired tile f rest).emit f
      ⟨.data, BitVec.ofNat 64 (crcOctet d (crcReg d f.tok.op.data) (f.r.data.toNat % 256))⟩)) ∧
    (Fires s tile 0xC2 f rest → CompletesChip (.crcf tile) s (fun u => u = (s.u.fired tile f rest).emit f ⟨.data, crcF d f.tok.op.data⟩)))

/-- R388: a step of the CRC register, its start form, and the check values of Table 9-9. -/
def Obligations.CrcRegister : Prop :=
  (∀ d l, l.getLsbD 63 = true → crcReg d l = d.init) ∧ (∀ d l, l.getLsbD 63 = false → crcReg d l = l.toNat % 2 ^ d.width) ∧
  (∀ w poly n reg, crcSteps w poly (n + 1) reg =
    crcSteps w poly n (if Nat.testBit reg (w - 1) then (Nat.xor (2 * reg) poly) % 2 ^ w else 2 * reg % 2 ^ w)) ∧
  (let d : CrcDesc := { used := true, refin := false, refout := false, width := 8, poly := 7, init := 0, xorout := 0 }
   crcF d (BitVec.ofNat 64 ([49, 50, 51, 52, 53, 54, 55, 56, 57].foldl (crcOctet d) d.init)) = 0xF4) ∧
  (let d : CrcDesc := { used := true, refin := true, refout := true, width := 32, poly := 0x04C11DB7, init := 0xFFFFFFFF, xorout := 0xFFFFFFFF }
   crcF d (BitVec.ofNat 64 ([49, 50, 51, 52, 53, 54, 55, 56, 57].foldl (crcOctet d) d.init)) = 0xCBF43926)

/-! ## Elvit: steering, predicates and contexts -/

/-- R353–R356, Table 8-10: the steer and control instructions (that KSET routes VOID and POISON data as they are is the reading of assumption 30). -/
def Obligations.SteerResults : Prop :=
  Emits .mov 0x00 (fun _ f => f.tok.op) ∧
  Emits .gate 0x02 (fun _ f => (controlKind f.r).getD f.tok.op) ∧
  Emits .ktest 0x05 (fun _ f => ⟨.data, match f.tok.op.kind with
    | .data => 0 | .void => 1 | .poison => 2 | .ctrl => 3 | .time => 4 | .rsv5 => 5 | .rsv6 => 6 | .rsv7 => 7⟩) ∧
  Emits .tread 0x06 (fun c f => (controlKind f.tok.op).getD ⟨.time, BitVec.ofNat 64 (2 ^ 30 * (c.clk.anchor.sec % 2 ^ 34) + c.clk.anchor.ns)⟩) ∧
  Emits .lit 0x07 (fun _ f => (controlKind f.tok.op).getD f.r) ∧
  Emits .tqual 0x08 (fun c f => (controlKind f.tok.op).getD ⟨.data, BitVec.ofNat 64 c.quality.toNat⟩) ∧
  (∀ s tile f rest, Fires s tile 0x03 f rest → CompletesChip (.sink tile) s (fun u => u = s.u.fired tile f rest)) ∧
  (∀ s tile f rest, Fires s tile 0x01 f rest →
    (∀ o, controlKind f.r = some o → CompletesChip (.steer tile) s (fun u => u = (s.u.fired tile f rest).emit f o)) ∧
    (controlKind f.r = none → f.r.data.getLsbD 0 = true → CompletesChip (.steer tile) s (fun u =>
      u = (s.u.fired tile f rest).emitTo f [Dest.of24 (Word.dest0 f.word)] f.tok.op f.tok.colour f.tok.epoch f.tok.frame)) ∧
    (controlKind f.r = none → f.r.data.getLsbD 0 = false → CompletesChip (.steer tile) s (fun u =>
      u = (s.u.fired tile f rest).emitTo f (Word.second f.word).toList f.tok.op f.tok.colour f.tok.epoch f.tok.frame))) ∧
  (∀ s tile f rest, Fires s tile 0x04 f rest →
    (∀ o, controlKind f.r = some o → CompletesChip (.kset tile) s (fun u => u = (s.u.fired tile f rest).emit f o)) ∧
    (controlKind f.r = none → (f.tok.op.kind = .void ∨ f.tok.op.kind = .poison) → f.r.data.toNat % 8 < 5 → CompletesChip (.kset tile) s (fun u =>
      u = (s.u.fired tile f rest).emit f f.tok.op)) ∧
    (controlKind f.r = none → f.tok.op.kind ≠ .void → f.tok.op.kind ≠ .poison →
      (f.r.data.toNat % 8 = 0 → CompletesChip (.kset tile) s (fun u => u = (s.u.fired tile f rest).emit f ⟨.data, f.tok.op.data⟩)) ∧
      (f.r.data.toNat % 8 = 1 → CompletesChip (.kset tile) s (fun u => u = (s.u.fired tile f rest).emit f ⟨.void, 0⟩)) ∧
      (f.r.data.toNat % 8 = 2 → CompletesChip (.kset tile) s (fun u =>
        u = (s.u.fired tile f rest).emit f ⟨.poison, BitVec.ofNat 64 (f.tok.op.data.toNat % 4096)⟩)) ∧
      (f.r.data.toNat % 8 = 3 → CompletesChip (.kset tile) s (fun u => u = (s.u.fired tile f rest).emit f ⟨.ctrl, f.tok.op.data⟩)) ∧
      (f.r.data.toNat % 8 = 4 → CompletesChip (.kset tile) s (fun u => u = (s.u.fired tile f rest).emit f ⟨.time, f.tok.op.data⟩))) ∧
    (controlKind f.r = none → 5 ≤ f.r.data.toNat % 8 → CompletesChip (.kset tile) s (fun u =>
      u = ((s.u.fired tile f rest).misbehaves f.tok.fi).raise 3 f.tok.fi (some f.tok.fi) [fNat "KIND" (f.r.data.toNat % 8)])))

/-- R244, R249, R265: MOV's token goes to the tile that its copy's map gives the destination, with the firing's tag fields and L; nothing else enters
the network. -/
def Obligations.TokenSent : Prop :=
  ∀ s tile f rest dst, Fires s tile 0x00 f rest → Word.second f.word = none →
    let d := Dest.of24 (Word.dest0 f.word)
    let cp := s.u.copy f.tok.fi f.copy
    d.vt < (s.u.image f.tok.fi).v → cp.map[d.vt % cp.map.length]? = some dst → cp.mapBad.contains (d.vt % cp.map.length) = false →
    CompletesChip (.mov tile) s (fun u => u.fab.net = s.u.fab.net ++
      [{ src := f.tile, dst := dst, copy := f.copy, startsPeriod := none, chan := none,
         tok := { fi := f.tok.fi, gen := f.tok.gen, epoch := f.tok.epoch, frame := f.tok.frame, vt := d.vt, page := d.page, off := d.off,
                  portR := d.portR, colour := f.tok.colour, op := f.tok.op } }])

/-- R268, R271, R363, R364, Table 8-14: the predicate writers. -/
def Obligations.PredicateWrites : Prop :=
  WritesPredicate .pset 0x98 false (fun l _ => l.getLsbD 0) ∧
  WritesPredicate .psetw 0x99 true (fun l _ => l.getLsbD 0) ∧
  WritesPredicate .peq 0x9A false (fun l r => decide (l = r)) ∧
  WritesPredicate .plt 0x9B false (fun l r => decide (l.toInt < r.toInt)) ∧
  WritesPredicate .pltu 0x9C false (fun l r => decide (l.toNat < r.toNat)) ∧
  WritesPredicate .ptst 0x9D false (fun l r => decide (l &&& r ≠ 0)) ∧
  WritesPredicate .qchk 0x9E false (fun l r => decide (l &&& r = 0))

/-- R254, R258–R260, R310–R312, Table 6-6: the context and iteration instructions. -/
def Obligations.ContextResults : Prop :=
  Emits .cself 0xD1 (fun _ f => (combine f.tok.op none).getD ⟨.data, BitVec.ofNat 64 ((if f.tok.epoch then 2 ^ 15 else 0) + f.tok.frame)⟩) ∧
  (∀ s tile f rest, Fires s tile 0xD2 f rest → let c := s.u.fired tile f rest; let x := c.ctx (ctxKey (c.copy f.tok.fi f.copy).cluster (f.r.data.toNat % 2 ^ 15))
    (f.r.kind = .void → CompletesChip (.cput tile) s (fun u => u = c.emit f ⟨.void, 0⟩)) ∧
    (f.r.kind = .poison → CompletesChip (.cput tile) s (fun u => u = c.emit f ⟨.poison, f.tok.op.data⟩)) ∧
    (controlKind f.r = none → x.st = .free ∨ (x.fi = f.tok.fi ∧ x.copy = f.copy) → CompletesChip (.cput tile) s (fun u =>
      u = c.emitTo f (Word.dests f.word) f.tok.op 0 (f.r.data.getLsbD 15) (f.r.data.toNat % 2 ^ 15))) ∧
    (controlKind f.r = none → x.st ≠ .free → x.fi ≠ f.tok.fi ∨ x.copy ≠ f.copy → CompletesChip (.cput tile) s (fun u => Raised s.u.coll u.coll 2 f.tok.fi))) ∧
  (∀ s tile f rest, Fires s tile 0xD3 f rest → let c := s.u.fired tile f rest
    (c.ctxLive f.tok f.copy = true → CompletesChip (.crel tile) s (fun u => u = (c.releaseCtx (c.ctxOf f.tok f.copy)).afterRelease f.tok.fi)) ∧
    (c.ctxLive f.tok f.copy = false → CompletesChip (.crel tile) s (fun u => u = (c.misbehaves f.tok.fi).raise 128 f.tok.fi (some f.tok.fi)
      [fNat "FRAME" f.tok.frame]))) ∧
  (∀ s tile f rest n, Fires s tile 0xD4 f rest → let c := s.u.fired tile f rest; (c.ctx (c.ctxOf f.tok f.copy)).period = some n →
    CompletesChip (.pdone tile) s (fun u => u.fab.dones = s.u.fab.dones ++ [(f.tok.fi, f.copy, n)])) ∧
  (∀ s tile f rest, Fires s tile 0xD5 f rest → Word.aux f.word / 8 % 4 = 0 → CompletesChip (.inext tile) s (fun u =>
    u = (s.u.fired tile f rest).emitTo f (Word.dests f.word) f.tok.op ((f.tok.colour + 1) % 256) f.tok.epoch f.tok.frame)) ∧
  (∀ s tile f rest, Fires s tile 0xD5 f rest → let l := Word.aux f.word / 32; let c := s.u.popped tile rest; let key := c.ctxOf f.tok f.copy
    Word.aux f.word / 8 % 4 = 1 → (c.ctx key).loops.get 0 l < (c.image f.tok.fi).kloop.getD l 0 → f.grant.credit = false →
    (c.copy f.tok.fi f.copy).credit ≠ 0 → (c.fi f.tok.fi).deepHold = false →
    c.fab.creditQ.any (fun q => q.1 == f.tok.fi && q.2.1 == f.copy) = false →
    CompletesChip (.inext tile) s (fun u =>
      u = ((((c.consume f).modCopy f.tok.fi f.copy (fun p => { p with credit := p.credit - 1 })).modCtx key
          (fun x => { x with loops := x.loops.put 0 l (x.loops.get 0 l + 1) }))).emitTo f (Word.dests f.word) f.tok.op
          ((f.tok.colour + 1) % 256) f.tok.epoch f.tok.frame)) ∧
  (∀ s tile f rest, Fires s tile 0xD5 f rest → let l := Word.aux f.word / 32; let c := s.u.fired tile f rest; let key := c.ctxOf f.tok f.copy
    Word.aux f.word / 8 % 4 = 2 → c.ctxLive f.tok f.copy = true → (c.ctx key).loops.get 0 l ≠ 0 →
    CompletesChip (.inext tile) s (fun u =>
      u = ((c.modCtx key (fun x => { x with loops := x.loops.put 0 l (x.loops.get 0 l - 1) })).modCopy f.tok.fi f.copy
            (fun p => { p with credit := p.credit + 1 })).emitTo f (Word.dests f.word) f.tok.op ((f.tok.colour + 1) % 256) f.tok.epoch f.tok.frame)) ∧
  (∀ s tile f rest, Fires s tile 0xD6 f rest → Word.aux f.word / 8 % 4 = 0 →
    (∀ o, controlKind f.r = some o → CompletesChip (.iset tile) s (fun u => u = (s.u.fired tile f rest).emit f o)) ∧
    (controlKind f.r = none → CompletesChip (.iset tile) s (fun u =>
      u = (s.u.fired tile f rest).emitTo f (Word.dests f.word) f.tok.op (f.r.data.toNat % 256) f.tok.epoch f.tok.frame))) ∧
  (∀ s tile f rest fr, Fires s tile 0xD0 f rest → f.tok.op.kind ≠ .void → f.tok.op.kind ≠ .poison → f.grant.frame = some fr →
    CompletesChip (.cnew tile) s (fun u => let c := s.u.fired tile f rest; let key := ctxKey (c.copy f.tok.fi f.copy).cluster fr
      let p := c.ctx (c.ctxOf f.tok f.copy)
      let c1 := c.modCtx key (fun x => { x with kind := .child, period := p.period, deadline := p.deadline })
      u = c1.emit f ⟨.data, BitVec.ofNat 64 ((if (c1.ctx key).epoch then 2 ^ 15 else 0) + fr)⟩))

/-! ## Elvit: memory, hitch, allocate and output instructions -/

/-- R376–R384, R409, R418, R421, Table 9-5: loads, and the frame words of a firing's own context. The memories' octets stay as they are; SLDE empties
the word it read. -/
def Obligations.LoadResults : Prop :=
  (∀ s tile f rest w, Requesting s tile 0xA0 f rest → CM.splace (s.u, s.mem) f.tok.fi (s.u.ea f) true = .word w → s.mem.present' w = true →
    CompletesChip (.sld tile) s (fun u => Replied s.u u f (some (s.mem.sread w)) ∧ FabricAlone s.u u)) ∧
  (∀ s tile f rest w, Requesting s tile 0xA2 f rest → CM.splace (s.u, s.mem) f.tok.fi (s.u.ea f) false = .word w → s.mem.present' w = true →
    Completes (.slde tile) s (fun t => t.pending = s.pending ∧ Replied s.u t.u f (some (s.mem.sread w)) ∧ FabricAlone s.u t.u ∧
      t.mem.present' w = false ∧ (∀ v, v ≠ w → t.mem.present' v = s.mem.present' v ∧ t.mem.sread v = s.mem.sread v) ∧
      (∀ a, cellGet t.mem.sram a = cellGet s.mem.sram a) ∧ ∀ a, cellGet t.mem.dram a = cellGet s.mem.dram a)) ∧
  (∀ s tile f rest a, Requesting s tile 0xA4 f rest → s.u.dplace f.tok.fi (s.u.ea f) = some a → s.mem.privOwned f.tok.fi a = true →
    Completes (.dld tile) s (fun t => t.pending = s.pending ∧ Replied s.u t.u f (some (s.mem.dread a)) ∧ t.mem = s.mem)) ∧
  (∀ s tile f rest, Fires s tile 0xA6 f rest →
    (∀ o, controlKind f.tok.op = some o → CompletesChip (.kld tile) s (fun u => u = (s.u.fired tile f rest).emit f o)) ∧
    (∀ o, controlKind f.tok.op = none → (s.u.image f.tok.fi).consts[f.tok.op.data.toNat % 256]? = some o →
      CompletesChip (.kld tile) s (fun u => u = (s.u.fired tile f rest).emit f o))) ∧
  Emits .agen 0xA7 (fun c f => (controlKind f.tok.op).getD
    ⟨.data, BitVec.ofNat 64 ((effAddr (c.image f.tok.fi).desc (Word.aux f.word) f.tok.op.data).getD 0)⟩) ∧
  (∀ s tile f rest v, Requesting s tile 0xD7 f rest → s.u.ctxLive f.tok f.copy = true →
    let x := s.u.ctx (s.u.ctxOf f.tok f.copy)
    x.wpoison.contains (f.tok.op.data.toNat % 32) = false → x.words.find (f.tok.op.data.toNat % 32) = some v →
    CompletesChip (.frd tile) s (fun u => Replied s.u u f (some ⟨.data, v⟩) ∧ FabricAlone s.u u))

/-- R379–R384, R420, Table 9-5: stores. SST writes the addressed word and no other octet, and sets its presence; SCLR empties its word; DST joins the
copy's merge entry; FWR writes a frame word. Each is acknowledged. -/
def Obligations.StoreResults : Prop :=
  (∀ s tile f rest w, Requesting s tile 0xA1 f rest → f.writes → s.Safe → CM.splace (s.u, s.mem) f.tok.fi (s.u.ea f) true = .word w →
    (∀ d, d ∈ s.u.fab.defers → d.at? ≠ .sword w ∨ d.retryAt.isSome = true) →
    Completes (.sst tile) s (fun t => t.pending = s.pending ∧ Replied s.u t.u f (some ⟨.data, BitVec.ofNat 64 (s.u.ea f)⟩) ∧ FabricAlone s.u t.u ∧
      t.mem.present' w = true ∧ t.mem.sread w = ⟨.data, f.r.data⟩ ∧ t.Safe ∧
      (∀ a, a < 8 * w ∨ 8 * w + 8 ≤ a → cellGet t.mem.sram a = cellGet s.mem.sram a) ∧
      (∀ v, v ≠ w → t.mem.present' v = s.mem.present' v) ∧ ∀ a, cellGet t.mem.dram a = cellGet s.mem.dram a)) ∧
  (∀ s tile f rest w, Requesting s tile 0xA3 f rest → CM.splace (s.u, s.mem) f.tok.fi (s.u.ea f) false = .word w →
    Completes (.sclr tile) s (fun t => t.pending = s.pending ∧ Replied s.u t.u f (some ⟨.data, BitVec.ofNat 64 (s.u.ea f)⟩) ∧ FabricAlone s.u t.u ∧
      t.mem.present' w = false ∧ (∀ v, v ≠ w → t.mem.present' v = s.mem.present' v) ∧
      (∀ a, cellGet t.mem.sram a = cellGet s.mem.sram a) ∧ ∀ a, cellGet t.mem.dram a = cellGet s.mem.dram a)) ∧
  (∀ s tile f rest a, Requesting s tile 0xA5 f rest → f.writes → s.u.dplace f.tok.fi (s.u.ea f) = some a → s.u.mergeEntry f.tok.fi f.copy = none →
    CompletesChip (.dst tile) s (fun u => FabricAlone s.u u ∧ ∃ e, u.mergeEntry f.tok.fi f.copy = some e ∧ e.line = a / 64 ∧
      e.words = [(a / 8 % 8, f.r.data)] ∧ e.last = s.u.clk.cycle ∧ e.acks = [(f, s.u.ea f)])) ∧
  (∀ s fi k e, s.u.sup.powered = true → s.Safe → s.u.mergeEntry fi.val k.val = some e → s.mem.privOwned e.fi (64 * e.line) = true →
    e.words.length = 8 ∨ s.mem.linePoison e.line = none →
    Completes (.dstMergeExpiry fi k) s (fun t => t.pending = s.pending ∧ t.u.mergeEntry e.fi e.copy = none ∧ t.Safe ∧
      t.mem.dram = e.words.foldl (fun l w => wordPut l (64 * e.line + 8 * w.1) w.2) s.mem.dram ∧ t.mem.sram = s.mem.sram ∧
      t.mem.linePoison e.line = none)) ∧
  (∀ s tile f rest, Requesting s tile 0xD8 f rest → f.writes → s.u.ctxLive f.tok f.copy = true →
    let w := f.tok.op.data.toNat % 32; let key := s.u.ctxOf f.tok f.copy
    (∀ d, d ∈ s.u.fab.defers → d.at? ≠ .fword (key / 32768) (key % 32768) w ∨ d.retryAt.isSome = true) →
    CompletesChip (.fwr tile) s (fun u => (u.ctx key).words.find w = some f.r.data ∧ (u.ctx key).wpoison.contains w = false ∧
      Replied s.u u f (some ⟨.data, BitVec.ofNat 64 w⟩) ∧ FabricAlone s.u u))

/-- R391–R394, R457, R458, R460, Table 9-11: the hitch and allocate instructions. -/
def Obligations.HitchInstructionResults : Prop :=
  (∀ s tile f rest h, Requesting s tile 0xE0 f rest → s.u.hitchOf f.tok.op.data = some h → s.u.hitchRefused f.tok.fi h = false →
    (s.u.hitch h).broken = false → (s.u.hitch h).queue.contains (f.tok.fi + 1) = false →
    ((s.u.hitch h).holder = 0 → CompletesChip (.hwr tile) s (fun u => (u.hitch h).holder = f.tok.fi + 1 ∧ (u.hitch h).queue = (s.u.hitch h).queue ∧
      Replied s.u u f (some f.tok.op) ∧ FabricAlone s.u u)) ∧
    ((s.u.hitch h).holder ≠ 0 → (s.u.hitch h).holder ≠ f.tok.fi + 1 → (s.u.hitch h).queue.length < 32 → h < 256 →
      CompletesChip (.hwr tile) s (fun u => (u.hitch h).holder = (s.u.hitch h).holder ∧ (u.hitch h).queue = (s.u.hitch h).queue ++ [f.tok.fi + 1] ∧
        Replied s.u u f (some f.tok.op) ∧ FabricAlone s.u u))) ∧
  (∀ s tile f rest h, Requesting s tile 0xE1 f rest → s.u.hitchOf f.tok.op.data = some h → (s.u.hitch h).broken = false →
    CompletesChip (.hrd tile) s (fun u => Replied s.u u f (some ⟨.data, (s.u.hitch h).read (f.tok.fi + 1)⟩) ∧ u.fab.hitches = s.u.fab.hitches ∧ FabricAlone s.u u)) ∧
  (∀ s tile f rest h, Requesting s tile 0xE2 f rest → s.u.hitchOf f.tok.op.data = some h → (s.u.hitch h).broken = false →
    ((s.u.hitch h).queue.contains (f.tok.fi + 1) = false → CompletesChip (.hwait tile) s (fun u =>
      Replied s.u u f (some ⟨.data, (s.u.hitch h).read (f.tok.fi + 1)⟩) ∧ u.fab.hitches = s.u.fab.hitches ∧ FabricAlone s.u u)) ∧
    ((s.u.hitch h).queue.contains (f.tok.fi + 1) = true → CompletesChip (.hwait tile) s (fun u =>
      u.fab.hwaits = s.u.fab.hwaits ++ [{ hitch := h, fs := [(f, none)], until? := some (s.u.clk.cycle + (s.u.image f.tok.fi).desc.hwt) }] ∧
      u.fab.replies = s.u.fab.replies ∧ u.fab.hitches = s.u.fab.hitches ∧ FabricAlone s.u u))) ∧
  (∀ s tile f rest h, Requesting s tile 0xE3 f rest → s.u.hitchOf f.tok.op.data = some h → (s.u.hitch h).broken = false →
    (s.u.hitch h).queue.contains (f.tok.fi + 1) = false → CompletesChip (.hpark tile) s (fun u =>
      Replied s.u u f (some ⟨.data, (s.u.hitch h).read (f.tok.fi + 1)⟩) ∧ u.fab.hitches = s.u.fab.hitches ∧ FabricAlone s.u u)) ∧
  (∀ s tile f rest h, Requesting s tile 0xE4 f rest → s.u.hitchOf f.tok.op.data = some h → (s.u.hitch h).broken = false →
    ((s.u.hitch h).holder = f.tok.fi + 1 → (s.u.hitch h).queue = [] → CompletesChip (.hrel tile) s (fun u =>
      (u.hitch h).holder = 0 ∧ Replied s.u u f (some ⟨.data, 1⟩) ∧ FabricAlone s.u u)) ∧
    ((s.u.hitch h).holder ≠ f.tok.fi + 1 → CompletesChip (.hrel tile) s (fun u =>
      u.fab.hitches = s.u.fab.hitches ∧ Replied s.u u f (some ⟨.data, 0⟩) ∧ FabricAlone s.u u ∧ ∃ l, u.coll.inbound = s.u.coll.inbound ++ l ∧
        ∃ r, l.getLast? = some r ∧ r.src = 131 ∧ r.inst = f.tok.fi))) ∧
  (∀ s tile f rest n, Requesting s tile 0xE5 f rest →
    grantable (s.u.cellMin s.u.portOn (32 + f.tok.fi)) (s.u.cellsHeld (32 + f.tok.fi)) s.u.cellsFree (s.u.cellsRsv s.u.portOn) = true →
    n < 16384 → s.u.fab.cells.find n = none → (∀ k, k < n → s.u.fab.cells.find k ≠ none) →
    CompletesChip (.salloc tile) s (fun u => u.fab.cells.find n = some { owner := 32 + f.tok.fi, words := [] } ∧
      (∀ k, k ≠ n → u.fab.cells.find k = s.u.fab.cells.find k) ∧ Replied s.u u f (some ⟨.data, BitVec.ofNat 64 n⟩) ∧ FabricAlone s.u u)) ∧
  (∀ s tile f rest x, Requesting s tile 0xE6 f rest → let n := f.tok.op.data.toNat % 2 ^ 14
    s.u.fab.cells.find n = some x →
    (x.owner = 32 + f.tok.fi → CompletesChip (.sfree tile) s (fun u => u.fab.cells.find n = none ∧ Replied s.u u f (some ⟨.data, 1⟩) ∧ FabricAlone s.u u)) ∧
    (x.owner ≠ 32 + f.tok.fi → CompletesChip (.sfree tile) s (fun u => u.fab.cells = s.u.fab.cells ∧ Replied s.u u f (some ⟨.data, 0⟩) ∧ FabricAlone s.u u ∧
      ∃ l, u.coll.inbound = s.u.coll.inbound ++ l ∧ ∃ r, l.getLast? = some r ∧ r.src = 128 ∧ r.inst = f.tok.fi)))

/-- R336, R348, R351, R387: the steering, compute, compare, predicate and bit instructions, CSELF, CPUT, KLD and AGEN change the fabric, the running state
of FIs and the faults raised, and nothing else: no memory, no setting, no output, no special register. -/
def Obligations.ComputeFrame : Prop :=
  ∀ (s t : State) (tile : Fin 416) (i : Fin 416 → Instr), i ∈ ([.mov, .steer, .gate, .sink, .kset, .ktest, .tread, .lit, .tqual,
      .add, .sub, .mul, .mulh, .mulhu, .div, .divu, .rem, .remu, .and, .or, .xor, .andn, .shl, .shr, .sar, .rol, .ror, .min, .max, .minu, .maxu, .neg,
      .not, .abs, .sext, .zext, .extr, .adds, .subs, .add32, .sub32, .mul32, .qadd, .qsub, .qmul, .qneg, .qabs, .qshl, .qshr, .hadd, .hsub, .hmul,
      .hneg, .habs, .hshl, .hshr, .q2h, .h2q, .qmul64, .qrnd, .fadd, .fsub, .fmul, .fdiv, .fsqrt, .fmin, .fmax, .fneg, .fabs, .fmov, .fclt, .fcle,
      .fceq, .f2i, .i2f, .f2q, .q2f, .f2d, .d2f, .fhypot, .dadd, .dsub, .dmul, .ddiv, .dsqrt, .dmin, .dmax, .dneg, .dabs, .dclt, .dcle, .dceq,
      .d2i, .i2d, .ceq, .cne, .clt, .cle, .cltu, .cleu, .ctst, .pset, .psetw, .peq, .plt, .pltu, .ptst, .qchk, .crcw, .crcb, .crcf, .par, .brev,
      .popc, .bswap, .clz, .ctz, .cself, .cput, .kld, .agen] : List (Fin 416 → Instr)) →
    exec (i tile) s = .next t → FabricAlone s.u t.u ∧ t.mem = s.mem ∧ t.pending = s.pending

/-- R396–R402, Tables 6-9, 9-12: an output instruction consumes its operands and acts at its bound target: the trip output, the publisher's member, the
cairn, the channel, the LED, the display line, the rope; the memories stay as they are. -/
def Obligations.OutputResults : Prop :=
  ∀ s tile f rest, f.tok.op.kind = .data → f.r.kind = .data → (s.u.fiCfg f.tok.fi).twin = false → (s.u.fi f.tok.fi).st.acts = true →
    let fi := f.tok.fi
    let port := f.r.data.toNat % 64
    let c := s.u.fired tile f rest
    let declared (k : OutKind) : Prop := ∃ p, (s.u.image fi).outputs[port]? = some p ∧ p.kind = k
    (∀ n, Fires s tile 0xE8 f rest → declared .trip → (s.u.fiCfg fi).outs.find port = some (.trip n) →
      CompletesChip (.trip tile) s (fun u => u = c.tripToken n fi (f.tok.op.data.getLsbD 0))) ∧
    (∀ p, Fires s tile 0xE9 f rest → declared .pub → (s.u.fiCfg fi).outs.find port = some (.pub p) →
      (f.r.data.getLsbD 16 = false → f.r.data.getLsbD 17 = false → ∀ e, (s.u.pubTempl p).members[f.r.data.toNat / 256 % 256]? = some e →
        CompletesChip (.pub tile) s (fun u => (u.pub p).values = (s.u.pub p).values.set (f.r.data.toNat / 256 % 256) (memberValue e s.u.cfg.time.utcOffset f.tok.op) ∧
          (u.pub p).cell = none)) ∧
      (f.r.data.getLsbD 16 = true → f.r.data.getLsbD 17 = false → ∀ e, (s.u.pubTempl p).members[f.r.data.toNat / 256 % 256]? = some e →
        c.belayed (.pub p) = false → CompletesChip (.pub tile) s (fun u => u = (c.modPub p (fun x =>
          { x with values := x.values.set (f.r.data.toNat / 256 % 256) (memberValue e c.cfg.time.utcOffset f.tok.op), cell := none })).pubSend p false))) ∧
    (∀ n, Fires s tile 0xEA f rest → declared .event → (s.u.fiCfg fi).outs.find port = some (.event n) →
      1000000 ≤ min 64000000 (((c.fi fi).evts.get EvtPort.init n).credit + (s.u.clk.cycle - ((c.fi fi).evts.get EvtPort.init n).at?)) →
      ((c.fi fi).evts.get EvtPort.init n).dropped = 0 →
      CompletesChip (.evt tile) s (fun u => Recorded s.u.cairn u.cairn (0x800 + 2 * fi + n) fi [⟨"DATA", .hex 16 f.tok.op.data.toNat⟩])) ∧
    (∀ n, Fires s tile 0xEB f rest → declared .chan → (s.u.fiCfg fi).outs.find port = some (.chan n) →
      CompletesChip (.chan tile) s (fun u => u = c.chanSend f n)) ∧
    (∀ n, Fires s tile 0xEC f rest → declared .led → (s.u.fiCfg fi).outs.find port = some (.led n) →
      CompletesChip (.led tile) s (fun u => u.led n = f.tok.op.data.toNat % 4 ∧ (∀ m, m ≠ n → u.led m = s.u.led m) ∧ u.panel.trips = s.u.panel.trips)) ∧
    (∀ n, Fires s tile 0xED f rest → declared .display → (s.u.fiCfg fi).outs.find port = some (.display n) → f.r.data.toNat / 256 % 64 < 40 →
      CompletesChip (.disp tile) s (fun u =>
        let count := if f.r.data.toNat / 65536 % 16 = 0 then 8 else min (f.r.data.toNat / 65536 % 16) 8
        u.line n = putChars (s.u.line n) (f.r.data.toNat / 256 % 64) (dispChars count f.tok.op.data).1)) ∧
    (Fires s tile 0xEE f rest → declared .rope → (s.u.fiCfg fi).rope = true → (s.u.fi fi).fallenBack = false → s.u.links.txQueue.length < 512 →
      CompletesChip (.rope tile) s (fun u => u.links.txQueue = s.u.links.txQueue ++ [{ port := port, tok := f.tok }]))

/-- R342: a reserved or corrupt word consumes its operands, emits nothing, raises the instruction-integrity fault and marks its tile for test. -/
def Obligations.ReservedWords : Prop :=
  ∀ s tile f rest corrupt, s.u.sup.powered = true → (s.u.tile tile).pipe = f :: rest →
    (corrupt = true ∨ wordOk (s.u.image f.tok.fi) f.word = false → CompletesChip (.reservedOpcode tile corrupt) s (fun u =>
      u.fab.net = s.u.fab.net ∧ Raised s.u.coll u.coll 0 f.tok.fi ∧ tile.val ∈ u.fab.marks ∧ FabricAlone s.u u)) ∧
    (corrupt = false → wordOk (s.u.image f.tok.fi) f.word = true → CompletesChip (.reservedOpcode tile corrupt) s (fun u => u = s.u))

/-! ## Dataflow: tokens, contexts, pages and the life of function instances -/

/-- R247, R252, R262, R274: a token that arrives is queued at its tile, or is discarded with the fault or count that its flaw calls for. -/
def Obligations.TokenArrives : Prop :=
  ∀ (s : State) x rest, s.u.sup.powered = true → s.u.fab.net = x :: rest → x.chan = none → x.startsPeriod = none →
    s.u.fab.fwd.find? (fun m => m.1 == x.tok.fi && m.2.1 == x.copy && m.2.2.1 == x.dst) = none →
    (x.tok.op.kind.reserved = true → CompletesChip (.tokenQueued 0) s (fun u => u.fab.net = rest ∧ u.fab.tiles = s.u.fab.tiles ∧ Raised s.u.coll u.coll 3 x.tok.fi)) ∧
    (x.tok.op.kind.reserved = false → (s.u.copy x.tok.fi x.copy).map.contains x.dst = false → CompletesChip (.tokenQueued 0) s (fun u =>
      u.fab.net = rest ∧ u.fab.tiles = s.u.fab.tiles ∧ Raised s.u.coll u.coll 1 x.dst ∧ x.dst ∈ u.fab.marks)) ∧
    (x.tok.op.kind.reserved = false → (s.u.copy x.tok.fi x.copy).map.contains x.dst = true →
      x.tok.page < (s.u.image x.tok.fi).pg.getD x.tok.vt 0 → s.u.ctxLive x.tok x.copy = true →
      (s.u.tile x.dst).queued (s.u.fiCfg x.tok.fi).cls < 256 → CompletesChip (.tokenQueued 0) s (fun u => u.fab.net = rest ∧
        (u.tile x.dst).q.get [] (s.u.fiCfg x.tok.fi).cls = (s.u.tile x.dst).q.get [] (s.u.fiCfg x.tok.fi).cls ++
          [{ tok := x.tok, copy := x.copy, partner := none, matched := false, arrival := s.u.fab.nextId, grant := ⟨false, none⟩ }] ∧
        FabricAlone s.u u ∧ u.coll = s.u.coll))

/-- R230, R262, R264, R266, R269: a selected token of a stale generation or a dead context is discarded and counted; a FORM 01 token whose page is
resident goes down the pipeline when its word has no guard or its guard holds, parks as a GUARD entry when its predicate is absent, and is suppressed when
its guard is false. -/
def Obligations.TokenSelected : Prop :=
  ∀ (s : State) (tile : Fin 416) i c, s.u.sup.powered = true → s.u.selectItem tile = some (i, c) →
    let w := c.wordOf i.tok
    let p := c.ctx (c.ctxOf i.tok i.copy)
    (i.tok.gen ≠ (c.fi i.tok.fi).gen → CompletesChip (.tokenSelect tile) s (fun u =>
      u = (c.dropItem i).count i.tok.fi i.copy (fun n => { n with stalegen := sat32 n.stalegen }))) ∧
    (i.tok.gen = (c.fi i.tok.fi).gen → c.ctxLive i.tok i.copy = false → CompletesChip (.tokenSelect tile) s (fun u =>
      u = (c.dropItem i).count i.tok.fi i.copy (fun n => { n with orphans := sat32 n.orphans }))) ∧
    (i.tok.gen = (c.fi i.tok.fi).gen → c.ctxLive i.tok i.copy = true → i.matched = false → Word.form w = 1 → i.tok.portR = false →
      (c.tile tile).pages.any (fun q => q.fi == i.tok.fi && q.copy == i.copy && q.vt == i.tok.vt && q.page == i.tok.page) = true →
      (Word.ge w = false ∨ p.mirror.find (Word.gp w) = some (!Word.gs w) → CompletesChip (.tokenSelect tile) s (fun u =>
        (u.tile tile).pipe = (c.tile tile).pipe ++
          [{ tile := tile, copy := i.copy, tok := i.tok, r := i.partner.getD Opnd.void, word := w, grant := i.grant }] ∧ FabricAlone c u)) ∧
      (Word.ge w = true → p.mirror.find (Word.gp w) = some (Word.gs w) → CompletesChip (.tokenSelect tile) s (fun u =>
        (u.tile tile).pipe = (c.tile tile).pipe ∧ FabricAlone c u)))

/-- R268, R269, R312, R377, R382–R385: a predicate reaches every mirror in the order of its writes, 24 cycles after its write; what waits in a matching store is woken: a guarded firing by its predicate, a frame-word operand by its word, a source
firing by a credit or a frame, a deferred read by its retry, a request by its reply. -/
def Obligations.EntriesWoken : Prop :=
  (∀ (s : State) (cluster : Fin 8) (frame : Fin 32768) p v due rest, s.u.sup.powered = true →
    (s.u.ctx (32768 * cluster.val + frame.val)).updates = (p, v, due) :: rest →
    CompletesChip (.predicateMirrorUpdate cluster frame) s (fun u => let x := u.ctx (32768 * cluster.val + frame.val); let y := s.u.ctx (32768 * cluster.val + frame.val)
      x.mirror.find p = some v ∧ (∀ q, q ≠ p → x.mirror.find q = y.mirror.find q) ∧ x.updates = rest ∧ x.preds = y.preds ∧
      u.clk.cycle = max s.u.clk.cycle due)) ∧
  (∀ (s : State) (tile : Fin 416) e, s.u.sup.powered = true → (s.u.tile tile).store.find? (fun e => e.typ == .guard &&
      ((s.u.ctx (s.u.ctxOf e.item.tok e.item.copy)).mirror.find (Word.gp (s.u.wordOf e.item.tok))).isSome) = some e →
    CompletesChip (.guardRequeue tile) s (fun u => u = s.u.requeueEntry tile e.id (fun i => i))) ∧
  (∀ (s : State) (tile : Fin 416) e w v, s.u.sup.powered = true → (s.u.tile tile).store = [e] → e.wait = .frameWord w →
    (s.u.ctx (s.u.ctxOf e.item.tok e.item.copy)).words.find w = some v →
    CompletesChip (.frameWordRelease tile) s (fun u => (u.tile tile).store = [] ∧
      (u.tile tile).q.get [] (s.u.fiCfg e.item.tok.fi).cls = (s.u.tile tile).q.get [] (s.u.fiCfg e.item.tok.fi).cls ++ [e.item])) ∧
  (∀ (s : State) (fi : Fin 1024) (k : Fin 2) r e, s.u.sup.powered = true → (s.u.copy fi k).credit ≠ 0 → (s.u.fi fi).deepHold = false →
    s.u.fab.creditQ.find? (fun r => r.1 == fi.val && r.2.1 == k.val) = some r → (s.u.tile r.2.2.1).store.find? (fun e => e.id == r.2.2.2) = some e →
    Word.op (s.u.wordOf e.item.tok) ≠ 0xD5 → Word.op (s.u.wordOf e.item.tok) ≠ 0xD0 →
    CompletesChip (.creditGrant fi k) s (fun u =>
      u = ((s.u.fab' (fun f => { f with creditQ := f.creditQ.filter (fun q => q != r) })).modCopy fi k (fun p => { p with credit := p.credit - 1 })).requeueEntry
        r.2.2.1 r.2.2.2 (fun i => { i with grant := ⟨true, none⟩ }))) ∧
  (∀ (s : State) (cluster : Fin 8) tile id rest e fr, s.u.sup.powered = true → (s.u.framePool cluster).waiting = (tile, id) :: rest →
    (s.u.tile tile).store.find? (fun e => e.id == id) = some e → (s.u.fi e.item.tok.fi).deepHold = false → s.u.allocFrame e.item.tok.fi e.item.copy = some fr →
    CompletesChip (.frameGrant cluster) s (fun u =>
      u = ((s.u.modPool cluster (fun p => { p with waiting := rest })).openCtx e.item.tok.fi e.item.copy fr .child none none).requeueEntry tile id
        (fun i => { i with grant := { i.grant with frame := some fr } }))) ∧
  (∀ (s : State) n r, s.u.sup.powered = true → s.u.fab.replies[n]? = some r → r.op = none →
    CompletesChip (.memoryReply n) s (fun u => u.fab.replies = s.u.fab.replies.eraseIdx n ∧
      (u.tile r.firing.tile).reqs = (s.u.tile r.firing.tile).reqs - 1 ∧ u.fab.net = s.u.fab.net ∧ FabricAlone s.u u)) ∧
  (∀ (s : State) d w, s.u.sup.powered = true → s.u.fab.defers.find? (fun d => d.retryAt.isSome) = some d → d.at? = .sword w → s.mem.present' w = true →
    d.empties = false → Completes .deferralRetry s (fun t => t.mem = s.mem ∧ t.pending = s.pending ∧ t.u.fab.defers = s.u.fab.defers.erase d ∧
      t.u.fab.replies = s.u.fab.replies ++ d.fs.map (fun x => { firing := x.1, op := some (s.mem.sread w), entry := some x.2 })))

/-- R296–R304: the deep store makes its spill writes and answers its lookups in the order of their requests; a bucket without the key answers a miss. -/
def Obligations.DeepStore : Prop :=
  (∀ (s : State) (fi : Fin 1024) i tile rest, s.u.sup.powered = true → (s.u.deep fi).reqs = (false, i, tile) :: rest →
    CompletesChip (.deepSpillWrite fi) s (fun u => (u.deep fi).reqs = rest ∧ (u.deep fi).pages = (s.u.deep fi).pages ∧ u.fab.tiles = s.u.fab.tiles)) ∧
  (∀ (s : State) (fi : Fin 1024) i tile rest, s.u.sup.powered = true → (s.u.deep fi).reqs = (true, i, tile) :: rest → (s.u.deep fi).home = [] →
    (s.u.deep fi).overflow = [] → (s.u.tile tile).fill.any (fun j => j.arrival == i.arrival) = false →
    CompletesChip (.deepLookupReply fi) s (fun u => (u.deep fi).reqs = rest ∧ u.fab.net = s.u.fab.net))

/-- R428–R433: a page fetch ends with its page resident, or with the fault of a poisoned page; a slot without room asks again; a shared page that has not
been used for 10 µs returns; a poisoned page is fetched again once the steward has rewritten it. -/
def Obligations.PageFetches : Prop :=
  (∀ (s : State) (tile : Fin 416) f, s.u.sup.powered = true → (s.u.tile tile).fetches = [f] → f.retryAt = none → f.bad = false → (s.u.tile tile).pageWait = [] →
    CompletesChip (.pageInstall tile true) s (fun u => (u.tile tile).fetches = [] ∧ (u.tile tile).pages = (s.u.tile tile).pages ++
      [{ fi := f.fi, copy := f.copy, vt := f.vt, page := f.page, shared := f.shared, lastUse := s.u.clk.cycle }]) ∧
    CompletesChip (.pageInstall tile false) s (fun u => (u.tile tile).fetches = [{ f with bad := true }] ∧ (u.tile tile).pages = (s.u.tile tile).pages ∧
      Raised s.u.coll u.coll 0x045 f.fi)) ∧
  (∀ (s : State) (tile : Fin 416) f due, s.u.sup.powered = true → (s.u.tile tile).fetches = [f] → f.retryAt = some due →
    CompletesChip (.pageRetry tile) s (fun u => u = ((s.u.advanceTo due).modTile tile (fun t => { t with fetches := [] })).startFetch tile f.fi f.copy f.vt f.page)) ∧
  (∀ (s : State) (tile : Fin 416) p, s.u.sup.powered = true → (s.u.tile tile).pages = [p] → p.shared = true → (s.u.tile tile).pipe = [] →
    CompletesChip (.sharedPageReturn tile) s (fun u => (u.tile tile).pages = [] ∧ u.clk.cycle = max s.u.clk.cycle (p.lastUse + 10000))) ∧
  (∀ (s : State) (tile : Fin 416), s.u.sup.powered = true → CompletesChip (.pageBackingRewrite tile) s (fun u =>
    (u.tile tile).fetches = (s.u.tile tile).fetches.map (fun f => { f with bad := false }) ∧ (u.tile tile).pages = (s.u.tile tile).pages))

/-- R259, R324, R325: a purge sweep removes the released contexts' entries of its tile and acknowledges; when every tile has acknowledged and no token is
live, the frame is free again in the next epoch. -/
def Obligations.Purges : Prop :=
  (∀ (s : State) (tile : Fin 416), s.u.sup.powered = true → (s.u.fab.ctxs.filter (fun e => e.2.st == .purging && e.2.sweeps.contains tile)).length ≤ 16 →
    CompletesChip (.purgeSweep tile) s (fun u => FabricAlone s.u u ∧
      ∀ e, e ∈ (u.tile tile).store → e ∈ (s.u.tile tile).store ∧ (s.u.purged e.item.tok e.item.copy = false ∨
        (s.u.ctx (s.u.ctxOf e.item.tok e.item.copy)).sweeps.contains tile = false))) ∧
  (∀ (s : State) (cluster : Fin 8) (frame : Fin 32768), s.u.sup.powered = true → let key := 32768 * cluster.val + frame.val; let x := s.u.ctx key
    x.st = .purging → x.sweeps = [] → x.scan = false → x.live = 0 →
    CompletesChip (.purgeComplete cluster frame) s (fun u => u.ctx key = { Ctx.init with epoch := x.epoch } ∧ FabricAlone s.u u))

/-- R117, R210, R216, R217, R227–R231, R319–R323: the watches of a function instance and the end of its drains. -/
def Obligations.InstanceWatches : Prop :=
  (∀ (s : State) (fi : Fin 1024), s.u.sup.powered = true → (s.u.fiCfg fi).period = .timer → (s.u.fi fi).st.active = true →
    (∀ c2, ((s.u.advanceTo ((s.u.fi fi).armedAt + ((s.u.fi fi).ticks + 1) * (s.u.fiCfg fi).tick.getD 0)).modFi fi (fun x => { x with ticks := (s.u.fi fi).ticks + 1 })).takePeriod
        fi ((s.u.fi fi).ticks + 1) = .got c2 → ∀ p, c2.tickPort fi = some p →
      CompletesChip (.timerTick fi) s (fun u => u = c2.deliverPeriod fi ((s.u.fi fi).ticks + 1)
        [{ port := p, idx := 0, op := ⟨.ctrl, BitVec.ofNat 64 ((s.u.fi fi).ticks + 1)⟩, start := true }]))) ∧
  (∀ (s : State) (fi k pid : Nat) rest, s.u.sup.powered = true → s.u.fab.dones = (fi, k, pid) :: rest → (s.u.fiCfg fi).cls ≠ 0 →
    CompletesChip .periodDoneArrive s (fun u => u.fab.dones = rest ∧ (u.fi fi).pdones = min 4294967295 ((s.u.fi fi).pdones + 1))) ∧
  (∀ (s : State) (fi : Fin 1024) p, s.u.sup.powered = true → (s.u.fi fi).opens = [p] → p.onWatch = true → (s.u.fi fi).st.active = true →
    CompletesChip (.deadlineOverrun fi) s (fun u => (u.fi fi).overruns = min 4294967295 ((s.u.fi fi).overruns + 1) ∧ (u.fi fi).aliveFail = true ∧
      u.clk.cycle = max s.u.clk.cycle (p.deadline.getD 0 + 1))) ∧
  (∀ (s : State) (fi : Fin 1024) sub, s.u.sup.powered = true → (s.u.fiCfg fi).psrc = some sub → (s.u.fiCfg fi).period = .sv → (s.u.fi fi).st = .running →
    (s.u.fi fi).sourceLost = false → CompletesChip (.sourceLoss fi) s (fun u => (u.fi fi).sourceLost = true ∧ Raised s.u.coll u.coll 14 fi ∧
      (u.fi fi).st = .running)) ∧
  (∀ (s : State) (fi : Fin 1024) (k : Fin 2), s.u.sup.powered = true → k.val < s.u.nCopies fi → s.u.pendingTokens fi k ≠ 0 → (s.u.fi fi).st.active = true →
    CompletesChip (.stallDetect fi k) s (fun u => Raised s.u.coll u.coll 11 (2 * fi.val + k.val) ∧
      u.clk.cycle = max s.u.clk.cycle ((s.u.copy fi k).lastFire + (s.u.fiCfg fi).stall))) ∧
  (∀ (s : State) (fi : Fin 1024), s.u.sup.powered = true → (s.u.fi fi).st = .draining → (s.u.openCtxs fi).isEmpty = false →
    CompletesChip (.drainPurge fi) s (fun u => (∀ key, key ∈ s.u.openCtxs fi → (u.ctx key).st ≠ .live) ∧ (u.fi fi).st = .draining ∧
      ∃ due n, u.clk.cycle = max s.u.clk.cycle due ∧ Recorded (s.u.advanceTo due).cairn u.cairn 0x0A1 fi [fFi fi, fNat "ORPHANS" n])) ∧
  (∀ (s : State) (fi : Fin 1024), s.u.sup.powered = true → (s.u.fi fi).st = .draining → (s.u.openCtxs fi).isEmpty = true → (s.u.fi fi).rearm = false →
    s.u.tripsOf fi = [] → CompletesChip (.drainComplete fi) s (fun u => u = s.u.stopped fi "DRAIN")) ∧
  (∀ (s : State) (fi : Fin 1024), s.u.sup.powered = true → (s.u.fi fi).rearm = true → (s.u.fi fi).st = .stopped → s.u.targetLive fi = 0 →
    CompletesChip (.rearmComplete fi) s (fun u => u = s.u.armFi fi "REARM"))

/-- R235–R237, R460, R469: the comparator of a twinned instance, the stalled hitch read, and broken hitches. -/
def Obligations.TwinsAndHitches : Prop :=
  (∀ (s : State) (fi : Fin 1024) key st x xs y ys, s.u.sup.powered = true → s.u.fab.twins.find? (fun z => z.fi == fi.val && z.key == key) = some st →
    st.a = x :: xs → st.b = y :: ys →
    (sameAction x.firing y.firing = false → CompletesChip (.twinCompare fi key) s (fun u => Raised s.u.coll u.coll 15 fi ∧
      u.clk.cycle = max s.u.clk.cycle (max x.at? y.at? + 2) ∧ u.panel = s.u.panel ∧ u.fab.replies = s.u.fab.replies)) ∧
    (sameAction x.firing y.firing = true → xs = [] → ys = [] → Completes (.twinCompare fi key) s (fun t => t.pending = s.pending ∧
      (t.u, t.mem) = performOp (Word.op x.firing.word) [x.firing, y.firing] ((s.u.advanceTo (max x.at? y.at? + 2)).fab' (fun g =>
        { g with twins := g.twins.filter (fun z => !(z.fi == fi.val && z.key == key)) }), s.mem)))) ∧
  (∀ (s : State) (fi : Fin 1024) key st x xs, s.u.sup.powered = true → s.u.fab.twins.find? (fun z => z.fi == fi.val && z.key == key) = some st →
    st.a = x :: xs → st.b = [] → (s.u.ctx (s.u.ctxOf x.firing.tok x.firing.copy)).deadline = none →
    CompletesChip (.twinPartnerTimeout fi key) s (fun u => Raised s.u.coll u.coll 15 fi ∧ u.clk.cycle = max s.u.clk.cycle (x.at? + 10000))) ∧
  (∀ (s : State) (fi : Fin 1024) w due, s.u.sup.powered = true → s.u.fab.hwaits = [w] → w.until? = some due → w.fs.any (fun f => f.1.tok.fi == fi.val) = true →
    CompletesChip (.hwaitTimeout fi) s (fun u => u.fab.hwaits = [] ∧ (u.hitch w.hitch).queue = (s.u.hitch w.hitch).queue.filter (· != fi.val + 1) ∧
      (u.hitch w.hitch).holder = (s.u.hitch w.hitch).holder ∧
      u.fab.replies = s.u.fab.replies ++ w.fs.map (fun x => { firing := x.1, op := some ⟨.data, (u.hitch w.hitch).read (fi.val + 1)⟩, entry := x.2 }))) ∧
  (∀ (s : State) h, s.u.sup.powered = true → (s.u.hitch h).broken = false →
    CompletesChip (.hitchBroken h) s (fun u => (u.hitch h).broken = true ∧ (u.hitch h).holder = 0 ∧ (u.hitch h).queue = [] ∧
      (132, h) ∈ u.coll.inbound.map (fun r => (r.src, r.inst)) ∧ (∀ w, w ∈ u.fab.hwaits → w.hitch ≠ h) ∧
      ((s.u.hitch h).holder ≠ 0 →
        Recorded s.u.cairn u.cairn 0x0A4 h [fNat "HITCH" h, ⟨"MASTER", .hex 3 (s.u.hitch h).holder⟩, fSym "CAUSE" "BROKEN"]))) ∧
  (∀ (s : State) h, s.u.sup.powered = true → h < 16 → (s.u.hitch h).broken = true →
    CompletesChip (.hitchRestore h) s (fun u => (u.hitch h).broken = false ∧ (u.hitch h).holder = (s.u.hitch h).holder))

/-! ## Trevline: sessions and their lines -/

/-- R48–R50, R34, R41: the keys of an interactive session edit the line being typed, and nothing else. -/
def Obligations.LineEditing : Prop :=
  ∀ (s : State) (n : Fin 16), s.u.sup.powered = true → (s.u.sess n).active = true → (s.u.sess n).script = false →
    let x := s.u.sess n
    Edited (.eraseChar n) s n (fun x => { x with line := x.line.dropLast }) ∧
    Edited (.eraseLine n) s n (fun x => { x with line := [], rejected := false }) ∧
    (∀ a j w k, x.line = a ++ List.replicate j ' ' ++ w ++ List.replicate k ' ' → w ≠ [] → (∀ ch, ch ∈ w → ch ≠ ' ') → a.getLast? ≠ some ' ' →
      (j = 0 → a = []) → Edited (.eraseWord n) s n (fun x => { x with line := a })) ∧
    Edited (.ctrlC n) s n (fun x => { x with line := [], rejected := false, tooLong := false, histAt := 0 }) ∧
    (∀ t, x.history[x.histAt]? = some t →
      Edited (.historyPrevious n) s n (fun x => { x with line := t, rejected := false, tooLong := false, histAt := x.histAt + 1 })) ∧
    (∀ t k, x.histAt = k + 2 → x.history[k]? = some t →
      Edited (.historyNext n) s n (fun x => { x with line := t, rejected := false, tooLong := false, histAt := k + 1 })) ∧
    Edited (.rejectedControlChar n) s n (fun x => { x with rejected := true }) ∧
    (∀ ch : Char, 32 ≤ ch.toNat → ch.toNat ≤ 126 → x.tooLong = false → x.waiting = .nothing →
      (x.line.length < 1024 → Edited (.acceptedCharacter n ch) s n (fun x => { x with line := x.line ++ [ch], inputHeld := 0 })) ∧
      (1024 ≤ x.line.length → Edited (.acceptedCharacter n ch) s n (fun x => { x with line := [], tooLong := true, inputHeld := 0 }))) ∧
    (∀ ch : Char, 32 ≤ ch.toNat → ch.toNat ≤ 126 → x.waiting ≠ .nothing → 8192 ≤ x.inputHeld →
      CompletesChip (.acceptedCharacter n ch) s (fun u => u = s.u.modSess n (fun x => { x with overrun := x.overrun + 1 })))

/-- R33, R34, R41, R49, R58, R66: an empty line gets no response; a line too long or malformed gets one error and changes no setting; a replayed script
line gets its stored response; what was discarded is reported once there is room. -/
def Obligations.LinesNotExecuted : Prop :=
  (∀ (s : State) (n : Fin 16), s.u.sup.powered = true → (s.u.sess n).active = true → (s.u.sess n).waiting = .nothing →
    let x := s.u.sess n
    ((x.rejected = false ∨ x.script = true) → CompletesChip (.emptyLine n) s (fun u => (u.sess n).line = [] ∧ (u.sess n).answer = x.answer ∧
      (u.sess n).history = x.history ∧ (u.sess n).lastLine = s.u.clk.cycle + 1 ∧ u.clk.cycle = s.u.clk.cycle + 1 ∧ u.cfg = s.u.cfg)) ∧
    (x.rejected = true → x.script = false → CompletesChip (.emptyLine n) s (fun u => (u.sess n).line = [] ∧ (u.sess n).rejected = false ∧
      (u.sess n).answer = [.err "0101" []] ∧ (u.sess n).history = x.history)) ∧
    (∀ num, CompletesChip (.longLine n num) s (fun u => (u.sess n).answer = [.err "0102" []] ∧ (u.sess n).history = x.history ∧
      (u.sess n).staged = x.staged ∧ u.cfg = s.u.cfg)) ∧
    (∀ k, x.overrun = k + 1 → x.queue.length < 256 → CompletesChip (.overrunReport n) s (fun u =>
      u = s.u.modSess n (fun x => { x with overrun := 0, inputHeld := 0, queue := x.queue ++ [.async "OVERRUN" [fNat "COUNT" (k + 1)]] }))) ∧
    (∀ k, x.lost = k + 1 → x.queue.length < 256 → CompletesChip (.lostReport n) s (fun u =>
      u = s.u.modSess n (fun x => { x with lost := 0, queue := x.queue ++ [.async "LOST" [fNat "COUNT" (k + 1)]] })))) ∧
  (∀ (s : State) h code, s.u.sup.powered = true → (s.u.sess h.sess).active = true → (s.u.sess h.sess).waiting = .nothing →
    (s.u.lineArrives h.sess).framing h = none → lexCode (s.u.sess h.sess).script h.text = some code →
    CompletesChip (.malformedLine h) s (fun u => (u.sess h.sess).staged = (s.u.sess h.sess).staged ∧ u.cfg = s.u.cfg ∧ u.fis = s.u.fis ∧
      (u.sess h.sess).answer = [.err (if (s.u.sess h.sess).bulk.isSome then "010F" else code) []])) ∧
  (∀ (s : State) h n e, s.u.sup.powered = true → let x := s.u.sess h.sess
    x.active = true → x.waiting = .nothing → x.script = true → h.num = some n → h.crc = crc16 h.text → x.store.find? (fun e => e.num == n) = some e →
    e.crc = h.crc → (e.resp.filter (fun l => match l with | .data _ => true | _ => false)).length ≤ 256 → h.text.length + 12 ≤ 1024 →
    CompletesChip (.scriptLineReplay h) s (fun u => let y := u.sess h.sess
      y.answer = e.resp ∧ y.answerNum = some n ∧ y.store = x.store ∧ y.lastNum = x.lastNum ∧ y.staged = x.staged ∧ u.cfg = s.u.cfg))

/-- R35, R40, R42, R44, R46, R668, R683: how sessions begin and end, the idle limit, and the end of a login lock. -/
def Obligations.SessionLife : Prop :=
  (∀ s : State, s.u.sup.powered = true → s.u.unit.started = true → (s.u.sess 1).active = false →
    CompletesChip .usbDtrAssert s (fun u => (u.sess 1).active = true ∧ (u.sess 1).level = some 0 ∧ (u.sess 1).script = false ∧ (u.sess 1).txn = false ∧
      Recorded s.u.cairn u.cairn (Config.openEvent 0) 1 [fNat "SESSION" 1, fSym "STATE" "START", fSym "CAUSE" "USB"])) ∧
  (∀ s : State, s.u.sup.powered = true → (s.u.sess 1).active = true → CompletesChip .usbDetach s (fun u => u.sess 1 = Sess.init)) ∧
  (∀ (s : State) cause, s.u.sup.powered = true → s.u.unit.started = true →
    CompletesChip (.tlsHandshake false cause) s (fun u => u.trev = s.u.trev ∧ Recorded s.u.cairn u.cairn 254 0 [fSym "CAUSE" cause])) ∧
  (∀ (s : State) cause t, s.u.sup.powered = true → s.u.unit.started = true → 2 ≤ t → t < 16 → (s.u.sess t).active = false →
    (∀ m, 2 ≤ m → m < t → (s.u.sess m).active = true) →
    CompletesChip (.tlsHandshake true cause) s (fun u => (u.sess t).active = true ∧ (u.sess t).level = none ∧ (u.sess t).script = false)) ∧
  (∀ (s : State) cause, s.u.sup.powered = true → s.u.unit.started = true → (∀ m, 2 ≤ m → m < 16 → (s.u.sess m).active = true) →
    CompletesChip (.tlsHandshake true cause) s (fun u => u = s.u)) ∧
  (∀ (s : State) (conn : Fin 14) cause, s.u.sup.powered = true → (s.u.sess (2 + conn)).active = true →
    CompletesChip (.tcpClose conn cause) s (fun u => u.sess (2 + conn) = Sess.init)) ∧
  (∀ (s : State) (n : Fin 16), s.u.sup.powered = true → (s.u.sess n).active = true → (s.u.sess n).warned = false → (s.u.sess n).queue.length < 256 →
    CompletesChip (.sessionIdleWarning n) s (fun u => (u.sess n).warned = true ∧
      (u.sess n).queue = (s.u.sess n).queue ++ [.async "SESSION" [fWord "IDLE", ⟨"LEFT", .dur 60000000000⟩]] ∧
      u.clk.cycle = max s.u.clk.cycle ((s.u.sess n).lastLine + (s.u.idleLimit n - 60000000000)))) ∧
  (∀ (s : State) (n : Fin 16), s.u.sup.powered = true → (s.u.sess n).active = true →
    (n.val ≠ 0 ∨ s.u.unit.open0 = false → CompletesChip (.sessionIdleTimeout n) s (fun u => u.sess n = Sess.init)) ∧
    (n.val = 0 → s.u.unit.open0 = true → CompletesChip (.sessionIdleTimeout n) s (fun u =>
      (u.sess 0).active = true ∧ (u.sess 0).level = some 0 ∧ (u.sess 0).user = none ∧ (u.sess 0).txn = false ∧ (u.sess 0).bulk = none))) ∧
  (∀ (s : State) (k : Fin 3), s.u.sup.powered = true → s.u.trev.locks.get 0 k ≠ 0 →
    CompletesChip (.loginLockExpiry k) s (fun u => u.trev.locks.get 0 k = 0 ∧ u.clk.cycle = max s.u.clk.cycle (s.u.trev.locks.get 0 k) ∧
      u.trev.sess = s.u.trev.sess))

/-- R69–R73: a record at the due offset joins the load; another is answered 010E once and the records after it are discarded; 30 s without a record
cancel the load. -/
def Obligations.BulkRecords : Prop :=
  ∀ (s : State) (n : Fin 16) b, s.u.sup.powered = true → (s.u.sess n).active = true → (s.u.sess n).waiting = .nothing → (s.u.sess n).bulk = some b →
    (∀ t l, parseRecord t = some (b.data.length, l) → CompletesChip (.bulkRecord n t) s (fun u =>
      (u.sess n).bulk = some { b with data := b.data ++ l, discarding := false, last := s.u.clk.cycle + 1 } ∧ (u.sess n).answer = (s.u.sess n).answer)) ∧
    (∀ t, (∀ l, parseRecord t ≠ some (b.data.length, l)) → CompletesChip (.bulkRecord n t) s (fun u =>
      (u.sess n).bulk = some { b with discarding := true, last := s.u.clk.cycle + 1 } ∧
      (u.sess n).answer = if b.discarding = true then (s.u.sess n).answer else [.err "010E" [⟨"NEXT", .hex 8 b.data.length⟩]])) ∧
    ((s.u.sess n).queue.length < 256 → CompletesChip (.loadIdleCancel n) s (fun u => (u.sess n).bulk = none ∧ (u.sess n).staged = (s.u.sess n).staged ∧
      (u.sess n).queue = (s.u.sess n).queue ++ [.async "LOAD" [fWord "CANCELLED", fSym "CAUSE" "IDLE"]] ∧
      u.clk.cycle = max s.u.clk.cycle (30000000000 + b.last)))

/-- R45, R53, R54, R663–R666, R71, R74, R76, R80, R86: the lines that change the session: its mode, its level, its transaction and its load. -/
def Obligations.SessionLines : Prop :=
  (∀ s h word args, LineEffect (.modeLine h word args) s h (modeDef h word args) (fun c u => let x := c.sess h.sess; let y := u.sess h.sess
    y.script = word.getD x.script ∧ y.echo = (args.on? "ECHO").getD x.echo ∧ y.wait = (args.int? "WAIT").getD x.wait ∧ y.answer = [.ok] ∧
    y.level = x.level ∧ u.cfg = c.cfg)) ∧
  (∀ s h args, s.u.trev.locks.get 0 (carrierOf h.sess) = 0 → levelArg args ≤ carrierMax h.sess →
    LineEffect (.loginUser h args) s h (loginUserDef h args) (fun c u =>
      (∃ k, (u.sess h.sess).challenge = some k ∧ k.user = (args.str? "USER").getD [] ∧ k.level = levelArg args ∧ k.answered = false ∧ k.at? = c.clk.cycle) ∧
      (u.sess h.sess).level = (c.sess h.sess).level)) ∧
  (∀ s h args k, s.u.trev.locks.get 0 (carrierOf h.sess) = 0 → let c := s.u.arrived h
    let ans := (((args.str? "ANSWER").bind parseGroups).getD []).flatMap (numOctets 4)
    (c.sess h.sess).challenge = some k → k.answered = false → c.clk.cycle ≤ k.at? + 30000000000 →
    (c.modSess h.sess (fun x => { x with challenge := some { k with answered := true } })).needsEngine k = false →
    (c.credentialBad h.sess k ans = none → k.level ≤ ((c.cfg.users.find? (fun a => a.user == k.user)).map Account.level).getD 0 →
      LineEffect (.loginAnswer h args) s h (loginAnswerDef h args) (fun _ u =>
        (u.sess h.sess).level = some k.level ∧ (u.sess h.sess).user = some k.user ∧ (u.sess h.sess).present = false)) ∧
    (∀ cause, c.credentialBad h.sess k ans = some cause →
      LineEffect (.loginAnswer h args) s h (loginAnswerDef h args) (fun c u =>
        (u.sess h.sess).level = (c.sess h.sess).level ∧ (u.sess h.sess).answer = [.err "0801" []]))) ∧
  (∀ s h args, s.u.trev.locks.get 0 (carrierOf h.sess) = 0 → h.sess < 2 → (s.u.arrived h).present = true →
    LineEffect (.loginPresence h args) s h (loginPresenceDef h args) (fun _ u =>
      (u.sess h.sess).level = some (levelArg args) ∧ (u.sess h.sess).user = none ∧ (u.sess h.sess).present = true)) ∧
  (∀ s h, (h.sess ≥ 2 → LineEffect (.logoutLine h) s h (logoutDef h) (fun _ u => (u.sess h.sess).active = false ∧ (u.sess h.sess).answer = [.ok])) ∧
    (h.sess = 1 ∨ (h.sess = 0 ∧ s.u.unit.open0 = true) → LineEffect (.logoutLine h) s h (logoutDef h) (fun _ u => (u.sess h.sess).active = true ∧
      (u.sess h.sess).level = some 0 ∧ (u.sess h.sess).user = none ∧ (u.sess h.sess).txn = false ∧ (u.sess h.sess).answer = [.ok]))) ∧
  (∀ s h, LineEffect (.beginTxn h) s h (beginDef h) (fun c u =>
    u = (c.modSess h.sess (fun x => { x with txn := true, staged := [], loaded := 0 })).respond h.sess (.ok []))) ∧
  (∀ s h, LineEffect (.abortLine h) s h (abortDef h) (fun c u =>
    u = (c.modSess h.sess (fun x => { x with txn := false, staged := [], loaded := 0 })).respond h.sess (.ok []))) ∧
  (∀ s h args g pl, let c := s.u.arrived h
    (c.hitch 0).broken = false → (c.hitch 0).holder = 0 → (c.hitch 0).queue = [] → c.trev.commit = none → args.int? "IF" = none →
    (c.modHitch 0 (fun x => { x with holder := masterSess h.sess })).validate (c.sess h.sess).staged = .ok (g, pl) →
    LineEffect (.commitLine h args) s h (commitCommandDef h args) (fun c u => u.trev.commitNum = (c.trev.commitNum + 1) % 4294967296 ∧
      (∃ k, u.trev.commit = some k ∧ k.cfg = g ∧ k.session = h.sess ∧ k.edge = none ∧ k.number = u.trev.commitNum) ∧
      (u.hitch 0).holder = masterSess h.sess ∧ (u.sess h.sess).answer = [.ok] ∧ u.cfg = c.cfg)) ∧
  (∀ s h args, let c := s.u.arrived h
    (c.hitch 0).broken = false → (c.hitch 0).holder ≠ 0 → (c.hitch 0).holder ≠ masterSess h.sess → (c.hitch 0).queue = [] →
    LineEffect (.commitLine h args) s h (commitCommandDef h args) (fun c u =>
      (u.sess h.sess).waiting = .commit (args.int? "IF") (c.clk.cycle + (c.sess h.sess).wait) ∧ (u.hitch 0).queue = [masterSess h.sess] ∧
      (u.hitch 0).holder = (c.hitch 0).holder ∧ u.trev.commitNum = c.trev.commitNum ∧ u.cfg = c.cfg)) ∧
  (∀ s h flashOk b, ((s.u.arrived h).sess h.sess).bulk = some b →
    (b.data.length ≠ b.length → LineEffect (.endLoad h flashOk) s h (endLoadDef h flashOk) (fun c u =>
      u = (c.modSess h.sess (fun x => { x with bulk := none })).respond h.sess (.err "0701" []))) ∧
    (∀ n t, b.data.length = b.length → b.what = .sub n → parseDTempl b.data = .ok t →
      LineEffect (.endLoad h flashOk) s h (endLoadDef h flashOk) (fun c u => let x := c.sess h.sess; let y := u.sess h.sess
        y.bulk = none ∧ y.staged = x.staged ++ [{ edits := [.loadSub n t], level := b.level, extra := [] }] ∧ y.loaded = x.loaded + b.length ∧
        y.answer = [.data [fNat "LENGTH" b.length], .data [⟨"SHA256", .raw 64 (Config.sha256 b.data)⟩], .ok] ∧ u.cfg = c.cfg))) ∧
  (∀ s h, LineEffect (.endCancel h) s h (endCancelDef h) (fun c u =>
    u = (c.modSess h.sess (fun x => { x with bulk := none })).respond h.sess (.ok [])))

/-- R74–R76, R92, R100–R151: a SET, ADD or DELETE line stages its settings as one entry at the end of the session's staged set, with the level it
required, and changes nothing else: no setting takes effect before a commit. -/
def Obligations.StagingLines : Prop :=
  (∀ s h args, Stages (.setUnit h args) s h (setUnitDef h args) (fun es => ∃ fs, es = [.unit fs] ∧ ∀ n, args.get? "BAUD" = some (.int n) → .baud n.toNat ∈ fs)) ∧
  (∀ s h args, Stages (.addUnit h args) s h (addUnitDef h args) (fun es =>
    es = [.addUser { user := (args.str? "USER").getD [], level := levelOf ((args.kw? "LEVEL").getD "VIEW"), slot := (args.int? "KEYSLOT").getD 0 }])) ∧
  (∀ s h args, Stages (.deleteUnit h args) s h (deleteUnitDef h args) (fun es => es = [.delUser ((args.str? "USER").getD [])])) ∧
  (∀ s h sel args, Stages (.setFi h sel args) s h (setFiDef h sel args) (fun es => ∃ fs, es = (sel.members 1024).map (fun n => .fi n fs) ∧
    (∀ n, args.get? "TILES" = some (.int n) → .tiles n.toNat ∈ fs) ∧ (∀ n, args.get? "BW" = some (.int n) → .bw n.toNat ∈ fs))) ∧
  (∀ s h sel args p, (args.has "IN" = true → args.int? "IN" = some p → Stages (.addFi h sel args) s h (addFiDef h sel args) (fun es =>
      es = (sel.members 1024).map (fun n => .addIn n p (sourceOf ((args.kw? "FROM").getD "ALIVE"))))) ∧
    (args.has "IN" = false → args.int? "OUT" = some p → Stages (.addFi h sel args) s h (addFiDef h sel args) (fun es =>
      es = (sel.members 1024).map (fun n => .addOut n p (targetOf ((args.kw? "TO").getD "")))))) ∧
  (∀ s h sel args, Stages (.deleteFi h sel args) s h (deleteFiDef h sel args) (fun es => (args = [] → es = (sel.members 1024).map .delFi) ∧
    (∀ p, args.int? "IN" = some p → es = (sel.members 1024).map (fun n => .delIn n p)))) ∧
  (∀ s h args, Stages (.setRepair h args) s h (setRepairDef h args) (fun es => es = [.repair (args.on? "TRAVERSE") (args.int? "INTERVAL")])) ∧
  (∀ s h sel args, Stages (.setDomain h sel args) s h (setDomainDef h sel args) (fun es =>
    es = (sel.members 24).map (fun n => .domain n ((args.on? "STATE").getD true)))) ∧
  (∀ s h sel args, Stages (.setLane h sel args) s h (setLaneDef h sel args) (fun es => ∃ m f, es = (sel.members 16).map (fun n => .lane n m f) ∧
    (args.get? "MODE" = some (.kw "OFF") → m = some .off) ∧ (args.get? "FEC" = some (.kw "RS") → f = some .rs))) ∧
  (∀ s h sel args, Stages (.setPort h sel args) s h (setPortDef h sel args) (fun es => ∃ fs, es = (sel.members 18).map (fun n => .port n fs) ∧
    (∀ n, args.get? "PVID" = some (.int n) → .pvid n.toNat ∈ fs))) ∧
  (∀ s h args, Stages (.addTable h args) s h (addTableDef h args) (fun es => args.kw? "KIND" = some "MAC" →
    es = [.addMac (macArg args "MAC") ((args.int? "VLAN").getD 0) ((args.list? "PORTS").getD []) (args.int? "GEN")])) ∧
  (∀ s h args, Stages (.deleteTable h args) s h (deleteTableDef h args) (fun es => args.kw? "KIND" = some "MAC" →
    es = [.delMac (macArg args "MAC") ((args.int? "VLAN").getD 0) (args.int? "GEN")])) ∧
  (∀ s h args, Stages (.setTable h args) s h (setTableDef h args) (fun es => es = [.age ((args.int? "AGE").getD 0 / 1000000000)])) ∧
  (∀ s h sel args, Stages (.addSub h sel args) s h (addSubDef h sel args) (fun es => ∃ x, es = (sel.members 4096).map (fun n => .addSub n x) ∧
    x.template = (args.int? "TEMPLATE").getD 0 ∧ x.typ = typeArg args ∧ x.ports = (args.list? "PORTS").getD [])) ∧
  (∀ s h sel args, Stages (.addPub h sel args) s h (addPubDef h sel args) (fun es => ∃ x, es = (sel.members 1024).map (fun n => .addPub n x) ∧
    x.template = (args.int? "TEMPLATE").getD 0 ∧ x.min = (args.int? "MIN").getD 2000000 ∧ x.max = (args.int? "MAX").getD 1000000000 ∧
    x.prio = (args.int? "PRIO").getD 4)) ∧
  (∀ s h sel args, Stages (.deleteSub h sel args) s h (deleteSubDef h sel args) (fun es => es = (sel.members 4096).map .delSub)) ∧
  (∀ s h sel args, Stages (.deletePub h sel args) s h (deletePubDef h sel args) (fun es => es = (sel.members 1024).map .delPub)) ∧
  (∀ s h args, Stages (.setTime h args) s h (setTimeDef h args) (fun es => ∃ fs, es = [.time fs] ∧
    (∀ n, args.get? "UTCOFFSET" = some (.int n) → .utcOffset n.toNat ∈ fs))) ∧
  (∀ s h args, Stages (.setHitch h args) s h (setHitchDef h args) (fun es =>
    es = [.group ((args.int? "GROUP").getD 1) (args.list? "FIS") ((args.kw? "LEVEL").map levelOf)])) ∧
  (∀ s h args, Stages (.addHitch h args) s h (addHitchDef h args) (fun es =>
    es = [.addRegion ((args.int? "REGION").getD 0) ((args.int? "BASE").getD 0) ((args.int? "LENGTH").getD 0)])) ∧
  (∀ s h args, Stages (.deleteHitch h args) s h (deleteHitchDef h args) (fun es => es = [.delRegion ((args.int? "REGION").getD 0)])) ∧
  (∀ s h args, Stages (.setPanel h args) s h (setPanelDef h args) (fun es =>
    (∀ n, args.int? "DEBOUNCE" = some n → args.has "TOUCH" = false → args.has "LED" = false → es = [.debounce n]))) ∧
  (∀ s h sel args, Stages (.setTrip h sel args) s h (setTripDef h sel args) (fun es =>
    es = (sel.members 16).map (fun n => .trip n (args.int? "MINPULSE") (args.on? "SUPERVISE") ((args.get? "PLUG").bind orNone)))) ∧
  (∀ s h sel args, Stages (.setInput h sel args) s h (setInputDef h sel args) (fun es =>
    es = (sel.members 16).map (fun n => .input n (args.int? "VNOM") (args.int? "FILTER") ((args.get? "INVERT").bind onArg)))) ∧
  (∀ s h sel args, Stages (.setFault h sel args) s h (setFaultDef h sel args) (fun es => args.get? "CLASS" = some (.kw "DEGRADED") →
    es = (sel.members 1024).map (fun n => .faultCls n .degraded)))

/-- R68, R81, R100, R106, R115, R131, R140: a LOAD line puts its session into the bulk state for the octets it names. -/
def Obligations.LoadLines : Prop :=
  (∀ s h args, Loads (.loadImage h args) s h (loadImageDef h args) args (.image (!(args.kw? "KIND" == some "STEWARD")) (args.kw? "BANK" == some "B"))) ∧
  (∀ s h sel args, Loads (.loadFi h sel args) s h (loadFiDef h sel args) args (.fi (sel.members 1024))) ∧
  (∀ s h args, Loads (.loadTable h args) s h (loadTableDef h args) args (.table (args.kw? "KIND" == some "LPM6"))) ∧
  (∀ s h args, Loads (.loadSub h args) s h (loadSubDef h args) args (.sub ((args.int? "TEMPLATE").getD 0))) ∧
  (∀ s h args, Loads (.loadPub h args) s h (loadPubDef h args) args (.pub ((args.int? "TEMPLATE").getD 0))) ∧
  (∀ s h sel args, ∃ alg use fi a b, Loads (.loadKeyslot h sel args) s h (loadKeyDef h sel args) args (.key (sel.members 4096) alg use fi a b) ∧
    (args.get? "ALG" = some (.kw "HMAC256") → alg = .hmac256) ∧ (args.get? "FI" = some (.kw "ANY") → fi = none))

/-- R91, R92, R99, R154, R155, R471, R628, R786: a SHOW line, DUMP TABLE and READ REG change nothing but the session's response: the settings, the FIs,
the fabric, the outputs and the registers stay; a line of items answers one line for each, in their order. -/
def Obligations.ShowLines : Prop :=
  (∀ s i h d, lineOf s i = some (h, d) →
    (match i with
      | .showUnit .. | .showImage .. | .showLife .. | .showFi .. | .showTile .. | .showRepair .. | .showDomain .. | .showLane .. | .showPort .. | .showSub ..
      | .showPub .. | .showTime .. | .showKeyslot .. | .showHitch .. | .showPanel .. | .showTrip .. | .showInput .. | .showEvent .. | .showFault .. | .showLog .. => True
      | .dumpTable .. => (s.u.arrived h).domOn 16 = true
      | _ => False) → LineEffect i s h d (fun c u => ∃ free data, u = ({ c with free := free } : Chip).respond h.sess (.ok data))) ∧
  (∀ s i h d obj, lineOf s i = some (h, d) →
    (match i with
      | .showTile .. => obj = "TILE" | .showDomain .. => obj = "DOMAIN" | .showLane .. => obj = "LANE" | .showSub .. => obj = "SUB" | .showPub .. => obj = "PUB"
      | .showKeyslot .. => obj = "KEYSLOT" | .showHitch .. => obj = "HITCH" | .showTrip .. => obj = "TRIP" | .showInput .. => obj = "INPUT"
      | .showFault .. => obj = "FAULT" | _ => False) →
    LineEffect i s h d (fun _ u => ∃ data, (u.sess h.sess).answer = Answer.lines (.ok data) ∧ data.map (fun l => l.take 2) = d.items.map (itemHead obj))) ∧
  (∀ s h args wins v r, args.get? "ADDR" = some (.hex v) → args.has "COUNT" = false → (s.u.arrived h).reg v = some r → r.kind ≠ .win → r.dom = none →
    LineEffect (.readReg h args wins) s h (readRegDef h args wins) (fun c u => ∃ free, u = ({ c with free := free } : Chip).respond h.sess
      (.ok [[fWord "REG", ⟨"", addrVal v⟩, ⟨"", .hex 8 r.val⟩]]))) ∧
  (∀ s h (cage : Fin 4) (word : Fin 64) (v : BitVec 32), LineEffect (.cageWindowRead h cage word (some v)) s h (readWindowDef h cage word (some v.toNat)) (fun c u =>
    ∃ free, u = ({ c with free := free } : Chip).respond h.sess
      (.ok [[fWord "REG", ⟨"", addrVal (0x40E000 + 256 * cage + 4 * word)⟩, ⟨"", .hex 8 v.toNat⟩]])))

/-- R116–R118, R123, R145, R147, R148, R153, R158, R175, R229, R242, R458, R472, R507: the lines that act at once on FIs, command points, hitches, trips, the
display, routing, fault sources and counters. -/
def Obligations.ActionLines : Prop :=
  (∀ s h sel n, (armDef h sel).items = [n] → let c := s.u.arrived h
    c.armRoom n = true → (c.fi n).st = .admitted ∨ (c.fi n).st = .stopped → c.targetLive n = 0 →
    LineEffect (.armFi h sel) s h (armDef h sel) (fun c u => (u.fi n).st = .armed ∧ (u.fi n).gen = ((c.fi n).gen + 1) % 8 ∧ (u.fi n).intent = true ∧
      (u.fi n).periods = 0 ∧ u.cfg = c.cfg)) ∧
  (∀ s h sel n, (armDef h sel).items = [n] → (s.u.arrived h).armRoom n = false →
    LineEffect (.armFi h sel) s h (armDef h sel) (fun c u => u = c.respond h.sess (.err "0704" []))) ∧
  (∀ s h sel n, (stopDef h sel).items = [n] → ((s.u.arrived h).fi n).st.active = true →
    LineEffect (.stopFi h sel) s h (stopDef h sel) (fun c u => (u.fi n).st = .draining ∧ (u.fi n).intent = false ∧ (u.fi n).rearm = false ∧ u.cfg = c.cfg)) ∧
  (∀ s h sel n, (clearPoisonDef s.mem h sel).items = [n] → CM.poisonedLines (s.u.arrived h, s.mem) n ≠ [] →
    LineEffect (.clearFiPoison h sel) s h (clearPoisonDef s.mem h sel) (fun c u => u.mctl.marked.find n = some (CM.poisonedLines (c, s.mem) n) ∧
      (u.sess h.sess).answer = [.data (itemHead "FI" n ++ [fNat "POISONED" (CM.poisonedLines (c, s.mem) n).length]), .ok])) ∧
  (∀ s h sel n, (clearCountsDef h sel).items = [n] → LineEffect (.clearFiCounts h sel) s h (clearCountsDef h sel) (fun c u =>
    (u.fi n).misbehave = 0 ∧ (∀ k, (c.copy n k).cnt ≠ Cnt.init → (u.copy n k).cnt = Cnt.init) ∧ ∀ m, m ≠ n → u.fi m = c.fi m)) ∧
  (∀ s h sel args n p v x, (selectDef h sel args).items = [n] → args.get? "POINT" = some (.int p) → (args.get? "VALUE").bind (kwIn valueNames) = some v →
    let c := s.u.arrived h
    c.pointOf n p.toNat = some x → (c.hitch x.hitch).broken = false →
    ((c.hitch x.hitch).holder = 0 → LineEffect (.selectFi h sel args) s h (selectDef h sel args) (fun c u => (u.hitch x.hitch).holder = masterSess h.sess ∧
      (u.sess h.sess).sels = (c.sess h.sess).sels ++ [{ fi := n, point := p.toNat, hitch := x.hitch, value := v, until? := c.clk.cycle + x.window }] ∧
      u.fis = c.fis)) ∧
    ((c.hitch x.hitch).holder ≠ 0 → LineEffect (.selectFi h sel args) s h (selectDef h sel args) (fun c u =>
      u = c.respond h.sess (.err "0407" [fMaster "HOLDER" (c.hitch x.hitch).holder])))) ∧
  (∀ s h sel args n p e, args.get? "POINT" = some (.int p) → let c := s.u.arrived h
    c.pointBroken n p.toNat = false → c.selOf h.sess n p.toNat = some e → c.clk.cycle < e.until? → (c.hitch e.hitch).holder = masterSess h.sess →
    (c.hitch e.hitch).queue = [] →
    ((executeDef h sel args).items = [n] → (c.fi n).st.active = true → LineEffect (.executeFi h sel args) s h (executeDef h sel args) (fun c u =>
      (u.sess h.sess).sels = (c.sess h.sess).sels.filter (· != e) ∧ (u.hitch e.hitch).holder = 0 ∧ (u.sess h.sess).answer = [.ok])) ∧
    ((cancelDef h sel args).items = [n] → LineEffect (.cancelFi h sel args) s h (cancelDef h sel args) (fun c u =>
      (u.sess h.sess).sels = (c.sess h.sess).sels.filter (· != e) ∧ (u.hitch e.hitch).holder = 0 ∧ u.fis = c.fis ∧ (u.sess h.sess).answer = [.ok]))) ∧
  (∀ s h sel n, (clearPortDef h sel).items = [n] → LineEffect (.clearPort h sel) s h (clearPortDef h sel) (fun c u =>
    u.port n = PortCnt.init ∧ ∀ m, m ≠ n → u.port m = c.port m)) ∧
  (∀ s h sel args n, (takeDef h sel args).items = [n] → let c := s.u.arrived h
    (c.hitch n).broken = false →
    ((c.hitch n).holder = 0 → LineEffect (.takeHitch h sel args) s h (takeDef h sel args) (fun _ u => (u.hitch n).holder = masterSess h.sess ∧
      (u.sess h.sess).answer = [.data [fWord "HITCH", fNum n, fYes "HELD" true], .ok])) ∧
    (∀ w, (c.hitch n).holder ≠ 0 → (c.hitch n).queue = [] → args.int? "WAIT" = some (w + 1) →
      LineEffect (.takeHitch h sel args) s h (takeDef h sel args) (fun c u => (u.hitch n).holder = (c.hitch n).holder ∧ (u.hitch n).queue = [masterSess h.sess] ∧
        (u.sess h.sess).waiting = .take n (w + 1) (c.clk.cycle + (w + 1)) [] []))) ∧
  (∀ s h sel n, (releaseDef h sel).items = [n] → let c := s.u.arrived h
    (c.hitch n).broken = false →
    ((c.hitch n).holder = masterSess h.sess → (c.hitch n).queue = [] → LineEffect (.releaseHitch h sel) s h (releaseDef h sel) (fun _ u =>
      (u.hitch n).holder = 0 ∧ (u.sess h.sess).answer = [.ok] ∧ ∀ e, e ∈ (u.sess h.sess).sels → e.hitch ≠ n)) ∧
    ((c.hitch n).holder ≠ masterSess h.sess → LineEffect (.releaseHitch h sel) s h (releaseDef h sel) (fun c u =>
      u.fab = c.fab ∧ Raised c.coll u.coll 131 n ∧ (u.sess h.sess).answer = [.err "0401" []]))) ∧
  (∀ s h args r t, args.get? "LINE" = some (.int r) → args.get? "TEXT" = some (.str t) →
    LineEffect (.writePanel h args) s h (writePanelDef h args) (fun c u => u.line r.toNat = (t ++ List.replicate 40 ' ').take 40 ∧
      (∀ m, m ≠ r.toNat → u.line m = c.line m) ∧ u.panel.leds = c.panel.leds ∧
      Recorded c.cairn u.cairn 256 r.toNat [fNat "LINE" r.toNat, fNat "SESSION" h.sess])) ∧
  (∀ s h sel args n, (testTripDef h sel args).items = [n] → ((s.u.arrived h).trip n).drive = .off → ((s.u.arrived h).trip n).latched = false →
    LineEffect (.testTrip h sel args) s h (testTripDef h sel args) (fun c u => (u.trip n).drive = .test ∧
      (u.trip n).testEnd = c.clk.cycle + (args.int? "PULSE").getD 100000000 ∧ (u.trip n).pulses = (c.trip n).pulses + 1 ∧
      ∀ m, m ≠ n → u.trip m = c.trip m)) ∧
  (∀ s h sel args n b, (notifyFaultDef h sel args).items = [n] → n < 1024 → args.on? "STATE" = some b →
    LineEffect (.notifyFault h sel args) s h (notifyFaultDef h sel args) (fun c u => (u.sess h.sess).faults = (c.sess h.sess).faults.set n b ∧
      (u.sess h.sess).events = (c.sess h.sess).events ∧ u.cfg = c.cfg)) ∧
  (∀ s h sel args n, (notifyEventDef h sel args).items = [n] → faultOf n = none →
    (args.on? "STATE" = some true → LineEffect (.notifyEvent h sel args) s h (notifyEventDef h sel args) (fun _ u => n ∈ (u.sess h.sess).events)) ∧
    (args.on? "STATE" = some false → LineEffect (.notifyEvent h sel args) s h (notifyEventDef h sel args) (fun _ u => n ∉ (u.sess h.sess).events))) ∧
  (∀ s h sel n r, (clearFaultDef h sel).items = [n] → srcRow n = some r → LineEffect (.clearFault h sel) s h (clearFaultDef h sel) (fun c u =>
    (u.src n).count = 0 ∧ (u.src n).latched = false ∧ (∀ m, m ≠ n → u.src m = c.src m) ∧ (∀ k, n = 336 + k → k < 16 → (u.trip k).latched = false) ∧
    Recorded c.cairn u.cairn 276 n [fNat "SRC" n, fNat "SESSION" h.sess]))

/-- R89, R90, R99, R106–R111, R119, R120, R138, R141, R163, R168, R489, R603–R607, R630–R636, R647, R787, R791–R794: the lines that act on the unit as a
whole: restart, images, life cycle, registers and fault injection, tile tests, traverse steps, the clock and the key slots. -/
def Obligations.UnitLines : Prop :=
  (∀ s h args, LineEffect (.restartUnit h args) s h (restartUnitDef h args) (fun c u =>
    u.unit.restart = some (if args.kw? "KIND" = some "COLD" then .cold else .warm) ∧ u.cfg = c.cfg ∧ u.fis = c.fis)) ∧
  (∀ s h args, LineEffect (.switchImage h args) s h (switchImageDef h args) (fun c u =>
    (args.kw? "KIND" ≠ some "STEWARD" → u.unit.nextW = (args.kw? "BANK" == some "B")) ∧ (args.kw? "KIND" = some "STEWARD" → u.unit.nextW = c.unit.nextW) ∧
    (args.kw? "KIND" ≠ some "WARDEN" → u.unit.nextS = (args.kw? "BANK" == some "B")) ∧ (args.kw? "KIND" = some "WARDEN" → u.unit.nextS = c.unit.nextS) ∧
    u.unit.runW = c.unit.runW ∧ u.unit.runS = c.unit.runS)) ∧
  (∀ s h, LineEffect (.acceptImageUntested h) s h (acceptImageDef h) (fun c u =>
    u.unit.accepted = (c.unit.accepted ++ c.untested).eraseDups.take 16 ∧ u.unit.camp = c.unit.camp ∧ u.cfg = c.cfg)) ∧
  (∀ s h args (dest : String), args.kw? "TO" = some dest → let fr := (s.u.arrived h).keys.life
    (fr = .factory → dest = "ISSUED" → LineEffect (.moveLife h args true) s h (moveLifeDef h args true) (fun c u =>
      u.keys.life = .issued ∧ u.keys.work = none ∧ u.keys.seals = c.keys.seals ∧ u.keys.slots = c.keys.slots ∧ u.unit.restart = some .life)) ∧
    (fr = .issued → dest = "FIELD" → LineEffect (.moveLife h args true) s h (moveLifeDef h args true) (fun c u =>
      u.keys.life = .field ∧ u.unit.accepted = [] ∧ u.keys.slots = c.keys.slots ∧ u.unit.restart = some .life)) ∧
    (fr = .field → dest = "ISSUED" → LineEffect (.moveLife h args true) s h (moveLifeDef h args true) (fun c u =>
      u.keys.life = .issued ∧ u.keys.slots = [] ∧ u.keys.kek = none ∧ u.keys.work = none ∧ u.keys.toIssued = c.keys.toIssued + 1 ∧ u.unit.restart = some .life)) ∧
    (fr ≠ .scrapped → fr ≠ .return → dest = "RETURN" → LineEffect (.moveLife h args true) s h (moveLifeDef h args true) (fun _ u =>
      u.keys.life = .return ∧ u.keys.slots = [] ∧ u.keys.kek = none ∧ u.keys.work = none ∧ "CONFIG" ∈ u.keys.owed ∧ u.unit.restart = some .life)) ∧
    (fr = .return → dest = "SCRAPPED" → LineEffect (.moveLife h args true) s h (moveLifeDef h args true) (fun _ u =>
      u.keys.life = .scrapped ∧ u.keys.kdev = none ∧ u.keys.ktr = none ∧ "BANKS" ∈ u.keys.owed ∧ u.unit.restart = some .life)) ∧
    LineEffect (.moveLife h args false) s h (moveLifeDef h args false) (fun c u =>
      u.keys.storeBad = true ∧ Raised c.coll u.coll 259 0 ∧ u.unit.restart = some .life)) ∧
  (∀ s h v ack, LineEffect (.writeReg h [⟨"ADDR", .hex 0x1C⟩, ⟨"VALUE", .hex v⟩] ack) s h (writeRegDef h [⟨"ADDR", .hex 0x1C⟩, ⟨"VALUE", .hex v⟩] ack) (fun c u =>
    u.unit.regs.scratch = v ∧ (u.sess h.sess).answer = [.ok] ∧ u.links = c.links ∧ u.cfg = c.cfg)) ∧
  (∀ s h v, LineEffect (.faultInjSelWrite h v) s h (writeSelDef h v.toNat) (fun c u =>
    u.unit.latches.find 0 = some v.toNat ∧ u.coll = c.coll ∧ (u.sess h.sess).answer = [.ok])) ∧
  (∀ s h (v : BitVec 32) sel, (s.u.arrived h).unit.latches.find 0 = some sel → LineEffect (.faultInjGoWrite h v) s h (writeGoDef h v.toNat) (fun c u =>
    Raised c.coll u.coll (sel % 1024) (sel / 65536 % 1024) ∧ u.unit.latches.find 0 = none ∧ u.unit.latches.get 0 3 = sel ∧
    u.clk.cycle = c.clk.cycle + 1)) ∧
  (∀ s h (cage : Fin 4) v, LineEffect (.portCageWrWrite h cage v true) s h (writeCageDef h cage v.toNat true) (fun _ u =>
      (u.cage cage).written.find (v.toNat / 256 % 256) = some (v.toNat % 256) ∧ (u.sess h.sess).answer = [.ok]) ∧
    LineEffect (.portCageWrWrite h cage v false) s h (writeCageDef h cage v.toNat false) (fun c u =>
      u.links = c.links ∧ u.clk.cycle = c.clk.cycle + 5000000 ∧ Raised c.coll u.coll 421 h.sess ∧ (u.sess h.sess).answer = [.err "0902" []])) ∧
  (∀ s h sel n, (testTileDef h sel none).items = [n] →
    ((s.u.arrived h).domOn (clusterOf n) = true → ∀ rows, LineEffect (.testTile h sel (some rows)) s h (testTileDef h sel (some rows)) (fun c u =>
      (u.tileRep n).st = .spare ∧ (u.tileRep n).passed = true ∧ u.clk.cycle = c.clk.cycle + 23000000 ∧ n ∉ u.fab.marks ∧
      (u.sess h.sess).answer = [.ok])) ∧
    ((s.u.arrived h).domOn (clusterOf n) = false → ∀ r, LineEffect (.testTile h sel r) s h (testTileDef h sel r) (fun c u =>
      u.rep = c.rep ∧ Raised c.coll u.coll 421 h.sess ∧ (u.sess h.sess).answer = [.err "0901" []]))) ∧
  (∀ s h args cl t, args.get? "CLUSTER" = some (.int cl) → let c := s.u.arrived h
    c.domOn cl.toNat = true → c.candidateTile cl.toNat = some t → c.slotsOn t = [] →
    LineEffect (.startRepair h args) s h (startRepairDef h args) (fun _ u => (u.tileRep t).st = .testing ∧ (u.sess h.sess).answer = [.ok] ∧
      ∃ x, u.step' cl.toNat = some x ∧ x.cand = t ∧ x.phase = .test ∧ x.scheduled = false)) ∧
  (∀ s h args, LineEffect (.adjustTime h args) s h (adjustTimeDef h args) (fun c u =>
    let a : Adjust := { rate := args.signed? "RATE", jump := jumpOf args, at? := args.time? "AT" }
    (args.time? "AT" ≠ none → u.clk.pendingAdj = some a ∧ u.clk.dueNext = c.clk.dueNext) ∧
    (args.time? "AT" = none → u.clk.dueNext = c.clk.dueNext ++ [a] ∧ u.clk.pendingAdj = c.clk.pendingAdj) ∧
    u.clk.anchor = c.clk.anchor ∧ u.clk.disc = .disciplined ∧ u.clk.lastAdjCycle = some c.clk.cycle)) ∧
  (∀ s h sel n, (revokeKeyDef h sel true).items = [n] → LineEffect (.revokeKeyslot h sel true) s h (revokeKeyDef h sel true) (fun c u =>
      (u.slot n).st = .revoked ∧ (∀ m, m ≠ n → u.slot m = c.slot m) ∧ (c.keys.work = some n → c.keys.cur = none → u.keys.work = none) ∧
      Recorded c.cairn u.cairn 251 n [fNat "SLOT" n]) ∧
    LineEffect (.revokeKeyslot h sel false) s h (revokeKeyDef h sel false) (fun c u =>
      u.keys = c.keys ∧ Raised c.coll u.coll 421 h.sess ∧ (u.sess h.sess).answer = [.err "0903" []])) ∧
  (∀ s h, LineReaches s h (reservedDef h) → CompletesChip (.reservedVerb h) s (fun u => u = (s.u.arrived h).respond h.sess (.err "010D" [])))

/-- R76–R79, R83, R85, R86: a waiting COMMIT is validated when it gets the configuration hitch, or answered 0404 when its wait ends; the edge applies the
unit-wide parts; the part of an FI applies at its period boundary, or is forced. -/
def Obligations.CommitFlow : Prop :=
  (∀ (s : State) (n : Fin 16) t, s.u.sup.powered = true → let x := s.u.sess n
    let free := s.u.modSess n (fun y => { y with waiting := .nothing })
    x.waiting = .commit none t → (s.u.hitch 0).holder = masterSess n → s.u.trev.commit = none →
    (∀ g pl, free.validate x.staged = .ok (g, pl) → CompletesChip (.commitHitchGranted n) s (fun u =>
      u.trev.commitNum = (s.u.trev.commitNum + 1) % 4294967296 ∧ (∃ k, u.trev.commit = some k ∧ k.cfg = g ∧ k.session = n ∧ k.edge = none) ∧
      (u.sess n).answer = [.ok] ∧ (u.sess n).staged = [] ∧ (u.sess n).waiting = .nothing ∧ u.cfg = s.u.cfg)) ∧
    (∀ e, free.validate x.staged = .error e → (s.u.hitch 0).queue = [] → CompletesChip (.commitHitchGranted n) s (fun u =>
      (u.sess n).answer = [.err e.1 e.2] ∧ (u.sess n).staged = x.staged ∧ (u.sess n).txn = x.txn ∧ u.trev.commit = none ∧
      u.trev.commitNum = s.u.trev.commitNum ∧ (u.hitch 0).holder = 0 ∧ u.cfg = s.u.cfg))) ∧
  (∀ (s : State) (n : Fin 16) ifn t, s.u.sup.powered = true → (s.u.sess n).waiting = .commit ifn t → masterSess n ∈ (s.u.hitch 0).queue →
    CompletesChip (.commitWaitTimeout n) s (fun u => (u.sess n).answer = [.err "0404" [fMaster "HOLDER" (s.u.hitch 0).holder]] ∧
      (u.sess n).waiting = .nothing ∧ (u.sess n).txn = (s.u.sess n).txn ∧ (u.sess n).staged = (s.u.sess n).staged ∧
      (u.hitch 0).queue = (s.u.hitch 0).queue.filter (· != masterSess n) ∧ u.clk.cycle = max s.u.clk.cycle t ∧ u.cfg = s.u.cfg)) ∧
  (∀ (s : State) ext k, s.u.sup.powered = true → s.u.trev.commit = some k → k.edge = none → k.fiParts = [] →
    CompletesChip (.commitEdge ext) s (fun u => u.cfg = k.cfg ∧ (∀ k', u.trev.commit = some k' → k'.edge ≠ none))) ∧
  (∀ (s : State) (fi : Fin 1024) k e, s.u.sup.powered = true → s.u.trev.commit = some k → k.edge = some e → k.fiParts = [fi.val] →
    ((s.u.fi fi).st ≠ .draining → ((s.u.fi fi).st = .running → k.edgeAt ≤ (s.u.fi fi).lastStart) →
      Completes (.cfgFiApply fi) s (fun t => t.pending = s.pending ∧ t.u.cfg = s.u.cfg.takeFi k.cfg fi ∧ (k.applied = true → t.u.trev.commit = none))) ∧
    Completes (.cfgForcedApply fi) s (fun t => t.pending = s.pending ∧ t.u.cfg = s.u.cfg.takeFi k.cfg fi ∧ (k.applied = true → t.u.trev.commit = none) ∧
      100000000 + k.edgeAt ≤ t.u.clk.cycle))

/-- R123, R145, R147, R604, R606, R692: what waits for its time: a select window, an ADJUST with AT, a TAKE HITCH, a test pulse. -/
def Obligations.TimedLines : Prop :=
  (∀ (s : State) (n : Fin 16) (fi : Fin 1024) (p : Fin 256) e, s.u.sup.powered = true → s.u.selOf n fi p = some e →
    (s.u.hitch e.hitch).holder = masterSess n → (s.u.hitch e.hitch).queue = [] →
    CompletesChip (.selectExpiry n fi p) s (fun u => (u.sess n).sels = (s.u.sess n).sels.filter (· != e) ∧ (u.hitch e.hitch).holder = 0 ∧
      u.clk.cycle = max s.u.clk.cycle e.until? ∧ u.fis = s.u.fis ∧
      Recorded (s.u.advanceTo e.until?).cairn u.cairn 0x0A4 e.hitch [fNat "HITCH" e.hitch, fMaster "MASTER" (masterSess n), fSym "CAUSE" "EXPIRY"])) ∧
  (∀ (s : State) a sec ns at', s.u.sup.powered = true → s.u.clk.pendingAdj = some a → a.at? = some at' → a.jump = some (.set sec ns) → sec < 2 ^ 48 →
    CompletesChip .adjustAtDue s (fun u => u.clk.pendingAdj = none ∧ u.clk.anchor.sec = sec ∧ u.clk.anchor.ns = ns ∧ u.clk.anchor.sub = 0 ∧
      u.clk.lastStep = some u.clk.cycle)) ∧
  (∀ (s : State) r at', s.u.sup.powered = true → s.u.clk.pendingAdj = some { rate := some r, jump := none, at? := some at' } →
    CompletesChip .adjustAtDue s (fun u => u.clk.pendingAdj = none ∧
      u.clk.anchor.rate = clampRate ((s.u.advanceToTime at').clk.anchor.rate + r))) ∧
  (∀ (s : State) (n : Fin 16) h w t data, s.u.sup.powered = true → (s.u.sess n).waiting = .take h w t [] data →
    CompletesChip (.takeHitchTimeout n) s (fun u => let q := (s.u.hitch h).queue.filter (· != masterSess n)
      (u.sess n).waiting = .nothing ∧ (u.hitch h).queue = q ∧ (u.hitch h).holder = (s.u.hitch h).holder ∧ u.clk.cycle = max s.u.clk.cycle t ∧
      (u.sess n).answer = Answer.lines (.ok (data ++ [[fWord "HITCH", fNum h, fYes "HELD" false, fMaster "HOLDER" (s.u.hitch h).holder,
        fNat "QUEUE" q.length]])))) ∧
  (∀ (s : State) (trip : Fin 16), s.u.sup.powered = true → (s.u.trip trip).drive = .test →
    CompletesChip (.testPulseEnd trip) s (fun u => (u.trip trip).drive = .off ∧ u.clk.cycle = max s.u.clk.cycle (s.u.trip trip).testEnd ∧
      (∀ m, m ≠ trip.val → u.trip m = s.u.trip m) ∧ u.panel.leds = s.u.panel.leds))

/-! ## The network: switch, codec, engine, lanes, rope -/

/-- R509–R516, R522, R525, R526, R528, R535, R518, R562: what the switch does with a received and with a queued frame, and its table events. -/
def Obligations.SwitchFrames : Prop :=
  (∀ (s : State) (p : Fin 18) f, s.u.sup.powered = true → s.u.portUp p = true → let vlan := (s.u.classify p f).1
    (f.len < 64 → CompletesChip (.frameReceive p f) s (fun u => u = s.u.modPort p (fun k => { k with runt := k.runt + 1 }))) ∧
    (1536 < f.len → CompletesChip (.frameReceive p f) s (fun u => (u.port p).giant = (s.u.port p).giant + 1 ∧ u.sw = s.u.sw ∧ u.codec = s.u.codec ∧
      u.fab = s.u.fab)) ∧
    (64 ≤ f.len → f.len ≤ 1536 → f.fcs = true → (s.u.portCfg p).vlans.contains vlan = false → CompletesChip (.frameReceive p f) s (fun u =>
      u = (s.u.modPort p (fun k => { k with rxf := k.rxf + 1, rxo := k.rxo + f.len })).modPort p (fun k => { k with vlan := k.vlan + 1 }))) ∧
    (64 ≤ f.len → f.len ≤ 1536 → f.fcs = false → (s.u.portCfg p).vlans.contains vlan = true → s.u.subMatch p f = none →
      CompletesChip (.frameReceive p f) s (fun u => (u.port p).fcs = (s.u.port p).fcs + 1 ∧ u.sw = s.u.sw ∧ u.codec = s.u.codec ∧ u.fab = s.u.fab)) ∧
    (∀ q e, 64 ≤ f.len → f.len ≤ 1536 → f.fcs = true → (s.u.portCfg p).vlans.contains vlan = true → (s.u.portCfg p).redund = .none →
      f.payload = .other e → s.u.subMatch p f = none → isReserved f.dst = false → (s.u.toSteward p f) = (false, true) → isGroup f.src = true →
      s.u.egress p vlan f = [q] → q ≠ p.val → s.u.cutsThrough p q (s.u.classify p f).2 = true →
      CompletesChip (.frameReceive p f) s (fun u => (u.port p).rxf = (s.u.port p).rxf + 1 ∧ (u.port p).rxo = (s.u.port p).rxo + f.len ∧
        (u.port q).txf = (s.u.port q).txf + 1 ∧ (u.port q).txo = (s.u.port q).txo + f.len ∧ u.sw.queues = s.u.sw.queues ∧ u.sw.learnQ = s.u.sw.learnQ ∧
        (∃ x, u.sw.lastTx.find q = some x ∧ x.frame = f ∧ x.ingressPort = p) ∧ u.codec = s.u.codec ∧ u.fab = s.u.fab))) ∧
  (∀ (s : State) (p : Fin 18) e, s.u.sup.powered = true → s.u.portUp p = true → s.u.sw.queues.get [] p = [e] → e.frame.isPtp = false →
    CompletesChip (.frameTransmit p) s (fun u => u.sw.queues.get [] p = [] ∧ u.sw.lastTx.find p = some e ∧ (u.port p).txf = (s.u.port p).txf + 1 ∧
      (u.port p).txo = (s.u.port p).txo + e.frame.len ∧ u.clk.cycle = max s.u.clk.cycle (s.u.sw.txUntil.get 0 p))) ∧
  (∀ (s : State) r rest, s.u.sup.powered = true → s.u.sw.learnQ = r :: rest →
    (s.u.sw.macFind r.vlan r.mac = none → s.u.learned r.port < (s.u.portCfg r.port).learn → s.u.sw.half0.find (macSlot false r.vlan r.mac) = none →
      CompletesChip .macLearn s (fun u => u.sw.learnQ = rest ∧
        u.sw.macFind r.vlan r.mac = some { mac := r.mac, vlan := r.vlan, static := false, ports := [r.port], stamp := s.u.sw.tick } ∧
        u.sw.gens.get 0 0 = (s.u.sw.gens.get 0 0 + 1) % 4294967296)) ∧
    (∀ e, s.u.sw.macFind r.vlan r.mac = some e → e.static = true → CompletesChip .macLearn s (fun u => u = s.u.sw' (fun w => { w with learnQ := rest })))) ∧
  (∀ (s : State) e, s.u.sup.powered = true → s.u.sw.stash = [e] → s.u.sw.half0.find (macSlot false e.vlan e.mac) = none →
    CompletesChip .stashReturn s (fun u => u.sw.stash = [] ∧ u.sw.half0.find (macSlot false e.vlan e.mac) = some e ∧ u.sw.half1 = s.u.sw.half1 ∧
      u.sw.gens = s.u.sw.gens)) ∧
  (∀ s : State, s.u.sup.powered = true → CompletesChip .ageSweep s (fun u => u.sw.tick = (s.u.sw.tick + 1) % 65536 ∧
    u.sw.tickAt = s.u.sw.tickAt + 4000000000 ∧ u.clk.cycle = max s.u.clk.cycle (s.u.sw.tickAt + 4000000000) ∧
    u.sw.stash = s.u.sw.stash.filter (fun e => e.static || !decide (s.u.cfg.age / 4 ≤ (65536 + (s.u.sw.tick + 1) % 65536 - e.stamp) % 65536)))) ∧
  (∀ (s : State) (p : Fin 18) x rest, s.u.sup.powered = true → s.u.sw.syncs.get [] p = x :: rest → CompletesChip (.ptpSyncExpiry p) s (fun u =>
    u.sw.syncs.get [] p = rest ∧ u.clk.cycle = max s.u.clk.cycle (x.at? + 1000000000) ∧ u.sw.queues = s.u.sw.queues)) ∧
  (∀ s : State, s.u.sup.powered = true → CompletesChip .tableEntryRestore s (fun u => u.sw.lostMac = [] ∧ u.sw.lostSub = [] ∧ u.sw.lostPfx = [] ∧
    u.sw.lpm4 = s.u.sw.lpm4 ++ (s.u.sw.lostPfx.filter (fun p => !p.1)).map (·.2) ∧ u.sw.lpm6 = s.u.sw.lpm6 ++ (s.u.sw.lostPfx.filter (fun p => p.1)).map (·.2) ∧
    u.sw.gens = s.u.sw.gens))

/-- R570, R575, R582, R587, R591, R593: the codec's gate, the end of timeAllowedToLive, the building of publications, their retransmission, and the rewrite
of a template. -/
def Obligations.CodecEvents : Prop :=
  (∀ (s : State) w rest, s.u.sup.powered = true → (s.u.cfg.subs.find w.sub).isSome = true →
    (s.u.keys.checked = (w, false) :: rest → CompletesChip .codecAuthDone s (fun u => (u.sub w.sub).auth = (s.u.sub w.sub).auth + 1 ∧
      u.keys.checked = rest ∧ u.fab = s.u.fab ∧ u.fis = s.u.fis)) ∧
    (s.u.keys.checked = (w, true) :: rest → CompletesChip .codecAuthDone s (fun u =>
      u = (s.u.keys' (fun k => { k with checked := rest })).sequence w.sub w.mirrored w.stamp w.msg true))) ∧
  (∀ (s : State) (n : Fin 4096) t, s.u.sup.powered = true → (s.u.sub n).talEnd = some t → s.u.subBound n = [] →
    CompletesChip (.gooseTalExpiry n) s (fun u => (u.sub n).stale = true ∧ (u.sub n).talEnd = none ∧ (u.sub n).staleCnt = (s.u.sub n).staleCnt + 1 ∧
      u.clk.cycle = max s.u.clk.cycle t ∧ u.fab = s.u.fab ∧ Recorded (s.u.advanceTo t).cairn u.cairn 241 n [fNat "SUB" n])) ∧
  (∀ (s : State) p f, s.u.sup.powered = true → s.u.pubPick = some (p, f) →
    (s.u.domOn 17 = false → CompletesChip .publishBuild s (fun u => (u.pub p).nocell = (s.u.pub p).nocell + 1 ∧ (u.pub p).building = (s.u.pub p).pending ∧
      u.sw = s.u.sw)) ∧
    (s.u.domOn 17 = true → (s.u.pubCfg p).auth = .none → CompletesChip .publishBuild s (fun u => let x := s.u.pub p; let y := u.pub p
      y.building = x.pending ∧ y.pending = none ∧ (y.sent = x.sent + 1 ∨ y.noroute = x.noroute + 1 ∨ y.toobig = x.toobig + 1 ∨ y.nocell = x.nocell + 1))) ∧
    (s.u.domOn 17 = true → (s.u.pubCfg p).auth ≠ .none → s.u.pubSlotOk p = true → s.u.keys.tagQ.length < 64 →
      CompletesChip .publishBuild s (fun u => u.keys.tagQ = s.u.keys.tagQ ++ [p] ∧ u.pub p = s.u.pub p ∧ u.sw = s.u.sw))) ∧
  (∀ (s : State) (p : Fin 1024) d, s.u.sup.powered = true → (s.u.pub p).dueAt = some d → (s.u.pub p).building = none →
    CompletesChip (.gooseRetransmit p) s (fun u => let x := s.u.pub p; let y := u.pub p
      let next := min (2 * x.interval) (s.u.pubCfg p).max
      y.stNum = x.stNum ∧ y.sqNum = nextNum x.sqNum ∧ y.interval = next ∧ y.dueAt = some (d + next) ∧ u.clk.cycle = max s.u.clk.cycle d ∧
      ∃ f, y.building = some f ∧ f.again = true ∧ f.sqNum = nextNum x.sqNum ∧ f.stNum = x.stNum)) ∧
  (∀ (s : State) (t : Fin 512), s.u.sup.powered = true → CompletesChip (.templateRewrite t) s (fun u =>
    u.codec.badTempl = s.u.codec.badTempl.filter (· != t.val) ∧ u.codec.subs = s.u.codec.subs ∧ u.codec.pubs = s.u.codec.pubs))

/-- R647, R650–R658, R662: the engine's grants, turns, idle zeroization and timeout, and the working key register. -/
def Obligations.EngineTurns : Prop :=
  (∀ (s : State) octets unwraps, s.u.sup.powered = true → s.u.domOn 18 = true → s.u.keys.cur = none → s.u.keys.waiters = [] →
    CompletesChip (.engineRequest (some (.sha256, none, octets)) unwraps) s (fun u =>
      let r : EngReq := { codec := false, slot := none, op := .sha256, left := octets, resumed := false, arrival := s.u.clk.cycle, use := .steward }
      u.keys.cur = some r ∧ u.keys.work = none ∧ u.keys.granted = max s.u.clk.cycle s.u.keys.resetEnd + 12 ∧ u.keys.turnEnd = u.keys.granted + r.turn)) ∧
  (∀ (s : State) n octets, s.u.sup.powered = true → s.u.domOn 18 = true → s.u.keys.cur = none → s.u.keys.waiters = [] → s.u.keys.workBad = false →
    (s.u.slot n).st = .valid → (s.u.slot n).bad = false → s.u.keys.work ≠ some n →
    CompletesChip (.engineRequest (some (.hmac, some n, octets)) true) s (fun u => u.keys.work = some n ∧ u.keys.cur ≠ none ∧ u.coll = s.u.coll) ∧
    CompletesChip (.engineRequest (some (.hmac, some n, octets)) false) s (fun u => u.keys.work = none ∧ u.keys.cur = none ∧ (u.slot n).bad = true ∧
      Raised s.u.coll u.coll 259 n)) ∧
  (∀ (s : State) r op octets unwraps, s.u.sup.powered = true → s.u.domOn 18 = true → s.u.keys.cur = some r → r.codec = true → s.u.keys.waiters = [] →
    CompletesChip (.engineRequest (some (op, none, octets)) unwraps) s (fun u => u.keys.cur = some r ∧ u.keys.work = s.u.keys.work ∧
      u.keys.waiters = [{ codec := false, slot := none, op := op, left := octets, resumed := false, arrival := s.u.clk.cycle, use := .steward }])) ∧
  (∀ (s : State) r unwraps, s.u.sup.powered = true → s.u.keys.cur = some r → s.u.keys.waiters = [] →
    (2048 < r.left → CompletesChip (.engineSegmentEnd unwraps) s (fun u => u.keys.cur = some { r with left := r.left - 2048, resumed := false } ∧
      u.keys.granted = max s.u.clk.cycle s.u.keys.turnEnd ∧ u.keys.work = s.u.keys.work)) ∧
    (r.left ≤ 2048 → r.use = .steward → r.slot = none → CompletesChip (.engineSegmentEnd unwraps) s (fun u => u.keys.cur = none ∧
      u.clk.cycle = max s.u.clk.cycle s.u.keys.turnEnd ∧ u.keys.idleSince = u.clk.cycle ∧ u.keys.work = s.u.keys.work)) ∧
    (∀ n, r.left ≤ 2048 → r.use = .steward → r.slot = some n → r.op.keyed = true → (s.u.slot n).st = .revoked →
      CompletesChip (.engineSegmentEnd unwraps) s (fun u => u.keys.cur = none ∧ u.keys.work = none))) ∧
  (∀ (s : State) n, s.u.sup.powered = true → s.u.keys.cur = none → s.u.keys.work = some n →
    CompletesChip (.engineIdleZeroize true) s (fun u => u.keys.work = none ∧ u.clk.cycle = max s.u.clk.cycle (s.u.keys.idleSince + 1000000) ∧
      u.keys.slots = s.u.keys.slots) ∧
    CompletesChip (.engineIdleZeroize false) s (fun u => u.keys.workBad = true ∧ Raised s.u.coll u.coll 260 0)) ∧
  (∀ (s : State) r unwraps, s.u.sup.powered = true → s.u.keys.cur = some r → r.use = .steward → s.u.keys.waiters = [] →
    CompletesChip (.engineTimeout unwraps) s (fun u => u.keys.cur = none ∧ u.keys.work = none ∧ Raised s.u.coll u.coll 261 0 ∧
      u.clk.cycle = max s.u.clk.cycle (s.u.keys.granted + 10000) ∧ u.keys.resetEnd = u.clk.cycle + 100000))

/-- R479–R483, R486–R488: the transitions of lanes and management links, and the reset and interrupt of cages. -/
def Obligations.LaneTransitions : Prop :=
  (∀ (s : State) (n : Fin 16), s.u.sup.powered = true → let x := s.u.lane n
    (x.st = .training → x.hwBad = false → x.latched = none → CompletesChip (.laneTrained n) s (fun u => (u.lane n).st = .up ∧ (u.lane n).los = false ∧
      Recorded s.u.cairn u.cairn (120 + n) n [fSym "FROM" "TRAINING", fSym "TO" "UP", fSym "MODE" x.run.mode.name,
        fSym "CAUSE" "LOCK"])) ∧
    (x.st = .training → x.latched = none → CompletesChip (.laneTrainTimeout n) s (fun u => (u.lane n).st = .down ∧
      u.clk.cycle = max s.u.clk.cycle (x.since + x.run.mode.limit) ∧ (u.port n).downs = (s.u.port n).downs + 1)) ∧
    (∀ los, x.st = .up → CompletesChip (.laneLoss n los) s (fun u => (u.lane n).st = .down ∧ (u.lane n).los = los ∧
      (u.port n).downs = (s.u.port n).downs + 1 ∧ ∀ e, e ∈ u.sw.stash → e.static = true ∨ n.val ∉ e.ports)) ∧
    (x.st = .down → x.hwBad = false → s.u.domOn (12 + n / 4) = true → CompletesChip (.laneRetry n) s (fun u => (u.lane n).st = .training ∧
      (u.lane n).run = x.run ∧ u.clk.cycle = max s.u.clk.cycle (x.since + 100000000))) ∧
    (∀ t, x.stopEnd = some t → x.latched = none → (s.u.dom (12 + n / 4)).latched = none →
      (x.next.mode = .off → CompletesChip (.laneStopPhaseEnd n) s (fun u => (u.lane n).st = x.st ∧ (u.lane n).stopEnd = none ∧ (u.lane n).run = x.next ∧
        max s.u.clk.cycle t ≤ u.clk.cycle)) ∧
      (x.next.mode ≠ .off → s.u.domOn (12 + n / 4) = true → CompletesChip (.laneStopPhaseEnd n) s (fun u => (u.lane n).st = .training ∧
        (u.lane n).stopEnd = none ∧ (u.lane n).run = x.next))) ∧
    (x.st ≠ .off → CompletesChip (.laneHardwareFail n) s (fun u => (u.lane n).st = .down ∧ (u.lane n).hwBad = true ∧ Raised s.u.coll u.coll (192 + n) n))) ∧
  (∀ (s : State) (p : Fin 2), s.u.sup.powered = true →
    (s.u.links.mgmt.contains (16 + p.val) = false → CompletesChip (.mgmtLinkChange p true) s (fun u => (16 + p.val) ∈ u.links.mgmt ∧
      Recorded s.u.cairn u.cairn (192 + p) (16 + p) [fSym "STATE" "UP"])) ∧
    (s.u.links.mgmt.contains (16 + p.val) = true → CompletesChip (.mgmtLinkChange p false) s (fun u => (16 + p.val) ∉ u.links.mgmt ∧
      (u.port (16 + p)).downs = (s.u.port (16 + p)).downs + 1 ∧ Recorded s.u.cairn u.cairn (192 + p) (16 + p) [fSym "STATE" "DOWN"]))) ∧
  (∀ (s : State) (q : Fin 4) t, s.u.sup.powered = true → (s.u.cage q).ready = some t → (s.u.cage q).resetOut = false →
    CompletesChip (.moduleResetRelease q) s (fun u => (u.cage q).resetOut = true ∧ u.clk.cycle = max s.u.clk.cycle (t + 10000000))) ∧
  (∀ (s : State) (q : Fin 4) b, s.u.sup.powered = true → (s.u.cage q).intl = !b → CompletesChip (.cageIntlChange q b) s (fun u => (u.cage q).intl = b ∧
    Recorded s.u.cairn u.cairn (196 + q) q [fSym "STATE" (if b then "ASSERTED" else "RELEASED")]))

/-- R24, R240, R492–R503, R754: the rope link's frames, beacons, lane choice, loss and recovery. -/
def Obligations.RopeLink : Prop :=
  (∀ (s : State) t, s.u.sup.powered = true → s.u.links.txQueue = [t] → s.u.ropeLaneUp s.u.links.txLane = true → s.u.links.mirrors = [] →
    CompletesChip .ropeFrameClose s (fun u => let n := (s.u.links.txSeq.get 0 1 + 1) % 65536
      u.links.txQueue = [] ∧ u.links.txSeq.get 0 1 = n ∧ u.links.cnt.txtok = s.u.links.cnt.txtok + 1 ∧
      u.links.lastSent = some (s.u.links.txLane, { version := 1, typ := 1, seq := n, resv := 0, body := .tokens [t] }) ∧
      u.clk.cycle = max s.u.clk.cycle (s.u.links.txFirst + 4))) ∧
  (∀ (s : State) (l : Fin 2) f, s.u.sup.powered = true → s.u.ropeLaneUp (14 + l) = true → s.u.links.mirrors = [] →
    (f.version ≠ 1 → CompletesChip (.ropeFrameReceive l f) s (fun u => u.links.cnt = { s.u.links.cnt with badver := s.u.links.cnt.badver + 1 } ∧
      u.fab = s.u.fab ∧ u.links.rxSeq = s.u.links.rxSeq)) ∧
    (∀ ts last, f.version = 1 → f.resv = 0 → f.typ = 1 → f.body = .tokens ts → s.u.links.rxSeq.find 1 = some last →
      let d := (65536 + f.seq - last) % 65536
      (d = 0 ∨ 32767 < d → CompletesChip (.ropeFrameReceive l f) s (fun u => u.links.cnt = { s.u.links.cnt with stale := s.u.links.cnt.stale + 1 } ∧
        u.fab = s.u.fab ∧ u.fis = s.u.fis ∧ u.links.rxSeq = s.u.links.rxSeq)) ∧
      (1 ≤ d → d ≤ 32767 → ts = [] → CompletesChip (.ropeFrameReceive l f) s (fun u => u.links.rxSeq.find 1 = some f.seq ∧
        u.links.cnt = { s.u.links.cnt with lost := s.u.links.cnt.lost + (d - 1) })))) ∧
  (∀ s : State, s.u.sup.powered = true → s.u.roped = true → CompletesChip .beaconSend s (fun u => let n := (s.u.links.txSeq.get 0 3 + 1) % 65536
    u.links.txSeq.get 0 3 = n ∧ u.links.beaconAt = some u.clk.cycle ∧
    ∀ l, (l = 14 ∨ l = 15) → s.u.ropeLaneUp l = true → ∃ b, u.links.lastBeacon.find l = some { version := 1, typ := 3, seq := n, resv := 0, body := .beacon b } ∧
      b.serial = s.u.unit.serial)) ∧
  (∀ (s : State) (l : Fin 2) (seq : Fin 65536) b, s.u.sup.powered = true → s.u.ropeLaneUp (14 + l) = true → s.u.links.rxSeq.find 3 = none →
    s.u.links.ropeUp = true → CompletesChip (.beaconReceive l seq b) s (fun u => (u.rlane (14 + l)).rxAt = some s.u.clk.cycle ∧
      (u.rlane (14 + l)).peerSeq = seq ∧ u.links.peer = some b ∧ u.links.peerSerial = some b.serial ∧ u.links.rxSeq.find 3 = some seq.val ∧
      u.links.ropeUp = true)) ∧
  (∀ (s : State) cause, s.u.sup.powered = true → s.u.ropeIll s.u.links.txLane = some cause → s.u.ropeIll (29 - s.u.links.txLane) = none → s.u.links.mirrors = [] →
    CompletesChip .ropeLaneSwitch s (fun u => u.links.txLane = 29 - s.u.links.txLane ∧ u.links.cnt.switch = s.u.links.cnt.switch + 1 ∧
      Recorded s.u.cairn u.cairn 137 0 [fNat "FROM" s.u.links.txLane, fNat "TO" (29 - s.u.links.txLane), fSym "CAUSE" cause])) ∧
  (∀ s : State, s.u.sup.powered = true → s.u.links.ropeUp = true → CompletesChip .ropeLinkLost s (fun u => let due := s.u.lastBeaconRx + 30000
    u.links.ropeUp = false ∧ u.clk.cycle = max s.u.clk.cycle due ∧
    Recorded (s.u.advanceTo due).cairn u.cairn 136 0 [fSym "STATE" "LOST", fSym "CAUSE" "NOBEACON"])) ∧
  (∀ (s : State) (fi : Fin 1024), s.u.sup.powered = true → (s.u.fiCfg fi).rope = true → s.u.links.ropeUp = false → (s.u.fi fi).st.active = true →
    (s.u.fi fi).fallenBack = false →
    ((s.u.fiCfg fi).fallback = .loc → CompletesChip (.ropeFallback fi) s (fun u => (u.fi fi).fallenBack = true ∧ (u.fi fi).fallbackVal = 1 ∧
      (u.fi fi).st = (s.u.fi fi).st ∧ Recorded s.u.cairn u.cairn 162 fi [fFi fi])) ∧
    ((s.u.fiCfg fi).fallback = .stop → CompletesChip (.ropeFallback fi) s (fun u => (u.fi fi).st = .draining ∧ (u.fi fi).ropeStopped = true))) ∧
  (∀ s : State, s.u.sup.powered = true → s.u.roped = true → let n := 29 - s.u.links.txLane
    (s.u.ropeIll n).isSome = true → (s.u.rlane n).downNoted = false → CompletesChip .ropeStandbyDown s (fun u =>
      let due := 60000020000 + (s.u.rlane n).rxAt.getD 0
      (u.rlane n).downNoted = true ∧ u.clk.cycle = max s.u.clk.cycle due ∧ u.links.txLane = s.u.links.txLane ∧
      Recorded (s.u.advanceTo due).cairn u.cairn 207 n [⟨"LINK", .pair "ROPE" n⟩, fSym "ACTION" "STANDBYDOWN"])) ∧
  (∀ (s : State) (fi : Fin 1024), s.u.sup.powered = true → s.u.links.ropeUp = true → (s.u.fi fi).ropeStopped = true → (s.u.fi fi).intent = true →
    ((s.u.fi fi).st = .draining → CompletesChip (.ropeRecoveryArm fi) s (fun u => (u.fi fi).rearm = true ∧ (u.fi fi).st = .draining)) ∧
    ((s.u.fi fi).st = .stopped → s.u.targetLive fi = 0 → CompletesChip (.ropeRecoveryArm fi) s (fun u => (u.fi fi).st = .armed ∧
      (u.fi fi).gen = ((s.u.fi fi).gen + 1) % 8 ∧ (u.fi fi).ropeStopped = false)))

/-! ## Time, panel and field inputs and outputs, faults, alive logic, cairn -/

/-- R596–R598, R602, R609–R611, R613, R618, R620–R622: the events of the clock, the anchor's copies and the time inputs. -/
def Obligations.TimeEvents : Prop :=
  (∀ s : State, s.u.sup.powered = true →
    (s.u.clk.refIn = .ext10 → CompletesChip .ext10Loss s (fun u => u.clk.refIn = .int25 ∧ u.clk.extValid = false ∧ u.clk.unsettled = true ∧
      10000000 + s.u.clk.cycle ≤ u.clk.unsettledEnd ∧ u.clk.disc = (if s.u.clk.disc = .undisciplined then .undisciplined else .holdover) ∧
      Raised s.u.coll u.coll 256 0 ∧ u.clk.anchor = s.u.clk.anchor ∧ u.fab = s.u.fab ∧ u.cfg = s.u.cfg ∧ u.panel = s.u.panel)) ∧
    (s.u.clk.refIn = .int25 → CompletesChip .ext10Loss s (fun u => u = { s.u with clk := { s.u.clk with extValid := false } }))) ∧
  (∀ (s : State) x0 x1 x2, s.u.sup.powered = true → let a := x0.getD s.u.clk.anchor; let b := x1.getD s.u.clk.anchor1; let d := x2.getD s.u.clk.anchor2
    (∀ v n, (a = b ∨ a = d) ∧ v = a ∧ (n = if a = b ∧ b = d then 0 else 1) ∨ (a ≠ b ∧ b = d ∧ v = b ∧ n = 1) →
      CompletesChip (.anchorVoteFault x0 x1 x2) s (fun u => u.clk = s.u.clk.setAnchor v ∧ ClockAlone s.u u ∧ u.cairn = s.u.cairn ∧
        (n = 0 → u.coll = s.u.coll) ∧ (n = 1 → Raised s.u.coll u.coll 257 0))) ∧
    (a ≠ b → a ≠ d → b ≠ d → CompletesChip (.anchorVoteFault x0 x1 x2) s (fun u => u.clk.disc = .undisciplined ∧ ClockAlone s.u u ∧
      Raised s.u.coll u.coll 258 0 ∧ u.clk.anchor = u.clk.anchor1 ∧ u.clk.anchor1 = u.clk.anchor2))) ∧
  (∀ (s : State) t, s.u.sup.powered = true → s.u.clk.lastAdjCycle = some t → let h := s.u.cfg.time.holdover
    (s.u.clk.disc = .disciplined → CompletesChip .holdoverEntry s (fun u => ClockAlone s.u u ∧ u.coll = s.u.coll ∧
      u.clk.disc = (if h ≤ 4000000000 then .undisciplined else .holdover) ∧ u.clk.cycle = max s.u.clk.cycle (t + min 4000000000 h + 1) ∧
      Recorded (s.u.advanceTo (t + min 4000000000 h + 1)).cairn u.cairn 139 0 [fSym "FROM" "DISCIPLINED", fSym "TO" u.clk.disc.name])) ∧
    (s.u.clk.disc = .holdover → CompletesChip .undisciplinedEntry s (fun u => ClockAlone s.u u ∧ u.coll = s.u.coll ∧ u.clk.disc = .undisciplined ∧
      u.clk.cycle = max s.u.clk.cycle (t + h + 1) ∧
      Recorded (s.u.advanceTo (t + h + 1)).cairn u.cairn 139 0 [fSym "FROM" "HOLDOVER", fSym "TO" "UNDISCIPLINED"]))) ∧
  (∀ (s : State) x, s.u.sup.powered = true → s.u.clk.lastStep = some x → s.u.clk.dueNext = [] → CompletesChip .steppedExpiry s (fun u =>
    ClockAlone s.u u ∧ u.cairn = s.u.cairn ∧ u.coll = s.u.coll ∧ u.clk.stepped = false ∧ u.clk.cycle = max s.u.clk.cycle (1000000001 + x))) ∧
  (∀ s : State, s.u.sup.powered = true → s.u.clk.unsettled = true → CompletesChip .warmupEnd s (fun u => ClockAlone s.u u ∧ u.coll = s.u.coll ∧
    u.clk.unsettled = false ∧ u.clk.cycle = max s.u.clk.cycle s.u.clk.unsettledEnd ∧ u.clk.disc = s.u.clk.disc)) ∧
  (∀ (s : State) t, s.u.sup.powered = true → s.u.cfg.time.leap ≠ .none → s.u.cfg.time.leapAt = some t → let off : Int := (if s.u.cfg.time.leap = .insert
      then s.u.cfg.time.utcOffset + 1 else s.u.cfg.time.utcOffset - 1)
    CompletesChip .leapDue s (fun u => u.cfg = { s.u.cfg with time := { s.u.cfg.time with utcOffset := off, leap := .none } } ∧
      ClockAlone { s.u with cfg := u.cfg } u ∧ u.coll = s.u.coll ∧
      Recorded (s.u.advanceToTime t).cairn u.cairn 140 2 [fSym "CAUSE" "LEAP", ⟨"UTCOFFSET", .int off⟩])) ∧
  (∀ (s : State) valid fmt back fields, s.u.sup.powered = true →
    (s.u.cfg.time.irig = false → CompletesChip (.irigFrame valid fmt back fields) s (fun u => u = s.u)) ∧
    (s.u.cfg.time.irig = true → valid = true → CompletesChip (.irigFrame valid fmt back fields) s (fun u => u.clk.irig = .present ∧
      u.clk.irigLast = s.u.clk.cycle ∧ u.clk.irigSeq = (s.u.clk.irigSeq + 1) % 65536 ∧ u.clk.anchor = s.u.clk.anchor ∧ u.coll = s.u.coll ∧
      (∃ k, u.clk.captures = (k :: s.u.clk.captures).take 1024 ∧ k.src = "IRIG" ∧ k.seq = s.u.clk.irigSeq ∧ k.stamp = s.u.stampBefore (back + 35)) ∧
      (s.u.clk.irig = .present ∨ s.u.clk.irig = .unknown → u.cairn = s.u.cairn) ∧
      (s.u.clk.irig = .absent ∨ s.u.clk.irig = .invalid → Recorded s.u.cairn u.cairn 141 1 [fSym "SRC" "IRIG", fSym "STATE" "PRESENT"]))) ∧
    (s.u.cfg.time.irig = true → valid = false → CompletesChip (.irigFrame valid fmt back fields) s (fun u => ClockAlone s.u u ∧
      u.clk.irigBad = sat32 s.u.clk.irigBad ∧ u.clk.captures = s.u.clk.captures ∧ u.coll = s.u.coll ∧
      (s.u.clk.irig ≠ .present → u.clk.irig = s.u.clk.irig ∧ u.cairn = s.u.cairn) ∧
      (s.u.clk.irig = .present → u.clk.irig = .invalid ∧ Recorded s.u.cairn u.cairn 141 1 [fSym "SRC" "IRIG", fSym "STATE" "INVALID"])))) ∧
  (∀ s : State, s.u.sup.powered = true →
    (s.u.cfg.time.pps = false → CompletesChip .ppsEdge s (fun u => u = s.u)) ∧
    (s.u.cfg.time.pps = true → s.u.clk.ppsSeen = true → s.u.clk.cycle < 900000000 + s.u.clk.ppsLast →
      CompletesChip .ppsEdge s (fun u => u = { s.u with clk := { s.u.clk with ppsGlitch := sat32 s.u.clk.ppsGlitch } })) ∧
    (s.u.cfg.time.pps = true → s.u.clk.ppsSeen = false ∨ 900000000 + s.u.clk.ppsLast ≤ s.u.clk.cycle → CompletesChip .ppsEdge s (fun u =>
      ClockAlone s.u u ∧ u.coll = s.u.coll ∧ u.clk.pps = .present ∧ u.clk.ppsLast = s.u.clk.cycle ∧ u.clk.ppsSeq = (s.u.clk.ppsSeq + 1) % 65536 ∧
      u.clk.ppsGlitch = s.u.clk.ppsGlitch ∧ ∃ k, u.clk.captures = (k :: s.u.clk.captures).take 1024 ∧ k.src = "PPS" ∧ k.stamp = s.u.stampBefore 35))) ∧
  (∀ s : State, s.u.sup.powered = true →
    (s.u.cfg.time.irig = true → s.u.clk.irig ≠ .absent → CompletesChip (.timeInputAbsent true) s (fun u => ClockAlone s.u u ∧ u.coll = s.u.coll ∧
      u.clk.irig = .absent ∧ u.clk.pps = s.u.clk.pps ∧ u.clk.cycle = max s.u.clk.cycle (3000000000 + s.u.clk.irigLast) ∧
      Recorded (s.u.advanceTo (3000000000 + s.u.clk.irigLast)).cairn u.cairn 141 1 [fSym "SRC" "IRIG", fSym "STATE" "ABSENT"])) ∧
    (s.u.cfg.time.pps = true → s.u.clk.pps ≠ .absent → CompletesChip (.timeInputAbsent false) s (fun u => ClockAlone s.u u ∧ u.coll = s.u.coll ∧
      u.clk.pps = .absent ∧ u.clk.irig = s.u.clk.irig ∧ u.clk.cycle = max s.u.clk.cycle (2000000000 + s.u.clk.ppsLast) ∧
      Recorded (s.u.advanceTo (2000000000 + s.u.clk.ppsLast)).cairn u.cairn 141 2 [fSym "SRC" "PPS", fSym "STATE" "ABSENT"])))

/-- R637, R671–R684: keys, touch channels, presence inputs and physical presence; the clauses take sources to which no FI is bound. -/
def Obligations.PanelEvents : Prop :=
  (∀ s : State, s.u.sup.powered = true →
    (s.u.presenceHeld = true → s.u.panel.presHeld = false → s.u.panel.presence = none → CompletesChip .presenceActive s (fun u =>
      let due := 3000000000 + max (s.u.pres 6).since (max (s.u.key 62).since (s.u.key 63).since)
      PanelAlone s.u u ∧ u.coll = s.u.coll ∧ u.panel = { s.u.panel with presence := some (120000000000 + u.clk.cycle) } ∧
      u.clk.cycle = max s.u.clk.cycle due ∧ Recorded (s.u.advanceTo due).cairn u.cairn 248 0 [fSym "STATE" "ACTIVE"])) ∧
    (∀ t, s.u.panel.presence = some t → CompletesChip .presenceEnd s (fun u => PanelAlone s.u u ∧ u.coll = s.u.coll ∧
      u.panel = { s.u.panel with presence := none, presHeld := true } ∧ u.clk.cycle = max s.u.clk.cycle t ∧
      Recorded (s.u.advanceTo t).cairn u.cairn 248 0 [fSym "STATE" "ENDED", fSym "CAUSE" "TIME"]))) ∧
  (∀ (s : State) (k : Fin 64) down, s.u.sup.powered = true →
    (s.u.scanning = false → CompletesChip (.keyChange k down) s (fun u => PanelAlone s.u u ∧ u.cairn = s.u.cairn ∧ u.coll = s.u.coll ∧ u.clk = s.u.clk ∧
      u.key k = { s.u.key k with raw := down })) ∧
    (s.u.scanning = true → (s.u.key k).stuck = false → (s.u.key k).pressed = !down → s.u.boundTo (.key k) = [] → CompletesChip (.keyChange k down) s (fun u =>
      PanelAlone s.u u ∧ u.coll = s.u.coll ∧ u.clk = s.u.clk ∧
      u.key k = { raw := down, pressed := down, since := s.u.clk.cycle - s.u.debounceCycles, stuck := false } ∧
      Recorded s.u.cairn u.cairn k k [fSym "STATE" (if down then "PRESSED" else "RELEASED"), fYes "DELIVERED" false, fCause none])) ∧
    (s.u.scanning = true → (s.u.key k).stuck = true → down = false → CompletesChip (.keyChange k down) s (fun u => PanelAlone s.u u ∧ u.coll = s.u.coll ∧
      (u.key k).stuck = false ∧ (u.key k).pressed = false ∧
      Recorded s.u.cairn u.cairn k k [fSym "STATE" "RELEASED", fYes "DELIVERED" false, fCause (some "UNSTUCK")])) ∧
    (s.u.scanning = true → (s.u.key k).stuck = false → (s.u.key k).pressed = true → s.u.boundTo (.key k) = [] → CompletesChip (.keyStuck k) s (fun u =>
      PanelAlone s.u u ∧ u.key k = { s.u.key k with stuck := true } ∧ Raised s.u.coll u.coll 369 k ∧
      u.clk.cycle = max s.u.clk.cycle (120000000000 + (s.u.key k).since)))) ∧
  (∀ (s : State) (k : Fin 8), s.u.sup.powered = true → s.u.scanning = true → s.u.boundTo (.touch k) = [] → let x := s.u.touch k
    (∀ n : Fin 4096, x.bad = false → CompletesChip (.touchChange k n) s (fun u => PanelAlone s.u u ∧ u.coll = s.u.coll ∧ u.clk = s.u.clk ∧
      (u.touch k).count = n ∧ (u.touch k).base = x.base ∧ (u.touch k).bad = false ∧
      (x.base + (s.u.touchCfg k).threshold ≤ n.val → (u.touch k).touched = true) ∧
      (n.val < x.base + (s.u.touchCfg k).threshold / 2 → n.val < x.base + (s.u.touchCfg k).threshold → (u.touch k).touched = false) ∧
      (x.base + (s.u.touchCfg k).threshold / 2 ≤ n.val → n.val < x.base + (s.u.touchCfg k).threshold → (u.touch k).touched = x.touched))) ∧
    (∀ n : Fin 4096, x.bad = true → n.val ≠ 0 → n.val ≠ 4095 → CompletesChip (.touchChange k n) s (fun u => PanelAlone s.u u ∧ u.cairn = s.u.cairn ∧
      u.touch k = { count := n, base := n, touched := false, since := s.u.clk.cycle, bad := false })) ∧
    (x.bad = false → x.touched = false → (s.u.touchCfg k).drift = true → CompletesChip (.touchDrift k) s (fun u => PanelAlone s.u u ∧
      u.cairn = s.u.cairn ∧ (x.base < x.count → (u.touch k).base = x.base + 1) ∧ (x.count < x.base → (u.touch k).base = x.base - 1) ∧
      (x.base = x.count → u.touch k = x))) ∧
    (x.touched = true → CompletesChip (.touchRecal k) s (fun u => PanelAlone s.u u ∧ u.coll = s.u.coll ∧ (u.touch k).touched = false ∧
      (u.touch k).base = x.count ∧ u.clk.cycle = max s.u.clk.cycle (60000000000 + x.since))) ∧
    (∀ high, x.bad = false → CompletesChip (.touchFault k high) s (fun u => PanelAlone s.u u ∧ (u.touch k).bad = true ∧ (u.touch k).touched = false ∧
      Raised s.u.coll u.coll 369 (64 + k.val)))) ∧
  (∀ (s : State) (i : Fin 16) r, s.u.sup.powered = true → let x := s.u.pres i; let read := fun a f => (⟨a, f, s.u.clk.cycle - s.u.debounceCycles⟩ : Pres)
    (s.u.domOn 21 = true → 11 ≤ i.val → r = .active → x.active = false ∨ x.fault = true → CompletesChip (.presenceInputChange i r) s (fun u => PanelAlone s.u u ∧
      u.coll = s.u.coll ∧ u.pres i = read true false ∧ Recorded s.u.cairn u.cairn (72 + i.val) i [fSym "STATE" "ACTIVE"])) ∧
    (s.u.domOn 21 = true → supervised i = true → r = .fault → x.fault = false → CompletesChip (.presenceInputChange i r) s (fun u => PanelAlone s.u u ∧
      u.pres i = read x.active true ∧ Raised s.u.coll u.coll 369 (72 + i.val) ∧ Recorded s.u.cairn u.cairn (72 + i.val) i [fSym "STATE" "FAULT"])) ∧
    (∀ t, s.u.domOn 21 = true → i = 6 → r = .inactive → x.active = true → s.u.panel.presence = some t →
      CompletesChip (.presenceInputChange i r) s (fun u => PanelAlone s.u u ∧ u.coll = s.u.coll ∧ u.pres i = read false false ∧
        u.panel.presence = none ∧ u.panel.presHeld = true)) ∧
    (r = .between → (s.u.domOn 21 = true ∨ ¬ (i.val < 4 ∨ i = 5 ∨ i = 6 ∨ 11 ≤ i.val)) → CompletesChip (.presenceInputChange i r) s (fun u => u = s.u))) ∧
  (∀ s : State, s.u.sup.powered = true → s.u.domOn 21 = true → (s.u.pres 5).fault = false →
    ((s.u.pres 5).active = true → (∀ k, (s.u.key k).pressed = false) → (∀ k, (s.u.touch k).touched = false) → CompletesChip .boardRemove s (fun u =>
      PanelAlone s.u u ∧ (u.pres 5).active = false ∧ u.scanning = false ∧ Raised s.u.coll u.coll 368 0 ∧
      Recorded s.u.cairn u.cairn 77 5 [fSym "STATE" "INACTIVE"])) ∧
    ((s.u.pres 5).active = false → CompletesChip .boardReturn s (fun u => PanelAlone s.u u ∧ u.coll = s.u.coll ∧ u.scanning = true ∧
      (∀ k < 64, (u.key k).pressed = (s.u.key k).raw ∧ (u.key k).stuck = false) ∧
      (∀ k < 8, (u.touch k).base = (s.u.touch k).count ∧ (u.touch k).touched = false))))

/-- R689–R693, R696–R698: binary inputs and trip outputs. -/
def Obligations.FieldEvents : Prop :=
  (∀ (s : State) (n : Fin 16) high, s.u.sup.powered = true → s.u.boundTo (.input n) = [] → let x := s.u.binIn n; let now := s.u.clk.cycle
    let win := x.accepted.filter (fun t => decide (now < 1000000000 + t)) ++ [now]
    (x.filt = high → CompletesChip (.binaryInputChange n high) s (fun u => PanelAlone s.u u ∧ u.cairn = s.u.cairn ∧ u.coll = s.u.coll ∧
      (u.binIn n).raw = high ∧ (u.binIn n).filt = high ∧ (u.binIn n).changes = x.changes)) ∧
    (x.filt = !high → x.blocked = false → win.length ≤ 30 → CompletesChip (.binaryInputChange n high) s (fun u => PanelAlone s.u u ∧ u.coll = s.u.coll ∧
      u.binIn n = { raw := high, filt := high, delivered := high != (s.u.inputCfg n).invert, accepted := win, changes := sat32 x.changes, blocked := false,
                    lastRaw := now - (s.u.inputCfg n).filter } ∧
      Recorded s.u.cairn u.cairn (88 + n.val) n [fActive (high != (s.u.inputCfg n).invert), fYes "DELIVERED" false, ⟨"CAUSE", .none⟩])) ∧
    (x.filt = !high → x.blocked = false → 30 < win.length → CompletesChip (.binaryInputChange n high) s (fun u => PanelAlone s.u u ∧ u.coll = s.u.coll ∧
      (u.binIn n).blocked = true ∧ (u.binIn n).delivered = x.delivered ∧
      Recorded s.u.cairn u.cairn (88 + n.val) n [fSym "STATE" "CHATTER", fYes "DELIVERED" false, ⟨"CAUSE", .none⟩])) ∧
    (x.filt = !high → x.blocked = true → CompletesChip (.binaryInputChange n high) s (fun u => PanelAlone s.u u ∧ u.cairn = s.u.cairn ∧
      (u.binIn n).filt = high ∧ (u.binIn n).blocked = true ∧ (u.binIn n).changes = sat32 x.changes ∧ (u.binIn n).delivered = x.delivered)) ∧
    (x.blocked = true → CompletesChip (.inputUnblock n) s (fun u => PanelAlone s.u u ∧ u.coll = s.u.coll ∧ (u.binIn n).blocked = false ∧
      (u.binIn n).accepted = [] ∧ (u.binIn n).filt = x.filt ∧ (u.binIn n).delivered = (x.filt != (s.u.inputCfg n).invert) ∧
      u.clk.cycle = max now (10000000000 + x.lastRaw)))) ∧
  (∀ (s : State) (n : Fin 16), s.u.sup.powered = true → let x := s.u.trip n
    (x.drive = .fi → x.held = true → CompletesChip (.minpulseEnd n) s (fun u => PanelAlone s.u u ∧ u.coll = s.u.coll ∧
      u.trip n = { x with drive := .off, held := false } ∧ u.clk.cycle = max s.u.clk.cycle (x.onAt + x.minPulse) ∧
      Recorded (s.u.advanceTo (x.onAt + x.minPulse)).cairn u.cairn (104 + n.val) n [fOn "STATE" false, fSym "CAUSE" "MINPULSE"])) ∧
    (∀ low, (s.u.tripCfg n).supervise = true → x.drive = .off → x.sup ≠ (if low then .opened else .ok) → CompletesChip (.supChange n low) s (fun u =>
      PanelAlone s.u u ∧ u.trip n = { x with sup := if low then .opened else .ok } ∧ (low = false ∨ s.u.plugIn n = some true → u.coll = s.u.coll) ∧
      (low = true → s.u.plugIn n ≠ some true → Raised s.u.coll u.coll (320 + n.val) n) ∧
      Recorded s.u.cairn u.cairn (104 + n.val) n [fSym "SUP" (if low then "OPEN" else "OK"), ⟨"PLUG", plugName (s.u.plugIn n)⟩])) ∧
    (∀ low, (s.u.tripCfg n).supervise = false ∨ x.drive ≠ .off ∨ x.sup = (if low then .opened else .ok) →
      CompletesChip (.supChange n low) s (fun u => u = s.u)) ∧
    (x.drive = .fi → CompletesChip (.tripOvercurrent n) s (fun u => PanelAlone s.u u ∧ u.trip n = { x with drive := .off, held := false, latched := true } ∧
      Raised s.u.coll u.coll (336 + n.val) n ∧ Recorded s.u.cairn u.cairn (104 + n.val) n [fOn "STATE" false, fSym "CAUSE" "OVERCURRENT"])) ∧
    (x.drive = .test → CompletesChip (.tripOvercurrent n) s (fun u => PanelAlone s.u u ∧ u.trip n = { x with drive := .off, held := false, latched := true } ∧
      Raised s.u.coll u.coll (336 + n.val) n)) ∧
    CompletesChip (.tripReadbackFault n) s (fun u => PanelAlone s.u u ∧ u.trip n = { x with readbackBad := true } ∧ u.cairn = s.u.cairn ∧
      Raised s.u.coll u.coll (352 + n.val) n))

/-- R198, R703–R708, R711, R716, R722–R725, R728–R731: classification of raises, the lockstep core, the heartbeat, the alive logic and the cairn writer. -/
def Obligations.FaultAndCairn : Prop :=
  (∀ (s : State) src inst fi, s.u.sup.powered = true → (srcRow src).isSome = true →
    (s.u.srcClass src = .degraded ∨ s.u.srcClass src = .corrected → 62500000 ≤ (s.u.src src).credit → s.u.coll.queue = [] →
      CompletesChip (.faultRaise (some (src, inst, fi))) s (fun u => (u.src src).count = sat32 (s.u.src src).count ∧ (u.src src).latched = true ∧
        (∃ r : Rec, u.coll.queue = [r] ∧ r.id = 1024 + src ∧ r.inst = inst ∧ r.cls = some (s.u.srcClass src) ∧ r.fi = fi ∧ r.kept = false) ∧
        u.belay = s.u.belay ∧ u.fis = s.u.fis ∧ u.alive = s.u.alive ∧ u.panel = s.u.panel)) ∧
    (s.u.srcClass src = .unitFatal → CompletesChip (.faultRaise (some (src, inst, fi))) s (fun u =>
      (s.u.boundOutputs = [] → u.belay = { s.u.belay with unit := true } ∧ u.alive = { s.u.alive with unitFatal := true }) ∧
      (∀ n < 16, s.u.belay.unit = false → s.u.latched (.trip n) = false → (u.trip n).drive = .off)))) ∧
  (∀ (s : State) r, s.u.sup.powered = true → s.u.coll.inbound = [r] → (srcRow r.src).isSome = true → s.u.srcClass r.src = .degraded →
    CompletesChip (.faultRaise none) s (fun u => u.coll.inbound = [] ∧ (u.src r.src).count = sat32 (s.u.src r.src).count ∧ (u.src r.src).latched = true ∧
      (u.src r.src).last = some r.stamp ∧ u.belay = s.u.belay ∧ u.fis = s.u.fis ∧ u.clk.cycle = max s.u.clk.cycle (r.arrival + 16))) ∧
  (∀ s : State, s.u.sup.powered = true →
    (s.u.srcClass 384 = .unitFatal → s.u.boundOutputs = [] → CompletesChip .lockstepMismatch s (fun u => u.belay.unit = true ∧ u.alive.unitFatal = true ∧
      u.coll.wardenDown = some (100000000 + u.clk.cycle) ∧ (u.src 384).latched = true)) ∧
    (∀ t, s.u.coll.wardenDown = some t → CompletesChip .wardenRestart s (fun u => ClockAlone s.u u ∧ u.coll = { s.u.coll with wardenDown := none } ∧
      u.clk.cycle = max s.u.clk.cycle t))) ∧
  (∀ (s : State) h, s.u.sup.powered = true → s.u.alive.heartbeat = some h →
    (s.u.unit.steward = true → CompletesChip .stewardHeartbeat s (fun u => ClockAlone { s.u with alive := u.alive } u ∧ u.coll = s.u.coll ∧
      u.alive = { s.u.alive with heartbeat := some u.clk.cycle, heartbeatLost := false } ∧ u.clk.cycle = max s.u.clk.cycle (50000000 + h))) ∧
    (s.u.alive.heartbeatLost = false → CompletesChip .heartbeatLoss s (fun u => ClockAlone { s.u with alive := u.alive } u ∧
      u.alive = { s.u.alive with heartbeatLost := true } ∧ Raised s.u.coll u.coll 387 0 ∧ u.clk.cycle = max s.u.clk.cycle (250000001 + h))) ∧
    (s.u.unit.steward = true → let recent := s.u.unit.watchdogs.filter (fun t => decide (max s.u.clk.cycle (2000000000 + h) ≤ 3600000000000 + t))
      (3 ≤ recent.length → (∀ n, (s.u.sess n).active = false) → CompletesChip .stewardWatchdog s (fun u => u.unit.steward = false ∧
        u.unit.stewardStopped = true ∧ u.unit.watchdogs = recent ∧ u.trev = s.u.trev ∧ Raised s.u.coll u.coll 389 0)) ∧
      (recent.length < 3 → CompletesChip .stewardWatchdog s (fun u => u.alive.heartbeat = some u.clk.cycle ∧ u.alive.heartbeatLost = false ∧
        (u.sess 0).active = true ∧ (u.sess 0).level = some 0 ∧ (u.sess 0).staged = [])))) ∧
  (∀ s : State, s.u.sup.powered = true →
    (s.u.alive.toggling = true → s.u.aliveFailing ≠ [] → CompletesChip .aliveStop s (fun u => { u with cairn := s.u.cairn } =
      { s.u with alive := { s.u.alive with toggling := false } } ∧
      Recorded s.u.cairn u.cairn 274 0 [fSym "STATE" "LOW", ⟨"CAUSE", .nats s.u.aliveFailing⟩])) ∧
    (s.u.alive.toggling = true → CompletesChip .aliveMonitorForce s (fun u => { u with cairn := s.u.cairn } =
      { s.u with alive := { s.u.alive with toggling := false } } ∧
      Recorded s.u.cairn u.cairn 274 0 [fSym "STATE" "LOW", ⟨"CAUSE", .sym "MONITOR"⟩])) ∧
    (s.u.alive.toggling = false → s.u.aliveFailing = [] → (s.u.advance 10000000).aliveFailing = [] → CompletesChip .aliveResume s (fun u =>
      ClockAlone { s.u with alive := u.alive } u ∧ u.alive = { s.u.alive with toggling := true, since := u.clk.cycle } ∧
      u.clk.cycle = s.u.clk.cycle + 10000000)) ∧
    (∀ b, s.u.alive.inToggling = !b → s.u.boundTo .alive = [] → CompletesChip (.aliveInChange b) s (fun u => { u with cairn := s.u.cairn } =
      { s.u with alive := { s.u.alive with inToggling := b } } ∧
      Recorded s.u.cairn u.cairn 275 0 [fSym "STATE" (if b then "TOGGLING" else "STOPPED")])) ∧
    (s.u.alive.readbackBad = false → CompletesChip .aliveReadbackFault s (fun u => { u with coll := s.u.coll } =
      { s.u with alive := { s.u.alive with readbackBad := true } } ∧ Raised s.u.coll u.coll 386 0))) ∧
  (∀ (s : State) r, s.u.sup.powered = true → s.u.cairn.held = [r] → s.u.coll.queue = [] → s.u.cairn.lost = 0 → s.u.trev.sess = [] →
    (s.u.cairn.stopped = false → s.u.dramOn = true → s.u.coll.wardenDown = none → s.u.clk.dueNext = [] → CompletesChip .cairnWrite s (fun u => u.cairn.held = [] ∧
      u.cairn.next = s.u.cairn.next + 1 ∧ u.clk.cycle = max s.u.clk.cycle r.due ∧ u.fab = s.u.fab ∧ u.coll = s.u.coll ∧
      ∃ x, u.cairn.find s.u.cairn.next = some x ∧ x.id = r.id ∧ x.inst = r.inst ∧ x.stamp = r.stamp ∧ x.seq = s.u.cairn.next)) ∧
    (s.u.cairn.stopped = true ∨ s.u.dramOn = false → CompletesChip .cairnWrite s (fun u => u = s.u))) ∧
  (∀ (s : State) x ok, s.u.sup.powered = true → s.u.cairn.save = some x → x.complete = false →
    CompletesChip (.tailSaveComplete ok) s (fun u => u.fab = s.u.fab ∧ u.cairn.ring = s.u.cairn.ring ∧
      (∃ t, t ∈ u.cairn.tails ∧ t.valid = ok ∧ t.recs = s.u.cairn.newest ∧ t.highSeq = s.u.cairn.next - 1) ∧
      (s.u.sup.warning = true → u.cairn.stopped = s.u.cairn.stopped ∧ u.cairn.save = some { x with complete := true, bad := !ok }) ∧
      (s.u.sup.warning = false → u.cairn.stopped = false ∧ u.cairn.save = none) ∧
      (ok = false → (417, 0) ∈ u.coll.inbound.map (fun r => (r.src, r.inst)))))

/-! ## Power, starts and domains; repair -/

/-- R169–R198, R761–R781, R434–R441: starts and restarts, the supply, the power domains, the sensors and the governor. -/
def Obligations.PowerEvents : Prop :=
  (∀ (s : State) f, s.u.sup.powered = false → Completes (.powerOn f) s (fun t => t.pending = s.pending ∧
    (t.u.unit.edgeDue = true ∨ (t.u.belay.basecamp = true ∧ t.mem = Mem.reset) ∨ (t.u.keys.life = .scrapped ∧ t.mem = Mem.reset) ∨
      (f.macroBad = true ∧ t.mem = Mem.reset ∧ (77, 0) ∈ t.u.coll.inbound.map (fun r => (r.src, r.inst)))))) ∧
  (∀ (s : State) f, s.u.sup.powered = true → s.u.trev.commit = none →
    s.u.unit.restart = some .life ∨ (s.u.unit.restart = some .cold ∧ ∀ i < 22, (s.u.sensor i).st = .normal ∨ (s.u.sensor i).st = .warm) →
    Completes (.coldRestart f) s (fun t => t.pending = s.pending ∧
      (t.u.unit.edgeDue = true ∨ (t.u.belay.basecamp = true ∧ t.mem = Mem.reset) ∨ (t.u.keys.life = .scrapped ∧ t.mem = Mem.reset) ∨
        (f.macroBad = true ∧ t.mem = Mem.reset ∧ (77, 0) ∈ t.u.coll.inbound.map (fun r => (r.src, r.inst)))))) ∧
  (∀ s : State, s.u.sup.powered = true → s.u.unit.restart = some .warm → s.u.trev.commit = none → CompletesChip .warmRestart s (fun u =>
    (u.sess 0).active = true ∧ (u.sess 0).level = some 0 ∧ (u.sess 0).staged = [] ∧ (u.sess 0).txn = false)) ∧
  (∀ s : State, s.u.sup.powered = true → s.u.unit.edgeDue = true →
    (s.u.unit.camp = [] → s.u.fis = [] → s.u.boundOutputs = [] → CompletesChip .startEdge s (fun u => u.unit = { s.u.unit with edgeDue := false, started := true } ∧
      u.belay = { s.u.belay with start := false, basecamp := false } ∧ ClockAlone { s.u with unit := u.unit, belay := u.belay } u ∧
      s.u.clk.cycle ≤ u.clk.cycle)) ∧
    (s.u.unit.camp ≠ [] → CompletesChip .startEdge s (fun u => u.unit = { s.u.unit with edgeDue := false, started := true } ∧
      u.belay = { s.u.belay with start := false, basecamp := true } ∧ u.fis = s.u.fis ∧ ClockAlone { s.u with unit := u.unit, belay := u.belay } u))) ∧
  (∀ s : State, s.u.sup.powered = true → s.u.sup.warning = false → s.u.srcClass 392 = .degraded → s.u.rep.steps = [] → (s.u.dom 23).st = .off →
    CompletesChip .supplyWarning s (fun u => u.sup.warning = true ∧ u.sup.warnAt = s.u.clk.cycle ∧ u.cairn.save ≠ none ∧
      (u.src 392).latched = true ∧ u.fis = s.u.fis ∧ u.cfg = s.u.cfg)) ∧
  (∀ s : State, s.u.sup.powered = true → s.u.sup.warning = true →
    CompletesChip .shutdown s (fun u => u.sup.powered = false ∧ u.sup.doms = [] ∧ u.alive.toggling = false ∧ (∀ n, (u.trip n).drive = .off) ∧
      u.keys = s.u.keys ∧ u.cfg = s.u.cfg) ∧
    ∀ ms, s.u.cairn.save = none → CompletesChip (.supplyRestored ms) s (fun u => u.sup = { s.u.sup with warning := false } ∧
      { u with sup := s.u.sup, cairn := s.u.cairn } = s.u ∧ ∃ k, Recorded s.u.cairn k 143 0 [fSym "STATE" "RESTORED", fNat "LENGTH" ms] ∧
        u.cairn = { k with stopped := false })) ∧
  (∀ (s : State) ms, s.u.sup.powered = true → s.u.sup.warning = false → ms ≠ 0 → CompletesChip (.supplyDip ms) s (fun u =>
    { u with cairn := s.u.cairn } = s.u ∧ Recorded s.u.cairn u.cairn 143 0 [fSym "STATE" "DIP", fNat "LENGTH" ms])) ∧
  (∀ (s : State) (n : Fin 24), s.u.sup.powered = true → let d := s.u.dom n
    (d.st = .rising → d.latched = none → (∀ m, m ∈ domUsers n → (s.u.dom m).latched = none) → (n.val < 12 ∨ n = 18 ∨ n = 22 ∨ n = 23) → s.u.trev.commit = none →
      CompletesChip (.domainRiseDone n) s (fun u => u.dom n = { d with st := .on, since := s.u.clk.cycle } ∧ (∀ m, m ≠ n.val → u.dom m = s.u.dom m) ∧
        { u with sup := s.u.sup, cairn := s.u.cairn } = s.u ∧ Recorded s.u.cairn u.cairn 232 n
          [fNat "DOMAIN" n, fSym "FROM" "RISING", fSym "TO" "ON", fSym "CAUSE" d.cause])) ∧
    (d.st = .falling → d.latched = none → (∀ m, m ∈ domNeeds n → (s.u.dom m).latched = none) → CompletesChip (.domainFallDone n) s (fun u =>
      u.dom n = { d with st := .off, since := s.u.clk.cycle } ∧ (∀ m, m ≠ n.val → u.dom m = s.u.dom m) ∧ { u with sup := s.u.sup, cairn := s.u.cairn } = s.u ∧
      Recorded s.u.cairn u.cairn 232 n [fNat "DOMAIN" n, fSym "FROM" "FALLING", fSym "TO" "OFF", fSym "CAUSE" d.cause])) ∧
    (d.st = .rising → 12 ≤ n.val ∧ n.val < 19 ∨ n = 21 ∨ n = 22 → CompletesChip (.domainFault n) s (fun u => (u.dom n).st = .falling ∧
      (u.dom n).forced = true ∧ (u.dom n).latched = none ∧ (u.dom n).retryAt = (if d.retried then none else some (1000000000 + s.u.clk.cycle)) ∧
      Raised s.u.coll u.coll (393 + n.val) n ∧ u.fab = s.u.fab ∧ u.fis = s.u.fis)) ∧
    (∀ t, d.retryAt = some t → d.st = .off → s.u.canRise n = true → CompletesChip (.domainRetry n) s (fun u => (u.dom n).st = .rising ∧
      (u.dom n).retryAt = none ∧ (u.dom n).retried = true ∧ (u.dom n).forced = false ∧ u.clk.cycle = max s.u.clk.cycle t ∧
      (∀ m, m ≠ n.val → u.dom m = s.u.dom m)))) ∧
  (∀ (s : State) (n : Fin 22), s.u.sup.powered = true → s.u.fis = [] → s.u.sup.limitHeld = false → s.u.sup.step = 0 → (∀ m, (s.u.sensor m).st = .normal) →
    (∀ v : Int, -55 ≤ v → v ≤ 150 → v < (thresholds n).getD 0 0 → CompletesChip (.sensorRead n (some v)) s (fun u => (u.sensor n).st = .normal ∧
      (u.sensor n).temp = v ∧ (u.sensor n).bad = false ∧ u.sup.step = 0 ∧ u.coll = s.u.coll ∧
      u.clk.cycle = max s.u.clk.cycle (1000000 + (s.u.sensor n).readAt))) ∧
    (∀ v : Int, v ≤ 150 → (thresholds n).getD 1 0 ≤ v → v < (thresholds n).getD 2 0 → CompletesChip (.sensorRead n (some v)) s (fun u =>
      (u.sensor n).st = .overTemp ∧ u.sup.step = 2 ∧ Raised s.u.coll u.coll 390 0 ∧ u.sup.doms = s.u.sup.doms)) ∧
    ((s.u.sensor n).bad = false → CompletesChip (.sensorRead n none) s (fun u => (u.sensor n).st = .warm ∧ (u.sensor n).bad = true ∧ u.sup.step = 1 ∧
      Raised s.u.coll u.coll 390 n))) ∧
  (∀ (s : State) (i : Fin 4) t rest, s.u.sup.powered = true → s.u.fis = [] → s.u.sup.limitHeld = false → (∀ m, m ≠ 16 + i.val → (s.u.sensor m).st = .normal) →
    s.u.sup.step = 1 → (s.u.sensor (16 + i.val)).st = .warm → (s.u.sensor (16 + i.val)).since = some t :: rest →
    CompletesChip (.stackCool i) s (fun u => (u.sensor (16 + i.val)).st = .normal ∧ u.sup.step = 0 ∧ u.mctl.cap = 16000 * (64 - s.u.rep.retired.length) ∧
      u.clk.cycle = max s.u.clk.cycle (10000000000 + t))) ∧
  (∀ (s : State) (fi : Fin 1024) x k, s.u.sup.powered = true → s.u.fis = [(fi.val, x)] → x.copies = [k] → x.st.acts = true →
    (s.u.fiCfg fi).cls = 0 → (s.u.fiCfg fi).booked ≤ s.u.rateCap → CompletesChip .governorRefill s (fun u =>
      let g := u.mctl.gov.get Gov.init (2 * fi.val)
      let w : Nat := windowCredit (s.u.fiCfg fi).bw
      g.rate = (s.u.fiCfg fi).bw ∧ g.credit = min ((s.u.mctl.gov.get Gov.init (2 * fi.val)).credit + w) (max 8192 (16 * w) : Nat) ∧
      u.mctl.p3Zero = false ∧ u.fis = s.u.fis ∧ u.clk.cycle = max s.u.clk.cycle (1024 + s.u.mctl.refillAt)))

/-- R425–R427, R735–R756: the scrub and the patrol, the clearing of poison, the traverse, the retirement of DRAM groups, and the links. -/
def Obligations.RepairEvents : Prop :=
  (∀ s : State, s.u.sup.powered = true →
    CompletesChip (.sramScrub []) s (fun u => ClockAlone { s.u with mctl := { s.u.mctl with scrubAt := u.clk.cycle }, unit := u.unit } u ∧
      u.unit = { s.u.unit with regs := { s.u.unit.regs with sramPasses := sat32 s.u.unit.regs.sramPasses } } ∧ u.coll = s.u.coll ∧
      u.clk.cycle = max s.u.clk.cycle (30000000000 + s.u.mctl.scrubAt)) ∧
    CompletesChip (.dramPatrol []) s (fun u => ClockAlone { s.u with mctl := { s.u.mctl with patrolAt := u.clk.cycle } } u ∧ u.coll = s.u.coll ∧
      u.clk.cycle = max s.u.clk.cycle (s.u.mctl.patrolAt + day)) ∧
    (∀ w r, s.u.rep.rowErr.find r = none → CompletesChip (.sramScrub [.word w r]) s (fun u => Raised s.u.coll u.coll 64 0 ∧
      u.rep.rowErr.find r = some u.clk.cycle ∧ u.mctl.halfCorr.get 0 (wordHalf w) = sat32 (s.u.mctl.halfCorr.get 0 (wordHalf w)))) ∧
    (∀ w r, Completes (.sramScrub [.wordBad w r]) s (fun t => t.mem = s.mem.spoisonWord w 65 ∧ t.pending = s.pending ∧
      (65, w) ∈ t.u.coll.inbound.map (fun r => (r.src, r.inst)))) ∧
    (∀ l r, Completes (.dramPatrol [.lineBad l r]) s (fun t => t.mem = { s.mem with dpoison := s.mem.dpoison.set l 67 } ∧ t.pending = s.pending ∧
      (67, l) ∈ t.u.coll.inbound.map (fun r => (r.src, r.inst))))) ∧
  (∀ (s : State) (fi : Fin 1024) ls, s.u.sup.powered = true → s.u.mctl.marked.find fi = some ls → Completes (.poisonClearDone fi) s (fun t =>
    (∀ l, l ∈ ls → t.mem.linePoison l = none) ∧ t.u.mctl.marked.find fi = none ∧ t.pending = s.pending ∧ t.mem.sram = s.mem.sram ∧
    t.u.fab = s.u.fab ∧ Recorded s.u.cairn t.u.cairn 178 fi
      [fFi fi, fNat "LINES" (ls.filter (fun l => (s.mem.linePoison l).isSome)).length])) ∧
  (∀ (s : State) t, s.u.sup.powered = true → let cl := s.u.rep.next % 8
    s.u.cfg.traverse = true → s.u.rep.steps = [] → s.u.stepsHeld = false → s.u.domOn cl = true → s.u.candidateTile cl = some t → s.u.slotsOn t = [] →
    CompletesChip .traverseStep s (fun u => u.rep.next = (cl + 1) % 8 ∧ (u.tileRep t).st = .testing ∧
      (∃ x, u.step' cl = some x ∧ x.cand = t ∧ x.target = none ∧ x.phase = .test ∧ x.scheduled = true ∧ x.accused = none) ∧
      u.clk.cycle = max s.u.clk.cycle (s.u.rep.from? + s.u.cfg.interval) ∧ u.fis = s.u.fis ∧ u.fab = s.u.fab)) ∧
  (∀ (s : State) (cl : Fin 8) x, s.u.sup.powered = true → s.u.step' cl = some x →
    (∀ (fi : Fin 1024) (k : Fin 2) dest m, x.phase = .shadow → x.target = some dest → m ∈ x.slots → m.fi = fi.val → m.copy = k.val → m.switched = false →
      k.val < s.u.nCopies fi → CompletesChip (.slotSwitch cl fi k) s (fun u =>
        (u.copy fi k).map = (s.u.copy fi k).map.map (fun t => if t = x.cand then dest else t) ∧
        (∃ y, u.step' cl = some y ∧ y.phase = .shadow ∧ y.lastSwitch = u.clk.cycle ∧
          y.slots = x.slots.map (fun z => if z.fi = fi.val ∧ z.copy = k.val then { z with switched := true } else z)))) ∧
    (∀ r, x.phase = .test → x.accused = none → s.u.domOn 23 = true → CompletesChip (.tileTestDone cl r) s (fun u =>
      u.step' cl = none ∧ (u.tileRep x.cand).passed = r.isSome ∧ (r ≠ none → (u.tileRep x.cand).st = .spare) ∧
      (r = none → (u.tileRep x.cand).st = .spliced ∧ ∃ w, u.rep.soft.find x.cand = some w ∧ w.1 = .traverse) ∧ x.cand ∉ u.fab.marks ∧ u.fis = s.u.fis)) ∧
    (∀ dest, x.phase = .shadow → x.target = some dest → (∀ m, m ∈ x.slots → m.switched = false) → CompletesChip (.traverseCompareFail cl) s (fun u =>
      Raised s.u.coll u.coll 419 cl ∧ x.cand ∈ u.fab.marks ∧ (u.tileRep dest).st = .testing ∧ (u.tileRep dest).suspect = true ∧ u.fis = s.u.fis ∧
      ∃ y, u.step' cl = some y ∧ y.cand = dest ∧ y.phase = .test ∧ y.accused = some x.cand)) ∧
    (x.phase = .prepare → CompletesChip (.traversePhaseEnd cl) s (fun u => u.clk.cycle = max s.u.clk.cycle (x.since + ((s.u.tile x.cand).pages.length + 3) / 4 * 363) ∧
      u.step' cl = some { x with phase := .copy, since := u.clk.cycle } ∧ u.fab = s.u.fab ∧ u.fis = s.u.fis)) ∧
    (x.phase = .copy → CompletesChip (.traversePhaseEnd cl) s (fun u => u.clk.cycle = max s.u.clk.cycle (x.since + 512) ∧
      (∃ y, u.step' cl = some y ∧ y.phase = .shadow ∧ y.copied = u.clk.cycle ∧ y.target = x.target ∧ y.cand = x.cand) ∧ u.fab = s.u.fab ∧ u.fis = s.u.fis)) ∧
    (x.phase = .shadow → (∀ m, m ∈ x.slots → m.switched = true) → CompletesChip (.traversePhaseEnd cl) s (fun u =>
      u.clk.cycle = max s.u.clk.cycle (10000 + x.lastSwitch) ∧ u.step' cl = some { x with phase := .vacate, since := u.clk.cycle } ∧ u.fis = s.u.fis)) ∧
    (x.phase = .vacate → (s.u.tileRep x.cand).suspect = false → CompletesChip (.traversePhaseEnd cl) s (fun u =>
      u.clk.cycle = max s.u.clk.cycle (x.since + 256) ∧ u.step' cl = some { x with phase := .test, since := u.clk.cycle } ∧
      (u.tileRep x.cand).st = .testing ∧ u.fis = s.u.fis))) ∧
  (∀ (s : State) (g : Fin 64), s.u.sup.powered = true →
    (g.val ∈ s.u.rep.retired → CompletesChip (.dramGroupRetire g) s (fun u => u = s.u)) ∧
    (g.val ∉ s.u.rep.retired → s.u.rep.reloc < 3 → s.u.fis = [] → CompletesChip (.dramGroupRetire g) s (fun u => u.rep.retired = insNat s.u.rep.retired g ∧
      u.rep.reloc = s.u.rep.reloc + 1 ∧ Raised s.u.coll u.coll 76 g ∧ u.mctl.cap = u.capacity))) ∧
  (∀ (s : State) n ends, s.u.sup.powered = true → let x := s.u.repLink n
    (x.spares < 2 → x.out = false → CompletesChip (.bitLaneSpare n) s (fun u => u.repLink n = { x with spares := x.spares + 1 } ∧ u.coll = s.u.coll ∧
      u.fab = s.u.fab ∧ Recorded s.u.cairn u.cairn 207 n [fNat "LINK" n, fSym "ACTION" "SPARE"])) ∧
    (2 ≤ x.spares → x.out = false → x.half = false → CompletesChip (.linkHalfWidth n ends) s (fun u => (u.repLink n).half = true ∧ (u.repLink n).out = false ∧
      Raised s.u.coll u.coll 1 n ∧ u.fab = s.u.fab ∧ Recorded s.u.cairn u.cairn 207 n [fNat "LINK" n, fSym "ACTION" "HALF"])) ∧
    (2 ≤ x.spares → x.out = false → x.half = true → ends = [] → CompletesChip (.linkHalfWidth n ends) s (fun u => (u.repLink n).out = true ∧
      u.coll = s.u.coll ∧ u.fab = s.u.fab ∧ u.cairn = s.u.cairn)))
end

