-- ==== Sys2Proof/Laws/State.lean ====
section
/-!
SUPPORT. What each update of the unit's state leaves and what it writes: one lemma per field per update, all true by rfl.
-/
namespace Sys2Proof.Machine
variable (c : Chip)

/-! ### trev' -/

@[simp] theorem Chip.trev_prime_clk (g : Trev → Trev) : (c.trev' g).clk = c.clk := rfl
@[simp] theorem Chip.trev_prime_sup (g : Trev → Trev) : (c.trev' g).sup = c.sup := rfl
@[simp] theorem Chip.trev_prime_mctl (g : Trev → Trev) : (c.trev' g).mctl = c.mctl := rfl
@[simp] theorem Chip.trev_prime_coll (g : Trev → Trev) : (c.trev' g).coll = c.coll := rfl
@[simp] theorem Chip.trev_prime_belay (g : Trev → Trev) : (c.trev' g).belay = c.belay := rfl
@[simp] theorem Chip.trev_prime_alive (g : Trev → Trev) : (c.trev' g).alive = c.alive := rfl
@[simp] theorem Chip.trev_prime_cairn (g : Trev → Trev) : (c.trev' g).cairn = c.cairn := rfl
@[simp] theorem Chip.trev_prime_cfg (g : Trev → Trev) : (c.trev' g).cfg = c.cfg := rfl
@[simp] theorem Chip.trev_prime_fis (g : Trev → Trev) : (c.trev' g).fis = c.fis := rfl
@[simp] theorem Chip.trev_prime_fab (g : Trev → Trev) : (c.trev' g).fab = c.fab := rfl
@[simp] theorem Chip.trev_prime_links (g : Trev → Trev) : (c.trev' g).links = c.links := rfl
@[simp] theorem Chip.trev_prime_sw (g : Trev → Trev) : (c.trev' g).sw = c.sw := rfl
@[simp] theorem Chip.trev_prime_codec (g : Trev → Trev) : (c.trev' g).codec = c.codec := rfl
@[simp] theorem Chip.trev_prime_panel (g : Trev → Trev) : (c.trev' g).panel = c.panel := rfl
@[simp] theorem Chip.trev_prime_keys (g : Trev → Trev) : (c.trev' g).keys = c.keys := rfl
@[simp] theorem Chip.trev_prime_trev (g : Trev → Trev) : (c.trev' g).trev = g c.trev := rfl
@[simp] theorem Chip.trev_prime_rep (g : Trev → Trev) : (c.trev' g).rep = c.rep := rfl
@[simp] theorem Chip.trev_prime_unit (g : Trev → Trev) : (c.trev' g).unit = c.unit := rfl
@[simp] theorem Chip.trev_prime_free (g : Trev → Trev) : (c.trev' g).free = c.free := rfl

/-! ### modSess -/

@[simp] theorem Chip.modSess_clk (n : Nat) (g : Sess → Sess) : (c.modSess n g).clk = c.clk := rfl
@[simp] theorem Chip.modSess_sup (n : Nat) (g : Sess → Sess) : (c.modSess n g).sup = c.sup := rfl
@[simp] theorem Chip.modSess_mctl (n : Nat) (g : Sess → Sess) : (c.modSess n g).mctl = c.mctl := rfl
@[simp] theorem Chip.modSess_coll (n : Nat) (g : Sess → Sess) : (c.modSess n g).coll = c.coll := rfl
@[simp] theorem Chip.modSess_belay (n : Nat) (g : Sess → Sess) : (c.modSess n g).belay = c.belay := rfl
@[simp] theorem Chip.modSess_alive (n : Nat) (g : Sess → Sess) : (c.modSess n g).alive = c.alive := rfl
@[simp] theorem Chip.modSess_cairn (n : Nat) (g : Sess → Sess) : (c.modSess n g).cairn = c.cairn := rfl
@[simp] theorem Chip.modSess_cfg (n : Nat) (g : Sess → Sess) : (c.modSess n g).cfg = c.cfg := rfl
@[simp] theorem Chip.modSess_fis (n : Nat) (g : Sess → Sess) : (c.modSess n g).fis = c.fis := rfl
@[simp] theorem Chip.modSess_fab (n : Nat) (g : Sess → Sess) : (c.modSess n g).fab = c.fab := rfl
@[simp] theorem Chip.modSess_links (n : Nat) (g : Sess → Sess) : (c.modSess n g).links = c.links := rfl
@[simp] theorem Chip.modSess_sw (n : Nat) (g : Sess → Sess) : (c.modSess n g).sw = c.sw := rfl
@[simp] theorem Chip.modSess_codec (n : Nat) (g : Sess → Sess) : (c.modSess n g).codec = c.codec := rfl
@[simp] theorem Chip.modSess_panel (n : Nat) (g : Sess → Sess) : (c.modSess n g).panel = c.panel := rfl
@[simp] theorem Chip.modSess_keys (n : Nat) (g : Sess → Sess) : (c.modSess n g).keys = c.keys := rfl
@[simp] theorem Chip.modSess_trev (n : Nat) (g : Sess → Sess) : (c.modSess n g).trev = { c.trev with sess := c.trev.sess.put Sess.init n (g (c.sess n)) } := rfl
@[simp] theorem Chip.modSess_rep (n : Nat) (g : Sess → Sess) : (c.modSess n g).rep = c.rep := rfl
@[simp] theorem Chip.modSess_unit (n : Nat) (g : Sess → Sess) : (c.modSess n g).unit = c.unit := rfl
@[simp] theorem Chip.modSess_free (n : Nat) (g : Sess → Sess) : (c.modSess n g).free = c.free := rfl

/-! ### setFi -/

@[simp] theorem Chip.setFi_clk (n : Nat) (x : Fi) : (c.setFi n x).clk = c.clk := rfl
@[simp] theorem Chip.setFi_sup (n : Nat) (x : Fi) : (c.setFi n x).sup = c.sup := rfl
@[simp] theorem Chip.setFi_mctl (n : Nat) (x : Fi) : (c.setFi n x).mctl = c.mctl := rfl
@[simp] theorem Chip.setFi_coll (n : Nat) (x : Fi) : (c.setFi n x).coll = c.coll := rfl
@[simp] theorem Chip.setFi_belay (n : Nat) (x : Fi) : (c.setFi n x).belay = c.belay := rfl
@[simp] theorem Chip.setFi_alive (n : Nat) (x : Fi) : (c.setFi n x).alive = c.alive := rfl
@[simp] theorem Chip.setFi_cairn (n : Nat) (x : Fi) : (c.setFi n x).cairn = c.cairn := rfl
@[simp] theorem Chip.setFi_cfg (n : Nat) (x : Fi) : (c.setFi n x).cfg = c.cfg := rfl
@[simp] theorem Chip.setFi_fis (n : Nat) (x : Fi) : (c.setFi n x).fis = c.fis.put Fi.init n x := rfl
@[simp] theorem Chip.setFi_fab (n : Nat) (x : Fi) : (c.setFi n x).fab = c.fab := rfl
@[simp] theorem Chip.setFi_links (n : Nat) (x : Fi) : (c.setFi n x).links = c.links := rfl
@[simp] theorem Chip.setFi_sw (n : Nat) (x : Fi) : (c.setFi n x).sw = c.sw := rfl
@[simp] theorem Chip.setFi_codec (n : Nat) (x : Fi) : (c.setFi n x).codec = c.codec := rfl
@[simp] theorem Chip.setFi_panel (n : Nat) (x : Fi) : (c.setFi n x).panel = c.panel := rfl
@[simp] theorem Chip.setFi_keys (n : Nat) (x : Fi) : (c.setFi n x).keys = c.keys := rfl
@[simp] theorem Chip.setFi_trev (n : Nat) (x : Fi) : (c.setFi n x).trev = c.trev := rfl
@[simp] theorem Chip.setFi_rep (n : Nat) (x : Fi) : (c.setFi n x).rep = c.rep := rfl
@[simp] theorem Chip.setFi_unit (n : Nat) (x : Fi) : (c.setFi n x).unit = c.unit := rfl
@[simp] theorem Chip.setFi_free (n : Nat) (x : Fi) : (c.setFi n x).free = c.free := rfl

/-! ### modFi -/

@[simp] theorem Chip.modFi_clk (n : Nat) (g : Fi → Fi) : (c.modFi n g).clk = c.clk := rfl
@[simp] theorem Chip.modFi_sup (n : Nat) (g : Fi → Fi) : (c.modFi n g).sup = c.sup := rfl
@[simp] theorem Chip.modFi_mctl (n : Nat) (g : Fi → Fi) : (c.modFi n g).mctl = c.mctl := rfl
@[simp] theorem Chip.modFi_coll (n : Nat) (g : Fi → Fi) : (c.modFi n g).coll = c.coll := rfl
@[simp] theorem Chip.modFi_belay (n : Nat) (g : Fi → Fi) : (c.modFi n g).belay = c.belay := rfl
@[simp] theorem Chip.modFi_alive (n : Nat) (g : Fi → Fi) : (c.modFi n g).alive = c.alive := rfl
@[simp] theorem Chip.modFi_cairn (n : Nat) (g : Fi → Fi) : (c.modFi n g).cairn = c.cairn := rfl
@[simp] theorem Chip.modFi_cfg (n : Nat) (g : Fi → Fi) : (c.modFi n g).cfg = c.cfg := rfl
@[simp] theorem Chip.modFi_fis (n : Nat) (g : Fi → Fi) : (c.modFi n g).fis = c.fis.put Fi.init n (g (c.fi n)) := rfl
@[simp] theorem Chip.modFi_fab (n : Nat) (g : Fi → Fi) : (c.modFi n g).fab = c.fab := rfl
@[simp] theorem Chip.modFi_links (n : Nat) (g : Fi → Fi) : (c.modFi n g).links = c.links := rfl
@[simp] theorem Chip.modFi_sw (n : Nat) (g : Fi → Fi) : (c.modFi n g).sw = c.sw := rfl
@[simp] theorem Chip.modFi_codec (n : Nat) (g : Fi → Fi) : (c.modFi n g).codec = c.codec := rfl
@[simp] theorem Chip.modFi_panel (n : Nat) (g : Fi → Fi) : (c.modFi n g).panel = c.panel := rfl
@[simp] theorem Chip.modFi_keys (n : Nat) (g : Fi → Fi) : (c.modFi n g).keys = c.keys := rfl
@[simp] theorem Chip.modFi_trev (n : Nat) (g : Fi → Fi) : (c.modFi n g).trev = c.trev := rfl
@[simp] theorem Chip.modFi_rep (n : Nat) (g : Fi → Fi) : (c.modFi n g).rep = c.rep := rfl
@[simp] theorem Chip.modFi_unit (n : Nat) (g : Fi → Fi) : (c.modFi n g).unit = c.unit := rfl
@[simp] theorem Chip.modFi_free (n : Nat) (g : Fi → Fi) : (c.modFi n g).free = c.free := rfl

/-! ### modCopy -/

@[simp] theorem Chip.modCopy_clk (n k : Nat) (g : Copy → Copy) : (c.modCopy n k g).clk = c.clk := rfl
@[simp] theorem Chip.modCopy_sup (n k : Nat) (g : Copy → Copy) : (c.modCopy n k g).sup = c.sup := rfl
@[simp] theorem Chip.modCopy_mctl (n k : Nat) (g : Copy → Copy) : (c.modCopy n k g).mctl = c.mctl := rfl
@[simp] theorem Chip.modCopy_coll (n k : Nat) (g : Copy → Copy) : (c.modCopy n k g).coll = c.coll := rfl
@[simp] theorem Chip.modCopy_belay (n k : Nat) (g : Copy → Copy) : (c.modCopy n k g).belay = c.belay := rfl
@[simp] theorem Chip.modCopy_alive (n k : Nat) (g : Copy → Copy) : (c.modCopy n k g).alive = c.alive := rfl
@[simp] theorem Chip.modCopy_cairn (n k : Nat) (g : Copy → Copy) : (c.modCopy n k g).cairn = c.cairn := rfl
@[simp] theorem Chip.modCopy_cfg (n k : Nat) (g : Copy → Copy) : (c.modCopy n k g).cfg = c.cfg := rfl
@[simp] theorem Chip.modCopy_fab (n k : Nat) (g : Copy → Copy) : (c.modCopy n k g).fab = c.fab := rfl
@[simp] theorem Chip.modCopy_links (n k : Nat) (g : Copy → Copy) : (c.modCopy n k g).links = c.links := rfl
@[simp] theorem Chip.modCopy_sw (n k : Nat) (g : Copy → Copy) : (c.modCopy n k g).sw = c.sw := rfl
@[simp] theorem Chip.modCopy_codec (n k : Nat) (g : Copy → Copy) : (c.modCopy n k g).codec = c.codec := rfl
@[simp] theorem Chip.modCopy_panel (n k : Nat) (g : Copy → Copy) : (c.modCopy n k g).panel = c.panel := rfl
@[simp] theorem Chip.modCopy_keys (n k : Nat) (g : Copy → Copy) : (c.modCopy n k g).keys = c.keys := rfl
@[simp] theorem Chip.modCopy_trev (n k : Nat) (g : Copy → Copy) : (c.modCopy n k g).trev = c.trev := rfl
@[simp] theorem Chip.modCopy_rep (n k : Nat) (g : Copy → Copy) : (c.modCopy n k g).rep = c.rep := rfl
@[simp] theorem Chip.modCopy_unit (n k : Nat) (g : Copy → Copy) : (c.modCopy n k g).unit = c.unit := rfl
@[simp] theorem Chip.modCopy_free (n k : Nat) (g : Copy → Copy) : (c.modCopy n k g).free = c.free := rfl

/-! ### count -/

@[simp] theorem Chip.count_clk (n k : Nat) (g : Cnt → Cnt) : (c.count n k g).clk = c.clk := rfl
@[simp] theorem Chip.count_sup (n k : Nat) (g : Cnt → Cnt) : (c.count n k g).sup = c.sup := rfl
@[simp] theorem Chip.count_mctl (n k : Nat) (g : Cnt → Cnt) : (c.count n k g).mctl = c.mctl := rfl
@[simp] theorem Chip.count_coll (n k : Nat) (g : Cnt → Cnt) : (c.count n k g).coll = c.coll := rfl
@[simp] theorem Chip.count_belay (n k : Nat) (g : Cnt → Cnt) : (c.count n k g).belay = c.belay := rfl
@[simp] theorem Chip.count_alive (n k : Nat) (g : Cnt → Cnt) : (c.count n k g).alive = c.alive := rfl
@[simp] theorem Chip.count_cairn (n k : Nat) (g : Cnt → Cnt) : (c.count n k g).cairn = c.cairn := rfl
@[simp] theorem Chip.count_cfg (n k : Nat) (g : Cnt → Cnt) : (c.count n k g).cfg = c.cfg := rfl
@[simp] theorem Chip.count_fab (n k : Nat) (g : Cnt → Cnt) : (c.count n k g).fab = c.fab := rfl
@[simp] theorem Chip.count_links (n k : Nat) (g : Cnt → Cnt) : (c.count n k g).links = c.links := rfl
@[simp] theorem Chip.count_sw (n k : Nat) (g : Cnt → Cnt) : (c.count n k g).sw = c.sw := rfl
@[simp] theorem Chip.count_codec (n k : Nat) (g : Cnt → Cnt) : (c.count n k g).codec = c.codec := rfl
@[simp] theorem Chip.count_panel (n k : Nat) (g : Cnt → Cnt) : (c.count n k g).panel = c.panel := rfl
@[simp] theorem Chip.count_keys (n k : Nat) (g : Cnt → Cnt) : (c.count n k g).keys = c.keys := rfl
@[simp] theorem Chip.count_trev (n k : Nat) (g : Cnt → Cnt) : (c.count n k g).trev = c.trev := rfl
@[simp] theorem Chip.count_rep (n k : Nat) (g : Cnt → Cnt) : (c.count n k g).rep = c.rep := rfl
@[simp] theorem Chip.count_unit (n k : Nat) (g : Cnt → Cnt) : (c.count n k g).unit = c.unit := rfl
@[simp] theorem Chip.count_free (n k : Nat) (g : Cnt → Cnt) : (c.count n k g).free = c.free := rfl

/-! ### fab' -/

@[simp] theorem Chip.fab_prime_clk (g : Fabric → Fabric) : (c.fab' g).clk = c.clk := rfl
@[simp] theorem Chip.fab_prime_sup (g : Fabric → Fabric) : (c.fab' g).sup = c.sup := rfl
@[simp] theorem Chip.fab_prime_mctl (g : Fabric → Fabric) : (c.fab' g).mctl = c.mctl := rfl
@[simp] theorem Chip.fab_prime_coll (g : Fabric → Fabric) : (c.fab' g).coll = c.coll := rfl
@[simp] theorem Chip.fab_prime_belay (g : Fabric → Fabric) : (c.fab' g).belay = c.belay := rfl
@[simp] theorem Chip.fab_prime_alive (g : Fabric → Fabric) : (c.fab' g).alive = c.alive := rfl
@[simp] theorem Chip.fab_prime_cairn (g : Fabric → Fabric) : (c.fab' g).cairn = c.cairn := rfl
@[simp] theorem Chip.fab_prime_cfg (g : Fabric → Fabric) : (c.fab' g).cfg = c.cfg := rfl
@[simp] theorem Chip.fab_prime_fis (g : Fabric → Fabric) : (c.fab' g).fis = c.fis := rfl
@[simp] theorem Chip.fab_prime_fab (g : Fabric → Fabric) : (c.fab' g).fab = g c.fab := rfl
@[simp] theorem Chip.fab_prime_links (g : Fabric → Fabric) : (c.fab' g).links = c.links := rfl
@[simp] theorem Chip.fab_prime_sw (g : Fabric → Fabric) : (c.fab' g).sw = c.sw := rfl
@[simp] theorem Chip.fab_prime_codec (g : Fabric → Fabric) : (c.fab' g).codec = c.codec := rfl
@[simp] theorem Chip.fab_prime_panel (g : Fabric → Fabric) : (c.fab' g).panel = c.panel := rfl
@[simp] theorem Chip.fab_prime_keys (g : Fabric → Fabric) : (c.fab' g).keys = c.keys := rfl
@[simp] theorem Chip.fab_prime_trev (g : Fabric → Fabric) : (c.fab' g).trev = c.trev := rfl
@[simp] theorem Chip.fab_prime_rep (g : Fabric → Fabric) : (c.fab' g).rep = c.rep := rfl
@[simp] theorem Chip.fab_prime_unit (g : Fabric → Fabric) : (c.fab' g).unit = c.unit := rfl
@[simp] theorem Chip.fab_prime_free (g : Fabric → Fabric) : (c.fab' g).free = c.free := rfl

/-! ### modTile -/

@[simp] theorem Chip.modTile_clk (n : Nat) (g : Tile → Tile) : (c.modTile n g).clk = c.clk := rfl
@[simp] theorem Chip.modTile_sup (n : Nat) (g : Tile → Tile) : (c.modTile n g).sup = c.sup := rfl
@[simp] theorem Chip.modTile_mctl (n : Nat) (g : Tile → Tile) : (c.modTile n g).mctl = c.mctl := rfl
@[simp] theorem Chip.modTile_coll (n : Nat) (g : Tile → Tile) : (c.modTile n g).coll = c.coll := rfl
@[simp] theorem Chip.modTile_belay (n : Nat) (g : Tile → Tile) : (c.modTile n g).belay = c.belay := rfl
@[simp] theorem Chip.modTile_alive (n : Nat) (g : Tile → Tile) : (c.modTile n g).alive = c.alive := rfl
@[simp] theorem Chip.modTile_cairn (n : Nat) (g : Tile → Tile) : (c.modTile n g).cairn = c.cairn := rfl
@[simp] theorem Chip.modTile_cfg (n : Nat) (g : Tile → Tile) : (c.modTile n g).cfg = c.cfg := rfl
@[simp] theorem Chip.modTile_fis (n : Nat) (g : Tile → Tile) : (c.modTile n g).fis = c.fis := rfl
@[simp] theorem Chip.modTile_fab (n : Nat) (g : Tile → Tile) : (c.modTile n g).fab = { c.fab with tiles := c.fab.tiles.put Tile.init n (g (c.tile n)) } := rfl
@[simp] theorem Chip.modTile_links (n : Nat) (g : Tile → Tile) : (c.modTile n g).links = c.links := rfl
@[simp] theorem Chip.modTile_sw (n : Nat) (g : Tile → Tile) : (c.modTile n g).sw = c.sw := rfl
@[simp] theorem Chip.modTile_codec (n : Nat) (g : Tile → Tile) : (c.modTile n g).codec = c.codec := rfl
@[simp] theorem Chip.modTile_panel (n : Nat) (g : Tile → Tile) : (c.modTile n g).panel = c.panel := rfl
@[simp] theorem Chip.modTile_keys (n : Nat) (g : Tile → Tile) : (c.modTile n g).keys = c.keys := rfl
@[simp] theorem Chip.modTile_trev (n : Nat) (g : Tile → Tile) : (c.modTile n g).trev = c.trev := rfl
@[simp] theorem Chip.modTile_rep (n : Nat) (g : Tile → Tile) : (c.modTile n g).rep = c.rep := rfl
@[simp] theorem Chip.modTile_unit (n : Nat) (g : Tile → Tile) : (c.modTile n g).unit = c.unit := rfl
@[simp] theorem Chip.modTile_free (n : Nat) (g : Tile → Tile) : (c.modTile n g).free = c.free := rfl

/-! ### modCtx -/

@[simp] theorem Chip.modCtx_clk (n : Nat) (g : Ctx → Ctx) : (c.modCtx n g).clk = c.clk := rfl
@[simp] theorem Chip.modCtx_sup (n : Nat) (g : Ctx → Ctx) : (c.modCtx n g).sup = c.sup := rfl
@[simp] theorem Chip.modCtx_mctl (n : Nat) (g : Ctx → Ctx) : (c.modCtx n g).mctl = c.mctl := rfl
@[simp] theorem Chip.modCtx_coll (n : Nat) (g : Ctx → Ctx) : (c.modCtx n g).coll = c.coll := rfl
@[simp] theorem Chip.modCtx_belay (n : Nat) (g : Ctx → Ctx) : (c.modCtx n g).belay = c.belay := rfl
@[simp] theorem Chip.modCtx_alive (n : Nat) (g : Ctx → Ctx) : (c.modCtx n g).alive = c.alive := rfl
@[simp] theorem Chip.modCtx_cairn (n : Nat) (g : Ctx → Ctx) : (c.modCtx n g).cairn = c.cairn := rfl
@[simp] theorem Chip.modCtx_cfg (n : Nat) (g : Ctx → Ctx) : (c.modCtx n g).cfg = c.cfg := rfl
@[simp] theorem Chip.modCtx_fis (n : Nat) (g : Ctx → Ctx) : (c.modCtx n g).fis = c.fis := rfl
@[simp] theorem Chip.modCtx_fab (n : Nat) (g : Ctx → Ctx) : (c.modCtx n g).fab = { c.fab with ctxs := c.fab.ctxs.put Ctx.init n (g (c.ctx n)) } := rfl
@[simp] theorem Chip.modCtx_links (n : Nat) (g : Ctx → Ctx) : (c.modCtx n g).links = c.links := rfl
@[simp] theorem Chip.modCtx_sw (n : Nat) (g : Ctx → Ctx) : (c.modCtx n g).sw = c.sw := rfl
@[simp] theorem Chip.modCtx_codec (n : Nat) (g : Ctx → Ctx) : (c.modCtx n g).codec = c.codec := rfl
@[simp] theorem Chip.modCtx_panel (n : Nat) (g : Ctx → Ctx) : (c.modCtx n g).panel = c.panel := rfl
@[simp] theorem Chip.modCtx_keys (n : Nat) (g : Ctx → Ctx) : (c.modCtx n g).keys = c.keys := rfl
@[simp] theorem Chip.modCtx_trev (n : Nat) (g : Ctx → Ctx) : (c.modCtx n g).trev = c.trev := rfl
@[simp] theorem Chip.modCtx_rep (n : Nat) (g : Ctx → Ctx) : (c.modCtx n g).rep = c.rep := rfl
@[simp] theorem Chip.modCtx_unit (n : Nat) (g : Ctx → Ctx) : (c.modCtx n g).unit = c.unit := rfl
@[simp] theorem Chip.modCtx_free (n : Nat) (g : Ctx → Ctx) : (c.modCtx n g).free = c.free := rfl

/-! ### modPool -/

@[simp] theorem Chip.modPool_clk (n : Nat) (g : FramePool → FramePool) : (c.modPool n g).clk = c.clk := rfl
@[simp] theorem Chip.modPool_sup (n : Nat) (g : FramePool → FramePool) : (c.modPool n g).sup = c.sup := rfl
@[simp] theorem Chip.modPool_mctl (n : Nat) (g : FramePool → FramePool) : (c.modPool n g).mctl = c.mctl := rfl
@[simp] theorem Chip.modPool_coll (n : Nat) (g : FramePool → FramePool) : (c.modPool n g).coll = c.coll := rfl
@[simp] theorem Chip.modPool_belay (n : Nat) (g : FramePool → FramePool) : (c.modPool n g).belay = c.belay := rfl
@[simp] theorem Chip.modPool_alive (n : Nat) (g : FramePool → FramePool) : (c.modPool n g).alive = c.alive := rfl
@[simp] theorem Chip.modPool_cairn (n : Nat) (g : FramePool → FramePool) : (c.modPool n g).cairn = c.cairn := rfl
@[simp] theorem Chip.modPool_cfg (n : Nat) (g : FramePool → FramePool) : (c.modPool n g).cfg = c.cfg := rfl
@[simp] theorem Chip.modPool_fis (n : Nat) (g : FramePool → FramePool) : (c.modPool n g).fis = c.fis := rfl
@[simp] theorem Chip.modPool_fab (n : Nat) (g : FramePool → FramePool) : (c.modPool n g).fab = { c.fab with frames := c.fab.frames.put FramePool.init n (g (c.framePool n)) } := rfl
@[simp] theorem Chip.modPool_links (n : Nat) (g : FramePool → FramePool) : (c.modPool n g).links = c.links := rfl
@[simp] theorem Chip.modPool_sw (n : Nat) (g : FramePool → FramePool) : (c.modPool n g).sw = c.sw := rfl
@[simp] theorem Chip.modPool_codec (n : Nat) (g : FramePool → FramePool) : (c.modPool n g).codec = c.codec := rfl
@[simp] theorem Chip.modPool_panel (n : Nat) (g : FramePool → FramePool) : (c.modPool n g).panel = c.panel := rfl
@[simp] theorem Chip.modPool_keys (n : Nat) (g : FramePool → FramePool) : (c.modPool n g).keys = c.keys := rfl
@[simp] theorem Chip.modPool_trev (n : Nat) (g : FramePool → FramePool) : (c.modPool n g).trev = c.trev := rfl
@[simp] theorem Chip.modPool_rep (n : Nat) (g : FramePool → FramePool) : (c.modPool n g).rep = c.rep := rfl
@[simp] theorem Chip.modPool_unit (n : Nat) (g : FramePool → FramePool) : (c.modPool n g).unit = c.unit := rfl
@[simp] theorem Chip.modPool_free (n : Nat) (g : FramePool → FramePool) : (c.modPool n g).free = c.free := rfl

/-! ### modDeep -/

@[simp] theorem Chip.modDeep_clk (n : Nat) (g : Deep → Deep) : (c.modDeep n g).clk = c.clk := rfl
@[simp] theorem Chip.modDeep_sup (n : Nat) (g : Deep → Deep) : (c.modDeep n g).sup = c.sup := rfl
@[simp] theorem Chip.modDeep_mctl (n : Nat) (g : Deep → Deep) : (c.modDeep n g).mctl = c.mctl := rfl
@[simp] theorem Chip.modDeep_coll (n : Nat) (g : Deep → Deep) : (c.modDeep n g).coll = c.coll := rfl
@[simp] theorem Chip.modDeep_belay (n : Nat) (g : Deep → Deep) : (c.modDeep n g).belay = c.belay := rfl
@[simp] theorem Chip.modDeep_alive (n : Nat) (g : Deep → Deep) : (c.modDeep n g).alive = c.alive := rfl
@[simp] theorem Chip.modDeep_cairn (n : Nat) (g : Deep → Deep) : (c.modDeep n g).cairn = c.cairn := rfl
@[simp] theorem Chip.modDeep_cfg (n : Nat) (g : Deep → Deep) : (c.modDeep n g).cfg = c.cfg := rfl
@[simp] theorem Chip.modDeep_fis (n : Nat) (g : Deep → Deep) : (c.modDeep n g).fis = c.fis := rfl
@[simp] theorem Chip.modDeep_fab (n : Nat) (g : Deep → Deep) : (c.modDeep n g).fab = { c.fab with deeps := c.fab.deeps.put Deep.init n (g (c.deep n)) } := rfl
@[simp] theorem Chip.modDeep_links (n : Nat) (g : Deep → Deep) : (c.modDeep n g).links = c.links := rfl
@[simp] theorem Chip.modDeep_sw (n : Nat) (g : Deep → Deep) : (c.modDeep n g).sw = c.sw := rfl
@[simp] theorem Chip.modDeep_codec (n : Nat) (g : Deep → Deep) : (c.modDeep n g).codec = c.codec := rfl
@[simp] theorem Chip.modDeep_panel (n : Nat) (g : Deep → Deep) : (c.modDeep n g).panel = c.panel := rfl
@[simp] theorem Chip.modDeep_keys (n : Nat) (g : Deep → Deep) : (c.modDeep n g).keys = c.keys := rfl
@[simp] theorem Chip.modDeep_trev (n : Nat) (g : Deep → Deep) : (c.modDeep n g).trev = c.trev := rfl
@[simp] theorem Chip.modDeep_rep (n : Nat) (g : Deep → Deep) : (c.modDeep n g).rep = c.rep := rfl
@[simp] theorem Chip.modDeep_unit (n : Nat) (g : Deep → Deep) : (c.modDeep n g).unit = c.unit := rfl
@[simp] theorem Chip.modDeep_free (n : Nat) (g : Deep → Deep) : (c.modDeep n g).free = c.free := rfl

/-! ### modHitch -/

@[simp] theorem Chip.modHitch_clk (n : Nat) (g : Hitch → Hitch) : (c.modHitch n g).clk = c.clk := rfl
@[simp] theorem Chip.modHitch_sup (n : Nat) (g : Hitch → Hitch) : (c.modHitch n g).sup = c.sup := rfl
@[simp] theorem Chip.modHitch_mctl (n : Nat) (g : Hitch → Hitch) : (c.modHitch n g).mctl = c.mctl := rfl
@[simp] theorem Chip.modHitch_coll (n : Nat) (g : Hitch → Hitch) : (c.modHitch n g).coll = c.coll := rfl
@[simp] theorem Chip.modHitch_belay (n : Nat) (g : Hitch → Hitch) : (c.modHitch n g).belay = c.belay := rfl
@[simp] theorem Chip.modHitch_alive (n : Nat) (g : Hitch → Hitch) : (c.modHitch n g).alive = c.alive := rfl
@[simp] theorem Chip.modHitch_cairn (n : Nat) (g : Hitch → Hitch) : (c.modHitch n g).cairn = c.cairn := rfl
@[simp] theorem Chip.modHitch_cfg (n : Nat) (g : Hitch → Hitch) : (c.modHitch n g).cfg = c.cfg := rfl
@[simp] theorem Chip.modHitch_fis (n : Nat) (g : Hitch → Hitch) : (c.modHitch n g).fis = c.fis := rfl
@[simp] theorem Chip.modHitch_fab (n : Nat) (g : Hitch → Hitch) : (c.modHitch n g).fab = { c.fab with hitches := c.fab.hitches.put Hitch.init n (g (c.hitch n)) } := rfl
@[simp] theorem Chip.modHitch_links (n : Nat) (g : Hitch → Hitch) : (c.modHitch n g).links = c.links := rfl
@[simp] theorem Chip.modHitch_sw (n : Nat) (g : Hitch → Hitch) : (c.modHitch n g).sw = c.sw := rfl
@[simp] theorem Chip.modHitch_codec (n : Nat) (g : Hitch → Hitch) : (c.modHitch n g).codec = c.codec := rfl
@[simp] theorem Chip.modHitch_panel (n : Nat) (g : Hitch → Hitch) : (c.modHitch n g).panel = c.panel := rfl
@[simp] theorem Chip.modHitch_keys (n : Nat) (g : Hitch → Hitch) : (c.modHitch n g).keys = c.keys := rfl
@[simp] theorem Chip.modHitch_trev (n : Nat) (g : Hitch → Hitch) : (c.modHitch n g).trev = c.trev := rfl
@[simp] theorem Chip.modHitch_rep (n : Nat) (g : Hitch → Hitch) : (c.modHitch n g).rep = c.rep := rfl
@[simp] theorem Chip.modHitch_unit (n : Nat) (g : Hitch → Hitch) : (c.modHitch n g).unit = c.unit := rfl
@[simp] theorem Chip.modHitch_free (n : Nat) (g : Hitch → Hitch) : (c.modHitch n g).free = c.free := rfl

/-! ### record -/

@[simp] theorem Chip.record_clk (id n : Nat) (d : Fields) : (c.record id n d).clk = c.clk := rfl
@[simp] theorem Chip.record_sup (id n : Nat) (d : Fields) : (c.record id n d).sup = c.sup := rfl
@[simp] theorem Chip.record_mctl (id n : Nat) (d : Fields) : (c.record id n d).mctl = c.mctl := rfl
@[simp] theorem Chip.record_coll (id n : Nat) (d : Fields) : (c.record id n d).coll = c.coll := rfl
@[simp] theorem Chip.record_belay (id n : Nat) (d : Fields) : (c.record id n d).belay = c.belay := rfl
@[simp] theorem Chip.record_alive (id n : Nat) (d : Fields) : (c.record id n d).alive = c.alive := rfl
@[simp] theorem Chip.record_cfg (id n : Nat) (d : Fields) : (c.record id n d).cfg = c.cfg := rfl
@[simp] theorem Chip.record_fis (id n : Nat) (d : Fields) : (c.record id n d).fis = c.fis := rfl
@[simp] theorem Chip.record_fab (id n : Nat) (d : Fields) : (c.record id n d).fab = c.fab := rfl
@[simp] theorem Chip.record_links (id n : Nat) (d : Fields) : (c.record id n d).links = c.links := rfl
@[simp] theorem Chip.record_sw (id n : Nat) (d : Fields) : (c.record id n d).sw = c.sw := rfl
@[simp] theorem Chip.record_codec (id n : Nat) (d : Fields) : (c.record id n d).codec = c.codec := rfl
@[simp] theorem Chip.record_panel (id n : Nat) (d : Fields) : (c.record id n d).panel = c.panel := rfl
@[simp] theorem Chip.record_keys (id n : Nat) (d : Fields) : (c.record id n d).keys = c.keys := rfl
@[simp] theorem Chip.record_trev (id n : Nat) (d : Fields) : (c.record id n d).trev = c.trev := rfl
@[simp] theorem Chip.record_rep (id n : Nat) (d : Fields) : (c.record id n d).rep = c.rep := rfl
@[simp] theorem Chip.record_unit (id n : Nat) (d : Fields) : (c.record id n d).unit = c.unit := rfl
@[simp] theorem Chip.record_free (id n : Nat) (d : Fields) : (c.record id n d).free = c.free := rfl

/-! ### recordBefore -/

@[simp] theorem Chip.recordBefore_clk (k id n : Nat) (d : Fields) : (c.recordBefore k id n d).clk = c.clk := rfl
@[simp] theorem Chip.recordBefore_sup (k id n : Nat) (d : Fields) : (c.recordBefore k id n d).sup = c.sup := rfl
@[simp] theorem Chip.recordBefore_mctl (k id n : Nat) (d : Fields) : (c.recordBefore k id n d).mctl = c.mctl := rfl
@[simp] theorem Chip.recordBefore_coll (k id n : Nat) (d : Fields) : (c.recordBefore k id n d).coll = c.coll := rfl
@[simp] theorem Chip.recordBefore_belay (k id n : Nat) (d : Fields) : (c.recordBefore k id n d).belay = c.belay := rfl
@[simp] theorem Chip.recordBefore_alive (k id n : Nat) (d : Fields) : (c.recordBefore k id n d).alive = c.alive := rfl
@[simp] theorem Chip.recordBefore_cfg (k id n : Nat) (d : Fields) : (c.recordBefore k id n d).cfg = c.cfg := rfl
@[simp] theorem Chip.recordBefore_fis (k id n : Nat) (d : Fields) : (c.recordBefore k id n d).fis = c.fis := rfl
@[simp] theorem Chip.recordBefore_fab (k id n : Nat) (d : Fields) : (c.recordBefore k id n d).fab = c.fab := rfl
@[simp] theorem Chip.recordBefore_links (k id n : Nat) (d : Fields) : (c.recordBefore k id n d).links = c.links := rfl
@[simp] theorem Chip.recordBefore_sw (k id n : Nat) (d : Fields) : (c.recordBefore k id n d).sw = c.sw := rfl
@[simp] theorem Chip.recordBefore_codec (k id n : Nat) (d : Fields) : (c.recordBefore k id n d).codec = c.codec := rfl
@[simp] theorem Chip.recordBefore_panel (k id n : Nat) (d : Fields) : (c.recordBefore k id n d).panel = c.panel := rfl
@[simp] theorem Chip.recordBefore_keys (k id n : Nat) (d : Fields) : (c.recordBefore k id n d).keys = c.keys := rfl
@[simp] theorem Chip.recordBefore_trev (k id n : Nat) (d : Fields) : (c.recordBefore k id n d).trev = c.trev := rfl
@[simp] theorem Chip.recordBefore_rep (k id n : Nat) (d : Fields) : (c.recordBefore k id n d).rep = c.rep := rfl
@[simp] theorem Chip.recordBefore_unit (k id n : Nat) (d : Fields) : (c.recordBefore k id n d).unit = c.unit := rfl
@[simp] theorem Chip.recordBefore_free (k id n : Nat) (d : Fields) : (c.recordBefore k id n d).free = c.free := rfl

/-! ### raise -/

@[simp] theorem Chip.raise_clk (src n : Nat) (fi : Option Nat) (d : Fields) : (c.raise src n fi d).clk = c.clk := rfl
@[simp] theorem Chip.raise_sup (src n : Nat) (fi : Option Nat) (d : Fields) : (c.raise src n fi d).sup = c.sup := rfl
@[simp] theorem Chip.raise_mctl (src n : Nat) (fi : Option Nat) (d : Fields) : (c.raise src n fi d).mctl = c.mctl := rfl
@[simp] theorem Chip.raise_belay (src n : Nat) (fi : Option Nat) (d : Fields) : (c.raise src n fi d).belay = c.belay := rfl
@[simp] theorem Chip.raise_alive (src n : Nat) (fi : Option Nat) (d : Fields) : (c.raise src n fi d).alive = c.alive := rfl
@[simp] theorem Chip.raise_cairn (src n : Nat) (fi : Option Nat) (d : Fields) : (c.raise src n fi d).cairn = c.cairn := rfl
@[simp] theorem Chip.raise_cfg (src n : Nat) (fi : Option Nat) (d : Fields) : (c.raise src n fi d).cfg = c.cfg := rfl
@[simp] theorem Chip.raise_fis (src n : Nat) (fi : Option Nat) (d : Fields) : (c.raise src n fi d).fis = c.fis := rfl
@[simp] theorem Chip.raise_fab (src n : Nat) (fi : Option Nat) (d : Fields) : (c.raise src n fi d).fab = c.fab := rfl
@[simp] theorem Chip.raise_links (src n : Nat) (fi : Option Nat) (d : Fields) : (c.raise src n fi d).links = c.links := rfl
@[simp] theorem Chip.raise_sw (src n : Nat) (fi : Option Nat) (d : Fields) : (c.raise src n fi d).sw = c.sw := rfl
@[simp] theorem Chip.raise_codec (src n : Nat) (fi : Option Nat) (d : Fields) : (c.raise src n fi d).codec = c.codec := rfl
@[simp] theorem Chip.raise_panel (src n : Nat) (fi : Option Nat) (d : Fields) : (c.raise src n fi d).panel = c.panel := rfl
@[simp] theorem Chip.raise_keys (src n : Nat) (fi : Option Nat) (d : Fields) : (c.raise src n fi d).keys = c.keys := rfl
@[simp] theorem Chip.raise_trev (src n : Nat) (fi : Option Nat) (d : Fields) : (c.raise src n fi d).trev = c.trev := rfl
@[simp] theorem Chip.raise_rep (src n : Nat) (fi : Option Nat) (d : Fields) : (c.raise src n fi d).rep = c.rep := rfl
@[simp] theorem Chip.raise_unit (src n : Nat) (fi : Option Nat) (d : Fields) : (c.raise src n fi d).unit = c.unit := rfl
@[simp] theorem Chip.raise_free (src n : Nat) (fi : Option Nat) (d : Fields) : (c.raise src n fi d).free = c.free := rfl

/-! ### unit' -/

@[simp] theorem Chip.unit_prime_clk (g : UnitSt → UnitSt) : (c.unit' g).clk = c.clk := rfl
@[simp] theorem Chip.unit_prime_sup (g : UnitSt → UnitSt) : (c.unit' g).sup = c.sup := rfl
@[simp] theorem Chip.unit_prime_mctl (g : UnitSt → UnitSt) : (c.unit' g).mctl = c.mctl := rfl
@[simp] theorem Chip.unit_prime_coll (g : UnitSt → UnitSt) : (c.unit' g).coll = c.coll := rfl
@[simp] theorem Chip.unit_prime_belay (g : UnitSt → UnitSt) : (c.unit' g).belay = c.belay := rfl
@[simp] theorem Chip.unit_prime_alive (g : UnitSt → UnitSt) : (c.unit' g).alive = c.alive := rfl
@[simp] theorem Chip.unit_prime_cairn (g : UnitSt → UnitSt) : (c.unit' g).cairn = c.cairn := rfl
@[simp] theorem Chip.unit_prime_cfg (g : UnitSt → UnitSt) : (c.unit' g).cfg = c.cfg := rfl
@[simp] theorem Chip.unit_prime_fis (g : UnitSt → UnitSt) : (c.unit' g).fis = c.fis := rfl
@[simp] theorem Chip.unit_prime_fab (g : UnitSt → UnitSt) : (c.unit' g).fab = c.fab := rfl
@[simp] theorem Chip.unit_prime_links (g : UnitSt → UnitSt) : (c.unit' g).links = c.links := rfl
@[simp] theorem Chip.unit_prime_sw (g : UnitSt → UnitSt) : (c.unit' g).sw = c.sw := rfl
@[simp] theorem Chip.unit_prime_codec (g : UnitSt → UnitSt) : (c.unit' g).codec = c.codec := rfl
@[simp] theorem Chip.unit_prime_panel (g : UnitSt → UnitSt) : (c.unit' g).panel = c.panel := rfl
@[simp] theorem Chip.unit_prime_keys (g : UnitSt → UnitSt) : (c.unit' g).keys = c.keys := rfl
@[simp] theorem Chip.unit_prime_trev (g : UnitSt → UnitSt) : (c.unit' g).trev = c.trev := rfl
@[simp] theorem Chip.unit_prime_rep (g : UnitSt → UnitSt) : (c.unit' g).rep = c.rep := rfl
@[simp] theorem Chip.unit_prime_unit (g : UnitSt → UnitSt) : (c.unit' g).unit = g c.unit := rfl
@[simp] theorem Chip.unit_prime_free (g : UnitSt → UnitSt) : (c.unit' g).free = c.free := rfl

/-! ### keys' -/

@[simp] theorem Chip.keys_prime_clk (g : Keys → Keys) : (c.keys' g).clk = c.clk := rfl
@[simp] theorem Chip.keys_prime_sup (g : Keys → Keys) : (c.keys' g).sup = c.sup := rfl
@[simp] theorem Chip.keys_prime_mctl (g : Keys → Keys) : (c.keys' g).mctl = c.mctl := rfl
@[simp] theorem Chip.keys_prime_coll (g : Keys → Keys) : (c.keys' g).coll = c.coll := rfl
@[simp] theorem Chip.keys_prime_belay (g : Keys → Keys) : (c.keys' g).belay = c.belay := rfl
@[simp] theorem Chip.keys_prime_alive (g : Keys → Keys) : (c.keys' g).alive = c.alive := rfl
@[simp] theorem Chip.keys_prime_cairn (g : Keys → Keys) : (c.keys' g).cairn = c.cairn := rfl
@[simp] theorem Chip.keys_prime_cfg (g : Keys → Keys) : (c.keys' g).cfg = c.cfg := rfl
@[simp] theorem Chip.keys_prime_fis (g : Keys → Keys) : (c.keys' g).fis = c.fis := rfl
@[simp] theorem Chip.keys_prime_fab (g : Keys → Keys) : (c.keys' g).fab = c.fab := rfl
@[simp] theorem Chip.keys_prime_links (g : Keys → Keys) : (c.keys' g).links = c.links := rfl
@[simp] theorem Chip.keys_prime_sw (g : Keys → Keys) : (c.keys' g).sw = c.sw := rfl
@[simp] theorem Chip.keys_prime_codec (g : Keys → Keys) : (c.keys' g).codec = c.codec := rfl
@[simp] theorem Chip.keys_prime_panel (g : Keys → Keys) : (c.keys' g).panel = c.panel := rfl
@[simp] theorem Chip.keys_prime_keys (g : Keys → Keys) : (c.keys' g).keys = g c.keys := rfl
@[simp] theorem Chip.keys_prime_trev (g : Keys → Keys) : (c.keys' g).trev = c.trev := rfl
@[simp] theorem Chip.keys_prime_rep (g : Keys → Keys) : (c.keys' g).rep = c.rep := rfl
@[simp] theorem Chip.keys_prime_unit (g : Keys → Keys) : (c.keys' g).unit = c.unit := rfl
@[simp] theorem Chip.keys_prime_free (g : Keys → Keys) : (c.keys' g).free = c.free := rfl

/-! ### sw' -/

@[simp] theorem Chip.sw_prime_clk (g : Switch → Switch) : (c.sw' g).clk = c.clk := rfl
@[simp] theorem Chip.sw_prime_sup (g : Switch → Switch) : (c.sw' g).sup = c.sup := rfl
@[simp] theorem Chip.sw_prime_mctl (g : Switch → Switch) : (c.sw' g).mctl = c.mctl := rfl
@[simp] theorem Chip.sw_prime_coll (g : Switch → Switch) : (c.sw' g).coll = c.coll := rfl
@[simp] theorem Chip.sw_prime_belay (g : Switch → Switch) : (c.sw' g).belay = c.belay := rfl
@[simp] theorem Chip.sw_prime_alive (g : Switch → Switch) : (c.sw' g).alive = c.alive := rfl
@[simp] theorem Chip.sw_prime_cairn (g : Switch → Switch) : (c.sw' g).cairn = c.cairn := rfl
@[simp] theorem Chip.sw_prime_cfg (g : Switch → Switch) : (c.sw' g).cfg = c.cfg := rfl
@[simp] theorem Chip.sw_prime_fis (g : Switch → Switch) : (c.sw' g).fis = c.fis := rfl
@[simp] theorem Chip.sw_prime_fab (g : Switch → Switch) : (c.sw' g).fab = c.fab := rfl
@[simp] theorem Chip.sw_prime_links (g : Switch → Switch) : (c.sw' g).links = c.links := rfl
@[simp] theorem Chip.sw_prime_sw (g : Switch → Switch) : (c.sw' g).sw = g c.sw := rfl
@[simp] theorem Chip.sw_prime_codec (g : Switch → Switch) : (c.sw' g).codec = c.codec := rfl
@[simp] theorem Chip.sw_prime_panel (g : Switch → Switch) : (c.sw' g).panel = c.panel := rfl
@[simp] theorem Chip.sw_prime_keys (g : Switch → Switch) : (c.sw' g).keys = c.keys := rfl
@[simp] theorem Chip.sw_prime_trev (g : Switch → Switch) : (c.sw' g).trev = c.trev := rfl
@[simp] theorem Chip.sw_prime_rep (g : Switch → Switch) : (c.sw' g).rep = c.rep := rfl
@[simp] theorem Chip.sw_prime_unit (g : Switch → Switch) : (c.sw' g).unit = c.unit := rfl
@[simp] theorem Chip.sw_prime_free (g : Switch → Switch) : (c.sw' g).free = c.free := rfl

/-! ### links' -/

@[simp] theorem Chip.links_prime_clk (g : Links → Links) : (c.links' g).clk = c.clk := rfl
@[simp] theorem Chip.links_prime_sup (g : Links → Links) : (c.links' g).sup = c.sup := rfl
@[simp] theorem Chip.links_prime_mctl (g : Links → Links) : (c.links' g).mctl = c.mctl := rfl
@[simp] theorem Chip.links_prime_coll (g : Links → Links) : (c.links' g).coll = c.coll := rfl
@[simp] theorem Chip.links_prime_belay (g : Links → Links) : (c.links' g).belay = c.belay := rfl
@[simp] theorem Chip.links_prime_alive (g : Links → Links) : (c.links' g).alive = c.alive := rfl
@[simp] theorem Chip.links_prime_cairn (g : Links → Links) : (c.links' g).cairn = c.cairn := rfl
@[simp] theorem Chip.links_prime_cfg (g : Links → Links) : (c.links' g).cfg = c.cfg := rfl
@[simp] theorem Chip.links_prime_fis (g : Links → Links) : (c.links' g).fis = c.fis := rfl
@[simp] theorem Chip.links_prime_fab (g : Links → Links) : (c.links' g).fab = c.fab := rfl
@[simp] theorem Chip.links_prime_links (g : Links → Links) : (c.links' g).links = g c.links := rfl
@[simp] theorem Chip.links_prime_sw (g : Links → Links) : (c.links' g).sw = c.sw := rfl
@[simp] theorem Chip.links_prime_codec (g : Links → Links) : (c.links' g).codec = c.codec := rfl
@[simp] theorem Chip.links_prime_panel (g : Links → Links) : (c.links' g).panel = c.panel := rfl
@[simp] theorem Chip.links_prime_keys (g : Links → Links) : (c.links' g).keys = c.keys := rfl
@[simp] theorem Chip.links_prime_trev (g : Links → Links) : (c.links' g).trev = c.trev := rfl
@[simp] theorem Chip.links_prime_rep (g : Links → Links) : (c.links' g).rep = c.rep := rfl
@[simp] theorem Chip.links_prime_unit (g : Links → Links) : (c.links' g).unit = c.unit := rfl
@[simp] theorem Chip.links_prime_free (g : Links → Links) : (c.links' g).free = c.free := rfl

/-! ### codec' -/

@[simp] theorem Chip.codec_prime_clk (g : Codec → Codec) : (c.codec' g).clk = c.clk := rfl
@[simp] theorem Chip.codec_prime_sup (g : Codec → Codec) : (c.codec' g).sup = c.sup := rfl
@[simp] theorem Chip.codec_prime_mctl (g : Codec → Codec) : (c.codec' g).mctl = c.mctl := rfl
@[simp] theorem Chip.codec_prime_coll (g : Codec → Codec) : (c.codec' g).coll = c.coll := rfl
@[simp] theorem Chip.codec_prime_belay (g : Codec → Codec) : (c.codec' g).belay = c.belay := rfl
@[simp] theorem Chip.codec_prime_alive (g : Codec → Codec) : (c.codec' g).alive = c.alive := rfl
@[simp] theorem Chip.codec_prime_cairn (g : Codec → Codec) : (c.codec' g).cairn = c.cairn := rfl
@[simp] theorem Chip.codec_prime_cfg (g : Codec → Codec) : (c.codec' g).cfg = c.cfg := rfl
@[simp] theorem Chip.codec_prime_fis (g : Codec → Codec) : (c.codec' g).fis = c.fis := rfl
@[simp] theorem Chip.codec_prime_fab (g : Codec → Codec) : (c.codec' g).fab = c.fab := rfl
@[simp] theorem Chip.codec_prime_links (g : Codec → Codec) : (c.codec' g).links = c.links := rfl
@[simp] theorem Chip.codec_prime_sw (g : Codec → Codec) : (c.codec' g).sw = c.sw := rfl
@[simp] theorem Chip.codec_prime_codec (g : Codec → Codec) : (c.codec' g).codec = g c.codec := rfl
@[simp] theorem Chip.codec_prime_panel (g : Codec → Codec) : (c.codec' g).panel = c.panel := rfl
@[simp] theorem Chip.codec_prime_keys (g : Codec → Codec) : (c.codec' g).keys = c.keys := rfl
@[simp] theorem Chip.codec_prime_trev (g : Codec → Codec) : (c.codec' g).trev = c.trev := rfl
@[simp] theorem Chip.codec_prime_rep (g : Codec → Codec) : (c.codec' g).rep = c.rep := rfl
@[simp] theorem Chip.codec_prime_unit (g : Codec → Codec) : (c.codec' g).unit = c.unit := rfl
@[simp] theorem Chip.codec_prime_free (g : Codec → Codec) : (c.codec' g).free = c.free := rfl

/-! ### rep' -/

@[simp] theorem Chip.rep_prime_clk (g : Repair → Repair) : (c.rep' g).clk = c.clk := rfl
@[simp] theorem Chip.rep_prime_sup (g : Repair → Repair) : (c.rep' g).sup = c.sup := rfl
@[simp] theorem Chip.rep_prime_mctl (g : Repair → Repair) : (c.rep' g).mctl = c.mctl := rfl
@[simp] theorem Chip.rep_prime_coll (g : Repair → Repair) : (c.rep' g).coll = c.coll := rfl
@[simp] theorem Chip.rep_prime_belay (g : Repair → Repair) : (c.rep' g).belay = c.belay := rfl
@[simp] theorem Chip.rep_prime_alive (g : Repair → Repair) : (c.rep' g).alive = c.alive := rfl
@[simp] theorem Chip.rep_prime_cairn (g : Repair → Repair) : (c.rep' g).cairn = c.cairn := rfl
@[simp] theorem Chip.rep_prime_cfg (g : Repair → Repair) : (c.rep' g).cfg = c.cfg := rfl
@[simp] theorem Chip.rep_prime_fis (g : Repair → Repair) : (c.rep' g).fis = c.fis := rfl
@[simp] theorem Chip.rep_prime_fab (g : Repair → Repair) : (c.rep' g).fab = c.fab := rfl
@[simp] theorem Chip.rep_prime_links (g : Repair → Repair) : (c.rep' g).links = c.links := rfl
@[simp] theorem Chip.rep_prime_sw (g : Repair → Repair) : (c.rep' g).sw = c.sw := rfl
@[simp] theorem Chip.rep_prime_codec (g : Repair → Repair) : (c.rep' g).codec = c.codec := rfl
@[simp] theorem Chip.rep_prime_panel (g : Repair → Repair) : (c.rep' g).panel = c.panel := rfl
@[simp] theorem Chip.rep_prime_keys (g : Repair → Repair) : (c.rep' g).keys = c.keys := rfl
@[simp] theorem Chip.rep_prime_trev (g : Repair → Repair) : (c.rep' g).trev = c.trev := rfl
@[simp] theorem Chip.rep_prime_rep (g : Repair → Repair) : (c.rep' g).rep = g c.rep := rfl
@[simp] theorem Chip.rep_prime_unit (g : Repair → Repair) : (c.rep' g).unit = c.unit := rfl
@[simp] theorem Chip.rep_prime_free (g : Repair → Repair) : (c.rep' g).free = c.free := rfl

/-! ### alive' -/

@[simp] theorem Chip.alive_prime_clk (g : Alive → Alive) : (c.alive' g).clk = c.clk := rfl
@[simp] theorem Chip.alive_prime_sup (g : Alive → Alive) : (c.alive' g).sup = c.sup := rfl
@[simp] theorem Chip.alive_prime_mctl (g : Alive → Alive) : (c.alive' g).mctl = c.mctl := rfl
@[simp] theorem Chip.alive_prime_coll (g : Alive → Alive) : (c.alive' g).coll = c.coll := rfl
@[simp] theorem Chip.alive_prime_belay (g : Alive → Alive) : (c.alive' g).belay = c.belay := rfl
@[simp] theorem Chip.alive_prime_alive (g : Alive → Alive) : (c.alive' g).alive = g c.alive := rfl
@[simp] theorem Chip.alive_prime_cairn (g : Alive → Alive) : (c.alive' g).cairn = c.cairn := rfl
@[simp] theorem Chip.alive_prime_cfg (g : Alive → Alive) : (c.alive' g).cfg = c.cfg := rfl
@[simp] theorem Chip.alive_prime_fis (g : Alive → Alive) : (c.alive' g).fis = c.fis := rfl
@[simp] theorem Chip.alive_prime_fab (g : Alive → Alive) : (c.alive' g).fab = c.fab := rfl
@[simp] theorem Chip.alive_prime_links (g : Alive → Alive) : (c.alive' g).links = c.links := rfl
@[simp] theorem Chip.alive_prime_sw (g : Alive → Alive) : (c.alive' g).sw = c.sw := rfl
@[simp] theorem Chip.alive_prime_codec (g : Alive → Alive) : (c.alive' g).codec = c.codec := rfl
@[simp] theorem Chip.alive_prime_panel (g : Alive → Alive) : (c.alive' g).panel = c.panel := rfl
@[simp] theorem Chip.alive_prime_keys (g : Alive → Alive) : (c.alive' g).keys = c.keys := rfl
@[simp] theorem Chip.alive_prime_trev (g : Alive → Alive) : (c.alive' g).trev = c.trev := rfl
@[simp] theorem Chip.alive_prime_rep (g : Alive → Alive) : (c.alive' g).rep = c.rep := rfl
@[simp] theorem Chip.alive_prime_unit (g : Alive → Alive) : (c.alive' g).unit = c.unit := rfl
@[simp] theorem Chip.alive_prime_free (g : Alive → Alive) : (c.alive' g).free = c.free := rfl

/-! ### sup' -/

@[simp] theorem Chip.sup_prime_clk (g : Supply → Supply) : (c.sup' g).clk = c.clk := rfl
@[simp] theorem Chip.sup_prime_sup (g : Supply → Supply) : (c.sup' g).sup = g c.sup := rfl
@[simp] theorem Chip.sup_prime_mctl (g : Supply → Supply) : (c.sup' g).mctl = c.mctl := rfl
@[simp] theorem Chip.sup_prime_coll (g : Supply → Supply) : (c.sup' g).coll = c.coll := rfl
@[simp] theorem Chip.sup_prime_belay (g : Supply → Supply) : (c.sup' g).belay = c.belay := rfl
@[simp] theorem Chip.sup_prime_alive (g : Supply → Supply) : (c.sup' g).alive = c.alive := rfl
@[simp] theorem Chip.sup_prime_cairn (g : Supply → Supply) : (c.sup' g).cairn = c.cairn := rfl
@[simp] theorem Chip.sup_prime_cfg (g : Supply → Supply) : (c.sup' g).cfg = c.cfg := rfl
@[simp] theorem Chip.sup_prime_fis (g : Supply → Supply) : (c.sup' g).fis = c.fis := rfl
@[simp] theorem Chip.sup_prime_fab (g : Supply → Supply) : (c.sup' g).fab = c.fab := rfl
@[simp] theorem Chip.sup_prime_links (g : Supply → Supply) : (c.sup' g).links = c.links := rfl
@[simp] theorem Chip.sup_prime_sw (g : Supply → Supply) : (c.sup' g).sw = c.sw := rfl
@[simp] theorem Chip.sup_prime_codec (g : Supply → Supply) : (c.sup' g).codec = c.codec := rfl
@[simp] theorem Chip.sup_prime_panel (g : Supply → Supply) : (c.sup' g).panel = c.panel := rfl
@[simp] theorem Chip.sup_prime_keys (g : Supply → Supply) : (c.sup' g).keys = c.keys := rfl
@[simp] theorem Chip.sup_prime_trev (g : Supply → Supply) : (c.sup' g).trev = c.trev := rfl
@[simp] theorem Chip.sup_prime_rep (g : Supply → Supply) : (c.sup' g).rep = c.rep := rfl
@[simp] theorem Chip.sup_prime_unit (g : Supply → Supply) : (c.sup' g).unit = c.unit := rfl
@[simp] theorem Chip.sup_prime_free (g : Supply → Supply) : (c.sup' g).free = c.free := rfl

/-! ### modPanel -/

@[simp] theorem Chip.modPanel_clk (g : Panel → Panel) : (c.modPanel g).clk = c.clk := rfl
@[simp] theorem Chip.modPanel_sup (g : Panel → Panel) : (c.modPanel g).sup = c.sup := rfl
@[simp] theorem Chip.modPanel_mctl (g : Panel → Panel) : (c.modPanel g).mctl = c.mctl := rfl
@[simp] theorem Chip.modPanel_coll (g : Panel → Panel) : (c.modPanel g).coll = c.coll := rfl
@[simp] theorem Chip.modPanel_belay (g : Panel → Panel) : (c.modPanel g).belay = c.belay := rfl
@[simp] theorem Chip.modPanel_alive (g : Panel → Panel) : (c.modPanel g).alive = c.alive := rfl
@[simp] theorem Chip.modPanel_cairn (g : Panel → Panel) : (c.modPanel g).cairn = c.cairn := rfl
@[simp] theorem Chip.modPanel_cfg (g : Panel → Panel) : (c.modPanel g).cfg = c.cfg := rfl
@[simp] theorem Chip.modPanel_fis (g : Panel → Panel) : (c.modPanel g).fis = c.fis := rfl
@[simp] theorem Chip.modPanel_fab (g : Panel → Panel) : (c.modPanel g).fab = c.fab := rfl
@[simp] theorem Chip.modPanel_links (g : Panel → Panel) : (c.modPanel g).links = c.links := rfl
@[simp] theorem Chip.modPanel_sw (g : Panel → Panel) : (c.modPanel g).sw = c.sw := rfl
@[simp] theorem Chip.modPanel_codec (g : Panel → Panel) : (c.modPanel g).codec = c.codec := rfl
@[simp] theorem Chip.modPanel_panel (g : Panel → Panel) : (c.modPanel g).panel = g c.panel := rfl
@[simp] theorem Chip.modPanel_keys (g : Panel → Panel) : (c.modPanel g).keys = c.keys := rfl
@[simp] theorem Chip.modPanel_trev (g : Panel → Panel) : (c.modPanel g).trev = c.trev := rfl
@[simp] theorem Chip.modPanel_rep (g : Panel → Panel) : (c.modPanel g).rep = c.rep := rfl
@[simp] theorem Chip.modPanel_unit (g : Panel → Panel) : (c.modPanel g).unit = c.unit := rfl
@[simp] theorem Chip.modPanel_free (g : Panel → Panel) : (c.modPanel g).free = c.free := rfl

/-! ### passCycles -/

@[simp] theorem Chip.passCycles_sup (n : Nat) : (c.passCycles n).sup = c.sup := rfl
@[simp] theorem Chip.passCycles_mctl (n : Nat) : (c.passCycles n).mctl = c.mctl := rfl
@[simp] theorem Chip.passCycles_coll (n : Nat) : (c.passCycles n).coll = c.coll := rfl
@[simp] theorem Chip.passCycles_belay (n : Nat) : (c.passCycles n).belay = c.belay := rfl
@[simp] theorem Chip.passCycles_alive (n : Nat) : (c.passCycles n).alive = c.alive := rfl
@[simp] theorem Chip.passCycles_cairn (n : Nat) : (c.passCycles n).cairn = c.cairn := rfl
@[simp] theorem Chip.passCycles_cfg (n : Nat) : (c.passCycles n).cfg = c.cfg := rfl
@[simp] theorem Chip.passCycles_fis (n : Nat) : (c.passCycles n).fis = c.fis := rfl
@[simp] theorem Chip.passCycles_fab (n : Nat) : (c.passCycles n).fab = c.fab := rfl
@[simp] theorem Chip.passCycles_links (n : Nat) : (c.passCycles n).links = c.links := rfl
@[simp] theorem Chip.passCycles_sw (n : Nat) : (c.passCycles n).sw = c.sw := rfl
@[simp] theorem Chip.passCycles_codec (n : Nat) : (c.passCycles n).codec = c.codec := rfl
@[simp] theorem Chip.passCycles_panel (n : Nat) : (c.passCycles n).panel = c.panel := rfl
@[simp] theorem Chip.passCycles_keys (n : Nat) : (c.passCycles n).keys = c.keys := rfl
@[simp] theorem Chip.passCycles_trev (n : Nat) : (c.passCycles n).trev = c.trev := rfl
@[simp] theorem Chip.passCycles_rep (n : Nat) : (c.passCycles n).rep = c.rep := rfl
@[simp] theorem Chip.passCycles_unit (n : Nat) : (c.passCycles n).unit = c.unit := rfl
@[simp] theorem Chip.passCycles_free (n : Nat) : (c.passCycles n).free = c.free := rfl

/-! ### respond -/

@[simp] theorem Chip.respond_clk (n : Nat) (a : Answer) : (c.respond n a).clk = c.clk := rfl
@[simp] theorem Chip.respond_sup (n : Nat) (a : Answer) : (c.respond n a).sup = c.sup := rfl
@[simp] theorem Chip.respond_mctl (n : Nat) (a : Answer) : (c.respond n a).mctl = c.mctl := rfl
@[simp] theorem Chip.respond_coll (n : Nat) (a : Answer) : (c.respond n a).coll = c.coll := rfl
@[simp] theorem Chip.respond_belay (n : Nat) (a : Answer) : (c.respond n a).belay = c.belay := rfl
@[simp] theorem Chip.respond_alive (n : Nat) (a : Answer) : (c.respond n a).alive = c.alive := rfl
@[simp] theorem Chip.respond_cairn (n : Nat) (a : Answer) : (c.respond n a).cairn = c.cairn := rfl
@[simp] theorem Chip.respond_cfg (n : Nat) (a : Answer) : (c.respond n a).cfg = c.cfg := rfl
@[simp] theorem Chip.respond_fis (n : Nat) (a : Answer) : (c.respond n a).fis = c.fis := rfl
@[simp] theorem Chip.respond_fab (n : Nat) (a : Answer) : (c.respond n a).fab = c.fab := rfl
@[simp] theorem Chip.respond_links (n : Nat) (a : Answer) : (c.respond n a).links = c.links := rfl
@[simp] theorem Chip.respond_sw (n : Nat) (a : Answer) : (c.respond n a).sw = c.sw := rfl
@[simp] theorem Chip.respond_codec (n : Nat) (a : Answer) : (c.respond n a).codec = c.codec := rfl
@[simp] theorem Chip.respond_panel (n : Nat) (a : Answer) : (c.respond n a).panel = c.panel := rfl
@[simp] theorem Chip.respond_keys (n : Nat) (a : Answer) : (c.respond n a).keys = c.keys := rfl
@[simp] theorem Chip.respond_rep (n : Nat) (a : Answer) : (c.respond n a).rep = c.rep := rfl
@[simp] theorem Chip.respond_unit (n : Nat) (a : Answer) : (c.respond n a).unit = c.unit := rfl
@[simp] theorem Chip.respond_free (n : Nat) (a : Answer) : (c.respond n a).free = c.free := rfl

/-! ### reply -/

@[simp] theorem Chip.reply_clk (n : Nat) (k : Option Nat) (l : List Line) : (c.reply n k l).clk = c.clk := rfl
@[simp] theorem Chip.reply_sup (n : Nat) (k : Option Nat) (l : List Line) : (c.reply n k l).sup = c.sup := rfl
@[simp] theorem Chip.reply_mctl (n : Nat) (k : Option Nat) (l : List Line) : (c.reply n k l).mctl = c.mctl := rfl
@[simp] theorem Chip.reply_coll (n : Nat) (k : Option Nat) (l : List Line) : (c.reply n k l).coll = c.coll := rfl
@[simp] theorem Chip.reply_belay (n : Nat) (k : Option Nat) (l : List Line) : (c.reply n k l).belay = c.belay := rfl
@[simp] theorem Chip.reply_alive (n : Nat) (k : Option Nat) (l : List Line) : (c.reply n k l).alive = c.alive := rfl
@[simp] theorem Chip.reply_cairn (n : Nat) (k : Option Nat) (l : List Line) : (c.reply n k l).cairn = c.cairn := rfl
@[simp] theorem Chip.reply_cfg (n : Nat) (k : Option Nat) (l : List Line) : (c.reply n k l).cfg = c.cfg := rfl
@[simp] theorem Chip.reply_fis (n : Nat) (k : Option Nat) (l : List Line) : (c.reply n k l).fis = c.fis := rfl
@[simp] theorem Chip.reply_fab (n : Nat) (k : Option Nat) (l : List Line) : (c.reply n k l).fab = c.fab := rfl
@[simp] theorem Chip.reply_links (n : Nat) (k : Option Nat) (l : List Line) : (c.reply n k l).links = c.links := rfl
@[simp] theorem Chip.reply_sw (n : Nat) (k : Option Nat) (l : List Line) : (c.reply n k l).sw = c.sw := rfl
@[simp] theorem Chip.reply_codec (n : Nat) (k : Option Nat) (l : List Line) : (c.reply n k l).codec = c.codec := rfl
@[simp] theorem Chip.reply_panel (n : Nat) (k : Option Nat) (l : List Line) : (c.reply n k l).panel = c.panel := rfl
@[simp] theorem Chip.reply_keys (n : Nat) (k : Option Nat) (l : List Line) : (c.reply n k l).keys = c.keys := rfl
@[simp] theorem Chip.reply_rep (n : Nat) (k : Option Nat) (l : List Line) : (c.reply n k l).rep = c.rep := rfl
@[simp] theorem Chip.reply_unit (n : Nat) (k : Option Nat) (l : List Line) : (c.reply n k l).unit = c.unit := rfl
@[simp] theorem Chip.reply_free (n : Nat) (k : Option Nat) (l : List Line) : (c.reply n k l).free = c.free := rfl

end Sys2Proof.Machine
end

