-- ==== Sys2Proof/Laws/Tables.lean ====
section
/-!
SUPPORT. Reading a sparse table after a write, and the entries of the unit's tables after an update of one of them.
-/
namespace Sys2Proof.Machine

theorem Tbl.get_set_same {α : Type} (d x : α) (t : Tbl α) (n : Nat) : (t.set n x).get d n = x := by
  induction t with
  | nil => simp [Tbl.set, Tbl.get]
  | cons e t ih =>
    obtain ⟨k, v⟩ := e
    unfold Tbl.set
    split
    · simp [Tbl.get]
    · split
      · simp [Tbl.get]
      · rename_i h2
        simp [Tbl.get, h2, ih]

theorem Tbl.get_set_ne {α : Type} (d x : α) (t : Tbl α) {n m : Nat} (h : m ≠ n) : (t.set n x).get d m = t.get d m := by
  induction t with
  | nil => simp [Tbl.set, Tbl.get, h]
  | cons e t ih =>
    obtain ⟨k, v⟩ := e
    unfold Tbl.set
    split
    · simp [Tbl.get, h]
    · split
      · subst_vars
        simp [Tbl.get, h]
      · by_cases hk : m = k
        · simp [Tbl.get, hk]
        · simp [Tbl.get, hk, ih]

theorem Tbl.get_del_same {α : Type} (d : α) (t : Tbl α) (n : Nat) : (t.del n).get d n = d := by
  induction t with
  | nil => rfl
  | cons e t ih =>
    obtain ⟨k, v⟩ := e
    by_cases hk : k = n
    · simpa [Tbl.del, hk] using ih
    · have : n ≠ k := fun h => hk h.symm
      simpa [Tbl.del, hk, Tbl.get, this] using ih

theorem Tbl.get_del_ne {α : Type} (d : α) (t : Tbl α) {n m : Nat} (h : m ≠ n) : (t.del n).get d m = t.get d m := by
  induction t with
  | nil => rfl
  | cons e t ih =>
    obtain ⟨k, v⟩ := e
    by_cases hk : k = n
    · subst hk
      simpa [Tbl.del, Tbl.get, h] using ih
    · by_cases hm : m = k
      · simp [Tbl.del, hk, Tbl.get, hm]
      · simpa [Tbl.del, hk, Tbl.get, hm] using ih

@[simp] theorem Tbl.get_put_same {α : Type} [DecidableEq α] (d x : α) (t : Tbl α) (n : Nat) : (t.put d n x).get d n = x := by
  unfold Tbl.put
  split
  · subst_vars
    exact Tbl.get_del_same _ t n
  · exact Tbl.get_set_same d x t n

theorem Tbl.get_put_ne {α : Type} [DecidableEq α] (d x : α) (t : Tbl α) {n m : Nat} (h : m ≠ n) : (t.put d n x).get d m = t.get d m := by
  unfold Tbl.put
  split
  · exact Tbl.get_del_ne d t h
  · exact Tbl.get_set_ne d x t h

theorem Tbl.find_set_same {α : Type} (x : α) (t : Tbl α) (n : Nat) : (t.set n x).find n = some x := by
  induction t with
  | nil => simp [Tbl.set, Tbl.find]
  | cons e t ih =>
    obtain ⟨k, v⟩ := e
    unfold Tbl.set
    split
    · simp [Tbl.find]
    · split
      · simp [Tbl.find]
      · rename_i h2
        simp [Tbl.find, h2, ih]

theorem Tbl.find_set_ne {α : Type} (x : α) (t : Tbl α) {n m : Nat} (h : m ≠ n) : (t.set n x).find m = t.find m := by
  induction t with
  | nil => simp [Tbl.set, Tbl.find, h]
  | cons e t ih =>
    obtain ⟨k, v⟩ := e
    unfold Tbl.set
    split
    · simp [Tbl.find, h]
    · split
      · subst_vars
        simp [Tbl.find, h]
      · by_cases hk : m = k
        · simp [Tbl.find, hk]
        · simp [Tbl.find, hk, ih]

theorem Tbl.find_del_same {α : Type} (t : Tbl α) (n : Nat) : (t.del n).find n = none := by
  induction t with
  | nil => rfl
  | cons e t ih =>
    obtain ⟨k, v⟩ := e
    by_cases hk : k = n
    · simpa [Tbl.del, hk] using ih
    · have : n ≠ k := fun h => hk h.symm
      simpa [Tbl.del, hk, Tbl.find, this] using ih

variable (c : Chip)

@[simp] theorem Chip.sess_modSess (n : Nat) (g : Sess → Sess) : (c.modSess n g).sess n = g (c.sess n) := by simp [Chip.sess]
theorem Chip.sess_modSess_ne (n m : Nat) (g : Sess → Sess) (h : m ≠ n) : (c.modSess n g).sess m = c.sess m := by simp [Chip.sess, Tbl.get_put_ne _ _ _ h]
@[simp] theorem Chip.fi_setFi (n : Nat) (x : Fi) : (c.setFi n x).fi n = x := by simp [Chip.fi]
@[simp] theorem Chip.fi_modFi (n : Nat) (g : Fi → Fi) : (c.modFi n g).fi n = g (c.fi n) := by simp [Chip.fi]
theorem Chip.fi_modFi_ne (n m : Nat) (g : Fi → Fi) (h : m ≠ n) : (c.modFi n g).fi m = c.fi m := by simp [Chip.fi, Tbl.get_put_ne _ _ _ h]
@[simp] theorem Chip.tile_modTile (n : Nat) (g : Tile → Tile) : (c.modTile n g).tile n = g (c.tile n) := by simp [Chip.tile]
theorem Chip.tile_modTile_ne (n m : Nat) (g : Tile → Tile) (h : m ≠ n) : (c.modTile n g).tile m = c.tile m := by simp [Chip.tile, Tbl.get_put_ne _ _ _ h]
@[simp] theorem Chip.ctx_modCtx (n : Nat) (g : Ctx → Ctx) : (c.modCtx n g).ctx n = g (c.ctx n) := by simp [Chip.ctx]
theorem Chip.ctx_modCtx_ne (n m : Nat) (g : Ctx → Ctx) (h : m ≠ n) : (c.modCtx n g).ctx m = c.ctx m := by simp [Chip.ctx, Tbl.get_put_ne _ _ _ h]
@[simp] theorem Chip.framePool_modPool (n : Nat) (g : FramePool → FramePool) : (c.modPool n g).framePool n = g (c.framePool n) := by simp [Chip.framePool]
@[simp] theorem Chip.deep_modDeep (n : Nat) (g : Deep → Deep) : (c.modDeep n g).deep n = g (c.deep n) := by simp [Chip.deep]
@[simp] theorem Chip.trip_modTrip (n : Nat) (g : Trip → Trip) : (c.modTrip n g).trip n = g (c.trip n) := by simp [Chip.trip, Chip.modTrip]
@[simp] theorem Chip.dom_modDom (n : Nat) (g : Dom → Dom) : (c.modDom n g).dom n = g (c.dom n) := by simp [Chip.dom, Chip.modDom]
@[simp] theorem Chip.lane_modLane (n : Nat) (g : Lane → Lane) : (c.modLane n g).lane n = g (c.lane n) := by simp [Chip.lane, Chip.modLane]
@[simp] theorem Chip.cage_modCage (n : Nat) (g : Cage → Cage) : (c.modCage n g).cage n = g (c.cage n) := by simp [Chip.cage, Chip.modCage]
@[simp] theorem Chip.port_modPort (n : Nat) (g : PortCnt → PortCnt) : (c.modPort n g).port n = g (c.port n) := by simp [Chip.port, Chip.modPort]
@[simp] theorem Chip.pub_modPub (n : Nat) (g : PubSt → PubSt) : (c.modPub n g).pub n = g (c.pub n) := by simp [Chip.pub, Chip.modPub]
@[simp] theorem Chip.sub_modSub (n : Nat) (g : SubSt → SubSt) : (c.modSub n g).sub n = g (c.sub n) := by simp [Chip.sub, Chip.modSub]
@[simp] theorem Chip.key_modKey (n : Nat) (g : Key → Key) : (c.modKey n g).key n = g (c.key n) := by simp [Chip.key, Chip.modKey]
@[simp] theorem Chip.touch_modTouch (n : Nat) (g : Touch → Touch) : (c.modTouch n g).touch n = g (c.touch n) := by simp [Chip.touch, Chip.modTouch]
@[simp] theorem Chip.pres_modPres (n : Nat) (g : Pres → Pres) : (c.modPres n g).pres n = g (c.pres n) := by simp [Chip.pres, Chip.modPres]
@[simp] theorem Chip.binIn_modBin (n : Nat) (g : BinIn → BinIn) : (c.modBin n g).binIn n = g (c.binIn n) := by simp [Chip.binIn, Chip.modBin]
@[simp] theorem Chip.rlane_modRlane (n : Nat) (g : RopeLane → RopeLane) : (c.modRlane n g).rlane n = g (c.rlane n) := by simp [Chip.rlane, Chip.modRlane]

end Sys2Proof.Machine
end

