-- ==== Sys2Proof/Laws/Clock.lean ====
section
/-!
SUPPORT. What passing time changes: the clock and the records of ADJUST, and nothing else (R600, R604).
-/
namespace Sys2Proof.Machine

/-- Two units that differ at most in their clock and their records. -/
def Chip.SameButClock (a b : Chip) : Prop := { a with clk := b.clk, cairn := b.cairn } = b

theorem Chip.SameButClock.refl (a : Chip) : a.SameButClock a := rfl

theorem Chip.SameButClock.trans {a b d : Chip} (h1 : a.SameButClock b) (h2 : b.SameButClock d) : a.SameButClock d := by
  cases a; cases b; cases d
  simp only [Chip.SameButClock, Chip.mk.injEq] at *
  grind

theorem Chip.applyAdjust_frame (c : Chip) (a : Adjust) : (c.applyAdjust a).SameButClock c := by
  unfold Chip.applyAdjust Chip.SameButClock Chip.record
  cases a.jump with
  | none => dsimp only; (repeat' split) <;> rfl
  | some j =>
    cases j with
    | set s n => dsimp only; (repeat' split) <;> rfl
    | step neg ds dn => dsimp only; (repeat' split) <;> rfl

theorem Chip.applyAdjust_cycle (c : Chip) (a : Adjust) : (c.applyAdjust a).clk.cycle = c.clk.cycle := by
  unfold Chip.applyAdjust Chip.record
  cases a.jump with
  | none => dsimp only; (repeat' split) <;> rfl
  | some j =>
    cases j with
    | set s n => dsimp only; (repeat' split) <;> rfl
    | step neg ds dn => dsimp only; (repeat' split) <;> rfl

theorem Chip.foldAdjust_frame (l : List Adjust) (c : Chip) : (l.foldl Chip.applyAdjust c).SameButClock c := by
  induction l generalizing c with
  | nil => rfl
  | cons a l ih => exact (ih _).trans (c.applyAdjust_frame a)

theorem Chip.foldAdjust_cycle (l : List Adjust) (c : Chip) : (l.foldl Chip.applyAdjust c).clk.cycle = c.clk.cycle := by
  induction l generalizing c with
  | nil => rfl
  | cons a l ih => exact (ih _).trans (c.applyAdjust_cycle a)

/-- All that passing time can do to the unit. -/
theorem Chip.advance_frame (c : Chip) (n : Nat) : (c.advance n).SameButClock c := by
  cases n with
  | zero => rfl
  | succ n =>
    have h := Chip.foldAdjust_frame (c.passCycles 1).clk.dueNext { c.passCycles 1 with clk := { (c.passCycles 1).clk with dueNext := [] } }
    exact Chip.SameButClock.trans (b := List.foldl Chip.applyAdjust _ _) rfl (h.trans rfl)

@[simp] theorem Chip.advance_cycle (c : Chip) (n : Nat) : (c.advance n).clk.cycle = c.clk.cycle + n := by
  cases n with
  | zero => rfl
  | succ n =>
    have h := Chip.foldAdjust_cycle (c.passCycles 1).clk.dueNext { c.passCycles 1 with clk := { (c.passCycles 1).clk with dueNext := [] } }
    simp only [Chip.advance, Chip.passCycles] at h ⊢
    simp only [h]
    omega

theorem Chip.advanceTo_frame (c : Chip) (n : Nat) : (c.advanceTo n).SameButClock c := c.advance_frame _

theorem Chip.advanceToTime_frame (c : Chip) (t : Nat × Nat) : (c.advanceToTime t).SameButClock c := by
  unfold Chip.advanceToTime
  dsimp only
  split
  · exact c.advance_frame _
  · exact (Chip.advance_frame _ _).trans (c.advance_frame 1)

/-- A clock brought forward stands at the cycle asked for, or where it stood when that has passed. -/
theorem Chip.advanceTo_cycle (c : Chip) (n : Nat) : (c.advanceTo n).clk.cycle = max c.clk.cycle n := by
  simp only [Chip.advanceTo, Chip.advance_cycle]
  omega

theorem Chip.SameButClock.sup {a b : Chip} (h : a.SameButClock b) : a.sup = b.sup :=
  (congrArg Chip.sup h : (({ a with clk := b.clk, cairn := b.cairn } : Chip)).sup = _)
theorem Chip.SameButClock.mctl {a b : Chip} (h : a.SameButClock b) : a.mctl = b.mctl :=
  (congrArg Chip.mctl h : (({ a with clk := b.clk, cairn := b.cairn } : Chip)).mctl = _)
theorem Chip.SameButClock.coll {a b : Chip} (h : a.SameButClock b) : a.coll = b.coll :=
  (congrArg Chip.coll h : (({ a with clk := b.clk, cairn := b.cairn } : Chip)).coll = _)
theorem Chip.SameButClock.belay {a b : Chip} (h : a.SameButClock b) : a.belay = b.belay :=
  (congrArg Chip.belay h : (({ a with clk := b.clk, cairn := b.cairn } : Chip)).belay = _)
theorem Chip.SameButClock.alive {a b : Chip} (h : a.SameButClock b) : a.alive = b.alive :=
  (congrArg Chip.alive h : (({ a with clk := b.clk, cairn := b.cairn } : Chip)).alive = _)
theorem Chip.SameButClock.cfg {a b : Chip} (h : a.SameButClock b) : a.cfg = b.cfg :=
  (congrArg Chip.cfg h : (({ a with clk := b.clk, cairn := b.cairn } : Chip)).cfg = _)
theorem Chip.SameButClock.fis {a b : Chip} (h : a.SameButClock b) : a.fis = b.fis :=
  (congrArg Chip.fis h : (({ a with clk := b.clk, cairn := b.cairn } : Chip)).fis = _)
theorem Chip.SameButClock.fab {a b : Chip} (h : a.SameButClock b) : a.fab = b.fab :=
  (congrArg Chip.fab h : (({ a with clk := b.clk, cairn := b.cairn } : Chip)).fab = _)
theorem Chip.SameButClock.links {a b : Chip} (h : a.SameButClock b) : a.links = b.links :=
  (congrArg Chip.links h : (({ a with clk := b.clk, cairn := b.cairn } : Chip)).links = _)
theorem Chip.SameButClock.sw {a b : Chip} (h : a.SameButClock b) : a.sw = b.sw :=
  (congrArg Chip.sw h : (({ a with clk := b.clk, cairn := b.cairn } : Chip)).sw = _)
theorem Chip.SameButClock.codec {a b : Chip} (h : a.SameButClock b) : a.codec = b.codec :=
  (congrArg Chip.codec h : (({ a with clk := b.clk, cairn := b.cairn } : Chip)).codec = _)
theorem Chip.SameButClock.panel {a b : Chip} (h : a.SameButClock b) : a.panel = b.panel :=
  (congrArg Chip.panel h : (({ a with clk := b.clk, cairn := b.cairn } : Chip)).panel = _)
theorem Chip.SameButClock.keys {a b : Chip} (h : a.SameButClock b) : a.keys = b.keys :=
  (congrArg Chip.keys h : (({ a with clk := b.clk, cairn := b.cairn } : Chip)).keys = _)
theorem Chip.SameButClock.trev {a b : Chip} (h : a.SameButClock b) : a.trev = b.trev :=
  (congrArg Chip.trev h : (({ a with clk := b.clk, cairn := b.cairn } : Chip)).trev = _)
theorem Chip.SameButClock.rep {a b : Chip} (h : a.SameButClock b) : a.rep = b.rep :=
  (congrArg Chip.rep h : (({ a with clk := b.clk, cairn := b.cairn } : Chip)).rep = _)
theorem Chip.SameButClock.unit {a b : Chip} (h : a.SameButClock b) : a.unit = b.unit :=
  (congrArg Chip.unit h : (({ a with clk := b.clk, cairn := b.cairn } : Chip)).unit = _)
theorem Chip.SameButClock.free {a b : Chip} (h : a.SameButClock b) : a.free = b.free :=
  (congrArg Chip.free h : (({ a with clk := b.clk, cairn := b.cairn } : Chip)).free = _)
@[simp] theorem Chip.advance_sup (c : Chip) (n : Nat) : (c.advance n).sup = c.sup := (c.advance_frame n).sup
@[simp] theorem Chip.advance_mctl (c : Chip) (n : Nat) : (c.advance n).mctl = c.mctl := (c.advance_frame n).mctl
@[simp] theorem Chip.advance_coll (c : Chip) (n : Nat) : (c.advance n).coll = c.coll := (c.advance_frame n).coll
@[simp] theorem Chip.advance_belay (c : Chip) (n : Nat) : (c.advance n).belay = c.belay := (c.advance_frame n).belay
@[simp] theorem Chip.advance_alive (c : Chip) (n : Nat) : (c.advance n).alive = c.alive := (c.advance_frame n).alive
@[simp] theorem Chip.advance_cfg (c : Chip) (n : Nat) : (c.advance n).cfg = c.cfg := (c.advance_frame n).cfg
@[simp] theorem Chip.advance_fis (c : Chip) (n : Nat) : (c.advance n).fis = c.fis := (c.advance_frame n).fis
@[simp] theorem Chip.advance_fab (c : Chip) (n : Nat) : (c.advance n).fab = c.fab := (c.advance_frame n).fab
@[simp] theorem Chip.advance_links (c : Chip) (n : Nat) : (c.advance n).links = c.links := (c.advance_frame n).links
@[simp] theorem Chip.advance_sw (c : Chip) (n : Nat) : (c.advance n).sw = c.sw := (c.advance_frame n).sw
@[simp] theorem Chip.advance_codec (c : Chip) (n : Nat) : (c.advance n).codec = c.codec := (c.advance_frame n).codec
@[simp] theorem Chip.advance_panel (c : Chip) (n : Nat) : (c.advance n).panel = c.panel := (c.advance_frame n).panel
@[simp] theorem Chip.advance_keys (c : Chip) (n : Nat) : (c.advance n).keys = c.keys := (c.advance_frame n).keys
@[simp] theorem Chip.advance_trev (c : Chip) (n : Nat) : (c.advance n).trev = c.trev := (c.advance_frame n).trev
@[simp] theorem Chip.advance_rep (c : Chip) (n : Nat) : (c.advance n).rep = c.rep := (c.advance_frame n).rep
@[simp] theorem Chip.advance_unit (c : Chip) (n : Nat) : (c.advance n).unit = c.unit := (c.advance_frame n).unit
@[simp] theorem Chip.advance_free (c : Chip) (n : Nat) : (c.advance n).free = c.free := (c.advance_frame n).free
@[simp] theorem Chip.advanceTo_sup (c : Chip) (n : Nat) : (c.advanceTo n).sup = c.sup := (c.advanceTo_frame n).sup
@[simp] theorem Chip.advanceTo_mctl (c : Chip) (n : Nat) : (c.advanceTo n).mctl = c.mctl := (c.advanceTo_frame n).mctl
@[simp] theorem Chip.advanceTo_coll (c : Chip) (n : Nat) : (c.advanceTo n).coll = c.coll := (c.advanceTo_frame n).coll
@[simp] theorem Chip.advanceTo_belay (c : Chip) (n : Nat) : (c.advanceTo n).belay = c.belay := (c.advanceTo_frame n).belay
@[simp] theorem Chip.advanceTo_alive (c : Chip) (n : Nat) : (c.advanceTo n).alive = c.alive := (c.advanceTo_frame n).alive
@[simp] theorem Chip.advanceTo_cfg (c : Chip) (n : Nat) : (c.advanceTo n).cfg = c.cfg := (c.advanceTo_frame n).cfg
@[simp] theorem Chip.advanceTo_fis (c : Chip) (n : Nat) : (c.advanceTo n).fis = c.fis := (c.advanceTo_frame n).fis
@[simp] theorem Chip.advanceTo_fab (c : Chip) (n : Nat) : (c.advanceTo n).fab = c.fab := (c.advanceTo_frame n).fab
@[simp] theorem Chip.advanceTo_links (c : Chip) (n : Nat) : (c.advanceTo n).links = c.links := (c.advanceTo_frame n).links
@[simp] theorem Chip.advanceTo_sw (c : Chip) (n : Nat) : (c.advanceTo n).sw = c.sw := (c.advanceTo_frame n).sw
@[simp] theorem Chip.advanceTo_codec (c : Chip) (n : Nat) : (c.advanceTo n).codec = c.codec := (c.advanceTo_frame n).codec
@[simp] theorem Chip.advanceTo_panel (c : Chip) (n : Nat) : (c.advanceTo n).panel = c.panel := (c.advanceTo_frame n).panel
@[simp] theorem Chip.advanceTo_keys (c : Chip) (n : Nat) : (c.advanceTo n).keys = c.keys := (c.advanceTo_frame n).keys
@[simp] theorem Chip.advanceTo_trev (c : Chip) (n : Nat) : (c.advanceTo n).trev = c.trev := (c.advanceTo_frame n).trev
@[simp] theorem Chip.advanceTo_rep (c : Chip) (n : Nat) : (c.advanceTo n).rep = c.rep := (c.advanceTo_frame n).rep
@[simp] theorem Chip.advanceTo_unit (c : Chip) (n : Nat) : (c.advanceTo n).unit = c.unit := (c.advanceTo_frame n).unit
@[simp] theorem Chip.advanceTo_free (c : Chip) (n : Nat) : (c.advanceTo n).free = c.free := (c.advanceTo_frame n).free
@[simp] theorem Chip.advanceToTime_sup (c : Chip) (t : Nat × Nat) : (c.advanceToTime t).sup = c.sup := (c.advanceToTime_frame t).sup
@[simp] theorem Chip.advanceToTime_mctl (c : Chip) (t : Nat × Nat) : (c.advanceToTime t).mctl = c.mctl := (c.advanceToTime_frame t).mctl
@[simp] theorem Chip.advanceToTime_coll (c : Chip) (t : Nat × Nat) : (c.advanceToTime t).coll = c.coll := (c.advanceToTime_frame t).coll
@[simp] theorem Chip.advanceToTime_belay (c : Chip) (t : Nat × Nat) : (c.advanceToTime t).belay = c.belay := (c.advanceToTime_frame t).belay
@[simp] theorem Chip.advanceToTime_alive (c : Chip) (t : Nat × Nat) : (c.advanceToTime t).alive = c.alive := (c.advanceToTime_frame t).alive
@[simp] theorem Chip.advanceToTime_cfg (c : Chip) (t : Nat × Nat) : (c.advanceToTime t).cfg = c.cfg := (c.advanceToTime_frame t).cfg
@[simp] theorem Chip.advanceToTime_fis (c : Chip) (t : Nat × Nat) : (c.advanceToTime t).fis = c.fis := (c.advanceToTime_frame t).fis
@[simp] theorem Chip.advanceToTime_fab (c : Chip) (t : Nat × Nat) : (c.advanceToTime t).fab = c.fab := (c.advanceToTime_frame t).fab
@[simp] theorem Chip.advanceToTime_links (c : Chip) (t : Nat × Nat) : (c.advanceToTime t).links = c.links := (c.advanceToTime_frame t).links
@[simp] theorem Chip.advanceToTime_sw (c : Chip) (t : Nat × Nat) : (c.advanceToTime t).sw = c.sw := (c.advanceToTime_frame t).sw
@[simp] theorem Chip.advanceToTime_codec (c : Chip) (t : Nat × Nat) : (c.advanceToTime t).codec = c.codec := (c.advanceToTime_frame t).codec
@[simp] theorem Chip.advanceToTime_panel (c : Chip) (t : Nat × Nat) : (c.advanceToTime t).panel = c.panel := (c.advanceToTime_frame t).panel
@[simp] theorem Chip.advanceToTime_keys (c : Chip) (t : Nat × Nat) : (c.advanceToTime t).keys = c.keys := (c.advanceToTime_frame t).keys
@[simp] theorem Chip.advanceToTime_trev (c : Chip) (t : Nat × Nat) : (c.advanceToTime t).trev = c.trev := (c.advanceToTime_frame t).trev
@[simp] theorem Chip.advanceToTime_rep (c : Chip) (t : Nat × Nat) : (c.advanceToTime t).rep = c.rep := (c.advanceToTime_frame t).rep
@[simp] theorem Chip.advanceToTime_unit (c : Chip) (t : Nat × Nat) : (c.advanceToTime t).unit = c.unit := (c.advanceToTime_frame t).unit
@[simp] theorem Chip.advanceToTime_free (c : Chip) (t : Nat × Nat) : (c.advanceToTime t).free = c.free := (c.advanceToTime_frame t).free

end Sys2Proof.Machine
end

