-- ==== Sys2Proof/Laws/Effects.lean ====
section
/-!
SUPPORT. What a command's effect can do to the state, said once for each way in which an effect becomes a step.
-/
namespace Sys2Proof.Machine
variable (s : State)

theorem onChip_powered (f : Chip → Chip) (hp : s.u.sup.powered = true) : s.onChip f = .next { s with u := f s.u } := if_pos hp
theorem onCM_powered (f : Chip × Mem → Chip × Mem) (hp : s.u.sup.powered = true) :
    s.onCM f = .next { s with u := (f (s.u, s.mem)).1, mem := (f (s.u, s.mem)).2 } := if_pos hp
theorem onChip_unpowered (f : Chip → Chip) (hp : s.u.sup.powered = false) : s.onChip f = .next s := if_neg (by simp [hp])
theorem onCM_unpowered (f : Chip × Mem → Chip × Mem) (hp : s.u.sup.powered = false) : s.onCM f = .next s := if_neg (by simp [hp])

/-- An effect on the unit answers a next state with the memories and the queue as they were. -/
theorem onChip_next (f : Chip → Chip) : ∃ u, s.onChip f = .next { s with u := u } := by
  cases hp : s.u.sup.powered
  · exact ⟨s.u, onChip_unpowered s f hp⟩
  · exact ⟨f s.u, onChip_powered s f hp⟩

/-- An effect on the unit and its memories answers a next state with the queue as it was. -/
theorem onCM_next (f : Chip × Mem → Chip × Mem) : ∃ u m, s.onCM f = .next { s with u := u, mem := m } := by
  cases hp : s.u.sup.powered
  · exact ⟨s.u, s.mem, onCM_unpowered s f hp⟩
  · exact ⟨_, _, onCM_powered s f hp⟩

/-- An effect on the unit completes with that effect. -/
theorem completes_onChip {i : Instr} {s : State} {f : Chip → Chip} {P : Chip → Prop} (he : exec i s = s.onChip f) (hp : s.u.sup.powered = true)
    (h : P (f s.u)) : CompletesChip i s P := ⟨_, he.trans (onChip_powered s f hp), rfl, rfl, h⟩

end Sys2Proof.Machine
end

