-- ==== Sys2Proof/Laws/Exec.lean ====
section
/-!
SUPPORT. What each command does to the state, in terms of its effect on the unit: one lemma per command.
-/
namespace Sys2Proof.Machine
variable (s : State)

theorem exec_modeLine (h : Hdr) (word : Option Bool) (args : Args) : exec (.modeLine h word args) s = s.onChip (fun c => c.runDef h (modeDef h word args)) := rfl
theorem exec_loginUser (h : Hdr) (args : Args) : exec (.loginUser h args) s = s.onChip (fun c => c.runDef h (loginUserDef h args)) := rfl
theorem exec_loginAnswer (h : Hdr) (args : Args) : exec (.loginAnswer h args) s = s.onChip (fun c => c.runDef h (loginAnswerDef h args)) := rfl
theorem exec_loginPresence (h : Hdr) (args : Args) : exec (.loginPresence h args) s = s.onChip (fun c => c.runDef h (loginPresenceDef h args)) := rfl
theorem exec_logoutLine (h : Hdr) : exec (.logoutLine h) s = s.onChip (fun c => c.runDef h (logoutDef h)) := rfl
theorem exec_beginTxn (h : Hdr) : exec (.beginTxn h) s = s.onChip (fun c => c.runDef h (beginDef h)) := rfl
theorem exec_commitLine (h : Hdr) (args : Args) : exec (.commitLine h args) s = s.onChip (fun c => c.runDef h (commitCommandDef h args)) := rfl
theorem exec_commitHitchGranted (sess : Fin 16) : exec (.commitHitchGranted sess) s = s.onChip (fun c => c.commitGranted sess) := rfl
theorem exec_commitWaitTimeout (sess : Fin 16) : exec (.commitWaitTimeout sess) s = s.onChip (fun c => c.commitTimeout sess) := rfl
theorem exec_commitEdge (ext10 : Bool) : exec (.commitEdge ext10) s = s.onCM (fun cm => CM.commitEdge ({ cm.1 with clk := { cm.1.clk with extValid := ext10 } }, cm.2)) := rfl
theorem exec_cfgFiApply (fi : Fin 1024) : exec (.cfgFiApply fi) s = s.onCM (fun cm => CM.cfgFiApply cm fi) := rfl
theorem exec_cfgForcedApply (fi : Fin 1024) : exec (.cfgForcedApply fi) s = s.onCM (fun cm => CM.cfgForced cm fi) := rfl
theorem exec_abortLine (h : Hdr) : exec (.abortLine h) s = s.onChip (fun c => c.runDef h (abortDef h)) := rfl
theorem exec_endLoad (h : Hdr) (flashOk : Bool) : exec (.endLoad h flashOk) s = s.onChip (fun c => c.runDef h (endLoadDef h flashOk)) := rfl
theorem exec_endCancel (h : Hdr) : exec (.endCancel h) s = s.onChip (fun c => c.runDef h (endCancelDef h)) := rfl
theorem exec_bulkRecord (sess : Fin 16) (text : List Char) : exec (.bulkRecord sess text) s = s.onChip (fun c => c.bulkRecord sess text) := rfl
theorem exec_loadIdleCancel (sess : Fin 16) : exec (.loadIdleCancel sess) s = s.onChip (fun c => c.loadIdle sess) := rfl
theorem exec_emptyLine (sess : Fin 16) : exec (.emptyLine sess) s = s.onChip (fun c => c.emptyLine sess) := rfl
theorem exec_longLine (sess : Fin 16) (num : Option (Fin 10000)) : exec (.longLine sess num) s = s.onChip (fun c => c.longLine sess (num.map (fun n => n.val))) := rfl
theorem exec_scriptLineReplay (h : Hdr) : exec (.scriptLineReplay h) s = s.onChip (fun c => c.scriptReplay h) := rfl
theorem exec_eraseChar (sess : Fin 16) : exec (.eraseChar sess) s = s.onChip (fun c => c.eraseChar sess) := rfl
theorem exec_eraseLine (sess : Fin 16) : exec (.eraseLine sess) s = s.onChip (fun c => c.eraseLine sess) := rfl
theorem exec_eraseWord (sess : Fin 16) : exec (.eraseWord sess) s = s.onChip (fun c => c.eraseWord sess) := rfl
theorem exec_ctrlC (sess : Fin 16) : exec (.ctrlC sess) s = s.onChip (fun c => c.ctrlC sess) := rfl
theorem exec_historyPrevious (sess : Fin 16) : exec (.historyPrevious sess) s = s.onChip (fun c => c.historyBack sess) := rfl
theorem exec_historyNext (sess : Fin 16) : exec (.historyNext sess) s = s.onChip (fun c => c.historyForth sess) := rfl
theorem exec_rejectedControlChar (sess : Fin 16) : exec (.rejectedControlChar sess) s = s.onChip (fun c => c.rejectChar sess) := rfl
theorem exec_overrunReport (sess : Fin 16) : exec (.overrunReport sess) s = s.onChip (fun c => c.overrunReport sess) := rfl
theorem exec_lostReport (sess : Fin 16) : exec (.lostReport sess) s = s.onChip (fun c => c.lostReport sess) := rfl
theorem exec_usbDtrAssert  : exec (.usbDtrAssert) s = s.onChip (fun c => c.usbAssert) := rfl
theorem exec_usbDetach  : exec (.usbDetach) s = s.onChip (fun c => c.endSession 1 "USB") := rfl
theorem exec_tlsHandshake (ok : Bool) (cause : String) : exec (.tlsHandshake ok cause) s = s.onChip (fun c => c.tlsHandshake ok cause) := rfl
theorem exec_tcpClose (conn : Fin 14) (cause : String) : exec (.tcpClose conn cause) s = s.onChip (fun c => c.endSession (2 + conn) cause) := rfl
theorem exec_sessionIdleWarning (sess : Fin 16) : exec (.sessionIdleWarning sess) s = s.onChip (fun c => c.idleWarning sess) := rfl
theorem exec_sessionIdleTimeout (sess : Fin 16) : exec (.sessionIdleTimeout sess) s = s.onChip (fun c => c.idleTimeout sess) := rfl
theorem exec_loginLockExpiry (carrier : Fin 3) : exec (.loginLockExpiry carrier) s = s.onChip (fun c => c.lockExpiry carrier) := rfl
theorem exec_showUnit (h : Hdr) (args : Args) : exec (.showUnit h args) s = s.onChip (fun c => c.runDef h (showUnitDef h args)) := rfl
theorem exec_setUnit (h : Hdr) (args : Args) : exec (.setUnit h args) s = s.onChip (fun c => c.runDef h (setUnitDef h args)) := rfl
theorem exec_addUnit (h : Hdr) (args : Args) : exec (.addUnit h args) s = s.onChip (fun c => c.runDef h (addUnitDef h args)) := rfl
theorem exec_deleteUnit (h : Hdr) (args : Args) : exec (.deleteUnit h args) s = s.onChip (fun c => c.runDef h (deleteUnitDef h args)) := rfl
theorem exec_restartUnit (h : Hdr) (args : Args) : exec (.restartUnit h args) s = s.onChip (fun c => c.runDef h (restartUnitDef h args)) := rfl
theorem exec_showImage (h : Hdr) (args : Args) : exec (.showImage h args) s = s.onChip (fun c => c.runDef h (showImageDef h args)) := rfl
theorem exec_loadImage (h : Hdr) (args : Args) : exec (.loadImage h args) s = s.onChip (fun c => c.runDef h (loadImageDef h args)) := rfl
theorem exec_switchImage (h : Hdr) (args : Args) : exec (.switchImage h args) s = s.onChip (fun c => c.runDef h (switchImageDef h args)) := rfl
theorem exec_acceptImageUntested (h : Hdr) : exec (.acceptImageUntested h) s = s.onChip (fun c => c.runDef h (acceptImageDef h)) := rfl
theorem exec_showLife (h : Hdr) (args : Args) : exec (.showLife h args) s = s.onChip (fun c => c.runDef h (showLifeDef h args)) := rfl
theorem exec_moveLife (h : Hdr) (args : Args) (otpOk : Bool) : exec (.moveLife h args otpOk) s = s.onChip (fun c => c.runDef h (moveLifeDef h args otpOk)) := rfl
theorem exec_readReg (h : Hdr) (args : Args) (wins : List (Option Nat)) : exec (.readReg h args wins) s = s.onChip (fun c => c.runDef h (readRegDef h args wins)) := rfl
theorem exec_writeReg (h : Hdr) (args : Args) (ack : Bool) : exec (.writeReg h args ack) s = s.onChip (fun c => c.runDef h (writeRegDef h args ack)) := rfl
theorem exec_faultInjSelWrite (h : Hdr) (v : BitVec 32) : exec (.faultInjSelWrite h v) s = s.onChip (fun c => c.runDef h (writeSelDef h v.toNat)) := rfl
theorem exec_faultInjGoWrite (h : Hdr) (v : BitVec 32) : exec (.faultInjGoWrite h v) s = s.onChip (fun c => c.runDef h (writeGoDef h v.toNat)) := rfl
theorem exec_portCageWrWrite (h : Hdr) (cage : Fin 4) (v : BitVec 32) (ack : Bool) : exec (.portCageWrWrite h cage v ack) s = s.onChip (fun c => c.runDef h (writeCageDef h cage v.toNat ack)) := rfl
theorem exec_cageWindowRead (h : Hdr) (cage : Fin 4) (word : Fin 64) (answer : Option (BitVec 32)) : exec (.cageWindowRead h cage word answer) s = s.onChip (fun c => c.runDef h (readWindowDef h cage word (answer.map BitVec.toNat))) := rfl
theorem exec_showFi (h : Hdr) (sel : Selector) (args : Args) : exec (.showFi h sel args) s = s.onChip (fun c => c.runDef h (showFiDef h sel args)) := rfl
theorem exec_loadFi (h : Hdr) (sel : Selector) (args : Args) : exec (.loadFi h sel args) s = s.onChip (fun c => c.runDef h (loadFiDef h sel args)) := rfl
theorem exec_setFi (h : Hdr) (sel : Selector) (args : Args) : exec (.setFi h sel args) s = s.onChip (fun c => c.runDef h (setFiDef h sel args)) := rfl
theorem exec_addFi (h : Hdr) (sel : Selector) (args : Args) : exec (.addFi h sel args) s = s.onChip (fun c => c.runDef h (addFiDef h sel args)) := rfl
theorem exec_deleteFi (h : Hdr) (sel : Selector) (args : Args) : exec (.deleteFi h sel args) s = s.onChip (fun c => c.runDef h (deleteFiDef h sel args)) := rfl
theorem exec_armFi (h : Hdr) (sel : Selector) : exec (.armFi h sel) s = s.onChip (fun c => c.runDef h (armDef h sel)) := rfl
theorem exec_stopFi (h : Hdr) (sel : Selector) : exec (.stopFi h sel) s = s.onChip (fun c => c.runDef h (stopDef h sel)) := rfl
theorem exec_clearFiPoison (h : Hdr) (sel : Selector) : exec (.clearFiPoison h sel) s = s.onCM (fun cm => (cm.1.runDef h (clearPoisonDef cm.2 h sel), cm.2)) := rfl
theorem exec_clearFiCounts (h : Hdr) (sel : Selector) : exec (.clearFiCounts h sel) s = s.onChip (fun c => c.runDef h (clearCountsDef h sel)) := rfl
theorem exec_selectFi (h : Hdr) (sel : Selector) (args : Args) : exec (.selectFi h sel args) s = s.onChip (fun c => c.runDef h (selectDef h sel args)) := rfl
theorem exec_executeFi (h : Hdr) (sel : Selector) (args : Args) : exec (.executeFi h sel args) s = s.onChip (fun c => c.runDef h (executeDef h sel args)) := rfl
theorem exec_cancelFi (h : Hdr) (sel : Selector) (args : Args) : exec (.cancelFi h sel args) s = s.onChip (fun c => c.runDef h (cancelDef h sel args)) := rfl
theorem exec_selectExpiry (sess : Fin 16) (fi : Fin 1024) (point : Fin 256) : exec (.selectExpiry sess fi point) s = s.onChip (fun c => c.selectExpiry sess fi point) := rfl
theorem exec_showTile (h : Hdr) (sel : Selector) (args : Args) : exec (.showTile h sel args) s = s.onChip (fun c => c.runDef h (showTileDef h sel args)) := rfl
theorem exec_testTile (h : Hdr) (sel : Selector) (outcome : Option Nat) : exec (.testTile h sel outcome) s = s.onChip (fun c => c.runDef h (testTileDef h sel outcome)) := rfl
theorem exec_showRepair (h : Hdr) (args : Args) : exec (.showRepair h args) s = s.onChip (fun c => c.runDef h (showRepairDef h args)) := rfl
theorem exec_setRepair (h : Hdr) (args : Args) : exec (.setRepair h args) s = s.onChip (fun c => c.runDef h (setRepairDef h args)) := rfl
theorem exec_startRepair (h : Hdr) (args : Args) : exec (.startRepair h args) s = s.onChip (fun c => c.runDef h (startRepairDef h args)) := rfl
theorem exec_showDomain (h : Hdr) (sel : Selector) (args : Args) : exec (.showDomain h sel args) s = s.onChip (fun c => c.runDef h (showDomainDef h sel args)) := rfl
theorem exec_setDomain (h : Hdr) (sel : Selector) (args : Args) : exec (.setDomain h sel args) s = s.onChip (fun c => c.runDef h (setDomainDef h sel args)) := rfl
theorem exec_showLane (h : Hdr) (sel : Selector) (args : Args) : exec (.showLane h sel args) s = s.onChip (fun c => c.runDef h (showLaneDef h sel args)) := rfl
theorem exec_setLane (h : Hdr) (sel : Selector) (args : Args) : exec (.setLane h sel args) s = s.onChip (fun c => c.runDef h (setLaneDef h sel args)) := rfl
theorem exec_showPort (h : Hdr) (sel : Selector) (args : Args) : exec (.showPort h sel args) s = s.onChip (fun c => c.runDef h (showPortDef h sel args)) := rfl
theorem exec_setPort (h : Hdr) (sel : Selector) (args : Args) : exec (.setPort h sel args) s = s.onChip (fun c => c.runDef h (setPortDef h sel args)) := rfl
theorem exec_clearPort (h : Hdr) (sel : Selector) : exec (.clearPort h sel) s = s.onChip (fun c => c.runDef h (clearPortDef h sel)) := rfl
theorem exec_addTable (h : Hdr) (args : Args) : exec (.addTable h args) s = s.onChip (fun c => c.runDef h (addTableDef h args)) := rfl
theorem exec_deleteTable (h : Hdr) (args : Args) : exec (.deleteTable h args) s = s.onChip (fun c => c.runDef h (deleteTableDef h args)) := rfl
theorem exec_setTable (h : Hdr) (args : Args) : exec (.setTable h args) s = s.onChip (fun c => c.runDef h (setTableDef h args)) := rfl
theorem exec_dumpTable (h : Hdr) (args : Args) : exec (.dumpTable h args) s = s.onChip (fun c => c.runDef h (dumpTableDef h args)) := rfl
theorem exec_loadTable (h : Hdr) (args : Args) : exec (.loadTable h args) s = s.onChip (fun c => c.runDef h (loadTableDef h args)) := rfl
theorem exec_showSub (h : Hdr) (sel : Selector) (args : Args) : exec (.showSub h sel args) s = s.onChip (fun c => c.runDef h (showSubDef h sel args)) := rfl
theorem exec_showPub (h : Hdr) (sel : Selector) (args : Args) : exec (.showPub h sel args) s = s.onChip (fun c => c.runDef h (showPubDef h sel args)) := rfl
theorem exec_addSub (h : Hdr) (sel : Selector) (args : Args) : exec (.addSub h sel args) s = s.onChip (fun c => c.runDef h (addSubDef h sel args)) := rfl
theorem exec_addPub (h : Hdr) (sel : Selector) (args : Args) : exec (.addPub h sel args) s = s.onChip (fun c => c.runDef h (addPubDef h sel args)) := rfl
theorem exec_deleteSub (h : Hdr) (sel : Selector) (args : Args) : exec (.deleteSub h sel args) s = s.onChip (fun c => c.runDef h (deleteSubDef h sel args)) := rfl
theorem exec_deletePub (h : Hdr) (sel : Selector) (args : Args) : exec (.deletePub h sel args) s = s.onChip (fun c => c.runDef h (deletePubDef h sel args)) := rfl
theorem exec_loadSub (h : Hdr) (args : Args) : exec (.loadSub h args) s = s.onChip (fun c => c.runDef h (loadSubDef h args)) := rfl
theorem exec_loadPub (h : Hdr) (args : Args) : exec (.loadPub h args) s = s.onChip (fun c => c.runDef h (loadPubDef h args)) := rfl
theorem exec_showTime (h : Hdr) (args : Args) : exec (.showTime h args) s = s.onChip (fun c => c.runDef h (showTimeDef h args)) := rfl
theorem exec_setTime (h : Hdr) (args : Args) : exec (.setTime h args) s = s.onChip (fun c => c.runDef h (setTimeDef h args)) := rfl
theorem exec_adjustTime (h : Hdr) (args : Args) : exec (.adjustTime h args) s = s.onChip (fun c => c.runDef h (adjustTimeDef h args)) := rfl
theorem exec_adjustAtDue  : exec (.adjustAtDue) s = s.onChip (fun c => c.adjustAtDue) := rfl
theorem exec_showKeyslot (h : Hdr) (sel : Selector) (args : Args) : exec (.showKeyslot h sel args) s = s.onChip (fun c => c.runDef h (showKeyDef h sel args)) := rfl
theorem exec_loadKeyslot (h : Hdr) (sel : Selector) (args : Args) : exec (.loadKeyslot h sel args) s = s.onChip (fun c => c.runDef h (loadKeyDef h sel args)) := rfl
theorem exec_revokeKeyslot (h : Hdr) (sel : Selector) (flashOk : Bool) : exec (.revokeKeyslot h sel flashOk) s = s.onChip (fun c => c.runDef h (revokeKeyDef h sel flashOk)) := rfl
theorem exec_showHitch (h : Hdr) (sel : Selector) (args : Args) : exec (.showHitch h sel args) s = s.onChip (fun c => c.runDef h (showHitchDef h sel args)) := rfl
theorem exec_setHitch (h : Hdr) (args : Args) : exec (.setHitch h args) s = s.onChip (fun c => c.runDef h (setHitchDef h args)) := rfl
theorem exec_addHitch (h : Hdr) (args : Args) : exec (.addHitch h args) s = s.onChip (fun c => c.runDef h (addHitchDef h args)) := rfl
theorem exec_deleteHitch (h : Hdr) (args : Args) : exec (.deleteHitch h args) s = s.onChip (fun c => c.runDef h (deleteHitchDef h args)) := rfl
theorem exec_takeHitch (h : Hdr) (sel : Selector) (args : Args) : exec (.takeHitch h sel args) s = s.onChip (fun c => c.runDef h (takeDef h sel args)) := rfl
theorem exec_takeHitchTimeout (sess : Fin 16) : exec (.takeHitchTimeout sess) s = s.onChip (fun c => c.takeTimeout sess) := rfl
theorem exec_releaseHitch (h : Hdr) (sel : Selector) : exec (.releaseHitch h sel) s = s.onChip (fun c => c.runDef h (releaseDef h sel)) := rfl
theorem exec_showPanel (h : Hdr) (args : Args) : exec (.showPanel h args) s = s.onChip (fun c => c.runDef h (showPanelDef h args)) := rfl
theorem exec_setPanel (h : Hdr) (args : Args) : exec (.setPanel h args) s = s.onChip (fun c => c.runDef h (setPanelDef h args)) := rfl
theorem exec_writePanel (h : Hdr) (args : Args) : exec (.writePanel h args) s = s.onChip (fun c => c.runDef h (writePanelDef h args)) := rfl
theorem exec_showTrip (h : Hdr) (sel : Selector) (args : Args) : exec (.showTrip h sel args) s = s.onChip (fun c => c.runDef h (showTripDef h sel args)) := rfl
theorem exec_setTrip (h : Hdr) (sel : Selector) (args : Args) : exec (.setTrip h sel args) s = s.onChip (fun c => c.runDef h (setTripDef h sel args)) := rfl
theorem exec_testTrip (h : Hdr) (sel : Selector) (args : Args) : exec (.testTrip h sel args) s = s.onChip (fun c => c.runDef h (testTripDef h sel args)) := rfl
theorem exec_testPulseEnd (trip : Fin 16) : exec (.testPulseEnd trip) s = s.onChip (fun c => c.testPulseEnd trip) := rfl
theorem exec_showInput (h : Hdr) (sel : Selector) (args : Args) : exec (.showInput h sel args) s = s.onChip (fun c => c.runDef h (showInputDef h sel args)) := rfl
theorem exec_setInput (h : Hdr) (sel : Selector) (args : Args) : exec (.setInput h sel args) s = s.onChip (fun c => c.runDef h (setInputDef h sel args)) := rfl
theorem exec_showEvent (h : Hdr) (sel : Selector) (args : Args) : exec (.showEvent h sel args) s = s.onChip (fun c => c.runDef h (showEventDef h sel args)) := rfl
theorem exec_notifyEvent (h : Hdr) (sel : Selector) (args : Args) : exec (.notifyEvent h sel args) s = s.onChip (fun c => c.runDef h (notifyEventDef h sel args)) := rfl
theorem exec_showFault (h : Hdr) (sel : Selector) (args : Args) : exec (.showFault h sel args) s = s.onChip (fun c => c.runDef h (showFaultDef h sel args)) := rfl
theorem exec_notifyFault (h : Hdr) (sel : Selector) (args : Args) : exec (.notifyFault h sel args) s = s.onChip (fun c => c.runDef h (notifyFaultDef h sel args)) := rfl
theorem exec_setFault (h : Hdr) (sel : Selector) (args : Args) : exec (.setFault h sel args) s = s.onChip (fun c => c.runDef h (setFaultDef h sel args)) := rfl
theorem exec_clearFault (h : Hdr) (sel : Selector) : exec (.clearFault h sel) s = s.onChip (fun c => c.runDef h (clearFaultDef h sel)) := rfl
theorem exec_showLog (h : Hdr) (args : Args) : exec (.showLog h args) s = s.onChip (fun c => c.runDef h (showLogDef h args)) := rfl
theorem exec_reservedVerb (h : Hdr) : exec (.reservedVerb h) s = s.onChip (fun c => c.runDef h (reservedDef h)) := rfl
theorem exec_tokenQueued (flight : Nat) : exec (.tokenQueued flight) s = s.onChip (fun c => c.tokenArrives flight) := rfl
theorem exec_tokenSelect (tile : Fin 416) : exec (.tokenSelect tile) s = s.onChip (fun c => c.select tile) := rfl
theorem exec_guardRequeue (tile : Fin 416) : exec (.guardRequeue tile) s = s.onChip (fun c => c.guardRequeue tile) := rfl
theorem exec_predicateMirrorUpdate (cluster : Fin 8) (frame : Fin 32768) : exec (.predicateMirrorUpdate cluster frame) s = s.onChip (fun c => c.mirrorUpdate (ctxKey cluster frame)) := rfl
theorem exec_deepSpillWrite (fi : Fin 1024) : exec (.deepSpillWrite fi) s = s.onChip (fun c => c.deepSpillWrite fi) := rfl
theorem exec_deepLookupReply (fi : Fin 1024) : exec (.deepLookupReply fi) s = s.onChip (fun c => c.deepLookupReply fi) := rfl
theorem exec_creditGrant (fi : Fin 1024) (copy : Fin 2) : exec (.creditGrant fi copy) s = s.onChip (fun c => c.creditGrant fi copy) := rfl
theorem exec_frameGrant (cluster : Fin 8) : exec (.frameGrant cluster) s = s.onChip (fun c => c.frameGrant cluster) := rfl
theorem exec_memoryReply (reply : Nat) : exec (.memoryReply reply) s = s.onChip (fun c => c.memoryReply reply) := rfl
theorem exec_deferralRetry  : exec (.deferralRetry) s = s.onCM (fun cm => CM.deferralRetry cm) := rfl
theorem exec_frameWordRelease (tile : Fin 416) : exec (.frameWordRelease tile) s = s.onChip (fun c => c.frameWordRelease tile) := rfl
theorem exec_pageInstall (tile : Fin 416) (good : Bool) : exec (.pageInstall tile good) s = s.onChip (fun c => c.pageInstall tile good) := rfl
theorem exec_pageRetry (tile : Fin 416) : exec (.pageRetry tile) s = s.onChip (fun c => c.pageRetry tile) := rfl
theorem exec_sharedPageReturn (tile : Fin 416) : exec (.sharedPageReturn tile) s = s.onChip (fun c => c.sharedReturn tile) := rfl
theorem exec_pageBackingRewrite (tile : Fin 416) : exec (.pageBackingRewrite tile) s = s.onChip (fun c => c.pageRewrite tile) := rfl
theorem exec_dstMergeExpiry (fi : Fin 1024) (copy : Fin 2) : exec (.dstMergeExpiry fi copy) s = s.onCM (fun cm => CM.mergeExpiry cm fi copy) := rfl
theorem exec_purgeSweep (tile : Fin 416) : exec (.purgeSweep tile) s = s.onChip (fun c => c.purgeSweep tile) := rfl
theorem exec_purgeComplete (cluster : Fin 8) (frame : Fin 32768) : exec (.purgeComplete cluster frame) s = s.onChip (fun c => c.purgeComplete (ctxKey cluster frame)) := rfl
theorem exec_timerTick (fi : Fin 1024) : exec (.timerTick fi) s = s.onChip (fun c => c.timerTick fi) := rfl
theorem exec_periodDoneArrive  : exec (.periodDoneArrive) s = s.onChip (fun c => c.periodDone) := rfl
theorem exec_deadlineOverrun (fi : Fin 1024) : exec (.deadlineOverrun fi) s = s.onChip (fun c => c.deadlineOverrun fi) := rfl
theorem exec_sourceLoss (fi : Fin 1024) : exec (.sourceLoss fi) s = s.onChip (fun c => c.sourceLoss fi) := rfl
theorem exec_stallDetect (fi : Fin 1024) (copy : Fin 2) : exec (.stallDetect fi copy) s = s.onChip (fun c => c.stallDetect fi copy) := rfl
theorem exec_drainPurge (fi : Fin 1024) : exec (.drainPurge fi) s = s.onChip (fun c => c.drainPurge fi) := rfl
theorem exec_drainComplete (fi : Fin 1024) : exec (.drainComplete fi) s = s.onChip (fun c => c.drainComplete fi) := rfl
theorem exec_rearmComplete (fi : Fin 1024) : exec (.rearmComplete fi) s = s.onChip (fun c => c.rearmComplete fi) := rfl
theorem exec_twinCompare (fi : Fin 1024) (stream : Nat) : exec (.twinCompare fi stream) s = s.onCM (fun cm => CM.twinCompare cm fi stream performOp) := rfl
theorem exec_twinPartnerTimeout (fi : Fin 1024) (stream : Nat) : exec (.twinPartnerTimeout fi stream) s = s.onChip (fun c => c.twinTimeout fi stream) := rfl
theorem exec_hwaitTimeout (fi : Fin 1024) : exec (.hwaitTimeout fi) s = s.onChip (fun c => c.hwaitTimeout fi) := rfl
theorem exec_hitchBroken (hitch : Nat) : exec (.hitchBroken hitch) s = s.onChip (fun c => c.hitchBroken hitch) := rfl
theorem exec_hitchRestore (hitch : Nat) : exec (.hitchRestore hitch) s = s.onChip (fun c => c.hitchRestore hitch) := rfl
theorem exec_mov (tile : Fin 416) : exec (.mov tile) s = s.onChip (fun c => c.execute tile 0x00 (fun f c => c.emit f f.tok.op)) := rfl
theorem exec_steer (tile : Fin 416) : exec (.steer tile) s = s.onChip (fun c => c.steer tile) := rfl
theorem exec_gate (tile : Fin 416) : exec (.gate tile) s = s.onChip (fun c => c.gate tile) := rfl
theorem exec_sink (tile : Fin 416) : exec (.sink tile) s = s.onChip (fun c => c.execute tile 0x03 (fun _ c => c)) := rfl
theorem exec_kset (tile : Fin 416) : exec (.kset tile) s = s.onChip (fun c => c.kset tile) := rfl
theorem exec_ktest (tile : Fin 416) : exec (.ktest tile) s = s.onChip (fun c => c.execute tile 0x05 (fun f c => c.emit f ⟨.data, BitVec.ofNat 64 f.tok.op.kind.code⟩)) := rfl
theorem exec_tread (tile : Fin 416) : exec (.tread tile) s = s.onChip (fun c => c.execute tile 0x06 (fun f c => c.emit f ((controlKind f.tok.op).getD ⟨.time, c.timeData⟩))) := rfl
theorem exec_lit (tile : Fin 416) : exec (.lit tile) s = s.onChip (fun c => c.lit tile) := rfl
theorem exec_tqual (tile : Fin 416) : exec (.tqual tile) s = s.onChip (fun c => c.execute tile 0x08 (fun f c => c.emit f ((controlKind f.tok.op).getD ⟨.data, c.quality.setWidth 64⟩))) := rfl
theorem exec_add (tile : Fin 416) : exec (.add tile) s = s.onChip (fun c => c.compute tile 0x10 (fun l r => .pure (l + r))) := rfl
theorem exec_sub (tile : Fin 416) : exec (.sub tile) s = s.onChip (fun c => c.compute tile 0x11 (fun l r => .pure (l - r))) := rfl
theorem exec_mul (tile : Fin 416) : exec (.mul tile) s = s.onChip (fun c => c.compute tile 0x12 (fun l r => .pure (l * r))) := rfl
theorem exec_mulh (tile : Fin 416) : exec (.mulh tile) s = s.onChip (fun c => c.compute tile 0x13 (fun l r => .pure (aMulh l r))) := rfl
theorem exec_mulhu (tile : Fin 416) : exec (.mulhu tile) s = s.onChip (fun c => c.compute tile 0x14 (fun l r => .pure (aMulhu l r))) := rfl
theorem exec_div (tile : Fin 416) : exec (.div tile) s = s.onChip (fun c => c.compute tile 0x15 (fun l r => aDiv l r)) := rfl
theorem exec_divu (tile : Fin 416) : exec (.divu tile) s = s.onChip (fun c => c.compute tile 0x16 (fun l r => aDivu l r)) := rfl
theorem exec_rem (tile : Fin 416) : exec (.rem tile) s = s.onChip (fun c => c.compute tile 0x17 (fun l r => aRem l r)) := rfl
theorem exec_remu (tile : Fin 416) : exec (.remu tile) s = s.onChip (fun c => c.compute tile 0x18 (fun l r => aRemu l r)) := rfl
theorem exec_and (tile : Fin 416) : exec (.and tile) s = s.onChip (fun c => c.compute tile 0x19 (fun l r => .pure (l &&& r))) := rfl
theorem exec_or (tile : Fin 416) : exec (.or tile) s = s.onChip (fun c => c.compute tile 0x1A (fun l r => .pure (l ||| r))) := rfl
theorem exec_xor (tile : Fin 416) : exec (.xor tile) s = s.onChip (fun c => c.compute tile 0x1B (fun l r => .pure (l ^^^ r))) := rfl
theorem exec_andn (tile : Fin 416) : exec (.andn tile) s = s.onChip (fun c => c.compute tile 0x1C (fun l r => .pure (l &&& ~~~r))) := rfl
theorem exec_shl (tile : Fin 416) : exec (.shl tile) s = s.onChip (fun c => c.compute tile 0x1D (fun l r => .pure (l <<< sh6 r))) := rfl
theorem exec_shr (tile : Fin 416) : exec (.shr tile) s = s.onChip (fun c => c.compute tile 0x1E (fun l r => .pure (l >>> sh6 r))) := rfl
theorem exec_sar (tile : Fin 416) : exec (.sar tile) s = s.onChip (fun c => c.compute tile 0x1F (fun l r => .pure (l.sshiftRight (sh6 r)))) := rfl
theorem exec_rol (tile : Fin 416) : exec (.rol tile) s = s.onChip (fun c => c.compute tile 0x20 (fun l r => .pure (l.rotateLeft (sh6 r)))) := rfl
theorem exec_ror (tile : Fin 416) : exec (.ror tile) s = s.onChip (fun c => c.compute tile 0x21 (fun l r => .pure (l.rotateRight (sh6 r)))) := rfl
theorem exec_min (tile : Fin 416) : exec (.min tile) s = s.onChip (fun c => c.compute tile 0x22 (fun l r => .pure (if i64 l < i64 r then l else r))) := rfl
theorem exec_max (tile : Fin 416) : exec (.max tile) s = s.onChip (fun c => c.compute tile 0x23 (fun l r => .pure (if i64 l < i64 r then r else l))) := rfl
theorem exec_minu (tile : Fin 416) : exec (.minu tile) s = s.onChip (fun c => c.compute tile 0x24 (fun l r => .pure (if l < r then l else r))) := rfl
theorem exec_maxu (tile : Fin 416) : exec (.maxu tile) s = s.onChip (fun c => c.compute tile 0x25 (fun l r => .pure (if l < r then r else l))) := rfl
theorem exec_neg (tile : Fin 416) : exec (.neg tile) s = s.onChip (fun c => c.compute tile 0x26 (fun l _ => .pure (-l))) := rfl
theorem exec_not (tile : Fin 416) : exec (.not tile) s = s.onChip (fun c => c.compute tile 0x27 (fun l _ => .pure (~~~l))) := rfl
theorem exec_abs (tile : Fin 416) : exec (.abs tile) s = s.onChip (fun c => c.compute tile 0x28 (fun l _ => .pure (ofI (Int.natAbs (i64 l))))) := rfl
theorem exec_sext (tile : Fin 416) : exec (.sext tile) s = s.onChip (fun c => c.compute tile 0x29 (fun l r => .pure (aSext l r))) := rfl
theorem exec_zext (tile : Fin 416) : exec (.zext tile) s = s.onChip (fun c => c.compute tile 0x2A (fun l r => .pure (aZext l r))) := rfl
theorem exec_extr (tile : Fin 416) : exec (.extr tile) s = s.onChip (fun c => c.compute tile 0x2B (fun l r => .pure (aExtr l r))) := rfl
theorem exec_adds (tile : Fin 416) : exec (.adds tile) s = s.onChip (fun c => c.compute tile 0x2C (fun l r => satI 64 (i64 l + i64 r))) := rfl
theorem exec_subs (tile : Fin 416) : exec (.subs tile) s = s.onChip (fun c => c.compute tile 0x2D (fun l r => satI 64 (i64 l - i64 r))) := rfl
theorem exec_add32 (tile : Fin 416) : exec (.add32 tile) s = s.onChip (fun c => c.compute tile 0x2E (fun l r => .pure (sx32 (i32 l + i32 r)))) := rfl
theorem exec_sub32 (tile : Fin 416) : exec (.sub32 tile) s = s.onChip (fun c => c.compute tile 0x2F (fun l r => .pure (sx32 (i32 l - i32 r)))) := rfl
theorem exec_mul32 (tile : Fin 416) : exec (.mul32 tile) s = s.onChip (fun c => c.compute tile 0x30 (fun l r => .pure (sx32 (i32 l * i32 r)))) := rfl
theorem exec_qadd (tile : Fin 416) : exec (.qadd tile) s = s.onChip (fun c => c.compute tile 0x40 (fun l r => qAdd 32 l r)) := rfl
theorem exec_qsub (tile : Fin 416) : exec (.qsub tile) s = s.onChip (fun c => c.compute tile 0x41 (fun l r => qSub 32 l r)) := rfl
theorem exec_qmul (tile : Fin 416) : exec (.qmul tile) s = s.onChip (fun c => c.compute tile 0x42 (fun l r => qMul 32 l r)) := rfl
theorem exec_qneg (tile : Fin 416) : exec (.qneg tile) s = s.onChip (fun c => c.compute tile 0x43 (fun l _ => qNeg 32 l)) := rfl
theorem exec_qabs (tile : Fin 416) : exec (.qabs tile) s = s.onChip (fun c => c.compute tile 0x44 (fun l _ => qAbs 32 l)) := rfl
theorem exec_qshl (tile : Fin 416) : exec (.qshl tile) s = s.onChip (fun c => c.compute tile 0x45 (fun l r => qShl 32 l r)) := rfl
theorem exec_qshr (tile : Fin 416) : exec (.qshr tile) s = s.onChip (fun c => c.compute tile 0x46 (fun l r => qShr 32 l r)) := rfl
theorem exec_hadd (tile : Fin 416) : exec (.hadd tile) s = s.onChip (fun c => c.compute tile 0x48 (fun l r => qAdd 16 l r)) := rfl
theorem exec_hsub (tile : Fin 416) : exec (.hsub tile) s = s.onChip (fun c => c.compute tile 0x49 (fun l r => qSub 16 l r)) := rfl
theorem exec_hmul (tile : Fin 416) : exec (.hmul tile) s = s.onChip (fun c => c.compute tile 0x4A (fun l r => qMul 16 l r)) := rfl
theorem exec_hneg (tile : Fin 416) : exec (.hneg tile) s = s.onChip (fun c => c.compute tile 0x4B (fun l _ => qNeg 16 l)) := rfl
theorem exec_habs (tile : Fin 416) : exec (.habs tile) s = s.onChip (fun c => c.compute tile 0x4C (fun l _ => qAbs 16 l)) := rfl
theorem exec_hshl (tile : Fin 416) : exec (.hshl tile) s = s.onChip (fun c => c.compute tile 0x4D (fun l r => qShl 16 l r)) := rfl
theorem exec_hshr (tile : Fin 416) : exec (.hshr tile) s = s.onChip (fun c => c.compute tile 0x4E (fun l r => qShr 16 l r)) := rfl
theorem exec_q2h (tile : Fin 416) : exec (.q2h tile) s = s.onChip (fun c => c.compute tile 0x50 (fun l _ => q2h l)) := rfl
theorem exec_h2q (tile : Fin 416) : exec (.h2q tile) s = s.onChip (fun c => c.compute tile 0x51 (fun l _ => h2q l)) := rfl
theorem exec_qmul64 (tile : Fin 416) : exec (.qmul64 tile) s = s.onChip (fun c => c.compute tile 0x52 (fun l r => qMul64 l r)) := rfl
theorem exec_qrnd (tile : Fin 416) : exec (.qrnd tile) s = s.onChip (fun c => c.compute tile 0x53 (fun l _ => qRnd l)) := rfl
theorem exec_fadd (tile : Fin 416) : exec (.fadd tile) s = s.onChip (fun c => c.compute tile 0x60 (fun l r => f32.add l r)) := rfl
theorem exec_fsub (tile : Fin 416) : exec (.fsub tile) s = s.onChip (fun c => c.compute tile 0x61 (fun l r => f32.sub l r)) := rfl
theorem exec_fmul (tile : Fin 416) : exec (.fmul tile) s = s.onChip (fun c => c.compute tile 0x62 (fun l r => f32.mul l r)) := rfl
theorem exec_fdiv (tile : Fin 416) : exec (.fdiv tile) s = s.onChip (fun c => c.compute tile 0x63 (fun l r => f32.div l r)) := rfl
theorem exec_fsqrt (tile : Fin 416) : exec (.fsqrt tile) s = s.onChip (fun c => c.compute tile 0x64 (fun l _ => f32.sqrt l)) := rfl
theorem exec_fmin (tile : Fin 416) : exec (.fmin tile) s = s.onChip (fun c => c.compute tile 0x65 (fun l r => f32.minmax false l r)) := rfl
theorem exec_fmax (tile : Fin 416) : exec (.fmax tile) s = s.onChip (fun c => c.compute tile 0x66 (fun l r => f32.minmax true l r)) := rfl
theorem exec_fneg (tile : Fin 416) : exec (.fneg tile) s = s.onChip (fun c => c.compute tile 0x67 (fun l _ => .pure (f32.negW l))) := rfl
theorem exec_fabs (tile : Fin 416) : exec (.fabs tile) s = s.onChip (fun c => c.compute tile 0x68 (fun l _ => .pure (f32.absW l))) := rfl
theorem exec_fmov (tile : Fin 416) : exec (.fmov tile) s = s.onChip (fun c => c.execute tile 0x69 (fun f c => c.emit f ((combine f.tok.op none).getD ⟨f.tok.op.kind, (f.tok.op.data.setWidth 32).setWidth 64⟩))) := rfl
theorem exec_fclt (tile : Fin 416) : exec (.fclt tile) s = s.onChip (fun c => c.compute tile 0x6A (fun l r => f32.cmp FVal.lt l r)) := rfl
theorem exec_fcle (tile : Fin 416) : exec (.fcle tile) s = s.onChip (fun c => c.compute tile 0x6B (fun l r => f32.cmp FVal.lev l r)) := rfl
theorem exec_fceq (tile : Fin 416) : exec (.fceq tile) s = s.onChip (fun c => c.compute tile 0x6C (fun l r => f32.cmp FVal.eqv l r)) := rfl
theorem exec_f2i (tile : Fin 416) : exec (.f2i tile) s = s.onChip (fun c => c.compute tile 0x6D (fun l _ => f32.toI64 l)) := rfl
theorem exec_i2f (tile : Fin 416) : exec (.i2f tile) s = s.onChip (fun c => c.compute tile 0x6E (fun l _ => f32.ofInt (i64 l) 0)) := rfl
theorem exec_f2q (tile : Fin 416) : exec (.f2q tile) s = s.onChip (fun c => c.compute tile 0x6F (fun l _ => fToQ l)) := rfl
theorem exec_q2f (tile : Fin 416) : exec (.q2f tile) s = s.onChip (fun c => c.compute tile 0x70 (fun l _ => f32.ofInt (i32 l) 31)) := rfl
theorem exec_f2d (tile : Fin 416) : exec (.f2d tile) s = s.onChip (fun c => c.compute tile 0x71 (fun l _ => FFmt.convert f32 f64 l)) := rfl
theorem exec_d2f (tile : Fin 416) : exec (.d2f tile) s = s.onChip (fun c => c.compute tile 0x72 (fun l _ => FFmt.convert f64 f32 l)) := rfl
theorem exec_fhypot (tile : Fin 416) : exec (.fhypot tile) s = s.onChip (fun c => c.compute tile 0x73 (fun l r => f32.hypotV (f32.unpack l) (f32.unpack r))) := rfl
theorem exec_dadd (tile : Fin 416) : exec (.dadd tile) s = s.onChip (fun c => c.compute tile 0x80 (fun l r => f64.add l r)) := rfl
theorem exec_dsub (tile : Fin 416) : exec (.dsub tile) s = s.onChip (fun c => c.compute tile 0x81 (fun l r => f64.sub l r)) := rfl
theorem exec_dmul (tile : Fin 416) : exec (.dmul tile) s = s.onChip (fun c => c.compute tile 0x82 (fun l r => f64.mul l r)) := rfl
theorem exec_ddiv (tile : Fin 416) : exec (.ddiv tile) s = s.onChip (fun c => c.compute tile 0x83 (fun l r => f64.div l r)) := rfl
theorem exec_dsqrt (tile : Fin 416) : exec (.dsqrt tile) s = s.onChip (fun c => c.compute tile 0x84 (fun l _ => f64.sqrt l)) := rfl
theorem exec_dmin (tile : Fin 416) : exec (.dmin tile) s = s.onChip (fun c => c.compute tile 0x85 (fun l r => f64.minmax false l r)) := rfl
theorem exec_dmax (tile : Fin 416) : exec (.dmax tile) s = s.onChip (fun c => c.compute tile 0x86 (fun l r => f64.minmax true l r)) := rfl
theorem exec_dneg (tile : Fin 416) : exec (.dneg tile) s = s.onChip (fun c => c.compute tile 0x87 (fun l _ => .pure (f64.negW l))) := rfl
theorem exec_dabs (tile : Fin 416) : exec (.dabs tile) s = s.onChip (fun c => c.compute tile 0x88 (fun l _ => .pure (f64.absW l))) := rfl
theorem exec_dclt (tile : Fin 416) : exec (.dclt tile) s = s.onChip (fun c => c.compute tile 0x89 (fun l r => f64.cmp FVal.lt l r)) := rfl
theorem exec_dcle (tile : Fin 416) : exec (.dcle tile) s = s.onChip (fun c => c.compute tile 0x8A (fun l r => f64.cmp FVal.lev l r)) := rfl
theorem exec_dceq (tile : Fin 416) : exec (.dceq tile) s = s.onChip (fun c => c.compute tile 0x8B (fun l r => f64.cmp FVal.eqv l r)) := rfl
theorem exec_d2i (tile : Fin 416) : exec (.d2i tile) s = s.onChip (fun c => c.compute tile 0x8C (fun l _ => f64.toI64 l)) := rfl
theorem exec_i2d (tile : Fin 416) : exec (.i2d tile) s = s.onChip (fun c => c.compute tile 0x8D (fun l _ => f64.ofInt (i64 l) 0)) := rfl
theorem exec_ceq (tile : Fin 416) : exec (.ceq tile) s = s.onChip (fun c => c.compute tile 0x90 (fun l r => .pure (bit (l == r)))) := rfl
theorem exec_cne (tile : Fin 416) : exec (.cne tile) s = s.onChip (fun c => c.compute tile 0x91 (fun l r => .pure (bit (l != r)))) := rfl
theorem exec_clt (tile : Fin 416) : exec (.clt tile) s = s.onChip (fun c => c.compute tile 0x92 (fun l r => .pure (bit (decide (i64 l < i64 r))))) := rfl
theorem exec_cle (tile : Fin 416) : exec (.cle tile) s = s.onChip (fun c => c.compute tile 0x93 (fun l r => .pure (bit (decide (i64 l ≤ i64 r))))) := rfl
theorem exec_cltu (tile : Fin 416) : exec (.cltu tile) s = s.onChip (fun c => c.compute tile 0x94 (fun l r => .pure (bit (decide (l < r))))) := rfl
theorem exec_cleu (tile : Fin 416) : exec (.cleu tile) s = s.onChip (fun c => c.compute tile 0x95 (fun l r => .pure (bit (decide (l ≤ r))))) := rfl
theorem exec_ctst (tile : Fin 416) : exec (.ctst tile) s = s.onChip (fun c => c.compute tile 0x96 (fun l r => .pure (bit (l &&& r != 0)))) := rfl
theorem exec_pset (tile : Fin 416) : exec (.pset tile) s = s.onChip (fun c => c.predicate tile 0x98 false (fun l _ => l.getLsbD 0)) := rfl
theorem exec_psetw (tile : Fin 416) : exec (.psetw tile) s = s.onChip (fun c => c.predicate tile 0x99 true (fun l _ => l.getLsbD 0)) := rfl
theorem exec_peq (tile : Fin 416) : exec (.peq tile) s = s.onChip (fun c => c.predicate tile 0x9A false (fun l r => l == r)) := rfl
theorem exec_plt (tile : Fin 416) : exec (.plt tile) s = s.onChip (fun c => c.predicate tile 0x9B false (fun l r => decide (i64 l < i64 r))) := rfl
theorem exec_pltu (tile : Fin 416) : exec (.pltu tile) s = s.onChip (fun c => c.predicate tile 0x9C false (fun l r => decide (l < r))) := rfl
theorem exec_ptst (tile : Fin 416) : exec (.ptst tile) s = s.onChip (fun c => c.predicate tile 0x9D false (fun l r => l &&& r != 0)) := rfl
theorem exec_qchk (tile : Fin 416) : exec (.qchk tile) s = s.onChip (fun c => c.predicate tile 0x9E false (fun l r => l &&& r == 0)) := rfl
theorem exec_sld (tile : Fin 416) : exec (.sld tile) s = s.onCM (fun cm => CM.addressed cm tile 0xA0 false (performOp 0xA0)) := rfl
theorem exec_sst (tile : Fin 416) : exec (.sst tile) s = s.onCM (fun cm => CM.addressed cm tile 0xA1 true (performOp 0xA1)) := rfl
theorem exec_slde (tile : Fin 416) : exec (.slde tile) s = s.onCM (fun cm => CM.addressed cm tile 0xA2 true (performOp 0xA2)) := rfl
theorem exec_sclr (tile : Fin 416) : exec (.sclr tile) s = s.onCM (fun cm => CM.addressed cm tile 0xA3 true (performOp 0xA3)) := rfl
theorem exec_dld (tile : Fin 416) : exec (.dld tile) s = s.onCM (fun cm => CM.addressed cm tile 0xA4 false (performOp 0xA4)) := rfl
theorem exec_dst (tile : Fin 416) : exec (.dst tile) s = s.onCM (fun cm => CM.addressed cm tile 0xA5 true (performOp 0xA5)) := rfl
theorem exec_kld (tile : Fin 416) : exec (.kld tile) s = s.onChip (fun c => c.kld tile) := rfl
theorem exec_agen (tile : Fin 416) : exec (.agen tile) s = s.onChip (fun c => c.agen tile) := rfl
theorem exec_crcw (tile : Fin 416) : exec (.crcw tile) s = s.onChip (fun c => c.crcStep tile 0xC0 crcW) := rfl
theorem exec_crcb (tile : Fin 416) : exec (.crcb tile) s = s.onChip (fun c => c.crcStep tile 0xC1 crcB) := rfl
theorem exec_crcf (tile : Fin 416) : exec (.crcf tile) s = s.onChip (fun c => c.crcStep tile 0xC2 (fun d l _ => crcF d l)) := rfl
theorem exec_par (tile : Fin 416) : exec (.par tile) s = s.onChip (fun c => c.parityOf tile) := rfl
theorem exec_brev (tile : Fin 416) : exec (.brev tile) s = s.onChip (fun c => c.compute tile 0xC4 (fun l r => .pure (brev l r))) := rfl
theorem exec_popc (tile : Fin 416) : exec (.popc tile) s = s.onChip (fun c => c.compute tile 0xC5 (fun l _ => .pure (BitVec.ofNat 64 (popc l)))) := rfl
theorem exec_bswap (tile : Fin 416) : exec (.bswap tile) s = s.onChip (fun c => c.compute tile 0xC6 (fun l _ => .pure (bswap l))) := rfl
theorem exec_clz (tile : Fin 416) : exec (.clz tile) s = s.onChip (fun c => c.compute tile 0xC7 (fun l _ => .pure (clz l))) := rfl
theorem exec_ctz (tile : Fin 416) : exec (.ctz tile) s = s.onChip (fun c => c.compute tile 0xC8 (fun l _ => .pure (ctz l))) := rfl
theorem exec_cnew (tile : Fin 416) : exec (.cnew tile) s = s.onChip (fun c => c.cnew tile) := rfl
theorem exec_cself (tile : Fin 416) : exec (.cself tile) s = s.onChip (fun c => c.execute tile 0xD1 (fun f c => c.emit f ((combine f.tok.op none).getD ⟨.data, ctxField f.tok.epoch f.tok.frame⟩))) := rfl
theorem exec_cput (tile : Fin 416) : exec (.cput tile) s = s.onChip (fun c => c.cput tile) := rfl
theorem exec_crel (tile : Fin 416) : exec (.crel tile) s = s.onChip (fun c => c.crel tile) := rfl
theorem exec_pdone (tile : Fin 416) : exec (.pdone tile) s = s.onChip (fun c => c.pdone tile) := rfl
theorem exec_inext (tile : Fin 416) : exec (.inext tile) s = s.onChip (fun c => c.inext tile) := rfl
theorem exec_iset (tile : Fin 416) : exec (.iset tile) s = s.onChip (fun c => c.iset tile) := rfl
theorem exec_frd (tile : Fin 416) : exec (.frd tile) s = s.onCM (fun cm => CM.addressed cm tile 0xD7 false (performOp 0xD7)) := rfl
theorem exec_fwr (tile : Fin 416) : exec (.fwr tile) s = s.onCM (fun cm => CM.addressed cm tile 0xD8 false (performOp 0xD8)) := rfl
theorem exec_hwr (tile : Fin 416) : exec (.hwr tile) s = s.onCM (fun cm => CM.addressed cm tile 0xE0 true (performOp 0xE0)) := rfl
theorem exec_hrd (tile : Fin 416) : exec (.hrd tile) s = s.onCM (fun cm => CM.addressed cm tile 0xE1 true (performOp 0xE1)) := rfl
theorem exec_hwait (tile : Fin 416) : exec (.hwait tile) s = s.onCM (fun cm => CM.addressed cm tile 0xE2 true (performOp 0xE2)) := rfl
theorem exec_hpark (tile : Fin 416) : exec (.hpark tile) s = s.onCM (fun cm => CM.addressed cm tile 0xE3 true (performOp 0xE3)) := rfl
theorem exec_hrel (tile : Fin 416) : exec (.hrel tile) s = s.onCM (fun cm => CM.addressed cm tile 0xE4 true (performOp 0xE4)) := rfl
theorem exec_salloc (tile : Fin 416) : exec (.salloc tile) s = s.onCM (fun cm => CM.addressed cm tile 0xE5 true (performOp 0xE5)) := rfl
theorem exec_sfree (tile : Fin 416) : exec (.sfree tile) s = s.onCM (fun cm => CM.addressed cm tile 0xE6 true (performOp 0xE6)) := rfl
theorem exec_trip (tile : Fin 416) : exec (.trip tile) s = s.onCM (fun cm => CM.request cm tile 0xE8 false true (performOp 0xE8)) := rfl
theorem exec_pub (tile : Fin 416) : exec (.pub tile) s = s.onCM (fun cm => CM.request cm tile 0xE9 false true (performOp 0xE9)) := rfl
theorem exec_evt (tile : Fin 416) : exec (.evt tile) s = s.onCM (fun cm => CM.request cm tile 0xEA false true (performOp 0xEA)) := rfl
theorem exec_chan (tile : Fin 416) : exec (.chan tile) s = s.onCM (fun cm => CM.request cm tile 0xEB false true (performOp 0xEB)) := rfl
theorem exec_led (tile : Fin 416) : exec (.led tile) s = s.onCM (fun cm => CM.request cm tile 0xEC false true (performOp 0xEC)) := rfl
theorem exec_disp (tile : Fin 416) : exec (.disp tile) s = s.onCM (fun cm => CM.request cm tile 0xED false true (performOp 0xED)) := rfl
theorem exec_rope (tile : Fin 416) : exec (.rope tile) s = s.onCM (fun cm => CM.request cm tile 0xEE false true (performOp 0xEE)) := rfl
theorem exec_reservedOpcode (tile : Fin 416) (corrupt : Bool) : exec (.reservedOpcode tile corrupt) s = s.onChip (fun c => c.reservedWord tile corrupt) := rfl
theorem exec_frameReceive (port : Fin 18) (frame : Frame) : exec (.frameReceive port frame) s = s.onChip (fun c => c.frameReceive port frame) := rfl
theorem exec_frameTransmit (port : Fin 18) : exec (.frameTransmit port) s = s.onChip (fun c => c.frameTransmit port) := rfl
theorem exec_macLearn  : exec (.macLearn) s = s.onChip (fun c => c.macLearn) := rfl
theorem exec_stashReturn  : exec (.stashReturn) s = s.onChip (fun c => c.sw' Switch.stashReturn) := rfl
theorem exec_ageSweep  : exec (.ageSweep) s = s.onChip (fun c => c.ageSweep) := rfl
theorem exec_ptpSyncExpiry (port : Fin 18) : exec (.ptpSyncExpiry port) s = s.onChip (fun c => c.syncExpiry port) := rfl
theorem exec_tableEntryRestore  : exec (.tableEntryRestore) s = s.onChip (fun c => c.tableRestore) := rfl
theorem exec_codecAuthDone  : exec (.codecAuthDone) s = s.onChip (fun c => c.authDone) := rfl
theorem exec_gooseTalExpiry (sub : Fin 4096) : exec (.gooseTalExpiry sub) s = s.onChip (fun c => c.talExpiry sub) := rfl
theorem exec_publishBuild  : exec (.publishBuild) s = s.onChip (fun c => c.publishBuild) := rfl
theorem exec_gooseRetransmit (pub : Fin 1024) : exec (.gooseRetransmit pub) s = s.onChip (fun c => c.retransmit pub) := rfl
theorem exec_engineRequest (request : Option (EngOp × Option Nat × Nat)) (unwraps : Bool) : exec (.engineRequest request unwraps) s = s.onChip (fun c => c.engineRequest request unwraps) := rfl
theorem exec_engineSegmentEnd (unwraps : Bool) : exec (.engineSegmentEnd unwraps) s = s.onChip (fun c => c.segmentEnd unwraps) := rfl
theorem exec_engineIdleZeroize (ok : Bool) : exec (.engineIdleZeroize ok) s = s.onChip (fun c => c.idleZeroize ok) := rfl
theorem exec_engineTimeout (unwraps : Bool) : exec (.engineTimeout unwraps) s = s.onChip (fun c => c.engineTimeout unwraps) := rfl
theorem exec_laneTrained (lane : Fin 16) : exec (.laneTrained lane) s = s.onChip (fun c => c.laneTrained lane) := rfl
theorem exec_laneTrainTimeout (lane : Fin 16) : exec (.laneTrainTimeout lane) s = s.onChip (fun c => c.laneTimeout lane) := rfl
theorem exec_laneLoss (lane : Fin 16) (los : Bool) : exec (.laneLoss lane los) s = s.onChip (fun c => c.laneLoss lane los) := rfl
theorem exec_laneRetry (lane : Fin 16) : exec (.laneRetry lane) s = s.onChip (fun c => c.laneRetry lane) := rfl
theorem exec_laneStopPhaseEnd (lane : Fin 16) : exec (.laneStopPhaseEnd lane) s = s.onChip (fun c => (c.laneStopEnd lane).domWaiting [12 + lane / 4]) := rfl
theorem exec_laneHardwareFail (lane : Fin 16) : exec (.laneHardwareFail lane) s = s.onChip (fun c => c.laneHardware lane) := rfl
theorem exec_mgmtLinkChange (port : Fin 2) (up : Bool) : exec (.mgmtLinkChange port up) s = s.onChip (fun c => c.mgmtLink (16 + port) up) := rfl
theorem exec_moduleResetRelease (cage : Fin 4) : exec (.moduleResetRelease cage) s = s.onChip (fun c => c.resetRelease cage) := rfl
theorem exec_cageIntlChange (cage : Fin 4) (asserted : Bool) : exec (.cageIntlChange cage asserted) s = s.onChip (fun c => c.intlChange cage asserted) := rfl
theorem exec_ropeFrameClose  : exec (.ropeFrameClose) s = s.onChip (fun c => c.ropeClose) := rfl
theorem exec_ropeFrameReceive (lane : Fin 2) (frame : RopeFrame) : exec (.ropeFrameReceive lane frame) s = s.onChip (fun c => c.ropeReceive (14 + lane) frame) := rfl
theorem exec_beaconSend  : exec (.beaconSend) s = s.onChip (fun c => c.beaconSend) := rfl
theorem exec_beaconReceive (lane : Fin 2) (seq : Fin 65536) (body : Beacon) : exec (.beaconReceive lane seq body) s = s.onChip (fun c => c.beaconReceive (14 + lane) seq body) := rfl
theorem exec_ropeLaneSwitch  : exec (.ropeLaneSwitch) s = s.onChip (fun c => c.ropeSwitch) := rfl
theorem exec_ropeLinkLost  : exec (.ropeLinkLost) s = s.onChip (fun c => c.ropeLost) := rfl
theorem exec_ropeFallback (fi : Fin 1024) : exec (.ropeFallback fi) s = s.onChip (fun c => c.ropeFallback fi) := rfl
theorem exec_ropeStandbyDown  : exec (.ropeStandbyDown) s = s.onChip (fun c => c.standbyDown) := rfl
theorem exec_ext10Loss  : exec (.ext10Loss) s = s.onChip (fun c => c.ext10Loss) := rfl
theorem exec_anchorVoteFault (x0 x1 x2 : Option Anchor) : exec (.anchorVoteFault x0 x1 x2) s = s.onChip (fun c => c.anchorVote x0 x1 x2) := rfl
theorem exec_holdoverEntry  : exec (.holdoverEntry) s = s.onChip (fun c => c.holdoverEntry) := rfl
theorem exec_undisciplinedEntry  : exec (.undisciplinedEntry) s = s.onChip (fun c => c.undisciplinedEntry) := rfl
theorem exec_steppedExpiry  : exec (.steppedExpiry) s = s.onChip (fun c => c.steppedExpiry) := rfl
theorem exec_warmupEnd  : exec (.warmupEnd) s = s.onChip (fun c => c.warmupEnd) := rfl
theorem exec_leapDue  : exec (.leapDue) s = s.onChip (fun c => c.leapDue) := rfl
theorem exec_irigFrame (valid : Bool) (fmt : Fin 8) (back : Nat) (fields : Fields) : exec (.irigFrame valid fmt back fields) s = s.onChip (fun c => c.irigFrame valid fmt back fields) := rfl
theorem exec_ppsEdge  : exec (.ppsEdge) s = s.onChip (fun c => c.ppsEdge) := rfl
theorem exec_timeInputAbsent (irig : Bool) : exec (.timeInputAbsent irig) s = s.onChip (fun c => c.timeInputAbsent irig) := rfl
theorem exec_presenceActive  : exec (.presenceActive) s = s.onChip (fun c => c.presenceActive) := rfl
theorem exec_presenceEnd  : exec (.presenceEnd) s = s.onChip (fun c => c.presenceTimeout) := rfl
theorem exec_keyChange (key : Fin 64) (down : Bool) : exec (.keyChange key down) s = s.onChip (fun c => c.keyChange key down) := rfl
theorem exec_keyStuck (key : Fin 64) : exec (.keyStuck key) s = s.onChip (fun c => c.keyStuck key) := rfl
theorem exec_touchChange (channel : Fin 8) (count : Fin 4096) : exec (.touchChange channel count) s = s.onChip (fun c => c.touchChange channel count) := rfl
theorem exec_touchDrift (channel : Fin 8) : exec (.touchDrift channel) s = s.onChip (fun c => c.touchDrift channel) := rfl
theorem exec_touchRecal (channel : Fin 8) : exec (.touchRecal channel) s = s.onChip (fun c => c.touchRecal channel) := rfl
theorem exec_touchFault (channel : Fin 8) (high : Bool) : exec (.touchFault channel high) s = s.onChip (fun c => c.touchFault channel high) := rfl
theorem exec_presenceInputChange (input : Fin 16) (reading : PresRead) : exec (.presenceInputChange input reading) s = s.onChip (fun c => c.presenceInput input reading) := rfl
theorem exec_boardRemove  : exec (.boardRemove) s = s.onChip (fun c => c.presenceInput 5 .inactive) := rfl
theorem exec_boardReturn  : exec (.boardReturn) s = s.onChip (fun c => c.presenceInput 5 .active) := rfl
theorem exec_binaryInputChange (input : Fin 16) (high : Bool) : exec (.binaryInputChange input high) s = s.onChip (fun c => c.inputChange input high) := rfl
theorem exec_inputUnblock (input : Fin 16) : exec (.inputUnblock input) s = s.onChip (fun c => c.inputUnblock input) := rfl
theorem exec_minpulseEnd (trip : Fin 16) : exec (.minpulseEnd trip) s = s.onChip (fun c => c.minPulseEnd trip) := rfl
theorem exec_supChange (trip : Fin 16) (low : Bool) : exec (.supChange trip low) s = s.onChip (fun c => c.supChange trip low) := rfl
theorem exec_tripOvercurrent (trip : Fin 16) : exec (.tripOvercurrent trip) s = s.onChip (fun c => c.overcurrent trip) := rfl
theorem exec_tripReadbackFault (trip : Fin 16) : exec (.tripReadbackFault trip) s = s.onChip (fun c => c.readbackFault trip) := rfl
theorem exec_faultRaise (raise : Option (Nat × Nat × Option Nat)) : exec (.faultRaise raise) s = s.onChip (fun c => c.faultRaise raise) := rfl
theorem exec_lockstepMismatch  : exec (.lockstepMismatch) s = s.onChip (fun c => c.lockstep) := rfl
theorem exec_stewardHeartbeat  : exec (.stewardHeartbeat) s = s.onChip (fun c => c.heartbeat) := rfl
theorem exec_heartbeatLoss  : exec (.heartbeatLoss) s = s.onChip (fun c => c.heartbeatLoss) := rfl
theorem exec_stewardWatchdog  : exec (.stewardWatchdog) s = s.onChip (fun c => c.stewardWatchdog) := rfl
theorem exec_aliveStop  : exec (.aliveStop) s = s.onChip (fun c => c.aliveStop) := rfl
theorem exec_aliveResume  : exec (.aliveResume) s = s.onChip (fun c => c.aliveResume) := rfl
theorem exec_aliveMonitorForce  : exec (.aliveMonitorForce) s = s.onChip (fun c => c.aliveMonitor) := rfl
theorem exec_aliveInChange (toggling : Bool) : exec (.aliveInChange toggling) s = s.onChip (fun c => c.aliveIn toggling) := rfl
theorem exec_aliveReadbackFault  : exec (.aliveReadbackFault) s = s.onChip (fun c => c.aliveReadback) := rfl
theorem exec_cairnWrite  : exec (.cairnWrite) s = s.onChip (fun c => c.cairnWrite) := rfl
theorem exec_tailSaveComplete (ok : Bool) : exec (.tailSaveComplete ok) s = s.onChip (fun c => c.tailSaved ok) := rfl
theorem exec_powerOn (found : StartFindings) : exec (.powerOn found) s = s.onPower (fun cm => CM.powerOn cm found) := rfl
theorem exec_startEdge  : exec (.startEdge) s = s.onChip (fun c => c.startEdge) := rfl
theorem exec_warmRestart  : exec (.warmRestart) s = s.onChip (fun c => c.warmRestart) := rfl
theorem exec_coldRestart (found : StartFindings) : exec (.coldRestart found) s = s.onCM (fun cm => CM.coldRestart cm found) := rfl
theorem exec_supplyWarning  : exec (.supplyWarning) s = s.onChip (fun c => c.supplyWarning) := rfl
theorem exec_shutdown  : exec (.shutdown) s = s.onChip (fun c => c.shutdown) := rfl
theorem exec_supplyRestored (ms : Nat) : exec (.supplyRestored ms) s = s.onChip (fun c => c.supplyRestored ms) := rfl
theorem exec_supplyDip (ms : Nat) : exec (.supplyDip ms) s = s.onChip (fun c => c.supplyDip ms) := rfl
theorem exec_domainRiseDone (domain : Fin 24) : exec (.domainRiseDone domain) s = s.onCM (fun cm => CM.roseTo cm domain) := rfl
theorem exec_domainFallDone (domain : Fin 24) : exec (.domainFallDone domain) s = s.onChip (fun c => c.fallDone domain) := rfl
theorem exec_domainFault (domain : Fin 24) : exec (.domainFault domain) s = s.onCM (fun cm => CM.domainFault cm domain) := rfl
theorem exec_domainRetry (domain : Fin 24) : exec (.domainRetry domain) s = s.onChip (fun c => c.domainRetry domain) := rfl
theorem exec_sensorRead (sensor : Fin 22) (reading : Option Int) : exec (.sensorRead sensor reading) s = s.onCM (fun cm => CM.sensorRead cm sensor reading) := rfl
theorem exec_stackCool (stack : Fin 4) : exec (.stackCool stack) s = s.onCM (fun cm => CM.stackCool cm stack) := rfl
theorem exec_governorRefill  : exec (.governorRefill) s = s.onChip (fun c => c.governorRefill) := rfl
theorem exec_sramScrub (found : List Finding) : exec (.sramScrub found) s = s.onCM (fun cm => CM.sramScrub cm found) := rfl
theorem exec_dramPatrol (found : List Finding) : exec (.dramPatrol found) s = s.onCM (fun cm => CM.dramPatrol cm found) := rfl
theorem exec_poisonClearDone (fi : Fin 1024) : exec (.poisonClearDone fi) s = s.onCM (fun cm => CM.poisonClearDone cm fi) := rfl
theorem exec_traverseStep  : exec (.traverseStep) s = s.onChip (fun c => c.traverseStep) := rfl
theorem exec_slotSwitch (cluster : Fin 8) (fi : Fin 1024) (copy : Fin 2) : exec (.slotSwitch cluster fi copy) s = s.onChip (fun c => c.slotSwitch cluster fi copy) := rfl
theorem exec_tileTestDone (cluster : Fin 8) (outcome : Option Nat) : exec (.tileTestDone cluster outcome) s = s.onChip (fun c => c.testDone cluster outcome) := rfl
theorem exec_traverseCompareFail (cluster : Fin 8) : exec (.traverseCompareFail cluster) s = s.onChip (fun c => c.compareFail cluster) := rfl
theorem exec_dramGroupRetire (group : Fin 64) : exec (.dramGroupRetire group) s = s.onChip (fun c => c.groupRetire group) := rfl
theorem exec_bitLaneSpare (link : Nat) : exec (.bitLaneSpare link) s = s.onChip (fun c => c.bitLaneSpare link) := rfl
theorem exec_linkHalfWidth (link : Nat) (ends : List (Fin 416 × Fin 4)) : exec (.linkHalfWidth link ends) s = s.onChip (fun c => c.linkHalf link (ends.map (fun e => (e.1.val, e.2.val)))) := rfl
theorem exec_acceptedCharacter (sess : Fin 16) (ch : Char) : exec (.acceptedCharacter sess ch) s = s.onChip (fun c => c.acceptChar sess ch) := rfl
theorem exec_malformedLine (h : Hdr) : exec (.malformedLine h) s = s.onChip (fun c => c.malformedLine h) := rfl
theorem exec_ropeRecoveryArm (fi : Fin 1024) : exec (.ropeRecoveryArm fi) s = s.onChip (fun c => c.ropeRecovery fi) := rfl
theorem exec_templateRewrite (template : Fin 512) : exec (.templateRewrite template) s = s.onChip (fun c => c.codec' (fun k => { k with badTempl := k.badTempl.filter (· != template.val) })) := rfl
theorem exec_wardenRestart  : exec (.wardenRestart) s = s.onChip (fun c => c.wardenRestart) := rfl
theorem exec_traversePhaseEnd (cluster : Fin 8) : exec (.traversePhaseEnd cluster) s = s.onChip (fun c => c.phaseEnd cluster) := rfl

/-- The ways in which a command changes the state: power comes on; the unit and its memories change; or the unit alone. -/
theorem exec_shape (i : Instr) : (∃ found, i = .powerOn found) ∨ (∃ f, exec i s = s.onCM f) ∨ (∃ f, exec i s = s.onChip f) := by
  cases i with
  | modeLine h word args => exact .inr (.inr ⟨_, exec_modeLine s h word args⟩)
  | loginUser h args => exact .inr (.inr ⟨_, exec_loginUser s h args⟩)
  | loginAnswer h args => exact .inr (.inr ⟨_, exec_loginAnswer s h args⟩)
  | loginPresence h args => exact .inr (.inr ⟨_, exec_loginPresence s h args⟩)
  | logoutLine h => exact .inr (.inr ⟨_, exec_logoutLine s h⟩)
  | beginTxn h => exact .inr (.inr ⟨_, exec_beginTxn s h⟩)
  | commitLine h args => exact .inr (.inr ⟨_, exec_commitLine s h args⟩)
  | commitHitchGranted sess => exact .inr (.inr ⟨_, exec_commitHitchGranted s sess⟩)
  | commitWaitTimeout sess => exact .inr (.inr ⟨_, exec_commitWaitTimeout s sess⟩)
  | commitEdge ext10 => exact .inr (.inl ⟨_, exec_commitEdge s ext10⟩)
  | cfgFiApply fi => exact .inr (.inl ⟨_, exec_cfgFiApply s fi⟩)
  | cfgForcedApply fi => exact .inr (.inl ⟨_, exec_cfgForcedApply s fi⟩)
  | abortLine h => exact .inr (.inr ⟨_, exec_abortLine s h⟩)
  | endLoad h flashOk => exact .inr (.inr ⟨_, exec_endLoad s h flashOk⟩)
  | endCancel h => exact .inr (.inr ⟨_, exec_endCancel s h⟩)
  | bulkRecord sess text => exact .inr (.inr ⟨_, exec_bulkRecord s sess text⟩)
  | loadIdleCancel sess => exact .inr (.inr ⟨_, exec_loadIdleCancel s sess⟩)
  | emptyLine sess => exact .inr (.inr ⟨_, exec_emptyLine s sess⟩)
  | longLine sess num => exact .inr (.inr ⟨_, exec_longLine s sess num⟩)
  | scriptLineReplay h => exact .inr (.inr ⟨_, exec_scriptLineReplay s h⟩)
  | eraseChar sess => exact .inr (.inr ⟨_, exec_eraseChar s sess⟩)
  | eraseLine sess => exact .inr (.inr ⟨_, exec_eraseLine s sess⟩)
  | eraseWord sess => exact .inr (.inr ⟨_, exec_eraseWord s sess⟩)
  | ctrlC sess => exact .inr (.inr ⟨_, exec_ctrlC s sess⟩)
  | historyPrevious sess => exact .inr (.inr ⟨_, exec_historyPrevious s sess⟩)
  | historyNext sess => exact .inr (.inr ⟨_, exec_historyNext s sess⟩)
  | rejectedControlChar sess => exact .inr (.inr ⟨_, exec_rejectedControlChar s sess⟩)
  | overrunReport sess => exact .inr (.inr ⟨_, exec_overrunReport s sess⟩)
  | lostReport sess => exact .inr (.inr ⟨_, exec_lostReport s sess⟩)
  | usbDtrAssert  => exact .inr (.inr ⟨_, exec_usbDtrAssert s ⟩)
  | usbDetach  => exact .inr (.inr ⟨_, exec_usbDetach s ⟩)
  | tlsHandshake ok cause => exact .inr (.inr ⟨_, exec_tlsHandshake s ok cause⟩)
  | tcpClose conn cause => exact .inr (.inr ⟨_, exec_tcpClose s conn cause⟩)
  | sessionIdleWarning sess => exact .inr (.inr ⟨_, exec_sessionIdleWarning s sess⟩)
  | sessionIdleTimeout sess => exact .inr (.inr ⟨_, exec_sessionIdleTimeout s sess⟩)
  | loginLockExpiry carrier => exact .inr (.inr ⟨_, exec_loginLockExpiry s carrier⟩)
  | showUnit h args => exact .inr (.inr ⟨_, exec_showUnit s h args⟩)
  | setUnit h args => exact .inr (.inr ⟨_, exec_setUnit s h args⟩)
  | addUnit h args => exact .inr (.inr ⟨_, exec_addUnit s h args⟩)
  | deleteUnit h args => exact .inr (.inr ⟨_, exec_deleteUnit s h args⟩)
  | restartUnit h args => exact .inr (.inr ⟨_, exec_restartUnit s h args⟩)
  | showImage h args => exact .inr (.inr ⟨_, exec_showImage s h args⟩)
  | loadImage h args => exact .inr (.inr ⟨_, exec_loadImage s h args⟩)
  | switchImage h args => exact .inr (.inr ⟨_, exec_switchImage s h args⟩)
  | acceptImageUntested h => exact .inr (.inr ⟨_, exec_acceptImageUntested s h⟩)
  | showLife h args => exact .inr (.inr ⟨_, exec_showLife s h args⟩)
  | moveLife h args otpOk => exact .inr (.inr ⟨_, exec_moveLife s h args otpOk⟩)
  | readReg h args wins => exact .inr (.inr ⟨_, exec_readReg s h args wins⟩)
  | writeReg h args ack => exact .inr (.inr ⟨_, exec_writeReg s h args ack⟩)
  | faultInjSelWrite h v => exact .inr (.inr ⟨_, exec_faultInjSelWrite s h v⟩)
  | faultInjGoWrite h v => exact .inr (.inr ⟨_, exec_faultInjGoWrite s h v⟩)
  | portCageWrWrite h cage v ack => exact .inr (.inr ⟨_, exec_portCageWrWrite s h cage v ack⟩)
  | cageWindowRead h cage word answer => exact .inr (.inr ⟨_, exec_cageWindowRead s h cage word answer⟩)
  | showFi h sel args => exact .inr (.inr ⟨_, exec_showFi s h sel args⟩)
  | loadFi h sel args => exact .inr (.inr ⟨_, exec_loadFi s h sel args⟩)
  | setFi h sel args => exact .inr (.inr ⟨_, exec_setFi s h sel args⟩)
  | addFi h sel args => exact .inr (.inr ⟨_, exec_addFi s h sel args⟩)
  | deleteFi h sel args => exact .inr (.inr ⟨_, exec_deleteFi s h sel args⟩)
  | armFi h sel => exact .inr (.inr ⟨_, exec_armFi s h sel⟩)
  | stopFi h sel => exact .inr (.inr ⟨_, exec_stopFi s h sel⟩)
  | clearFiPoison h sel => exact .inr (.inl ⟨_, exec_clearFiPoison s h sel⟩)
  | clearFiCounts h sel => exact .inr (.inr ⟨_, exec_clearFiCounts s h sel⟩)
  | selectFi h sel args => exact .inr (.inr ⟨_, exec_selectFi s h sel args⟩)
  | executeFi h sel args => exact .inr (.inr ⟨_, exec_executeFi s h sel args⟩)
  | cancelFi h sel args => exact .inr (.inr ⟨_, exec_cancelFi s h sel args⟩)
  | selectExpiry sess fi point => exact .inr (.inr ⟨_, exec_selectExpiry s sess fi point⟩)
  | showTile h sel args => exact .inr (.inr ⟨_, exec_showTile s h sel args⟩)
  | testTile h sel outcome => exact .inr (.inr ⟨_, exec_testTile s h sel outcome⟩)
  | showRepair h args => exact .inr (.inr ⟨_, exec_showRepair s h args⟩)
  | setRepair h args => exact .inr (.inr ⟨_, exec_setRepair s h args⟩)
  | startRepair h args => exact .inr (.inr ⟨_, exec_startRepair s h args⟩)
  | showDomain h sel args => exact .inr (.inr ⟨_, exec_showDomain s h sel args⟩)
  | setDomain h sel args => exact .inr (.inr ⟨_, exec_setDomain s h sel args⟩)
  | showLane h sel args => exact .inr (.inr ⟨_, exec_showLane s h sel args⟩)
  | setLane h sel args => exact .inr (.inr ⟨_, exec_setLane s h sel args⟩)
  | showPort h sel args => exact .inr (.inr ⟨_, exec_showPort s h sel args⟩)
  | setPort h sel args => exact .inr (.inr ⟨_, exec_setPort s h sel args⟩)
  | clearPort h sel => exact .inr (.inr ⟨_, exec_clearPort s h sel⟩)
  | addTable h args => exact .inr (.inr ⟨_, exec_addTable s h args⟩)
  | deleteTable h args => exact .inr (.inr ⟨_, exec_deleteTable s h args⟩)
  | setTable h args => exact .inr (.inr ⟨_, exec_setTable s h args⟩)
  | dumpTable h args => exact .inr (.inr ⟨_, exec_dumpTable s h args⟩)
  | loadTable h args => exact .inr (.inr ⟨_, exec_loadTable s h args⟩)
  | showSub h sel args => exact .inr (.inr ⟨_, exec_showSub s h sel args⟩)
  | showPub h sel args => exact .inr (.inr ⟨_, exec_showPub s h sel args⟩)
  | addSub h sel args => exact .inr (.inr ⟨_, exec_addSub s h sel args⟩)
  | addPub h sel args => exact .inr (.inr ⟨_, exec_addPub s h sel args⟩)
  | deleteSub h sel args => exact .inr (.inr ⟨_, exec_deleteSub s h sel args⟩)
  | deletePub h sel args => exact .inr (.inr ⟨_, exec_deletePub s h sel args⟩)
  | loadSub h args => exact .inr (.inr ⟨_, exec_loadSub s h args⟩)
  | loadPub h args => exact .inr (.inr ⟨_, exec_loadPub s h args⟩)
  | showTime h args => exact .inr (.inr ⟨_, exec_showTime s h args⟩)
  | setTime h args => exact .inr (.inr ⟨_, exec_setTime s h args⟩)
  | adjustTime h args => exact .inr (.inr ⟨_, exec_adjustTime s h args⟩)
  | adjustAtDue  => exact .inr (.inr ⟨_, exec_adjustAtDue s ⟩)
  | showKeyslot h sel args => exact .inr (.inr ⟨_, exec_showKeyslot s h sel args⟩)
  | loadKeyslot h sel args => exact .inr (.inr ⟨_, exec_loadKeyslot s h sel args⟩)
  | revokeKeyslot h sel flashOk => exact .inr (.inr ⟨_, exec_revokeKeyslot s h sel flashOk⟩)
  | showHitch h sel args => exact .inr (.inr ⟨_, exec_showHitch s h sel args⟩)
  | setHitch h args => exact .inr (.inr ⟨_, exec_setHitch s h args⟩)
  | addHitch h args => exact .inr (.inr ⟨_, exec_addHitch s h args⟩)
  | deleteHitch h args => exact .inr (.inr ⟨_, exec_deleteHitch s h args⟩)
  | takeHitch h sel args => exact .inr (.inr ⟨_, exec_takeHitch s h sel args⟩)
  | takeHitchTimeout sess => exact .inr (.inr ⟨_, exec_takeHitchTimeout s sess⟩)
  | releaseHitch h sel => exact .inr (.inr ⟨_, exec_releaseHitch s h sel⟩)
  | showPanel h args => exact .inr (.inr ⟨_, exec_showPanel s h args⟩)
  | setPanel h args => exact .inr (.inr ⟨_, exec_setPanel s h args⟩)
  | writePanel h args => exact .inr (.inr ⟨_, exec_writePanel s h args⟩)
  | showTrip h sel args => exact .inr (.inr ⟨_, exec_showTrip s h sel args⟩)
  | setTrip h sel args => exact .inr (.inr ⟨_, exec_setTrip s h sel args⟩)
  | testTrip h sel args => exact .inr (.inr ⟨_, exec_testTrip s h sel args⟩)
  | testPulseEnd trip => exact .inr (.inr ⟨_, exec_testPulseEnd s trip⟩)
  | showInput h sel args => exact .inr (.inr ⟨_, exec_showInput s h sel args⟩)
  | setInput h sel args => exact .inr (.inr ⟨_, exec_setInput s h sel args⟩)
  | showEvent h sel args => exact .inr (.inr ⟨_, exec_showEvent s h sel args⟩)
  | notifyEvent h sel args => exact .inr (.inr ⟨_, exec_notifyEvent s h sel args⟩)
  | showFault h sel args => exact .inr (.inr ⟨_, exec_showFault s h sel args⟩)
  | notifyFault h sel args => exact .inr (.inr ⟨_, exec_notifyFault s h sel args⟩)
  | setFault h sel args => exact .inr (.inr ⟨_, exec_setFault s h sel args⟩)
  | clearFault h sel => exact .inr (.inr ⟨_, exec_clearFault s h sel⟩)
  | showLog h args => exact .inr (.inr ⟨_, exec_showLog s h args⟩)
  | reservedVerb h => exact .inr (.inr ⟨_, exec_reservedVerb s h⟩)
  | tokenQueued flight => exact .inr (.inr ⟨_, exec_tokenQueued s flight⟩)
  | tokenSelect tile => exact .inr (.inr ⟨_, exec_tokenSelect s tile⟩)
  | guardRequeue tile => exact .inr (.inr ⟨_, exec_guardRequeue s tile⟩)
  | predicateMirrorUpdate cluster frame => exact .inr (.inr ⟨_, exec_predicateMirrorUpdate s cluster frame⟩)
  | deepSpillWrite fi => exact .inr (.inr ⟨_, exec_deepSpillWrite s fi⟩)
  | deepLookupReply fi => exact .inr (.inr ⟨_, exec_deepLookupReply s fi⟩)
  | creditGrant fi copy => exact .inr (.inr ⟨_, exec_creditGrant s fi copy⟩)
  | frameGrant cluster => exact .inr (.inr ⟨_, exec_frameGrant s cluster⟩)
  | memoryReply reply => exact .inr (.inr ⟨_, exec_memoryReply s reply⟩)
  | deferralRetry  => exact .inr (.inl ⟨_, exec_deferralRetry s ⟩)
  | frameWordRelease tile => exact .inr (.inr ⟨_, exec_frameWordRelease s tile⟩)
  | pageInstall tile good => exact .inr (.inr ⟨_, exec_pageInstall s tile good⟩)
  | pageRetry tile => exact .inr (.inr ⟨_, exec_pageRetry s tile⟩)
  | sharedPageReturn tile => exact .inr (.inr ⟨_, exec_sharedPageReturn s tile⟩)
  | pageBackingRewrite tile => exact .inr (.inr ⟨_, exec_pageBackingRewrite s tile⟩)
  | dstMergeExpiry fi copy => exact .inr (.inl ⟨_, exec_dstMergeExpiry s fi copy⟩)
  | purgeSweep tile => exact .inr (.inr ⟨_, exec_purgeSweep s tile⟩)
  | purgeComplete cluster frame => exact .inr (.inr ⟨_, exec_purgeComplete s cluster frame⟩)
  | timerTick fi => exact .inr (.inr ⟨_, exec_timerTick s fi⟩)
  | periodDoneArrive  => exact .inr (.inr ⟨_, exec_periodDoneArrive s ⟩)
  | deadlineOverrun fi => exact .inr (.inr ⟨_, exec_deadlineOverrun s fi⟩)
  | sourceLoss fi => exact .inr (.inr ⟨_, exec_sourceLoss s fi⟩)
  | stallDetect fi copy => exact .inr (.inr ⟨_, exec_stallDetect s fi copy⟩)
  | drainPurge fi => exact .inr (.inr ⟨_, exec_drainPurge s fi⟩)
  | drainComplete fi => exact .inr (.inr ⟨_, exec_drainComplete s fi⟩)
  | rearmComplete fi => exact .inr (.inr ⟨_, exec_rearmComplete s fi⟩)
  | twinCompare fi stream => exact .inr (.inl ⟨_, exec_twinCompare s fi stream⟩)
  | twinPartnerTimeout fi stream => exact .inr (.inr ⟨_, exec_twinPartnerTimeout s fi stream⟩)
  | hwaitTimeout fi => exact .inr (.inr ⟨_, exec_hwaitTimeout s fi⟩)
  | hitchBroken hitch => exact .inr (.inr ⟨_, exec_hitchBroken s hitch⟩)
  | hitchRestore hitch => exact .inr (.inr ⟨_, exec_hitchRestore s hitch⟩)
  | mov tile => exact .inr (.inr ⟨_, exec_mov s tile⟩)
  | steer tile => exact .inr (.inr ⟨_, exec_steer s tile⟩)
  | gate tile => exact .inr (.inr ⟨_, exec_gate s tile⟩)
  | sink tile => exact .inr (.inr ⟨_, exec_sink s tile⟩)
  | kset tile => exact .inr (.inr ⟨_, exec_kset s tile⟩)
  | ktest tile => exact .inr (.inr ⟨_, exec_ktest s tile⟩)
  | tread tile => exact .inr (.inr ⟨_, exec_tread s tile⟩)
  | lit tile => exact .inr (.inr ⟨_, exec_lit s tile⟩)
  | tqual tile => exact .inr (.inr ⟨_, exec_tqual s tile⟩)
  | add tile => exact .inr (.inr ⟨_, exec_add s tile⟩)
  | sub tile => exact .inr (.inr ⟨_, exec_sub s tile⟩)
  | mul tile => exact .inr (.inr ⟨_, exec_mul s tile⟩)
  | mulh tile => exact .inr (.inr ⟨_, exec_mulh s tile⟩)
  | mulhu tile => exact .inr (.inr ⟨_, exec_mulhu s tile⟩)
  | div tile => exact .inr (.inr ⟨_, exec_div s tile⟩)
  | divu tile => exact .inr (.inr ⟨_, exec_divu s tile⟩)
  | rem tile => exact .inr (.inr ⟨_, exec_rem s tile⟩)
  | remu tile => exact .inr (.inr ⟨_, exec_remu s tile⟩)
  | and tile => exact .inr (.inr ⟨_, exec_and s tile⟩)
  | or tile => exact .inr (.inr ⟨_, exec_or s tile⟩)
  | xor tile => exact .inr (.inr ⟨_, exec_xor s tile⟩)
  | andn tile => exact .inr (.inr ⟨_, exec_andn s tile⟩)
  | shl tile => exact .inr (.inr ⟨_, exec_shl s tile⟩)
  | shr tile => exact .inr (.inr ⟨_, exec_shr s tile⟩)
  | sar tile => exact .inr (.inr ⟨_, exec_sar s tile⟩)
  | rol tile => exact .inr (.inr ⟨_, exec_rol s tile⟩)
  | ror tile => exact .inr (.inr ⟨_, exec_ror s tile⟩)
  | min tile => exact .inr (.inr ⟨_, exec_min s tile⟩)
  | max tile => exact .inr (.inr ⟨_, exec_max s tile⟩)
  | minu tile => exact .inr (.inr ⟨_, exec_minu s tile⟩)
  | maxu tile => exact .inr (.inr ⟨_, exec_maxu s tile⟩)
  | neg tile => exact .inr (.inr ⟨_, exec_neg s tile⟩)
  | not tile => exact .inr (.inr ⟨_, exec_not s tile⟩)
  | abs tile => exact .inr (.inr ⟨_, exec_abs s tile⟩)
  | sext tile => exact .inr (.inr ⟨_, exec_sext s tile⟩)
  | zext tile => exact .inr (.inr ⟨_, exec_zext s tile⟩)
  | extr tile => exact .inr (.inr ⟨_, exec_extr s tile⟩)
  | adds tile => exact .inr (.inr ⟨_, exec_adds s tile⟩)
  | subs tile => exact .inr (.inr ⟨_, exec_subs s tile⟩)
  | add32 tile => exact .inr (.inr ⟨_, exec_add32 s tile⟩)
  | sub32 tile => exact .inr (.inr ⟨_, exec_sub32 s tile⟩)
  | mul32 tile => exact .inr (.inr ⟨_, exec_mul32 s tile⟩)
  | qadd tile => exact .inr (.inr ⟨_, exec_qadd s tile⟩)
  | qsub tile => exact .inr (.inr ⟨_, exec_qsub s tile⟩)
  | qmul tile => exact .inr (.inr ⟨_, exec_qmul s tile⟩)
  | qneg tile => exact .inr (.inr ⟨_, exec_qneg s tile⟩)
  | qabs tile => exact .inr (.inr ⟨_, exec_qabs s tile⟩)
  | qshl tile => exact .inr (.inr ⟨_, exec_qshl s tile⟩)
  | qshr tile => exact .inr (.inr ⟨_, exec_qshr s tile⟩)
  | hadd tile => exact .inr (.inr ⟨_, exec_hadd s tile⟩)
  | hsub tile => exact .inr (.inr ⟨_, exec_hsub s tile⟩)
  | hmul tile => exact .inr (.inr ⟨_, exec_hmul s tile⟩)
  | hneg tile => exact .inr (.inr ⟨_, exec_hneg s tile⟩)
  | habs tile => exact .inr (.inr ⟨_, exec_habs s tile⟩)
  | hshl tile => exact .inr (.inr ⟨_, exec_hshl s tile⟩)
  | hshr tile => exact .inr (.inr ⟨_, exec_hshr s tile⟩)
  | q2h tile => exact .inr (.inr ⟨_, exec_q2h s tile⟩)
  | h2q tile => exact .inr (.inr ⟨_, exec_h2q s tile⟩)
  | qmul64 tile => exact .inr (.inr ⟨_, exec_qmul64 s tile⟩)
  | qrnd tile => exact .inr (.inr ⟨_, exec_qrnd s tile⟩)
  | fadd tile => exact .inr (.inr ⟨_, exec_fadd s tile⟩)
  | fsub tile => exact .inr (.inr ⟨_, exec_fsub s tile⟩)
  | fmul tile => exact .inr (.inr ⟨_, exec_fmul s tile⟩)
  | fdiv tile => exact .inr (.inr ⟨_, exec_fdiv s tile⟩)
  | fsqrt tile => exact .inr (.inr ⟨_, exec_fsqrt s tile⟩)
  | fmin tile => exact .inr (.inr ⟨_, exec_fmin s tile⟩)
  | fmax tile => exact .inr (.inr ⟨_, exec_fmax s tile⟩)
  | fneg tile => exact .inr (.inr ⟨_, exec_fneg s tile⟩)
  | fabs tile => exact .inr (.inr ⟨_, exec_fabs s tile⟩)
  | fmov tile => exact .inr (.inr ⟨_, exec_fmov s tile⟩)
  | fclt tile => exact .inr (.inr ⟨_, exec_fclt s tile⟩)
  | fcle tile => exact .inr (.inr ⟨_, exec_fcle s tile⟩)
  | fceq tile => exact .inr (.inr ⟨_, exec_fceq s tile⟩)
  | f2i tile => exact .inr (.inr ⟨_, exec_f2i s tile⟩)
  | i2f tile => exact .inr (.inr ⟨_, exec_i2f s tile⟩)
  | f2q tile => exact .inr (.inr ⟨_, exec_f2q s tile⟩)
  | q2f tile => exact .inr (.inr ⟨_, exec_q2f s tile⟩)
  | f2d tile => exact .inr (.inr ⟨_, exec_f2d s tile⟩)
  | d2f tile => exact .inr (.inr ⟨_, exec_d2f s tile⟩)
  | fhypot tile => exact .inr (.inr ⟨_, exec_fhypot s tile⟩)
  | dadd tile => exact .inr (.inr ⟨_, exec_dadd s tile⟩)
  | dsub tile => exact .inr (.inr ⟨_, exec_dsub s tile⟩)
  | dmul tile => exact .inr (.inr ⟨_, exec_dmul s tile⟩)
  | ddiv tile => exact .inr (.inr ⟨_, exec_ddiv s tile⟩)
  | dsqrt tile => exact .inr (.inr ⟨_, exec_dsqrt s tile⟩)
  | dmin tile => exact .inr (.inr ⟨_, exec_dmin s tile⟩)
  | dmax tile => exact .inr (.inr ⟨_, exec_dmax s tile⟩)
  | dneg tile => exact .inr (.inr ⟨_, exec_dneg s tile⟩)
  | dabs tile => exact .inr (.inr ⟨_, exec_dabs s tile⟩)
  | dclt tile => exact .inr (.inr ⟨_, exec_dclt s tile⟩)
  | dcle tile => exact .inr (.inr ⟨_, exec_dcle s tile⟩)
  | dceq tile => exact .inr (.inr ⟨_, exec_dceq s tile⟩)
  | d2i tile => exact .inr (.inr ⟨_, exec_d2i s tile⟩)
  | i2d tile => exact .inr (.inr ⟨_, exec_i2d s tile⟩)
  | ceq tile => exact .inr (.inr ⟨_, exec_ceq s tile⟩)
  | cne tile => exact .inr (.inr ⟨_, exec_cne s tile⟩)
  | clt tile => exact .inr (.inr ⟨_, exec_clt s tile⟩)
  | cle tile => exact .inr (.inr ⟨_, exec_cle s tile⟩)
  | cltu tile => exact .inr (.inr ⟨_, exec_cltu s tile⟩)
  | cleu tile => exact .inr (.inr ⟨_, exec_cleu s tile⟩)
  | ctst tile => exact .inr (.inr ⟨_, exec_ctst s tile⟩)
  | pset tile => exact .inr (.inr ⟨_, exec_pset s tile⟩)
  | psetw tile => exact .inr (.inr ⟨_, exec_psetw s tile⟩)
  | peq tile => exact .inr (.inr ⟨_, exec_peq s tile⟩)
  | plt tile => exact .inr (.inr ⟨_, exec_plt s tile⟩)
  | pltu tile => exact .inr (.inr ⟨_, exec_pltu s tile⟩)
  | ptst tile => exact .inr (.inr ⟨_, exec_ptst s tile⟩)
  | qchk tile => exact .inr (.inr ⟨_, exec_qchk s tile⟩)
  | sld tile => exact .inr (.inl ⟨_, exec_sld s tile⟩)
  | sst tile => exact .inr (.inl ⟨_, exec_sst s tile⟩)
  | slde tile => exact .inr (.inl ⟨_, exec_slde s tile⟩)
  | sclr tile => exact .inr (.inl ⟨_, exec_sclr s tile⟩)
  | dld tile => exact .inr (.inl ⟨_, exec_dld s tile⟩)
  | dst tile => exact .inr (.inl ⟨_, exec_dst s tile⟩)
  | kld tile => exact .inr (.inr ⟨_, exec_kld s tile⟩)
  | agen tile => exact .inr (.inr ⟨_, exec_agen s tile⟩)
  | crcw tile => exact .inr (.inr ⟨_, exec_crcw s tile⟩)
  | crcb tile => exact .inr (.inr ⟨_, exec_crcb s tile⟩)
  | crcf tile => exact .inr (.inr ⟨_, exec_crcf s tile⟩)
  | par tile => exact .inr (.inr ⟨_, exec_par s tile⟩)
  | brev tile => exact .inr (.inr ⟨_, exec_brev s tile⟩)
  | popc tile => exact .inr (.inr ⟨_, exec_popc s tile⟩)
  | bswap tile => exact .inr (.inr ⟨_, exec_bswap s tile⟩)
  | clz tile => exact .inr (.inr ⟨_, exec_clz s tile⟩)
  | ctz tile => exact .inr (.inr ⟨_, exec_ctz s tile⟩)
  | cnew tile => exact .inr (.inr ⟨_, exec_cnew s tile⟩)
  | cself tile => exact .inr (.inr ⟨_, exec_cself s tile⟩)
  | cput tile => exact .inr (.inr ⟨_, exec_cput s tile⟩)
  | crel tile => exact .inr (.inr ⟨_, exec_crel s tile⟩)
  | pdone tile => exact .inr (.inr ⟨_, exec_pdone s tile⟩)
  | inext tile => exact .inr (.inr ⟨_, exec_inext s tile⟩)
  | iset tile => exact .inr (.inr ⟨_, exec_iset s tile⟩)
  | frd tile => exact .inr (.inl ⟨_, exec_frd s tile⟩)
  | fwr tile => exact .inr (.inl ⟨_, exec_fwr s tile⟩)
  | hwr tile => exact .inr (.inl ⟨_, exec_hwr s tile⟩)
  | hrd tile => exact .inr (.inl ⟨_, exec_hrd s tile⟩)
  | hwait tile => exact .inr (.inl ⟨_, exec_hwait s tile⟩)
  | hpark tile => exact .inr (.inl ⟨_, exec_hpark s tile⟩)
  | hrel tile => exact .inr (.inl ⟨_, exec_hrel s tile⟩)
  | salloc tile => exact .inr (.inl ⟨_, exec_salloc s tile⟩)
  | sfree tile => exact .inr (.inl ⟨_, exec_sfree s tile⟩)
  | trip tile => exact .inr (.inl ⟨_, exec_trip s tile⟩)
  | pub tile => exact .inr (.inl ⟨_, exec_pub s tile⟩)
  | evt tile => exact .inr (.inl ⟨_, exec_evt s tile⟩)
  | chan tile => exact .inr (.inl ⟨_, exec_chan s tile⟩)
  | led tile => exact .inr (.inl ⟨_, exec_led s tile⟩)
  | disp tile => exact .inr (.inl ⟨_, exec_disp s tile⟩)
  | rope tile => exact .inr (.inl ⟨_, exec_rope s tile⟩)
  | reservedOpcode tile corrupt => exact .inr (.inr ⟨_, exec_reservedOpcode s tile corrupt⟩)
  | frameReceive port frame => exact .inr (.inr ⟨_, exec_frameReceive s port frame⟩)
  | frameTransmit port => exact .inr (.inr ⟨_, exec_frameTransmit s port⟩)
  | macLearn  => exact .inr (.inr ⟨_, exec_macLearn s ⟩)
  | stashReturn  => exact .inr (.inr ⟨_, exec_stashReturn s ⟩)
  | ageSweep  => exact .inr (.inr ⟨_, exec_ageSweep s ⟩)
  | ptpSyncExpiry port => exact .inr (.inr ⟨_, exec_ptpSyncExpiry s port⟩)
  | tableEntryRestore  => exact .inr (.inr ⟨_, exec_tableEntryRestore s ⟩)
  | codecAuthDone  => exact .inr (.inr ⟨_, exec_codecAuthDone s ⟩)
  | gooseTalExpiry sub => exact .inr (.inr ⟨_, exec_gooseTalExpiry s sub⟩)
  | publishBuild  => exact .inr (.inr ⟨_, exec_publishBuild s ⟩)
  | gooseRetransmit pub => exact .inr (.inr ⟨_, exec_gooseRetransmit s pub⟩)
  | engineRequest request unwraps => exact .inr (.inr ⟨_, exec_engineRequest s request unwraps⟩)
  | engineSegmentEnd unwraps => exact .inr (.inr ⟨_, exec_engineSegmentEnd s unwraps⟩)
  | engineIdleZeroize ok => exact .inr (.inr ⟨_, exec_engineIdleZeroize s ok⟩)
  | engineTimeout unwraps => exact .inr (.inr ⟨_, exec_engineTimeout s unwraps⟩)
  | laneTrained lane => exact .inr (.inr ⟨_, exec_laneTrained s lane⟩)
  | laneTrainTimeout lane => exact .inr (.inr ⟨_, exec_laneTrainTimeout s lane⟩)
  | laneLoss lane los => exact .inr (.inr ⟨_, exec_laneLoss s lane los⟩)
  | laneRetry lane => exact .inr (.inr ⟨_, exec_laneRetry s lane⟩)
  | laneStopPhaseEnd lane => exact .inr (.inr ⟨_, exec_laneStopPhaseEnd s lane⟩)
  | laneHardwareFail lane => exact .inr (.inr ⟨_, exec_laneHardwareFail s lane⟩)
  | mgmtLinkChange port up => exact .inr (.inr ⟨_, exec_mgmtLinkChange s port up⟩)
  | moduleResetRelease cage => exact .inr (.inr ⟨_, exec_moduleResetRelease s cage⟩)
  | cageIntlChange cage asserted => exact .inr (.inr ⟨_, exec_cageIntlChange s cage asserted⟩)
  | ropeFrameClose  => exact .inr (.inr ⟨_, exec_ropeFrameClose s ⟩)
  | ropeFrameReceive lane frame => exact .inr (.inr ⟨_, exec_ropeFrameReceive s lane frame⟩)
  | beaconSend  => exact .inr (.inr ⟨_, exec_beaconSend s ⟩)
  | beaconReceive lane seq body => exact .inr (.inr ⟨_, exec_beaconReceive s lane seq body⟩)
  | ropeLaneSwitch  => exact .inr (.inr ⟨_, exec_ropeLaneSwitch s ⟩)
  | ropeLinkLost  => exact .inr (.inr ⟨_, exec_ropeLinkLost s ⟩)
  | ropeFallback fi => exact .inr (.inr ⟨_, exec_ropeFallback s fi⟩)
  | ropeStandbyDown  => exact .inr (.inr ⟨_, exec_ropeStandbyDown s ⟩)
  | ext10Loss  => exact .inr (.inr ⟨_, exec_ext10Loss s ⟩)
  | anchorVoteFault x0 x1 x2 => exact .inr (.inr ⟨_, exec_anchorVoteFault s x0 x1 x2⟩)
  | holdoverEntry  => exact .inr (.inr ⟨_, exec_holdoverEntry s ⟩)
  | undisciplinedEntry  => exact .inr (.inr ⟨_, exec_undisciplinedEntry s ⟩)
  | steppedExpiry  => exact .inr (.inr ⟨_, exec_steppedExpiry s ⟩)
  | warmupEnd  => exact .inr (.inr ⟨_, exec_warmupEnd s ⟩)
  | leapDue  => exact .inr (.inr ⟨_, exec_leapDue s ⟩)
  | irigFrame valid fmt back fields => exact .inr (.inr ⟨_, exec_irigFrame s valid fmt back fields⟩)
  | ppsEdge  => exact .inr (.inr ⟨_, exec_ppsEdge s ⟩)
  | timeInputAbsent irig => exact .inr (.inr ⟨_, exec_timeInputAbsent s irig⟩)
  | presenceActive  => exact .inr (.inr ⟨_, exec_presenceActive s ⟩)
  | presenceEnd  => exact .inr (.inr ⟨_, exec_presenceEnd s ⟩)
  | keyChange key down => exact .inr (.inr ⟨_, exec_keyChange s key down⟩)
  | keyStuck key => exact .inr (.inr ⟨_, exec_keyStuck s key⟩)
  | touchChange channel count => exact .inr (.inr ⟨_, exec_touchChange s channel count⟩)
  | touchDrift channel => exact .inr (.inr ⟨_, exec_touchDrift s channel⟩)
  | touchRecal channel => exact .inr (.inr ⟨_, exec_touchRecal s channel⟩)
  | touchFault channel high => exact .inr (.inr ⟨_, exec_touchFault s channel high⟩)
  | presenceInputChange input reading => exact .inr (.inr ⟨_, exec_presenceInputChange s input reading⟩)
  | boardRemove  => exact .inr (.inr ⟨_, exec_boardRemove s ⟩)
  | boardReturn  => exact .inr (.inr ⟨_, exec_boardReturn s ⟩)
  | binaryInputChange input high => exact .inr (.inr ⟨_, exec_binaryInputChange s input high⟩)
  | inputUnblock input => exact .inr (.inr ⟨_, exec_inputUnblock s input⟩)
  | minpulseEnd trip => exact .inr (.inr ⟨_, exec_minpulseEnd s trip⟩)
  | supChange trip low => exact .inr (.inr ⟨_, exec_supChange s trip low⟩)
  | tripOvercurrent trip => exact .inr (.inr ⟨_, exec_tripOvercurrent s trip⟩)
  | tripReadbackFault trip => exact .inr (.inr ⟨_, exec_tripReadbackFault s trip⟩)
  | faultRaise raise => exact .inr (.inr ⟨_, exec_faultRaise s raise⟩)
  | lockstepMismatch  => exact .inr (.inr ⟨_, exec_lockstepMismatch s ⟩)
  | stewardHeartbeat  => exact .inr (.inr ⟨_, exec_stewardHeartbeat s ⟩)
  | heartbeatLoss  => exact .inr (.inr ⟨_, exec_heartbeatLoss s ⟩)
  | stewardWatchdog  => exact .inr (.inr ⟨_, exec_stewardWatchdog s ⟩)
  | aliveStop  => exact .inr (.inr ⟨_, exec_aliveStop s ⟩)
  | aliveResume  => exact .inr (.inr ⟨_, exec_aliveResume s ⟩)
  | aliveMonitorForce  => exact .inr (.inr ⟨_, exec_aliveMonitorForce s ⟩)
  | aliveInChange toggling => exact .inr (.inr ⟨_, exec_aliveInChange s toggling⟩)
  | aliveReadbackFault  => exact .inr (.inr ⟨_, exec_aliveReadbackFault s ⟩)
  | cairnWrite  => exact .inr (.inr ⟨_, exec_cairnWrite s ⟩)
  | tailSaveComplete ok => exact .inr (.inr ⟨_, exec_tailSaveComplete s ok⟩)
  | powerOn found => exact .inl ⟨_, rfl⟩
  | startEdge  => exact .inr (.inr ⟨_, exec_startEdge s ⟩)
  | warmRestart  => exact .inr (.inr ⟨_, exec_warmRestart s ⟩)
  | coldRestart found => exact .inr (.inl ⟨_, exec_coldRestart s found⟩)
  | supplyWarning  => exact .inr (.inr ⟨_, exec_supplyWarning s ⟩)
  | shutdown  => exact .inr (.inr ⟨_, exec_shutdown s ⟩)
  | supplyRestored ms => exact .inr (.inr ⟨_, exec_supplyRestored s ms⟩)
  | supplyDip ms => exact .inr (.inr ⟨_, exec_supplyDip s ms⟩)
  | domainRiseDone domain => exact .inr (.inl ⟨_, exec_domainRiseDone s domain⟩)
  | domainFallDone domain => exact .inr (.inr ⟨_, exec_domainFallDone s domain⟩)
  | domainFault domain => exact .inr (.inl ⟨_, exec_domainFault s domain⟩)
  | domainRetry domain => exact .inr (.inr ⟨_, exec_domainRetry s domain⟩)
  | sensorRead sensor reading => exact .inr (.inl ⟨_, exec_sensorRead s sensor reading⟩)
  | stackCool stack => exact .inr (.inl ⟨_, exec_stackCool s stack⟩)
  | governorRefill  => exact .inr (.inr ⟨_, exec_governorRefill s ⟩)
  | sramScrub found => exact .inr (.inl ⟨_, exec_sramScrub s found⟩)
  | dramPatrol found => exact .inr (.inl ⟨_, exec_dramPatrol s found⟩)
  | poisonClearDone fi => exact .inr (.inl ⟨_, exec_poisonClearDone s fi⟩)
  | traverseStep  => exact .inr (.inr ⟨_, exec_traverseStep s ⟩)
  | slotSwitch cluster fi copy => exact .inr (.inr ⟨_, exec_slotSwitch s cluster fi copy⟩)
  | tileTestDone cluster outcome => exact .inr (.inr ⟨_, exec_tileTestDone s cluster outcome⟩)
  | traverseCompareFail cluster => exact .inr (.inr ⟨_, exec_traverseCompareFail s cluster⟩)
  | dramGroupRetire group => exact .inr (.inr ⟨_, exec_dramGroupRetire s group⟩)
  | bitLaneSpare link => exact .inr (.inr ⟨_, exec_bitLaneSpare s link⟩)
  | linkHalfWidth link ends => exact .inr (.inr ⟨_, exec_linkHalfWidth s link ends⟩)
  | acceptedCharacter sess ch => exact .inr (.inr ⟨_, exec_acceptedCharacter s sess ch⟩)
  | malformedLine h => exact .inr (.inr ⟨_, exec_malformedLine s h⟩)
  | ropeRecoveryArm fi => exact .inr (.inr ⟨_, exec_ropeRecoveryArm s fi⟩)
  | templateRewrite template => exact .inr (.inr ⟨_, exec_templateRewrite s template⟩)
  | wardenRestart  => exact .inr (.inr ⟨_, exec_wardenRestart s ⟩)
  | traversePhaseEnd cluster => exact .inr (.inr ⟨_, exec_traversePhaseEnd s cluster⟩)

end Sys2Proof.Machine
end

