-- ==== Sys2Proof/Laws/Elvit.lean ====
section
/-!
SUPPORT. What an instruction at the head of a tile's pipeline can do, said once for each shape of instruction.
-/
namespace Sys2Proof.Machine

/-- The firing that a legal head word gives. -/
theorem takeFiring_fires {s : State} {tile : Fin 416} {op : Nat} {f : Firing} {rest : List Firing} (h : Fires s tile op f rest) :
    s.u.takeFiring tile op = some (f, s.u.popped tile rest) := by
  unfold Chip.takeFiring
  rw [h.head]
  exact if_pos ⟨h.opcode, h.legal⟩

/-- An instruction that consumes its operands acts on the unit past the firing. -/
theorem execute_fires {s : State} {tile : Fin 416} {op : Nat} {f : Firing} {rest : List Firing} (h : Fires s tile op f rest)
    (g : Firing → Chip → Chip) : s.u.execute tile op g = g f (s.u.fired tile f rest) := by
  unfold Chip.execute
  rw [takeFiring_fires h]
  rfl

theorem completes_execute {i : Instr} {s : State} {tile : Fin 416} {op : Nat} {f : Firing} {rest : List Firing} (h : Fires s tile op f rest)
    {g : Firing → Chip → Chip} {P : Chip → Prop} (he : exec i s = s.onChip (fun c => c.execute tile op g)) (hp : P (g f (s.u.fired tile f rest))) :
    CompletesChip i s P := completes_onChip he h.powered (by rw [execute_fires h]; exact hp)

/-- All that a compute instruction does. -/
theorem compute_yields {i : Fin 416 → Instr} {op : Nat} {g : Word → Word → Res}
    (he : ∀ (s : State) (tile : Fin 416), exec (i tile) s = s.onChip (fun c => c.compute tile op g)) : Yields i op (fun l r x => x = g l r) := by
  intro s tile f rest h
  refine ⟨fun o ho => completes_execute h (he s tile) ?_, fun hn => ⟨_, rfl, completes_execute h (he s tile) ?_⟩⟩
  · simp only [ho]
  · simp only [hn]

/-- A compute instruction's result has every property that its function has. -/
theorem Yields.mono {i : Fin 416 → Instr} {op : Nat} {P Q : Word → Word → Res → Prop} (h : Yields i op P) (hpq : ∀ l r x, P l r x → Q l r x) :
    Yields i op Q := by
  intro s tile f rest hf
  obtain ⟨h1, h2⟩ := h s tile f rest hf
  exact ⟨h1, fun hn => let ⟨x, hx, hc⟩ := h2 hn; ⟨x, hpq _ _ _ hx, hc⟩⟩

theorem yields_of {i : Fin 416 → Instr} {op : Nat} {g : Word → Word → Res} {P : Word → Word → Res → Prop}
    (he : ∀ (s : State) (tile : Fin 416), exec (i tile) s = s.onChip (fun c => c.compute tile op g)) (hg : ∀ l r, P l r (g l r)) : Yields i op P :=
  (compute_yields he).mono (fun l r _ hx => hx ▸ hg l r)

theorem emits_of {i : Fin 416 → Instr} {op : Nat} {g : Chip → Firing → Opnd} {k : Firing → Chip → Chip}
    (he : ∀ (s : State) (tile : Fin 416), exec (i tile) s = s.onChip (fun c => c.execute tile op k)) (hk : ∀ f c, k f c = c.emit f (g c f)) :
    Emits i op g := fun s tile _ _ h => completes_execute h (he s tile) (hk _ _)

/-! ### Requests -/

theorem completesBoth {i : Instr} {s : State} {g : Chip × Mem → Chip × Mem} {P : State → Prop} (he : exec i s = s.onCM g)
    (hp : s.u.sup.powered = true) (h : P { s with u := (g (s.u, s.mem)).1, mem := (g (s.u, s.mem)).2 }) : Completes i s P :=
  ⟨_, he.trans (onCM_powered s g hp), h⟩

/-- A request that is made at once acts on the unit past the firing, with its place counted. -/
theorem addressed_requesting {s : State} {tile : Fin 416} {op : Nat} {f : Firing} {rest : List Firing} (h : Requesting s tile op f rest) (k : Bool)
    (perform : List Firing → CM → CM) :
    CM.addressed (s.u, s.mem) tile op k perform = perform [f] (s.u.requested tile rest, s.mem) := by
  have hb : (s.u.popped tile rest).badOperand f = none := by
    unfold Chip.badOperand
    cases hk : f.tok.op.kind <;> first | rfl | exact absurd hk h.kind.1 | exact absurd hk h.kind.2
  have hr : ((s.u.popped tile rest).tile tile).reqs = (s.u.tile tile).reqs := by
    unfold Chip.popped; rw [Chip.tile_modTile]
  have ht : ((s.u.popped tile rest).fiCfg f.tok.fi).twin = false := h.single
  unfold CM.addressed
  dsimp only
  rw [takeFiring_fires h.toFires]
  dsimp only
  rw [hb]
  dsimp only
  unfold CM.request
  dsimp only
  rw [takeFiring_fires h.toFires]
  dsimp only
  have hn : ¬(true = true ∧ ((s.u.popped tile rest).tile tile).reqs ≥ 32) := by have := h.place; rw [hr]; omega
  rw [if_neg hn, if_pos rfl]
  change (if (k && ((s.u.popped tile rest).fiCfg f.tok.fi).twin) = true then _ else _) = _
  rw [ht, Bool.and_false]
  rfl

/-- An output of an FI that is not twinned acts on the unit past the firing. -/
theorem request_output {s : State} {tile : Fin 416} {op : Nat} {f : Firing} {rest : List Firing} (h : Fires s tile op f rest)
    (ht : (s.u.fiCfg f.tok.fi).twin = false) (perform : List Firing → CM → CM) :
    CM.request (s.u, s.mem) tile op false true perform = perform [f] (s.u.popped tile rest, s.mem) := by
  unfold CM.request
  dsimp only
  rw [takeFiring_fires h]
  dsimp only
  have hn : ¬(false = true ∧ ((s.u.popped tile rest).tile tile).reqs ≥ 32) := by simp
  have ht' : ((s.u.popped tile rest).fiCfg f.tok.fi).twin = false := ht
  rw [if_neg hn, if_neg Bool.false_ne_true, ht']
  rfl

/-! ### Tokens that begin and end -/

theorem FabricAlone.refl (a : Chip) : FabricAlone a a := rfl

theorem FabricAlone.trans {a b d : Chip} (h1 : FabricAlone a b) (h2 : FabricAlone b d) : FabricAlone a d := by
  unfold FabricAlone at *
  rw [← h1, ← h2]

/-- What the counts of live tokens leave as it was: all of the fabric but the contexts, the settings and the raises. -/
structure Chip.CountsOnly (a b : Chip) : Prop where
  fab : { a.fab with ctxs := b.fab.ctxs } = b.fab
  coll : a.coll = b.coll
  frame : FabricAlone b a

theorem Chip.CountsOnly.refl (a : Chip) : a.CountsOnly a := ⟨rfl, rfl, rfl⟩

theorem Chip.CountsOnly.trans {a b d : Chip} (h1 : a.CountsOnly b) (h2 : b.CountsOnly d) : a.CountsOnly d := by
  refine ⟨?_, h1.coll.trans h2.coll, h2.frame.trans h1.frame⟩
  have h := h1.fab
  rw [← h2.fab, ← h]

theorem Chip.liveCount_counts (c : Chip) (t : Token) (k : Nat) (g : Nat → Nat) : (c.liveCount t k g).CountsOnly c := by
  unfold Chip.liveCount
  dsimp only
  split <;> exact ⟨rfl, rfl, rfl⟩

theorem Chip.count_counts (c : Chip) (fi k : Nat) (g : Cnt → Cnt) : (c.count fi k g).CountsOnly c := ⟨rfl, rfl, rfl⟩

theorem Chip.consume_counts (c : Chip) (f : Firing) : (c.consume f).CountsOnly c := by
  unfold Chip.consume
  dsimp only
  split
  · exact (Chip.liveCount_counts _ _ _ _).trans (Chip.liveCount_counts _ _ _ _)
  · exact Chip.liveCount_counts _ _ _ _

theorem Chip.born_counts (c : Chip) (t : Token) (k : Nat) : (c.born t k).CountsOnly c := by
  have hw : (c.watchFrom t.fi k).CountsOnly c := by
    unfold Chip.watchFrom
    split <;> exact ⟨rfl, rfl, rfl⟩
  have h := (Chip.liveCount_counts (c.watchFrom t.fi k) t k (· + 1)).trans hw
  unfold Chip.born
  dsimp only
  generalize (c.watchFrom t.fi k).liveCount t k (· + 1) = d at h
  split
  · exact (Chip.count_counts d _ _ _).trans h
  · exact h

theorem Chip.CountsOnly.net {a b : Chip} (h : a.CountsOnly b) : a.fab.net = b.fab.net := by
  have h' := congrArg Fabric.net h.fab
  exact h'
theorem Chip.CountsOnly.dones {a b : Chip} (h : a.CountsOnly b) : a.fab.dones = b.fab.dones := by
  have h' := congrArg Fabric.dones h.fab
  exact h'
theorem Chip.CountsOnly.tiles {a b : Chip} (h : a.CountsOnly b) : a.fab.tiles = b.fab.tiles := by
  have h' := congrArg Fabric.tiles h.fab
  exact h'
theorem Chip.CountsOnly.replies {a b : Chip} (h : a.CountsOnly b) : a.fab.replies = b.fab.replies := by
  have h' := congrArg Fabric.replies h.fab
  exact h'
theorem FabricAlone.cfg {a b : Chip} (h : FabricAlone a b) : b.cfg = a.cfg := by
  have h' := congrArg Chip.cfg (h : _ = a)
  exact h'
theorem FabricAlone.clk {a b : Chip} (h : FabricAlone a b) : b.clk = a.clk := by
  have h' := congrArg Chip.clk (h : _ = a)
  exact h'
theorem FabricAlone.panel {a b : Chip} (h : FabricAlone a b) : b.panel = a.panel := by
  have h' := congrArg Chip.panel (h : _ = a)
  exact h'
theorem FabricAlone.cairn {a b : Chip} (h : FabricAlone a b) : b.cairn = a.cairn := by
  have h' := congrArg Chip.cairn (h : _ = a)
  exact h'

theorem Chip.fired_counts (c : Chip) (tile : Nat) (f : Firing) (rest : List Firing) : (c.fired tile f rest).CountsOnly (c.popped tile rest) :=
  Chip.consume_counts (c.popped tile rest) f
theorem Chip.popped_frame (c : Chip) (tile : Nat) (rest : List Firing) : FabricAlone c (c.popped tile rest) := rfl
theorem Chip.fired_net (c : Chip) (tile : Nat) (f : Firing) (rest : List Firing) : (c.fired tile f rest).fab.net = c.fab.net :=
  (c.fired_counts tile f rest).net
theorem Chip.fired_dones (c : Chip) (tile : Nat) (f : Firing) (rest : List Firing) : (c.fired tile f rest).fab.dones = c.fab.dones :=
  (c.fired_counts tile f rest).dones
theorem Chip.fired_coll (c : Chip) (tile : Nat) (f : Firing) (rest : List Firing) : (c.fired tile f rest).coll = c.coll :=
  (c.fired_counts tile f rest).coll
theorem Chip.fired_frame (c : Chip) (tile : Nat) (f : Firing) (rest : List Firing) : FabricAlone c (c.fired tile f rest) :=
  (c.popped_frame tile rest).trans (c.fired_counts tile f rest).frame
theorem Chip.fired_cfg (c : Chip) (tile : Nat) (f : Firing) (rest : List Firing) : (c.fired tile f rest).cfg = c.cfg :=
  (c.fired_frame tile f rest).cfg
theorem Chip.fired_clk (c : Chip) (tile : Nat) (f : Firing) (rest : List Firing) : (c.fired tile f rest).clk = c.clk :=
  (c.fired_frame tile f rest).clk

/-- Emission changes the fabric, the FIs' counts and the raises alone. -/
theorem Chip.send_frame (c : Chip) (src : Nat) (t : Token) (k : Nat) (a b : Option Nat) : FabricAlone c (c.send src t k a b) := by
  have hd : FabricAlone c ((c.died t k).instrIntegrity t.fi src [fNat "VT" t.vt]) :=
    (Chip.liveCount_counts c t k (· - 1)).frame.trans rfl
  unfold Chip.send
  dsimp only
  split
  · split
    · exact rfl
    · exact hd
  · exact hd

theorem Chip.emitTo_frame (c : Chip) (f : Firing) (ds : List Dest) (o : Opnd) (col : Nat) (e : Bool) (fr : Nat) :
    FabricAlone c (c.emitTo f ds o col e fr) := by
  unfold Chip.emitTo
  induction ds generalizing c with
  | nil => exact rfl
  | cons d ds ih => exact ((Chip.born_counts _ _ _).frame.trans (Chip.send_frame _ _ _ _ _ _)).trans (ih _)

theorem Chip.emit_frame (c : Chip) (f : Firing) (o : Opnd) : FabricAlone c (c.emit f o) := c.emitTo_frame _ _ _ _ _ _

/-- An instruction's effect past its firing bounds its whole effect. -/
theorem Chip.execute_frame (c : Chip) (tile op : Nat) (g : Firing → Chip → Chip) (hg : ∀ f c, FabricAlone c (g f c)) :
    FabricAlone c (c.execute tile op g) := by
  unfold Chip.execute Chip.takeFiring
  cases (c.tile tile).pipe with
  | nil => exact rfl
  | cons f rest =>
    dsimp only
    split
    · exact rfl
    · rename_i h
      split at h
      · injection h with h
        injection h with h1 h2
        subst h1 h2
        exact (c.fired_frame tile f rest).trans (hg _ _)
      · cases h

theorem Chip.compute_frame (c : Chip) (tile op : Nat) (g : Word → Word → Res) : FabricAlone c (c.compute tile op g) := by
  refine c.execute_frame tile op _ (fun f c => ?_)
  dsimp only
  split
  · exact c.emit_frame _ _
  · exact FabricAlone.trans (b := c.count f.tok.fi f.copy _) rfl (Chip.emit_frame _ _ _)

theorem Chip.predWrite_frame (c : Chip) (t : Token) (k p : Nat) (v ow : Bool) : FabricAlone c (c.predWrite t k p v ow) := by
  unfold Chip.predWrite
  dsimp only
  split
  · exact rfl
  · split <;> exact rfl

/-- A predicate write to a live context takes effect when it may. -/
theorem Chip.predWrite_done (c : Chip) (t : Token) (k p : Nat) (v ow : Bool) (hl : c.ctxLive t k = true)
    (hp : (c.ctx (c.ctxOf t k)).preds.find p = none ∨ ow = true) : c.predWrite t k p v ow =
      c.modCtx (c.ctxOf t k) (fun x => { x with preds := x.preds.set p v, updates := x.updates ++ [(p, v, c.clk.cycle + 24)] }) := by
  unfold Chip.predWrite
  rw [if_neg (by simp [hl])]
  exact if_neg (by rcases hp with hp | hp <;> simp [hp])

/-- A second write of a predicate is a fault. -/
theorem Chip.predWrite_again (c : Chip) (t : Token) (k p : Nat) (v : Bool) (hl : c.ctxLive t k = true)
    (hp : (c.ctx (c.ctxOf t k)).preds.find p ≠ none) : c.predWrite t k p v false = c.raise 4 t.fi (some t.fi) [fNat "P" p] := by
  unfold Chip.predWrite
  rw [if_neg (by simp [hl])]
  exact if_pos (by simp [Option.isSome_iff_ne_none, hp])

end Sys2Proof.Machine
end

