-- ==== Sys2Proof/Laws/Memory.lean ====
section
/-!
SUPPORT. The addressed memories: every operation keeps their canonical form, and a read after a write (R403–R424).
-/
namespace Sys2Proof.Machine

/-- The canonical form, as a property of the list. -/
def CellOk (l : List Host.Cell) : Prop := l.Pairwise (fun a b => a.1 < b.1) ∧ ∀ e ∈ l, e.2 ≠ 0

theorem cellWf_iff (l : List Host.Cell) : cellWf l = true ↔ CellOk l := by
  induction l with
  | nil => simp [cellWf, CellOk]
  | cons e t ih =>
    obtain ⟨k, v⟩ := e
    cases t with
    | nil => simp [cellWf, CellOk]
    | cons e' t' =>
      obtain ⟨k', v'⟩ := e'
      rw [show cellWf ((k, v) :: (k', v') :: t') = (decide (k < k') && v != 0 && cellWf ((k', v') :: t')) from rfl]
      rw [Bool.and_eq_true, Bool.and_eq_true, ih]
      simp only [CellOk, List.pairwise_cons, List.mem_cons, decide_eq_true_eq, bne_iff_ne, ne_eq]
      constructor
      · rintro ⟨⟨hk, hv⟩, ⟨h1, h2⟩, h3⟩
        refine ⟨⟨?_, h1, h2⟩, ?_⟩
        · rintro a (rfl | ha)
          · exact hk
          · exact Nat.lt_trans hk (h1 a ha)
        · rintro a (rfl | ha)
          · exact hv
          · exact h3 a ha
      · rintro ⟨⟨h0, h1, h2⟩, h3⟩
        exact ⟨⟨h0 _ (.inl rfl), h3 _ (.inl rfl)⟩, ⟨h1, h2⟩, fun a ha => h3 a (.inr ha)⟩

theorem CellOk.filter {l : List Host.Cell} (h : CellOk l) (p : Host.Cell → Bool) : CellOk (l.filter p) :=
  ⟨h.1.sublist List.filter_sublist, fun e he => h.2 e ((List.mem_filter.1 he).1)⟩

theorem cellIns_mem {l : List Host.Cell} {a : Nat} {b : Byte} {e : Host.Cell} (h : e ∈ cellIns l a b) : e = (a, b) ∨ e ∈ l := by
  induction l with
  | nil => simpa [cellIns] using h
  | cons x t ih =>
    obtain ⟨k, v⟩ := x
    unfold cellIns at h
    split at h
    · simpa using h
    · split at h
      · rcases List.mem_cons.1 h with h | h
        · exact .inl h
        · exact .inr (List.mem_cons_of_mem _ h)
      · rcases List.mem_cons.1 h with h | h
        · exact .inr (h ▸ List.mem_cons_self)
        · exact (ih h).imp id (List.mem_cons_of_mem _)

theorem CellOk.ins {l : List Host.Cell} (h : CellOk l) (a : Nat) {b : Byte} (hb : b ≠ 0) : CellOk (cellIns l a b) := by
  induction l with
  | nil => exact ⟨List.pairwise_singleton _ _, fun e he => List.mem_singleton.1 he ▸ hb⟩
  | cons x t ih =>
    obtain ⟨k, v⟩ := x
    obtain ⟨hp, hn⟩ := h
    rw [List.pairwise_cons] at hp
    have ht : CellOk t := ⟨hp.2, fun e he => hn e (List.mem_cons_of_mem _ he)⟩
    unfold cellIns
    split
    · rename_i hlt
      refine ⟨List.pairwise_cons.2 ⟨?_, List.pairwise_cons.2 hp⟩, ?_⟩
      · intro e he
        rcases List.mem_cons.1 he with rfl | he
        · exact hlt
        · exact Nat.lt_trans hlt (hp.1 e he)
      · intro e he
        rcases List.mem_cons.1 he with rfl | he
        · exact hb
        · exact hn e he
    · split
      · rename_i heq
        subst heq
        refine ⟨List.pairwise_cons.2 ⟨hp.1, hp.2⟩, ?_⟩
        intro e he
        rcases List.mem_cons.1 he with rfl | he
        · exact hb
        · exact ht.2 e he
      · rename_i h1 h2
        have hi := ih ht
        refine ⟨List.pairwise_cons.2 ⟨?_, hi.1⟩, ?_⟩
        · intro e he
          rcases cellIns_mem he with rfl | he
          · show k < a
            omega
          · exact hp.1 e he
        · intro e he
          rcases List.mem_cons.1 he with rfl | he
          · exact hn _ List.mem_cons_self
          · exact hi.2 e he

theorem cellDel_sublist (l : List Host.Cell) (a : Nat) : (cellDel l a).Sublist l := by
  induction l with
  | nil => exact List.Sublist.refl _
  | cons x t ih =>
    obtain ⟨k, v⟩ := x
    unfold cellDel
    split
    · exact List.sublist_cons_self _ _
    · exact ih.cons_cons _

theorem CellOk.del {l : List Host.Cell} (h : CellOk l) (a : Nat) : CellOk (cellDel l a) :=
  ⟨h.1.sublist (cellDel_sublist l a), fun e he => h.2 e ((cellDel_sublist l a).subset he)⟩

theorem CellOk.put {l : List Host.Cell} (h : CellOk l) (a : Nat) (b : Byte) : CellOk (cellPut l a b) := by
  unfold cellPut
  split
  · exact h.del a
  · rename_i hb
    exact h.ins a hb

theorem CellOk.puts {l : List Host.Cell} (h : CellOk l) (a : Nat) (bs : List Byte) : CellOk (cellPuts l a bs) := by
  induction bs generalizing l a with
  | nil => exact h
  | cons b bs ih => exact ih (h.put a b) (a + 1)

theorem CellOk.word {l : List Host.Cell} (h : CellOk l) (a : Nat) (w : Word) : CellOk (wordPut l a w) := h.puts a _

/-- The canonical form of both memories. -/
def Mem.Ok (m : Mem) : Prop := CellOk m.sram ∧ CellOk m.dram

theorem Mem.wf_iff (m : Mem) : m.wf = true ↔ m.Ok := by
  rw [Mem.wf, Bool.and_eq_true, cellWf_iff, cellWf_iff]
  rfl

/-! ### Reads after writes -/

theorem cellGet_ins_same (l : List Host.Cell) (a : Nat) (b : Byte) : cellGet (cellIns l a b) a = b := by
  induction l with
  | nil => simp [cellIns, cellGet]
  | cons x t ih =>
    obtain ⟨k, v⟩ := x
    unfold cellIns
    split
    · simp [cellGet]
    · split
      · simp [cellGet]
      · rename_i h
        simp [cellGet, h, ih]

theorem cellGet_ins_ne (l : List Host.Cell) {a a' : Nat} (b : Byte) (h : a' ≠ a) : cellGet (cellIns l a b) a' = cellGet l a' := by
  induction l with
  | nil => simp [cellIns, cellGet, h]
  | cons x t ih =>
    obtain ⟨k, v⟩ := x
    unfold cellIns
    split
    · simp [cellGet, h]
    · split
      · subst_vars
        simp [cellGet, h]
      · by_cases hk : a' = k
        · simp [cellGet, hk]
        · simp [cellGet, hk, ih]

theorem cellGet_absent {l : List Host.Cell} {a : Nat} (h : ∀ e ∈ l, e.1 ≠ a) : cellGet l a = 0 := by
  induction l with
  | nil => rfl
  | cons x t ih =>
    obtain ⟨k, v⟩ := x
    have hk : a ≠ k := fun e => h _ List.mem_cons_self e.symm
    simp only [cellGet, hk, if_false]
    exact ih (fun e he => h e (List.mem_cons_of_mem _ he))

theorem cellGet_del_same {l : List Host.Cell} (h : CellOk l) (a : Nat) : cellGet (cellDel l a) a = 0 := by
  induction l with
  | nil => rfl
  | cons x t ih =>
    obtain ⟨k, v⟩ := x
    obtain ⟨hp, hn⟩ := h
    rw [List.pairwise_cons] at hp
    unfold cellDel
    split
    · rename_i heq
      subst heq
      exact cellGet_absent (fun e he => (Nat.ne_of_gt (hp.1 e he)))
    · rename_i hne
      simp only [cellGet, hne, if_false]
      exact ih ⟨hp.2, fun e he => hn e (List.mem_cons_of_mem _ he)⟩

theorem cellGet_del_ne (l : List Host.Cell) {a a' : Nat} (h : a' ≠ a) : cellGet (cellDel l a) a' = cellGet l a' := by
  induction l with
  | nil => rfl
  | cons x t ih =>
    obtain ⟨k, v⟩ := x
    unfold cellDel
    split
    · subst_vars
      simp [cellGet, h]
    · by_cases hk : a' = k
      · simp [cellGet, hk]
      · simp [cellGet, hk, ih]

/-- A written octet reads back. -/
theorem cellGet_put_same {l : List Host.Cell} (h : CellOk l) (a : Nat) (b : Byte) : cellGet (cellPut l a b) a = b := by
  unfold cellPut
  split
  · subst_vars
    exact cellGet_del_same h a
  · exact cellGet_ins_same l a b

/-- A write leaves every other octet. -/
theorem cellGet_put_ne (l : List Host.Cell) {a a' : Nat} (b : Byte) (h : a' ≠ a) : cellGet (cellPut l a b) a' = cellGet l a' := by
  unfold cellPut
  split
  · exact cellGet_del_ne l h
  · exact cellGet_ins_ne l b h

/-- Octets written from an address upward leave every address outside them. -/
theorem cellGet_puts_out (l : List Host.Cell) (a : Nat) (bs : List Byte) {a' : Nat} (h : a' < a ∨ a + bs.length ≤ a') :
    cellGet (cellPuts l a bs) a' = cellGet l a' := by
  induction bs generalizing l a with
  | nil => rfl
  | cons b bs ih =>
    simp only [List.length_cons] at h
    rw [cellPuts, ih _ _ (by omega), cellGet_put_ne _ _ (by omega)]

theorem cellGet_word_out (l : List Host.Cell) (a : Nat) (w : Word) {a' : Nat} (h : a' < a ∨ a + 8 ≤ a') :
    cellGet (wordPut l a w) a' = cellGet l a' := cellGet_puts_out l a _ h

/-! ### Operations on the memories -/

theorem Mem.Ok.swrite {m : Mem} (h : m.Ok) (w : Nat) (v : Word) : (m.swrite w v).Ok := ⟨h.1.word _ _, h.2⟩
theorem Mem.Ok.sempty {m : Mem} (h : m.Ok) (w : Nat) : (m.sempty w).Ok := ⟨h.1, h.2⟩
theorem Mem.Ok.spoisonWord {m : Mem} (h : m.Ok) (w src : Nat) : (m.spoisonWord w src).Ok := ⟨h.1, h.2⟩
theorem Mem.Ok.clearHalf {m : Mem} (h : m.Ok) (n : Nat) : (m.clearHalf n).Ok := ⟨h.1.filter _, h.2⟩
theorem Mem.Ok.loseHalf {m : Mem} (h : m.Ok) (n : Nat) : (m.loseHalf n).Ok := ⟨h.1.filter _, h.2⟩
theorem Mem.Ok.clearGranule {m : Mem} (h : m.Ok) (g : Nat) (o : GranOwner) : (m.clearGranule g o).Ok := ⟨h.1.filter _, h.2⟩
theorem Mem.Ok.cleanLine {m : Mem} (h : m.Ok) (n : Nat) : (m.cleanLine n).Ok := ⟨h.1, h.2⟩
theorem Mem.Ok.loseGroups {m : Mem} (h : m.Ok) (l : List Nat) : (m.loseGroups l).Ok := ⟨h.1, h.2⟩
theorem Mem.Ok.clearPriv {m : Mem} (h : m.Ok) (g : Nat) (o : LineOwner) : (m.clearPriv g o).Ok := ⟨h.1, h.2.filter _⟩

theorem Mem.Ok.dwrite {m : Mem} (h : m.Ok) (n : Nat) (ws : Tbl Word) : (m.dwrite n ws).Ok := by
  refine ⟨h.1, ?_⟩
  show CellOk (List.foldl _ m.dram ws)
  have : ∀ l, CellOk l → CellOk (List.foldl (fun l w => wordPut l (64 * n + 8 * w.1) w.2) l ws) := by
    induction ws with
    | nil => exact fun _ h => h
    | cons w ws ih => exact fun l hl => ih _ (hl.word _ _)
  exact this _ h.2

end Sys2Proof.Machine
end

