-- ==== Sys2Proof/Laws/Kept.lean ====
section
/-!
SUPPORT. Which operations change the addressed memories, and that each of those keeps their canonical form.
-/
namespace Sys2Proof.Machine

theorem Ok.foldl {α : Type} {f : Mem → α → Mem} (h : ∀ m a, m.Ok → (f m a).Ok) (l : List α) : ∀ m : Mem, m.Ok → (l.foldl f m).Ok := by
  induction l with
  | nil => exact fun _ hm => hm
  | cons a l ih => exact fun m hm => ih _ (h m a hm)

theorem Ok.foldlCM {α : Type} {f : CM → α → CM} (h : ∀ c m a, m.Ok → (f (c, m) a).2.Ok) (l : List α) :
    ∀ x : CM, x.2.Ok → (l.foldl f x).2.Ok := by
  induction l with
  | nil => exact fun _ hm => hm
  | cons a l ih => exact fun x hx => ih _ (h x.1 x.2 a hx)

theorem ite_all {P : CM → Prop} {p : Prop} [Decidable p] {a b : CM} (ha : p → P a) (hb : ¬p → P b) : P (if p then a else b) := by
  split
  · exact ha ‹_›
  · exact hb ‹_›

/-- The memories of a result are in their form. -/
def OkAfter (x : CM) : Prop := x.2.Ok

theorem ite_ok {p : Prop} [Decidable p] {a b : CM} (ha : OkAfter a) (hb : OkAfter b) : OkAfter (if p then a else b) :=
  ite_all (P := OkAfter) (fun _ => ha) (fun _ => hb)

theorem pair_ok (c : Chip) {m : Mem} (h : m.Ok) : OkAfter (c, m) := h

theorem Mem.Ok.setPoison {m : Mem} (h : m.Ok) (t : Tbl Nat) : Mem.Ok { m with dpoison := t } := ⟨h.1, h.2⟩

/-! ### Requests of firings -/

theorem readWord_ok (c : Chip) {m : Mem} (h : m.Ok) (w : Nat) (e : Bool) (fs : List Firing) : OkAfter (CM.readWord (c, m) w e fs) := by
  unfold CM.readWord
  refine ite_ok ?_ (pair_ok _ h)
  cases e
  · exact pair_ok _ h
  · exact pair_ok _ (h.sempty w)

theorem writeWord_ok (c : Chip) {m : Mem} (h : m.Ok) (w : Nat) (v : Word) : OkAfter (CM.writeWord (c, m) w v) := by
  unfold CM.writeWord
  dsimp only
  cases (c.serveDefers (.sword w) v).2
  · exact pair_ok _ (h.swrite w v)
  · exact pair_ok _ ((h.swrite w v).sempty w)

theorem performLoad_ok (c : Chip) {m : Mem} (h : m.Ok) (e : Bool) (fs : List Firing) : OkAfter (performLoad e fs (c, m)) := by
  cases fs with
  | nil => exact pair_ok _ h
  | cons f t =>
    simp only [performLoad]
    cases CM.splace (c, m) f.tok.fi (c.ea f) (!e) with
    | word w => exact readWord_ok _ h _ _ _
    | cell _ _ => exact pair_ok _ h
    | range => exact pair_ok _ h
    | foreign => exact pair_ok _ h

theorem performSst_ok (c : Chip) {m : Mem} (h : m.Ok) (fs : List Firing) : OkAfter (performSst fs (c, m)) := by
  cases fs with
  | nil => exact pair_ok _ h
  | cons f t =>
    simp only [performSst]
    cases c.badData (f :: t) with
    | some c' => exact pair_ok _ h
    | none =>
      dsimp only
      cases CM.splace (c, m) f.tok.fi (c.ea f) true with
      | word w => exact pair_ok _ (writeWord_ok c h _ _)
      | cell _ _ => exact pair_ok _ h
      | range => exact pair_ok _ h
      | foreign => exact pair_ok _ h

theorem performSclr_ok (c : Chip) {m : Mem} (h : m.Ok) (fs : List Firing) : OkAfter (performSclr fs (c, m)) := by
  cases fs with
  | nil => exact pair_ok _ h
  | cons f t =>
    simp only [performSclr]
    cases CM.splace (c, m) f.tok.fi (c.ea f) false with
    | word w => exact pair_ok _ (h.sempty _)
    | cell _ _ => exact pair_ok _ h
    | range => exact pair_ok _ h
    | foreign => exact pair_ok _ h

theorem performDld_ok (c : Chip) {m : Mem} (h : m.Ok) (fs : List Firing) : OkAfter (performDld fs (c, m)) := by
  cases fs with
  | nil => exact pair_ok _ h
  | cons f t =>
    simp only [performDld]
    cases c.dplace f.tok.fi (c.ea f) with
    | none => exact pair_ok _ h
    | some a => exact ite_ok (pair_ok _ h) (pair_ok _ (h.setPoison _))

theorem flushMerge_ok (c : Chip) {m : Mem} (h : m.Ok) (e : MergeEnt) : OkAfter (CM.flushMerge (c, m) e) := by
  unfold CM.flushMerge
  exact ite_ok (pair_ok _ ((h.dwrite _ _).cleanLine _)) (pair_ok _ (h.setPoison _))

theorem openMerge_ok (c : Chip) {m : Mem} (h : m.Ok) (fi k line : Nat) : OkAfter (CM.openMerge (c, m) fi k line) := by
  unfold CM.openMerge
  dsimp only
  cases c.mergeEntry fi k with
  | none => exact pair_ok _ h
  | some e => exact ite_ok (pair_ok _ h) (flushMerge_ok _ h _)

theorem addMerge_ok (c : Chip) {m : Mem} (h : m.Ok) (f : Firing) (fs : List Firing) (ea a : Nat) :
    OkAfter (CM.addMerge (c, m) f fs ea a) := by
  unfold CM.addMerge
  exact ite_ok (flushMerge_ok _ h _) (pair_ok _ h)

theorem addMerge_after (x : CM) (h : OkAfter x) (f : Firing) (fs : List Firing) (ea a : Nat) : OkAfter (CM.addMerge x f fs ea a) :=
  addMerge_ok x.1 h f fs ea a

theorem performDst_ok (c : Chip) {m : Mem} (h : m.Ok) (fs : List Firing) : OkAfter (performDst fs (c, m)) := by
  cases fs with
  | nil => exact pair_ok _ h
  | cons f t =>
    simp only [performDst]
    cases c.badData (f :: t) with
    | some c' => exact pair_ok _ h
    | none =>
      dsimp only
      cases c.dplace f.tok.fi (c.ea f) with
      | none => exact pair_ok _ h
      | some a => exact addMerge_after _ (openMerge_ok _ h _ _ _) _ _ _ _

/-- The requests and outputs that the comparator lets through keep the memories' form. -/
theorem performOp_ok (c : Chip) {m : Mem} (h : m.Ok) (op : Nat) (fs : List Firing) : OkAfter (performOp op fs (c, m)) := by
  unfold performOp
  refine ite_ok (performLoad_ok _ h _ _) (ite_ok (performSst_ok _ h _) (ite_ok (performLoad_ok _ h _ _) (ite_ok (performSclr_ok _ h _)
    (ite_ok (performDld_ok _ h _) (ite_ok (performDst_ok _ h _) ?_)))))
  iterate 9 refine ite_ok (pair_ok _ h) ?_
  exact pair_ok _ h

/-- Only the memory instructions change the addressed memories. -/
theorem performOp_mem (op : Nat) (ho : op < 0xA0 ∨ 0xA5 < op) (fs : List Firing) (c : Chip) (m : Mem) : (performOp op fs (c, m)).2 = m := by
  unfold performOp
  iterate 6 refine ite_all (P := fun x => x.2 = m) (fun h => by omega) (fun _ => ?_)
  iterate 9 refine ite_all (P := fun x => x.2 = m) (fun _ => rfl) (fun _ => ?_)
  rfl

theorem performLoad_mem (fs : List Firing) (c : Chip) (m : Mem) : (performLoad false fs (c, m)).2 = m := by
  cases fs with
  | nil => rfl
  | cons f t =>
    simp only [performLoad]
    cases CM.splace (c, m) f.tok.fi (c.ea f) (!false) with
    | word w =>
      simp only [CM.readWord, Bool.false_eq_true, if_false]
      split <;> rfl
    | cell _ _ => rfl
    | range => rfl
    | foreign => rfl

/-- A request changes the memories only as its action does. -/
theorem request_mem {P : Mem → Prop} (c : Chip) {m : Mem} (h : P m) (tile op : Nat) (l k : Bool) {perform : List Firing → CM → CM}
    (hp : ∀ fs c' m', P m' → P (perform fs (c', m')).2) : P (CM.request (c, m) tile op l k perform).2 := by
  unfold CM.request
  dsimp only
  cases c.takeFiring tile op with
  | none => exact h
  | some x => exact ite_all (P := fun x => P x.2) (fun _ => h) (fun _ => ite_all (P := fun x => P x.2) (fun _ => h) (fun _ => hp _ _ _ h))

theorem addressed_mem {P : Mem → Prop} (c : Chip) {m : Mem} (h : P m) (tile op : Nat) (k : Bool) {perform : List Firing → CM → CM}
    (hp : ∀ fs c' m', P m' → P (perform fs (c', m')).2) : P (CM.addressed (c, m) tile op k perform).2 := by
  unfold CM.addressed
  dsimp only
  cases c.takeFiring tile op with
  | none => exact h
  | some x =>
    dsimp only
    cases x.2.badOperand x.1 with
    | none => exact request_mem c h tile op true k hp
    | some _ => exact h

theorem twinCompare_ok (c : Chip) {m : Mem} (h : m.Ok) (fi key : Nat) : OkAfter (CM.twinCompare (c, m) fi key performOp) := by
  unfold CM.twinCompare
  dsimp only
  cases c.fab.twins.find? (fun s => s.fi == fi && s.key == key) with
  | none => exact pair_ok _ h
  | some s =>
    dsimp only
    cases s.a with
    | nil => exact pair_ok _ h
    | cons x xs =>
      cases s.b with
      | nil => exact pair_ok _ h
      | cons y ys => exact ite_ok (performOp_ok _ h _ _) (pair_ok _ h)

theorem mergeExpiry_ok (c : Chip) {m : Mem} (h : m.Ok) (fi k : Nat) : OkAfter (CM.mergeExpiry (c, m) fi k) := by
  unfold CM.mergeExpiry
  dsimp only
  cases c.fab.merges.find? (fun e => e.fi == fi && e.copy == k) with
  | none => exact pair_ok _ h
  | some e => exact flushMerge_ok _ h _

theorem deferralRetry_ok (c : Chip) {m : Mem} (h : m.Ok) : OkAfter (CM.deferralRetry (c, m)) := by
  unfold CM.deferralRetry
  dsimp only
  cases c.fab.defers.find? (fun d => d.retryAt.isSome) with
  | none => exact pair_ok _ h
  | some d =>
    dsimp only
    cases d.at? with
    | sword w =>
      refine ite_ok ?_ (pair_ok _ h)
      cases d.empties
      · exact pair_ok _ h
      · exact pair_ok _ (h.sempty w)
    | fword cl fr w =>
      dsimp only
      generalize Tbl.find _ w = o
      cases o <;> exact pair_ok _ h

/-! ### Function instances, commits and starts -/

theorem placeAreas_ok (c : Chip) {m : Mem} (h : m.Ok) (fi : Nat) : OkAfter (CM.placeAreas (c, m) fi) := by
  unfold CM.placeAreas
  exact pair_ok _ (Ok.foldl (fun _ g hm => hm.clearPriv g _) _ _ (Ok.foldl (fun _ g hm => hm.clearGranule g _) _ _ h))

theorem placeAreas_after (x : CM) (h : OkAfter x) (fi : Nat) : OkAfter (CM.placeAreas x fi) := placeAreas_ok x.1 h fi

theorem dropAreas_ok (c : Chip) {m : Mem} (h : m.Ok) (fi : Nat) : OkAfter (CM.dropAreas (c, m) fi) := by
  unfold CM.dropAreas
  exact pair_ok _ (Ok.foldl (fun _ g hm => hm.clearPriv g _) _ _ (Ok.foldl (fun _ g hm => hm.clearGranule g _) _ _ h))

theorem admitFi_ok (c : Chip) {m : Mem} (h : m.Ok) (pl : Placement) (fi : Nat) (a : Bool) (cause : String) :
    OkAfter (CM.admitFi (c, m) pl fi a cause) := by
  unfold CM.admitFi
  dsimp only
  refine ite_ok ?_ (pair_ok _ h)
  exact placeAreas_after _ (dropAreas_ok _ h fi) fi

theorem admitFi_after (x : CM) (h : OkAfter x) (pl : Placement) (fi : Nat) (a : Bool) (cause : String) : OkAfter (CM.admitFi x pl fi a cause) :=
  admitFi_ok x.1 h pl fi a cause

theorem loadFi_ok (c : Chip) {m : Mem} (h : m.Ok) (fi : Nat) (cause : String) : OkAfter (CM.loadFi (c, m) fi cause) := by
  unfold CM.loadFi
  exact pair_ok _ (dropAreas_ok _ h fi)

theorem emptyFi_ok (c : Chip) {m : Mem} (h : m.Ok) (fi : Nat) (cause : String) : OkAfter (CM.emptyFi (c, m) fi cause) := by
  unfold CM.emptyFi
  exact pair_ok _ (dropAreas_ok _ h fi)

theorem applyFi_ok (c : Chip) {m : Mem} (h : m.Ok) (k : Commit) (n : Nat) : OkAfter (CM.applyFi (c, m) k n) := by
  unfold CM.applyFi
  refine pair_ok _ (?_ : OkAfter _)
  refine ite_ok (pair_ok _ h) (ite_ok (ite_ok (pair_ok _ h) (emptyFi_ok _ h _ _)) ?_)
  have hk : ∀ c : Chip, OkAfter (if loads k.touched n = true then CM.loadFi (c, m) n "COMMIT" else (c, m)) :=
    fun c => ite_ok (loadFi_ok c h _ _) (pair_ok c h)
  refine ite_ok ?_ (hk _)
  exact admitFi_after _ (ite_ok (hk _) (pair_ok _ (hk _))) _ _ _ _

theorem applyReady_ok (i : Nat) : ∀ (c : Chip) (m : Mem), m.Ok → OkAfter (CM.applyReady i (c, m)) := by
  induction i with
  | zero => exact fun _ _ h => h
  | succ i ih =>
    intro c m h
    unfold CM.applyReady
    dsimp only
    cases c.trev.commit with
    | none => exact pair_ok _ h
    | some k =>
      dsimp only
      generalize List.find? _ k.fiParts = o
      cases o with
      | none => exact pair_ok _ h
      | some n => exact ih _ _ (applyFi_ok c h k n)

theorem commitEdge_ok (c : Chip) {m : Mem} (h : m.Ok) : OkAfter (CM.commitEdge (c, m)) := by
  unfold CM.commitEdge
  dsimp only
  cases c.trev.commit with
  | none => exact pair_ok _ h
  | some k => exact ite_ok (pair_ok _ h) (pair_ok _ (applyReady_ok _ _ _ h))

theorem cfgFiApply_ok (c : Chip) {m : Mem} (h : m.Ok) (n : Nat) : OkAfter (CM.cfgFiApply (c, m) n) := by
  unfold CM.cfgFiApply
  dsimp only
  cases c.trev.commit with
  | none => exact pair_ok _ h
  | some k => exact ite_ok (pair_ok _ h) (pair_ok _ (applyReady_ok _ _ _ (applyFi_ok c h k n)))

theorem cfgForced_ok (c : Chip) {m : Mem} (h : m.Ok) (n : Nat) : OkAfter (CM.cfgForced (c, m) n) := by
  unfold CM.cfgForced
  dsimp only
  cases c.trev.commit with
  | none => exact pair_ok _ h
  | some k =>
    dsimp only
    refine ite_ok (pair_ok _ h) (pair_ok _ (applyReady_ok _ _ _ ?_))
    exact ite_ok (applyFi_ok _ h k n) (applyFi_ok _ h k n)

theorem startAdmit_ok (c : Chip) {m : Mem} (h : m.Ok) (fi : Nat) : OkAfter (CM.startAdmit (c, m) fi) := by
  unfold CM.startAdmit
  refine ite_ok (pair_ok _ h) ?_
  dsimp only
  split
  · exact admitFi_ok _ h _ _ _ _
  · exact pair_ok _ h

theorem reset_ok : Mem.reset.Ok := (Mem.wf_iff _).1 rfl

theorem restoreGraphs_ok (c : Chip) {m : Mem} (h : m.Ok) (l : List Nat) : OkAfter (CM.restoreGraphs (c, m) l) := by
  unfold CM.restoreGraphs
  exact pair_ok _ (Ok.foldlCM (fun c _ fi h => startAdmit_ok c h fi) _ _ h)

theorem bringUp_ok (c : Chip) (k : StartKind) (f : StartFindings) : OkAfter (CM.bringUp c k f) := by
  unfold CM.bringUp
  refine ite_ok (pair_ok _ reset_ok) ?_
  refine ite_ok (pair_ok _ reset_ok) (ite_ok (pair_ok _ reset_ok) (pair_ok _ (restoreGraphs_ok _ reset_ok _)))

theorem powerOn_ok (c : Chip) {m : Mem} (h : m.Ok) (f : StartFindings) : OkAfter (CM.powerOn (c, m) f) := by
  unfold CM.powerOn
  exact ite_ok (pair_ok _ h) (bringUp_ok _ _ _)

theorem coldRestart_ok (c : Chip) {m : Mem} (h : m.Ok) (f : StartFindings) : OkAfter (CM.coldRestart (c, m) f) := by
  unfold CM.coldRestart CM.coldStart
  dsimp only
  cases c.unit.restart with
  | none => exact pair_ok _ h
  | some r => cases r <;> first
    | exact pair_ok _ h
    | exact ite_ok (pair_ok _ h) (bringUp_ok _ _ _)

/-! ### Domains, temperatures, scrubs -/

theorem domArrive_ok {m : Mem} (h : m.Ok) (n : Nat) : (m.domArrive n).Ok := by
  unfold Mem.domArrive
  split
  · exact h.clearHalf _
  · split
    · exact h.clearHalf _
    · exact h

theorem roseTo_ok (c : Chip) {m : Mem} (h : m.Ok) (n : Nat) : OkAfter (CM.roseTo (c, m) n) := by
  unfold CM.roseTo CM.riseDone
  exact pair_ok _ (ite_ok (pair_ok _ h) (pair_ok _ (domArrive_ok h n)))

theorem domLost_ok (c : Chip) {m : Mem} (h : m.Ok) (n : Nat) : OkAfter (CM.domLost (c, m) n) := by
  unfold CM.domLost
  exact ite_ok (pair_ok _ h) (ite_ok (pair_ok _ (h.loseGroups _)) (ite_ok (pair_ok _ (h.loseHalf _)) (ite_ok (pair_ok _ (h.loseHalf _))
    (ite_ok (pair_ok _ h) (pair_ok _ h)))))

theorem domainFault_ok (c : Chip) {m : Mem} (h : m.Ok) (n : Nat) : OkAfter (CM.domainFault (c, m) n) := by
  unfold CM.domainFault
  exact ite_ok (pair_ok _ h) (domLost_ok _ h n)

theorem throttleCheck_ok (c : Chip) {m : Mem} (h : m.Ok) : OkAfter (CM.throttleCheck (c, m)) := by
  unfold CM.throttleCheck
  refine ite_ok (pair_ok _ h) (pair_ok _ (?_ : OkAfter _))
  refine ite_ok (Ok.foldlCM (fun c m n hm => ?_) _ _ h) (pair_ok _ h)
  exact ite_ok (domLost_ok _ hm n) (pair_ok _ hm)

theorem sensorRead_ok (c : Chip) {m : Mem} (h : m.Ok) (n : Nat) (t : Option Int) : OkAfter (CM.sensorRead (c, m) n t) := by
  unfold CM.sensorRead
  exact throttleCheck_ok _ h

theorem stackCool_ok (c : Chip) {m : Mem} (h : m.Ok) (i : Nat) : OkAfter (CM.stackCool (c, m) i) := by
  unfold CM.stackCool
  dsimp only
  split
  · exact throttleCheck_ok _ h
  · exact pair_ok _ h

theorem finding_ok (c : Chip) {m : Mem} (h : m.Ok) (x : Finding) : OkAfter (CM.finding (c, m) x) := by
  unfold CM.finding
  cases x <;> dsimp only
  case wordBad w r => exact pair_ok _ (h.spoisonWord _ _)
  case lineBad l r => exact pair_ok _ (h.setPoison _)
  case frameBad cl f w r => exact ite_ok (pair_ok _ h) (pair_ok _ h)
  case macBad mac vlan => cases c.sw.macFind vlan mac <;> exact pair_ok _ h
  case subBad t p k => cases c.sw.subFind t p k <;> exact pair_ok _ h
  case pfxBad v6 a l =>
    generalize List.find? _ _ = o
    cases o <;> exact pair_ok _ h
  case holdBad n => cases c.codec.waiting[n]? <;> exact pair_ok _ h
  all_goals exact pair_ok _ h

theorem sramScrub_ok (c : Chip) {m : Mem} (h : m.Ok) (l : List Finding) : OkAfter (CM.sramScrub (c, m) l) := by
  unfold CM.sramScrub
  exact Ok.foldlCM (fun c _ x hx => finding_ok c hx x) _ _ h

theorem dramPatrol_ok (c : Chip) {m : Mem} (h : m.Ok) (l : List Finding) : OkAfter (CM.dramPatrol (c, m) l) := by
  unfold CM.dramPatrol
  exact Ok.foldlCM (fun c _ x hx => finding_ok c hx x) _ _ h

theorem poisonClearDone_ok (c : Chip) {m : Mem} (h : m.Ok) (fi : Nat) : OkAfter (CM.poisonClearDone (c, m) fi) := by
  unfold CM.poisonClearDone
  dsimp only
  cases c.mctl.marked.find fi with
  | none => exact pair_ok _ h
  | some ls => exact pair_ok _ (Ok.foldl (fun _ l hm => (hm.dwrite l _).cleanLine l) _ _ h)

end Sys2Proof.Machine
end

