-- ==== Sys2Proof/Laws/Lines.lean ====
section
/-!
SUPPORT. What a line can do, said once: it is not executed, or fails a step of R87 and is answered with its code, or acts and is answered.
-/
namespace Sys2Proof.Machine

/-- A command that is a line runs that line on a unit with power. -/
theorem exec_line {s : State} {i : Instr} {h : Hdr} {d : LineDef} (hl : lineOf s i = some (h, d)) (hp : s.u.sup.powered = true) :
    exec i s = .next { s with u := s.u.runDef h d } := by
  cases i <;> simp only [lineOf, Option.some.injEq, Prod.mk.injEq, reduceCtorEq] at hl <;> obtain ⟨rfl, rfl⟩ := hl <;>
    exact if_pos hp

/-- A line that reaches its verb and fails a step of R87 is answered with that step's code; else it acts. -/
theorem runDef_reaches {s : State} {h : Hdr} {d : LineDef} (r : LineReaches s h d) :
    s.u.runDef h d = match d.bad h (s.u.arrived h) with
      | some (code, fs) => (s.u.arrived h).answered h (.err code fs)
      | none => (d.act (s.u.arrived h) d.items).1.answered h (d.act (s.u.arrived h) d.items).2 := by
  obtain ⟨_, ha, hf, hb⟩ := r
  have hnb : ¬((((s.u.lineArrives h.sess).executed h).sess h.sess).bulk.isSome = true ∧ ¬d.v.bulk = true) := by
    unfold Chip.arrived at hb
    rcases hb with hb | hb <;> simp [hb]
  simp only [Chip.runDef, Chip.runLine, ha, Bool.not_true, Bool.false_eq_true, if_false, hf]
  rw [if_neg hnb]
  change (let p := ((s.u.lineArrives h.sess).executed h).runVerb h.sess d.v d.sel d.args d.state d.valid d.act; p.1.answered h p.2) = _
  have hv : ((s.u.lineArrives h.sess).executed h).runVerb h.sess d.v d.sel d.args d.state d.valid d.act
      = match d.bad h (s.u.arrived h) with
        | some (code, fs) => (s.u.arrived h, .err code fs)
        | none => d.act (s.u.arrived h) d.items := rfl
  rw [hv]
  cases d.bad h (s.u.arrived h) <;> rfl

/-- All that a taken line does. -/
theorem exec_taken {s : State} {i : Instr} {h : Hdr} {d : LineDef} (hl : lineOf s i = some (h, d)) (ht : LineTaken s h d) :
    exec i s = .next { s with u := (d.act (s.u.arrived h) d.items).1.answered h (d.act (s.u.arrived h) d.items).2 } := by
  rw [exec_line hl ht.powered, runDef_reaches ht.toLineReaches, ht.good]

/-- All that a line does which fails a step of R87. -/
theorem exec_refused {s : State} {i : Instr} {h : Hdr} {d : LineDef} {code : String} {fs : Fields} (hl : lineOf s i = some (h, d))
    (hr : LineReaches s h d) (hb : d.bad h (s.u.arrived h) = some (code, fs)) :
    exec i s = .next { s with u := (s.u.arrived h).answered h (.err code fs) } := by
  rw [exec_line hl hr.powered, runDef_reaches hr, hb]

/-- An accepted line without an error leaves only its session's response to be given. -/
theorem answered_ok (c : Chip) (h : Hdr) (l : List Fields) : c.answered h (.ok l) = c.respond h.sess (.ok l) := rfl

theorem answered_silent (c : Chip) (h : Hdr) : c.answered h .silent = c := rfl

end Sys2Proof.Machine
end

