-- ==== Sys2Proof/WellFormed.lean ====
section
/-!
DEFINITION. Commands that can reach the unit: every number of an operand lies in the range the spec gives it. What the type of an operand already
bounds needs no check.
-/
namespace Sys2Proof.Machine

/-- The header of a line: one of 16 sessions, a script number of four digits, a check code of 16 bits (R35, R55). -/
def Hdr.wf (h : Hdr) : Bool := decide (h.sess < 16) && decide (h.num.getD 0 < 10000) && decide (h.crc < 65536)

/-- A selector names at least one item, and no range runs backward (R31). -/
def Selector.wf : Selector → Bool
  | .all => true
  | .items l => !l.isEmpty && l.all (fun x => decide (x.1 ≤ x.2))

/-- A character of a line: 0x20 to 0x7E (R28). -/
def Char.printable (c : Char) : Bool := decide (32 ≤ c.toNat ∧ c.toNat ≤ 126)

/-- Addresses of 48 bits, a tag of 3 and 12 bits, sequence numbers of 16 bits (R509, R544). -/
def Frame.wf (f : Frame) : Bool :=
  decide (f.dst < 281474976710656 ∧ f.src < 281474976710656) && (f.vtag.map (fun x => decide (x.1 < 8 ∧ x.2 < 4096))).getD true &&
    decide (f.hsr.getD 0 < 65536) && (f.prp.map (fun x => decide (x.1 < 16 ∧ x.2 < 65536))).getD true

/-- The anchor: 48 bits of seconds, nanoseconds below 10^9, 48 bits below them (Table 15-2). -/
def Anchor.wf (a : Anchor) : Bool := decide (a.sec < 281474976710656 ∧ a.ns < 1000000000 ∧ a.sub < 281474976710656)

/-- A beacon names a unit by its ten characters (Table 12-6). -/
def Beacon.wf (b : Beacon) : Bool := decide (b.serial.length = 10 ∧ b.echoSeq < 65536)

/-- The header octets of a rope frame (Table 12-4). -/
def RopeFrame.wf (f : RopeFrame) : Bool := decide (f.version < 256 ∧ f.typ < 256 ∧ f.seq < 65536 ∧ f.resv < 256)

/-- A finding names parts that the unit has: tiles, structure words, frames, FIs, templates, ports, hitches, DRAM lines. -/
def Finding.wf : Finding → Bool
  | .row _ t => decide (t.getD 0 < 416)
  | .word w _ | .wordBad w _ => decide (w < 8388608)
  | .frameBad cl f w _ => decide (cl < 8 ∧ f < 32768 ∧ w < 32)
  | .entryBad t _ _ => decide (t < 416)
  | .mapBad fi k _ => decide (fi < 1024 ∧ k < 2)
  | .macBad m v => decide (m < 281474976710656 ∧ v < 4096)
  | .subBad _ p _ => decide (p < 18)
  | .pfxBad _ _ n => decide (n ≤ 128)
  | .templBad n => decide (n < 512)
  | .hitchBad h => decide (h < 134217984)
  | .portCounter p => decide (p < 18)
  | .frameLost cl => decide (cl < 8)
  | .line l _ | .lineBad l _ | .unitTag l => decide (l < 536870912)
  | .deepBad fi _ _ => decide (fi < 1024)
  | .holdBad _ | .collector | .cellLost | .deepPageLost | .pageLost | .recordBad _ => true

/-- What a start finds names parts that the unit has. -/
def StartFindings.wf (f : StartFindings) : Bool :=
  f.tiles.all (fun t => decide (t < 416)) && f.groups.all (fun g => decide (g < 64)) && f.ppr.all (fun g => decide (g < 64)) &&
    f.stackMods.all (fun g => decide (g < 4)) && f.badImages.all (fun n => decide (n < 1024)) && f.badBanks.all (fun b => decide (b < 4))

end Sys2Proof.Machine

namespace Sys2Proof

open Machine

/-- A command that can reach the unit. -/
def Instr.wf : Instr → Bool
  | .modeLine h _ _ => h.wf
  | .loginUser h _ => h.wf
  | .loginAnswer h _ => h.wf
  | .loginPresence h _ => h.wf
  | .logoutLine h => h.wf
  | .beginTxn h => h.wf
  | .commitLine h _ => h.wf
  | .commitHitchGranted _ => true
  | .commitWaitTimeout _ => true
  | .commitEdge _ => true
  | .cfgFiApply _ => true
  | .cfgForcedApply _ => true
  | .abortLine h => h.wf
  | .endLoad h _ => h.wf
  | .endCancel h => h.wf
  | .bulkRecord _ _ => true
  | .loadIdleCancel _ => true
  | .emptyLine _ => true
  | .longLine _ _ => true
  | .scriptLineReplay h => h.wf
  | .eraseChar _ => true
  | .eraseLine _ => true
  | .eraseWord _ => true
  | .ctrlC _ => true
  | .historyPrevious _ => true
  | .historyNext _ => true
  | .rejectedControlChar _ => true
  | .overrunReport _ => true
  | .lostReport _ => true
  | .usbDtrAssert => true
  | .usbDetach => true
  | .tlsHandshake _ _ => true
  | .tcpClose _ _ => true
  | .sessionIdleWarning _ => true
  | .sessionIdleTimeout _ => true
  | .loginLockExpiry _ => true
  | .showUnit h _ => h.wf
  | .setUnit h _ => h.wf
  | .addUnit h _ => h.wf
  | .deleteUnit h _ => h.wf
  | .restartUnit h _ => h.wf
  | .showImage h _ => h.wf
  | .loadImage h _ => h.wf
  | .switchImage h _ => h.wf
  | .acceptImageUntested h => h.wf
  | .showLife h _ => h.wf
  | .moveLife h _ _ => h.wf
  | .readReg h _ wins => h.wf && wins.all (fun x => decide (x.getD 0 < 4294967296))
  | .writeReg h _ _ => h.wf
  | .faultInjSelWrite h _ => h.wf
  | .faultInjGoWrite h _ => h.wf
  | .portCageWrWrite h _ _ _ => h.wf
  | .cageWindowRead h _ _ _ => h.wf
  | .showFi h sel _ => h.wf && sel.wf
  | .loadFi h sel _ => h.wf && sel.wf
  | .setFi h sel _ => h.wf && sel.wf
  | .addFi h sel _ => h.wf && sel.wf
  | .deleteFi h sel _ => h.wf && sel.wf
  | .armFi h sel => h.wf && sel.wf
  | .stopFi h sel => h.wf && sel.wf
  | .clearFiPoison h sel => h.wf && sel.wf
  | .clearFiCounts h sel => h.wf && sel.wf
  | .selectFi h sel _ => h.wf && sel.wf
  | .executeFi h sel _ => h.wf && sel.wf
  | .cancelFi h sel _ => h.wf && sel.wf
  | .selectExpiry _ _ _ => true
  | .showTile h sel _ => h.wf && sel.wf
  | .testTile h sel _ => h.wf && sel.wf
  | .showRepair h _ => h.wf
  | .setRepair h _ => h.wf
  | .startRepair h _ => h.wf
  | .showDomain h sel _ => h.wf && sel.wf
  | .setDomain h sel _ => h.wf && sel.wf
  | .showLane h sel _ => h.wf && sel.wf
  | .setLane h sel _ => h.wf && sel.wf
  | .showPort h sel _ => h.wf && sel.wf
  | .setPort h sel _ => h.wf && sel.wf
  | .clearPort h sel => h.wf && sel.wf
  | .addTable h _ => h.wf
  | .deleteTable h _ => h.wf
  | .setTable h _ => h.wf
  | .dumpTable h _ => h.wf
  | .loadTable h _ => h.wf
  | .showSub h sel _ => h.wf && sel.wf
  | .showPub h sel _ => h.wf && sel.wf
  | .addSub h sel _ => h.wf && sel.wf
  | .addPub h sel _ => h.wf && sel.wf
  | .deleteSub h sel _ => h.wf && sel.wf
  | .deletePub h sel _ => h.wf && sel.wf
  | .loadSub h _ => h.wf
  | .loadPub h _ => h.wf
  | .showTime h _ => h.wf
  | .setTime h _ => h.wf
  | .adjustTime h _ => h.wf
  | .adjustAtDue => true
  | .showKeyslot h sel _ => h.wf && sel.wf
  | .loadKeyslot h sel _ => h.wf && sel.wf
  | .revokeKeyslot h sel _ => h.wf && sel.wf
  | .showHitch h sel _ => h.wf && sel.wf
  | .setHitch h _ => h.wf
  | .addHitch h _ => h.wf
  | .deleteHitch h _ => h.wf
  | .takeHitch h sel _ => h.wf && sel.wf
  | .takeHitchTimeout _ => true
  | .releaseHitch h sel => h.wf && sel.wf
  | .showPanel h _ => h.wf
  | .setPanel h _ => h.wf
  | .writePanel h _ => h.wf
  | .showTrip h sel _ => h.wf && sel.wf
  | .setTrip h sel _ => h.wf && sel.wf
  | .testTrip h sel _ => h.wf && sel.wf
  | .testPulseEnd _ => true
  | .showInput h sel _ => h.wf && sel.wf
  | .setInput h sel _ => h.wf && sel.wf
  | .showEvent h sel _ => h.wf && sel.wf
  | .notifyEvent h sel _ => h.wf && sel.wf
  | .showFault h sel _ => h.wf && sel.wf
  | .notifyFault h sel _ => h.wf && sel.wf
  | .setFault h sel _ => h.wf && sel.wf
  | .clearFault h sel => h.wf && sel.wf
  | .showLog h _ => h.wf
  | .reservedVerb h => h.wf
  | .tokenQueued _ => true
  | .tokenSelect _ => true
  | .guardRequeue _ => true
  | .predicateMirrorUpdate _ _ => true
  | .deepSpillWrite _ => true
  | .deepLookupReply _ => true
  | .creditGrant _ _ => true
  | .frameGrant _ => true
  | .memoryReply _ => true
  | .deferralRetry => true
  | .frameWordRelease _ => true
  | .pageInstall _ _ => true
  | .pageRetry _ => true
  | .sharedPageReturn _ => true
  | .pageBackingRewrite _ => true
  | .dstMergeExpiry _ _ => true
  | .purgeSweep _ => true
  | .purgeComplete _ _ => true
  | .timerTick _ => true
  | .periodDoneArrive => true
  | .deadlineOverrun _ => true
  | .sourceLoss _ => true
  | .stallDetect _ _ => true
  | .drainPurge _ => true
  | .drainComplete _ => true
  | .rearmComplete _ => true
  | .twinCompare _ stream => decide (stream < 704)
  | .twinPartnerTimeout _ stream => decide (stream < 704)
  | .hwaitTimeout _ => true
  | .hitchBroken hitch => decide (hitch < 134217984)
  | .hitchRestore hitch => decide (hitch < 134217984)
  | .mov _ => true
  | .steer _ => true
  | .gate _ => true
  | .sink _ => true
  | .kset _ => true
  | .ktest _ => true
  | .tread _ => true
  | .lit _ => true
  | .tqual _ => true
  | .add _ => true
  | .sub _ => true
  | .mul _ => true
  | .mulh _ => true
  | .mulhu _ => true
  | .div _ => true
  | .divu _ => true
  | .rem _ => true
  | .remu _ => true
  | .and _ => true
  | .or _ => true
  | .xor _ => true
  | .andn _ => true
  | .shl _ => true
  | .shr _ => true
  | .sar _ => true
  | .rol _ => true
  | .ror _ => true
  | .min _ => true
  | .max _ => true
  | .minu _ => true
  | .maxu _ => true
  | .neg _ => true
  | .not _ => true
  | .abs _ => true
  | .sext _ => true
  | .zext _ => true
  | .extr _ => true
  | .adds _ => true
  | .subs _ => true
  | .add32 _ => true
  | .sub32 _ => true
  | .mul32 _ => true
  | .qadd _ => true
  | .qsub _ => true
  | .qmul _ => true
  | .qneg _ => true
  | .qabs _ => true
  | .qshl _ => true
  | .qshr _ => true
  | .hadd _ => true
  | .hsub _ => true
  | .hmul _ => true
  | .hneg _ => true
  | .habs _ => true
  | .hshl _ => true
  | .hshr _ => true
  | .q2h _ => true
  | .h2q _ => true
  | .qmul64 _ => true
  | .qrnd _ => true
  | .fadd _ => true
  | .fsub _ => true
  | .fmul _ => true
  | .fdiv _ => true
  | .fsqrt _ => true
  | .fmin _ => true
  | .fmax _ => true
  | .fneg _ => true
  | .fabs _ => true
  | .fmov _ => true
  | .fclt _ => true
  | .fcle _ => true
  | .fceq _ => true
  | .f2i _ => true
  | .i2f _ => true
  | .f2q _ => true
  | .q2f _ => true
  | .f2d _ => true
  | .d2f _ => true
  | .fhypot _ => true
  | .dadd _ => true
  | .dsub _ => true
  | .dmul _ => true
  | .ddiv _ => true
  | .dsqrt _ => true
  | .dmin _ => true
  | .dmax _ => true
  | .dneg _ => true
  | .dabs _ => true
  | .dclt _ => true
  | .dcle _ => true
  | .dceq _ => true
  | .d2i _ => true
  | .i2d _ => true
  | .ceq _ => true
  | .cne _ => true
  | .clt _ => true
  | .cle _ => true
  | .cltu _ => true
  | .cleu _ => true
  | .ctst _ => true
  | .pset _ => true
  | .psetw _ => true
  | .peq _ => true
  | .plt _ => true
  | .pltu _ => true
  | .ptst _ => true
  | .qchk _ => true
  | .sld _ => true
  | .sst _ => true
  | .slde _ => true
  | .sclr _ => true
  | .dld _ => true
  | .dst _ => true
  | .kld _ => true
  | .agen _ => true
  | .crcw _ => true
  | .crcb _ => true
  | .crcf _ => true
  | .par _ => true
  | .brev _ => true
  | .popc _ => true
  | .bswap _ => true
  | .clz _ => true
  | .ctz _ => true
  | .cnew _ => true
  | .cself _ => true
  | .cput _ => true
  | .crel _ => true
  | .pdone _ => true
  | .inext _ => true
  | .iset _ => true
  | .frd _ => true
  | .fwr _ => true
  | .hwr _ => true
  | .hrd _ => true
  | .hwait _ => true
  | .hpark _ => true
  | .hrel _ => true
  | .salloc _ => true
  | .sfree _ => true
  | .trip _ => true
  | .pub _ => true
  | .evt _ => true
  | .chan _ => true
  | .led _ => true
  | .disp _ => true
  | .rope _ => true
  | .reservedOpcode _ _ => true
  | .frameReceive _ frame => frame.wf
  | .frameTransmit _ => true
  | .macLearn => true
  | .stashReturn => true
  | .ageSweep => true
  | .ptpSyncExpiry _ => true
  | .tableEntryRestore => true
  | .codecAuthDone => true
  | .gooseTalExpiry _ => true
  | .publishBuild => true
  | .gooseRetransmit _ => true
  | .engineRequest request _ => (request.map (fun x => decide (x.2.1.getD 0 < 4096))).getD true
  | .engineSegmentEnd _ => true
  | .engineIdleZeroize _ => true
  | .engineTimeout _ => true
  | .laneTrained _ => true
  | .laneTrainTimeout _ => true
  | .laneLoss _ _ => true
  | .laneRetry _ => true
  | .laneStopPhaseEnd _ => true
  | .laneHardwareFail _ => true
  | .mgmtLinkChange _ _ => true
  | .moduleResetRelease _ => true
  | .cageIntlChange _ _ => true
  | .ropeFrameClose => true
  | .ropeFrameReceive _ frame => frame.wf
  | .beaconSend => true
  | .beaconReceive _ _ body => body.wf
  | .ropeLaneSwitch => true
  | .ropeLinkLost => true
  | .ropeFallback _ => true
  | .ropeStandbyDown => true
  | .ext10Loss => true
  | .anchorVoteFault x0 x1 x2 => (x0.map Anchor.wf).getD true && (x1.map Anchor.wf).getD true && (x2.map Anchor.wf).getD true
  | .holdoverEntry => true
  | .undisciplinedEntry => true
  | .steppedExpiry => true
  | .warmupEnd => true
  | .leapDue => true
  | .irigFrame _ _ _ _ => true
  | .ppsEdge => true
  | .timeInputAbsent _ => true
  | .presenceActive => true
  | .presenceEnd => true
  | .keyChange _ _ => true
  | .keyStuck _ => true
  | .touchChange _ _ => true
  | .touchDrift _ => true
  | .touchRecal _ => true
  | .touchFault _ _ => true
  | .presenceInputChange _ _ => true
  | .boardRemove => true
  | .boardReturn => true
  | .binaryInputChange _ _ => true
  | .inputUnblock _ => true
  | .minpulseEnd _ => true
  | .supChange _ _ => true
  | .tripOvercurrent _ => true
  | .tripReadbackFault _ => true
  | .faultRaise raise => (raise.map (fun x => decide (x.1 < 1024 ∧ x.2.2.getD 0 < 1024))).getD true
  | .lockstepMismatch => true
  | .stewardHeartbeat => true
  | .heartbeatLoss => true
  | .stewardWatchdog => true
  | .aliveStop => true
  | .aliveResume => true
  | .aliveMonitorForce => true
  | .aliveInChange _ => true
  | .aliveReadbackFault => true
  | .cairnWrite => true
  | .tailSaveComplete _ => true
  | .powerOn found => found.wf
  | .startEdge => true
  | .warmRestart => true
  | .coldRestart found => found.wf
  | .supplyWarning => true
  | .shutdown => true
  | .supplyRestored ms => decide (0 < ms)
  | .supplyDip ms => decide (0 < ms)
  | .domainRiseDone _ => true
  | .domainFallDone _ => true
  | .domainFault _ => true
  | .domainRetry _ => true
  | .sensorRead _ _ => true
  | .stackCool _ => true
  | .governorRefill => true
  | .sramScrub found => found.all Finding.wf
  | .dramPatrol found => found.all Finding.wf
  | .poisonClearDone _ => true
  | .traverseStep => true
  | .slotSwitch _ _ _ => true
  | .tileTestDone _ _ => true
  | .traverseCompareFail _ => true
  | .dramGroupRetire _ => true
  | .bitLaneSpare _ => true
  | .linkHalfWidth _ _ => true
  | .acceptedCharacter _ ch => Char.printable ch
  | .malformedLine h => h.wf
  | .ropeRecoveryArm _ => true
  | .templateRewrite _ => true
  | .wardenRestart => true
  | .traversePhaseEnd _ => true

end Sys2Proof
end

