-- ==== Sys2Proof/Tests/Slice0.lean ====
section
/-!
SUPPORT. Tests of the model on small states: values of the spec's tables and worked cases, commands that the well-formedness check refuses, and for
each statement with hypotheses a state and operands that meet them.
-/
namespace Sys2Proof.Tests
open Sys2Proof Sys2Proof.Machine

set_option Elab.async false

/-! ## Small states -/

/-- A unit with power and nothing else. -/
def base : Chip := { Chip.reset with sup := { Supply.reset with powered := true } }
def st (c : Chip) : State := { State.reset with u := c }

/-- A graph image of two virtual tiles with one output port of each kind, one constant, and a CRC-8 descriptor. -/
def img : Image :=
  { Image.empty with
    v := 2, pg := [1, 1], kloop := [4], consts := [⟨.data, 5⟩],
    inputs := [{ declared := true, required := false, rope := false, fallback := false, dests := [⟨0, 0, 0, false⟩] }],
    outputs := [⟨.trip, false⟩, ⟨.pub, false⟩, ⟨.event, false⟩, ⟨.chan, false⟩, ⟨.led, false⟩, ⟨.display, false⟩, ⟨.rope, false⟩],
    desc := { smem := 65536, priv := 1, cells := 4, banks := [], hwt := 100, rings := [],
              crcs := [{ used := true, refin := false, refout := false, width := 8, poly := 7, init := 0, xorout := 0 }] } }

/-- The settings of FI 0: P2, its outputs bound. -/
def cfg0 : FiCfg :=
  { FiCfg.init with
    image := some img, cls := 2, tick := some 1000, bw := 100,
    outs := [(0, .trip 3), (1, .pub 7), (2, .event 0), (3, .chan 9), (4, .led 5), (5, .display 1)] }
def copy0 : Copy := { Copy.init with map := [0, 1], credit := 3, standing := some 1 }
/-- FI 0 runs one copy in cluster 0 on tiles 0 and 1. -/
def fi0 : Fi := { Fi.init with st := .running, copies := [copy0] }
def ctx0 : Ctx := { Ctx.init with st := .live, fi := 0, copy := 0, period := some 4 }

/-- The unit with FI 0, one structure granule and one private granule of it, its standing context at frame 1, no unit-wide belay. -/
def chip0 : Chip :=
  { base with
    cfg := { Cfg.reset with fis := [(0, cfg0)], groups := [(1, ⟨[0], 1⟩)], pubs := [(7, PubCfg.init)],
                            etempl := [(0, { ETempl.init with members := [⟨0x20, 0, 0⟩] })] },
    fis := [(0, fi0)],
    belay := { Belay.reset with start := false },
    mctl := { MemCtl.reset with smap := [(0, [0])], pmap := [(0, [23552])] },
    fab := { Fabric.reset with ctxs := [(1, ctx0)] } }
def mem0 : Mem := { Mem.reset with granules := [(0, .fi 0)], pgranules := [(23552, .priv 0)] }

/-- A token of FI 0 in frame 1. -/
def tok (l : Opnd) : Token :=
  { fi := 0, gen := 0, epoch := false, frame := 1, vt := 0, page := 0, off := 0, portR := false, colour := 0, op := l }
def data (n : Nat) : Opnd := ⟨.data, BitVec.ofNat 64 n⟩
def void : Opnd := ⟨.void, 0⟩
def poison : Opnd := ⟨.poison, 65⟩

/-- An instruction word with no second destination: opcode, FORM, AUX. -/
def word (op form aux : Nat) : Word := BitVec.ofNat 64 (op * 2 ^ 56 + form * 2 ^ 48 + aux * 2 ^ 40)
def firing (w : Word) (l r : Opnd) : Firing := { tile := 0, copy := 0, tok := tok l, r := r, word := w, grant := ⟨false, none⟩ }
/-- A unit whose tile 0 has a firing at the head of its pipeline. -/
def pipe (c : Chip) (f : Firing) : Chip := { c with fab := { c.fab with tiles := c.fab.tiles.set 0 { (c.tile 0) with pipe := [f] } } }
def runs (f : Firing) : State := { u := pipe chip0 f, mem := mem0, pending := [] }

def firesB (s : State) (tile : Fin 416) (op : Nat) (f : Firing) : Bool :=
  s.u.sup.powered && decide ((s.u.tile tile).pipe = [f]) && decide (Word.op f.word = op) && wordOk (s.u.image f.tok.fi) f.word

theorem fires_of {s : State} {tile : Fin 416} {op : Nat} {f : Firing} (h : firesB s tile op f = true) : Fires s tile op f [] := by
  simp only [firesB, Bool.and_eq_true, decide_eq_true_eq] at h
  exact ⟨h.1.1.1, h.1.1.2, h.1.2, h.2⟩

/-- The first FORM that an opcode permits. -/
def form (op : Nat) : Nat := (opForms op).headD 0
def opWord (op : Nat) : Word := word op (form op) 0

/-! ## Elvit -/

theorem legal_words : ((List.range 256).all (fun op => (opForms op).isEmpty ||
    (decide (Word.op (opWord op) = op) && wordOk img (opWord op)))) = true := by decide +kernel

/-- Every opcode of Tables 8-6 and 8-7 has a firing at the head of a pipeline, whatever its operands. -/
theorem fires_any (op : Nat) (h : op < 256) (k : opForms op ≠ []) (m : Mem) (l r : Opnd) :
    Fires { runs (firing (opWord op) l r) with mem := m } 0 op (firing (opWord op) l r) [] := by
  have a := List.all_eq_true.1 legal_words op (List.mem_range.2 h)
  rw [Bool.or_eq_true, Bool.and_eq_true, decide_eq_true_eq] at a
  rcases a with a | a
  · simp_all
  · exact ⟨rfl, rfl, a.1, a.2⟩

/-- A request of every memory, hitch and allocate opcode, whatever its data. -/
theorem requests_any (op : Nat) (h : op < 256) (k : opForms op ≠ []) (m : Mem) (n : Nat) (r : Opnd) :
    Requesting { runs (firing (opWord op) (data n) r) with mem := m } 0 op (firing (opWord op) (data n) r) [] :=
  { fires_any op h k m (data n) r with kind := ⟨(fun e => by cases e), (fun e => by cases e)⟩, place := by show 0 < 32; decide, single := rfl }

/-- The two clauses of every compute instruction: data operands, and a VOID or POISON one. -/
theorem witness_Yields : combine (data 3) (some (data 4)) = none ∧ combine (data 3) none = none ∧ combine void (some (data 4)) = some void ∧
    combine (data 3) (some poison) = some poison := by decide

theorem witness_SteerResults : controlKind void = some void ∧ controlKind poison = some poison ∧ controlKind (data 3) = none ∧
    (data 3).data.getLsbD 0 = true ∧ (data 4).data.getLsbD 0 = false ∧
    (List.range 8).map (fun k => (data k).data.toNat % 8) = List.range 8 ∧ void.kind = .void ∧ poison.kind = .poison := by decide

theorem witness_TokenSent : let f := firing (opWord 0) (data 3) (data 4); let s := runs f
    Word.second f.word = none ∧ (Dest.of24 (Word.dest0 f.word)).vt < (s.u.image 0).v ∧ (s.u.copy 0 0).map[0 % 2]? = some 0 ∧
    (s.u.copy 0 0).mapBad.contains 0 = false := by decide

/-- The context in which the instructions of `runs` fire is live, its predicate p0 absent, or present. -/
theorem witness_PredicateWrites : let f := firing (opWord 0x98) (data 3) (data 4); let s := runs f
    (s.u.fired 0 f []).ctxLive f.tok 0 = true ∧ ((s.u.fired 0 f []).ctx 1).preds.find 0 = none ∧
    (let s' := { s with u := { s.u with fab := { s.u.fab with ctxs := [(1, { ctx0 with preds := [(0, true)] })] } } }
     (s'.u.fired 0 f []).ctxLive f.tok 0 = true ∧ ((s'.u.fired 0 f []).ctx 1).preds.find 0 ≠ none) := by decide +kernel

theorem witness_BitResults : combine (data 3) none = none ∧ (img.desc.crcs[Word.aux (opWord 0xC0)]?).isSome = true := by decide

theorem witness_CrcRegister : (data (2 ^ 63)).data.getLsbD 63 = true ∧ (data 3).data.getLsbD 63 = false := by decide

theorem witness_FloatRounding : (1 : Nat) ≠ 0 ∧ (f32.round false (2 ^ 200) 1).fovf = true ∧ (f32.round false 1 3).fovf = false ∧
    (f64.round true 1 3).fovf = false ∧ (f32.unpack 0x7FC00000).isNan = true := by decide +kernel

/-! The contexts of CPUT and CREL, the loops of INEXT, the grant of CNEW. -/

def withCtx (s : State) (k : Nat) (x : Ctx) : State := { s with u := { s.u with fab := { s.u.fab with ctxs := s.u.fab.ctxs.set k x } } }

theorem witness_ContextResults :
    (let f := firing (opWord 0xD2) (data 3) (data 9); let s := runs f; let t := withCtx s 9 { ctx0 with fi := 7 }
     controlKind f.r = none ∧ ((s.u.fired 0 f []).ctx (ctxKey 0 9)).st = .free ∧ ((t.u.fired 0 f []).ctx (ctxKey 0 9)).st ≠ .free ∧
     ((t.u.fired 0 f []).ctx (ctxKey 0 9)).fi ≠ f.tok.fi) ∧
    (let f := firing (opWord 0xD3) (data 3) (data 4); let s := runs f; let t := withCtx s 1 Ctx.init
     (s.u.fired 0 f []).ctxLive f.tok 0 = true ∧ (t.u.fired 0 f []).ctxLive f.tok 0 = false ∧
     ((s.u.fired 0 f []).ctx ((s.u.fired 0 f []).ctxOf f.tok 0)).period = some 4) ∧
    (let f := firing (word 0xD5 1 8) (data 3) (data 4); let s := runs f
     firesB s 0 0xD5 f = true ∧ Word.aux f.word / 8 % 4 = 1 ∧ ((s.u.popped 0 []).ctx 1).loops.get 0 0 < img.kloop.getD 0 0 ∧ f.grant.credit = false ∧
     ((s.u.popped 0 []).copy 0 0).credit ≠ 0 ∧ ((s.u.popped 0 []).fi 0).deepHold = false ∧ (s.u.popped 0 []).fab.creditQ = []) ∧
    (let f := firing (word 0xD5 1 16) (data 3) (data 4); let s := withCtx (runs f) 1 { ctx0 with loops := [(0, 2)] }
     firesB s 0 0xD5 f = true ∧ Word.aux f.word / 8 % 4 = 2 ∧ (s.u.fired 0 f []).ctxLive f.tok 0 = true ∧ ((s.u.fired 0 f []).ctx 1).loops.get 0 0 ≠ 0) ∧
    Word.aux (opWord 0xD5) / 8 % 4 = 0 ∧ Word.aux (opWord 0xD6) / 8 % 4 = 0 ∧
    (let f := { firing (opWord 0xD0) (data 3) (data 4) with grant := ⟨true, some 5⟩ }
     firesB (runs f) 0 0xD0 f = true ∧ f.grant.frame = some 5 ∧ f.tok.op.kind = .data) := by decide +kernel

/-! Loads and stores of FI 0's first structure granule, its private granule and its frame. -/

def memFull : Mem := { mem0 with present := [0, 1] }

theorem witness_LoadResults : let f := firing (opWord 0xA0) (data 0) (data 4); let s := { runs f with mem := memFull }
    CM.splace (s.u, s.mem) 0 (s.u.ea f) true = .word 0 ∧ s.mem.present' 0 = true ∧
    (let f := firing (opWord 0xA2) (data 8) (data 4); let s := { runs f with mem := memFull }
     CM.splace (s.u, s.mem) 0 (s.u.ea f) false = .word 1 ∧ s.mem.present' 1 = true) ∧
    (let f := firing (opWord 0xA4) (data 64) (data 4); let s := { runs f with mem := memFull }
     s.u.dplace 0 (s.u.ea f) = some (1048576 * 23552 + 64)) ∧
    mem0.privOwned 0 (1048576 * 23552 + 64) = true ∧ img.consts[0]? = some (data 5) ∧
    (let f := firing (opWord 0xD7) (data 6) (data 4); let s := withCtx (runs f) 1 { ctx0 with words := [(6, 77)] }
     s.u.ctxLive f.tok 0 = true ∧ (s.u.ctx (s.u.ctxOf f.tok 0)).words.find 6 = some 77 ∧ (s.u.ctx (s.u.ctxOf f.tok 0)).wpoison = []) := by
  decide +kernel

theorem witness_StoreResults :
    (let f := firing (opWord 0xA1) (data 0) (data 4); let s := { runs f with mem := memFull }
     CM.splace (s.u, s.mem) 0 (s.u.ea f) true = .word 0 ∧ f.r.kind ≠ .void ∧ f.r.kind ≠ .poison ∧ s.u.fab.defers = [] ∧ s.mem.wf = true) ∧
    (let f := firing (opWord 0xA3) (data 8) (data 4); let s := { runs f with mem := memFull }
     CM.splace (s.u, s.mem) 0 (s.u.ea f) false = .word 1) ∧
    (let f := firing (opWord 0xA5) (data 64) (data 4); let s := { runs f with mem := memFull }
     s.u.dplace 0 (s.u.ea f) = some (1048576 * 23552 + 64) ∧ f.r.kind = .data ∧ s.u.mergeEntry 0 0 = none ∧
     (let e : MergeEnt := { fi := 0, copy := 0, line := 16384 * 23552 + 1, words := [(0, 4)], last := 0, acks := [(f, 64)] }
      let t : State := { s with u := s.u.fab' (fun g => { g with merges := [e] }) }
      t.u.mergeEntry 0 0 = some e ∧ t.mem.privOwned e.fi (64 * e.line) = true ∧ t.mem.linePoison e.line = none ∧ t.mem.wf = true)) ∧
    (let f := firing (opWord 0xD8) (data 6) (data 4); let s := runs f
     s.u.ctxLive f.tok 0 = true ∧ f.r.kind = .data ∧ s.u.fab.defers = []) := by decide +kernel

def withHitch (s : State) (h : Nat) (x : Hitch) : State := { s with u := { s.u with fab := { s.u.fab with hitches := [(h, x)] } } }

/-- Hitch 16 of group 1, which FI 0 (master 1) may use: free, held by FI 2, held by FI 0, and with FI 0 in its queue; cell 0 free, and held. -/
theorem witness_HitchInstructionResults : let f := firing (opWord 0xE0) (data 16) (data 4); let s := runs f
    s.u.hitchOf f.tok.op.data = some 16 ∧ s.u.hitchRefused 0 16 = false ∧ (s.u.hitch 16).broken = false ∧ (s.u.hitch 16).queue = [] ∧
    (s.u.hitch 16).holder = 0 ∧ ((withHitch s 16 ⟨3, [], false⟩).u.hitch 16).holder = 3 ∧ ((withHitch s 16 ⟨1, [], false⟩).u.hitch 16).holder = 0 + 1 ∧
    ((withHitch s 16 ⟨3, [1], false⟩).u.hitch 16).queue.contains 1 = true ∧
    grantable (s.u.cellMin s.u.portOn 32) (s.u.cellsHeld 32) s.u.cellsFree (s.u.cellsRsv s.u.portOn) = true ∧ s.u.fab.cells.find 0 = none ∧
    (∀ o ∈ [32, 40], let t : State := { s with u := { s.u with fab := { s.u.fab with cells := [(16, ⟨o, []⟩)] } } }
      t.u.fab.cells.find (f.tok.op.data.toNat % 2 ^ 14) = some ⟨o, []⟩) := by decide +kernel

/-- Each output port of FI 0 is bound; the publication of port 1 has a template of one member. -/
theorem witness_OutputResults : (data 3).kind = .data ∧ (chip0.fiCfg 0).twin = false ∧ (chip0.fi 0).st.acts = true ∧
    (chip0.image 0).outputs[(data 4).data.toNat % 64]? = some ⟨.led, false⟩ ∧
    (List.range 6).map (chip0.fiCfg 0).outs.find = [some (.trip 3), some (.pub 7), some (.event 0), some (.chan 9), some (.led 5), some (.display 1)] ∧
    ((chip0.fi 0).evts.get EvtPort.init 0).dropped = 0 ∧ 1000000 ≤ ((chip0.fi 0).evts.get EvtPort.init 0).credit ∧
    (data 5).data.toNat / 256 % 64 < 40 ∧ (data 1).data.getLsbD 16 = false ∧ (data (65536 + 1)).data.getLsbD 16 = true ∧
    (data (65536 + 1)).data.getLsbD 17 = false ∧
    (chip0.pubTempl 7).members[(data 1).data.toNat / 256 % 256]?.isSome = true ∧
    chip0.belayed (.pub 7) = false ∧ ({ chip0 with cfg := { chip0.cfg with fis := [(0, { cfg0 with rope := true })] } } : Chip).links.txQueue = [] := by decide +kernel

theorem witness_ReservedWords : let f := firing 0xF000000000000000 (data 3) (data 4)
    ((runs f).u.tile 0).pipe = [f] ∧ wordOk ((runs f).u.image 0) f.word = false ∧
    wordOk ((runs (firing (opWord 0) (data 3) (data 4))).u.image 0) (opWord 0) = true := by decide +kernel

/-! ## Dataflow -/

def on (c : Chip) : State := { u := c, mem := mem0, pending := [] }
def flight (t : Token) (dst : Nat) : Flight := { src := 416, dst := dst, copy := 0, tok := t, startsPeriod := none, chan := none }
def inNet (x : Flight) : State := on (chip0.fab' (fun f => { f with net := [x] }))
def item (l : Opnd) : QItem := { tok := tok l, copy := 0, partner := none, matched := false, arrival := 0, grant := ⟨false, none⟩ }
def onTile (t : Tile) : Chip := chip0.fab' (fun f => { f with tiles := [(0, t)] })

/-- A reserved kind, a tile of another FI, and a token that is queued. -/
theorem witness_TokenArrives :
    (∀ x ∈ [flight (tok ⟨.rsv5, 0⟩) 0, flight (tok (data 3)) 9, flight (tok (data 3)) 1], x.chan = none ∧ x.startsPeriod = none ∧
      (inNet x).u.fab.fwd.find? (fun m => m.1 == x.tok.fi && m.2.1 == x.copy && m.2.2.1 == x.dst) = none) ∧
    Kind.rsv5.reserved = true ∧ Kind.data.reserved = false ∧
    (let s := inNet (flight (tok (data 3)) 9); (s.u.copy 0 0).map.contains 9 = false) ∧
    (let s := inNet (flight (tok (data 3)) 1)
     (s.u.copy 0 0).map.contains 1 = true ∧ 0 < (s.u.image 0).pg.getD 0 0 ∧ s.u.ctxLive (tok (data 3)) 0 = true ∧ (s.u.tile 1).queued 2 < 256) := by
  decide +kernel

def resident : ResPage := { fi := 0, copy := 0, vt := 0, page := 0, shared := false, lastUse := 0 }
/-- FI 0's page 0 with a word at offset 0, in the image and resident; a token queued in class queue 2 and the predicates of its context. -/
def selects (w : Word) (mirror : Tbl Bool) (t : Token) : State :=
  let c := onTile { Tile.init with q := [(2, [{ item t.op with tok := t }])], pages := [resident] }
  on { c with cfg := { c.cfg with fis := [(0, { cfg0 with image := some { img with code := [[[w]]] } })] },
              fab := { c.fab with ctxs := [(1, { ctx0 with mirror := mirror })] } }

/-- A word with destination 0 alone, FORM 1, and its guard: none, or p2 with polarity 1. -/
def guarded (ge gs : Nat) : Word := word 0 (128 * ge + 64 * gs + 16 + 1) 0
def stale : Token := { tok (data 3) with gen := 1 }
def orphan : Token := { tok (data 3) with frame := 2 }

theorem witness_TokenSelected :
    (∀ t ∈ [tok (data 3), stale, orphan], let s := selects (guarded 0 0) [] t
      (s.u.selectItem 0).map (·.1) = some { item t.op with tok := t }) ∧
    (stale.gen ≠ ((selects (guarded 0 0) [] stale).u.fi 0).gen) ∧
    (let s := selects (guarded 0 0) [] orphan; orphan.gen = (s.u.fi 0).gen ∧ s.u.ctxLive orphan 0 = false) ∧
    (∀ m ∈ [[(2, true)], [(2, false)], []], let t := tok (data 3); let s := selects (guarded 1 1) m t
      t.gen = (s.u.fi 0).gen ∧ s.u.ctxLive t 0 = true ∧ Word.form (s.u.wordOf t) = 1 ∧ Word.ge (s.u.wordOf t) = true ∧ t.portR = false ∧
      Word.gs (s.u.wordOf t) = true ∧ (s.u.ctx (s.u.ctxOf t 0)).mirror.find (Word.gp (s.u.wordOf t)) = Tbl.find m 2 ∧
      (s.u.tile 0).pages.any (fun q => q.fi == t.fi && q.copy == 0 && q.vt == t.vt && q.page == t.page) = true) ∧
    Word.ge (guarded 0 0) = false := by decide +kernel

def entry (typ : EntTyp) (w : WaitFor) (t : Token) : Entry :=
  { id := 4, typ := typ, item := { item t.op with tok := t }, cls := 2, set := 0, wait := w }
def store (w : Word) (x : Ctx) (e : Entry) : Chip :=
  let c := onTile { Tile.init with store := [e] }
  { c with cfg := { c.cfg with fis := [(0, { cfg0 with image := some { img with code := [[[w]]] } })] }, fab := { c.fab with ctxs := [(1, x)] } }
def updating : State := on (chip0.fab' (fun f => { f with ctxs := [(1, { ctx0 with updates := [(2, true, 100), (3, false, 101)] })] }))
def parked : State := on (store (guarded 1 1) { ctx0 with mirror := [(2, true)] } (entry .guard .nothing (tok (data 3))))
def wantsWord : State := on (store (word 0 3 6) { ctx0 with words := [(6, 77)] } (entry .frame (.frameWord 6) (tok (data 3))))
def wantsCredit : State :=
  on ((store (opWord 0) ctx0 (entry .credit .credit (tok (data 3)))).fab' (fun f => { f with creditQ := [(0, 0, 0, 4)] }))
def wantsFrame : State :=
  let c := store (opWord 0xD1) ctx0 (entry .frame .frame (tok (data 3)))
  on { c with cfg := { c.cfg with fis := [(0, { cfg0 with frames := 4, credit := 4 })] }, fab := { c.fab with frames := [(0, { FramePool.init with waiting := [(0, 4)] })] } }
def replying : State := on (chip0.fab' (fun f => { f with replies := [{ firing := firing (opWord 0xA1) (data 0) (data 4), op := none, entry := none }] }))
def readsAt (w : Nat) : Defer := { at? := .sword w, empties := false, fs := [(firing (opWord 0xA0) (data 0) (data 4), 4)], retryAt := some 10 }
def deferring : State := { on (chip0.fab' (fun f => { f with defers := [readsAt 0] })) with mem := memFull }

theorem witness_EntriesWoken :
    (updating.u.ctx (32768 * 0 + 1)).updates = (2, true, 100) :: [(3, false, 101)] ∧
    (let s := parked; (s.u.tile 0).store.find? (fun e => e.typ == .guard &&
      ((s.u.ctx (s.u.ctxOf e.item.tok e.item.copy)).mirror.find (Word.gp (s.u.wordOf e.item.tok))).isSome) = some (entry .guard .nothing (tok (data 3)))) ∧
    (let s := wantsWord; let e := entry .frame (.frameWord 6) (tok (data 3))
     (s.u.tile 0).store = [e] ∧ (s.u.ctx (s.u.ctxOf e.item.tok e.item.copy)).words.find 6 = some 77) ∧
    (let s := wantsCredit; let e := entry .credit .credit (tok (data 3))
     (s.u.copy 0 0).credit ≠ 0 ∧ (s.u.fi 0).deepHold = false ∧ s.u.fab.creditQ.find? (fun r => r.1 == 0 && r.2.1 == 0) = some (0, 0, 0, 4) ∧
     (s.u.tile 0).store.find? (fun e => e.id == 4) = some e ∧ Word.op (s.u.wordOf e.item.tok) ≠ 0xD5 ∧ Word.op (s.u.wordOf e.item.tok) ≠ 0xD0) ∧
    (let s := wantsFrame; let e := entry .frame .frame (tok (data 3))
     (s.u.framePool 0).waiting = [(0, 4)] ∧ (s.u.tile 0).store.find? (fun e => e.id == 4) = some e ∧ (s.u.fi 0).deepHold = false ∧
     s.u.allocFrame 0 0 = some 0) ∧
    replying.u.fab.replies.length = 1 ∧
    (deferring.u.fab.defers.find? (fun d => d.retryAt.isSome) = some (readsAt 0) ∧ deferring.mem.present' 0 = true) := by decide +kernel

def deepReq (look : Bool) : State := on (chip0.fab' (fun f => { f with deeps := [(0, { Deep.init with reqs := [(look, item (data 3), 0)] })] }))
theorem witness_DeepStore :
    ((deepReq false).u.deep 0).reqs = [(false, item (data 3), 0)] ∧ ((deepReq true).u.deep 0).reqs = [(true, item (data 3), 0)] ∧
    ((deepReq true).u.deep 0).home = [] ∧ ((deepReq true).u.deep 0).overflow = [] ∧
    ((deepReq true).u.tile 0).fill.any (fun j => j.arrival == (item (data 3)).arrival) = false := by decide +kernel

def fetch (r : Option Nat) : Fetch := { fi := 0, copy := 0, vt := 0, page := 0, shared := true, retryAt := r, bad := false }
def fetching (r : Option Nat) : State := on (onTile { Tile.init with fetches := [fetch r] })
def sharing : State := on (onTile { Tile.init with pages := [{ resident with shared := true }] })
theorem witness_PageFetches :
    (∀ r ∈ [none, some 500], ((fetching r).u.tile 0).fetches = [fetch r] ∧ ((fetching r).u.tile 0).pageWait = [] ∧ (fetch r).bad = false) ∧
    (fetch none).retryAt = none ∧ (fetch (some 500)).retryAt = some 500 ∧
    (sharing.u.tile 0).pages = [{ resident with shared := true }] ∧ (sharing.u.tile 0).pipe = [] := by decide +kernel

def sweeping : State := on (store (opWord 0) { ctx0 with st := .purging, epoch := true, sweeps := [0, 1] } (entry .operand .nothing (tok (data 3))))
def swept : State := on (chip0.fab' (fun f => { f with ctxs := [(1, { ctx0 with st := .purging, epoch := true })] }))
theorem witness_Purges :
    (sweeping.u.fab.ctxs.filter (fun e => e.2.st == .purging && e.2.sweeps.contains 0)).length = 1 ∧
    (let x := swept.u.ctx (32768 * 0 + 1); x.st = .purging ∧ x.sweeps = [] ∧ x.scan = false ∧ x.live = 0) := by decide +kernel

def withFi (x : Fi) (f : FiCfg) : Chip := { chip0 with fis := [(0, x)], cfg := { chip0.cfg with fis := [(0, f)] } }
def timer0 : FiCfg := { cfg0 with frames := 4, credit := 4, deadline := some 400 }
def open1 : Period :=
  { id := 1, frames := [none], started := true, startAt := 0, stamp := { sec := 0, ns := 0, q := 0 }, deadline := some 400, watched := true, done := [false], overrun := false }

def ticking : State := on { withFi fi0 timer0 with cfg := { chip0.cfg with fis := [(0, timer0)] } }
def ticked : Chip := ((ticking.u.advanceTo 1000).modFi 0 (fun x => { x with ticks := 1 }))
def doneOnWay : State := on (chip0.fab' (fun f => { f with dones := [(0, 0, 1)] }))
def overrunning : State := on (withFi { fi0 with opens := [open1] } { timer0 with cls := 0 })
def svFi : FiCfg := { cfg0 with period := .sv, psrc := some 3 }
def pendingCopy : State := on (chip0.fab' (fun f => { f with ctxs := [(1, { ctx0 with live := 2 })] }))
def drained (k : CtxKind) (rearm : Bool) : State :=
  on ({ withFi { fi0 with st := .draining, rearm := rearm, copies := [{ copy0 with standing := none }] } { cfg0 with outs := [] } with
    fab := { chip0.fab with ctxs := [(1, { ctx0 with kind := k })] } })

theorem witness_InstanceWatches :
    ((ticking.u.fiCfg 0).period = .timer ∧ (ticking.u.fi 0).st.active = true ∧
      (match ticked.takePeriod 0 1 with | .got c => c.tickPort 0 | _ => none) = some 0) ∧
    (doneOnWay.u.fab.dones = [(0, 0, 1)] ∧ (doneOnWay.u.fiCfg 0).cls ≠ 0) ∧
    ((overrunning.u.fi 0).opens = [open1] ∧ open1.onWatch = true ∧ (overrunning.u.fi 0).st.active = true) ∧
    (let s := on (withFi fi0 svFi)
     (s.u.fiCfg 0).psrc = some 3 ∧ (s.u.fiCfg 0).period = .sv ∧ (s.u.fi 0).st = .running ∧ (s.u.fi 0).sourceLost = false) ∧
    (0 < pendingCopy.u.nCopies 0 ∧ pendingCopy.u.pendingTokens 0 0 ≠ 0 ∧ (pendingCopy.u.fi 0).st.active = true) ∧
    (∀ k ∈ [(CtxKind.child, false), (.standing, true)], let s := drained k.1 false
     (s.u.fi 0).st = .draining ∧ (s.u.openCtxs 0).isEmpty = k.2 ∧ (s.u.fi 0).rearm = false ∧ s.u.tripsOf 0 = []) ∧
    (let s := on (withFi { fi0 with st := .stopped, rearm := true } cfg0)
     (s.u.fi 0).rearm = true ∧ (s.u.fi 0).st = .stopped ∧ s.u.targetLive 0 = 0) := by decide +kernel

def twinned (a b : List TwinAct) : State :=
  on ({ withFi { fi0 with copies := [copy0, { copy0 with cluster := 1 }] } { cfg0 with twin := true } with
    fab := { chip0.fab with twins := [{ fi := 0, key := 64, a := a, b := b }] } })
def action (k : Nat) (l : Opnd) : TwinAct := { firing := { firing (opWord 0xA1) l (data 4) with copy := k, tile := k }, at? := 10 }
def waiter : HWaiter := { hitch := 16, fs := [(firing (opWord 0xE2) (data 16) (data 4), none)], until? := some 100 }
def hwaiting : State := on (chip0.fab' (fun f => { f with hwaits := [waiter], hitches := [(16, ⟨3, [1], false⟩)] }))

theorem witness_TwinsAndHitches :
    (∀ l ∈ [data 0, data 8], (twinned [action 0 (data 0)] [action 1 l]).u.fab.twins.find? (fun z => z.fi == 0 && z.key == 64) =
      some { fi := 0, key := 64, a := [action 0 (data 0)], b := [action 1 l] }) ∧
    sameAction (action 0 (data 0)).firing (action 1 (data 8)).firing = false ∧ sameAction (action 0 (data 0)).firing (action 1 (data 0)).firing = true ∧
    (let s := twinned [action 0 (data 0)] []; let x := action 0 (data 0); (s.u.ctx (s.u.ctxOf x.firing.tok x.firing.copy)).deadline = none) ∧
    (hwaiting.u.fab.hwaits = [waiter] ∧ waiter.until? = some 100 ∧ waiter.fs.any (fun f => f.1.tok.fi == 0) = true) ∧
    (hwaiting.u.hitch 16).broken = false ∧ (hwaiting.u.hitch 16).holder ≠ 0 ∧
    ((on (chip0.fab' (fun f => { f with hitches := [(3, ⟨0, [], true⟩)] }))).u.hitch 3).broken = true := by decide +kernel

/-! ## Lines -/

/-- A USB session at SECURE in interactive mode with an open transaction. -/
def seat : Sess := { Sess.init with active := true, level := some 3, txn := true }
def desk (x : Sess) (c : Chip) : State :=
  on { c with unit := { c.unit with started := true }, keys := { c.keys with life := .issued }, trev := { c.trev with sess := [(1, x)] } }
def usb : Hdr := ⟨1, none, 0, []⟩
def seated : State := desk seat chip0
def one (n : Int) : Selector := .items [(n, n)]

def takenB (s : State) (h : Hdr) (d : LineDef) : Bool :=
  s.u.sup.powered && (s.u.sess h.sess).active && ((s.u.lineArrives h.sess).framing h).isNone &&
    (((s.u.arrived h).sess h.sess).bulk.isNone || d.v.bulk) && (d.bad h (s.u.arrived h)).isNone
def taken (s : State) (i : Instr) : Bool := match lineOf s i with | some (h, d) => takenB s h d | none => false

theorem taken_of {s : State} {h : Hdr} {d : LineDef} (k : takenB s h d = true) : LineTaken s h d := by
  simp only [takenB, Bool.and_eq_true, Bool.or_eq_true, Option.isNone_iff_eq_none] at k
  exact { powered := k.1.1.1.1, active := k.1.1.1.2, framed := k.1.1.2, bulk := k.1.2, good := k.2 }

theorem lines_reach {s : State} {h : Hdr} {d : LineDef} (k : LineTaken s h d) : LineReaches s h d := k.toLineReaches

/-- One line of every staging command. -/
def stagings : List Instr :=
  [.setUnit usb [⟨"BAUD", .int 9600⟩], .addUnit usb [⟨"USER", .str ['a']⟩, ⟨"LEVEL", .kw "VIEW"⟩, ⟨"KEYSLOT", .int 4⟩],
   .deleteUnit usb [⟨"USER", .str ['a']⟩], .setFi usb (one 3) [⟨"TILES", .int 2⟩, ⟨"BW", .int 9⟩], .addFi usb (one 3) [⟨"IN", .int 1⟩, ⟨"FROM", .kw "SUB-9"⟩],
   .addFi usb (one 3) [⟨"OUT", .int 1⟩, ⟨"TO", .kw "TRIP-2"⟩], .deleteFi usb (one 3) [], .deleteFi usb (one 3) [⟨"IN", .int 1⟩],
   .setRepair usb [⟨"TRAVERSE", .kw "ON"⟩], .setDomain usb (one 9) [⟨"STATE", .kw "OFF"⟩], .setLane usb (one 3) [⟨"MODE", .kw "OFF"⟩, ⟨"FEC", .kw "RS"⟩],
   .setPort usb (one 3) [⟨"PVID", .int 7⟩],
   .addTable usb [⟨"KIND", .kw "MAC"⟩, ⟨"MAC", .str "02-00-00-00-00-01".toList⟩, ⟨"VLAN", .int 5⟩, ⟨"PORTS", .list [(1, 3)]⟩],
   .deleteTable usb [⟨"KIND", .kw "MAC"⟩, ⟨"MAC", .str "02-00-00-00-00-01".toList⟩, ⟨"VLAN", .int 5⟩],
   .setTable usb [⟨"KIND", .kw "MAC"⟩, ⟨"AGE", .dur 300000000000⟩],
   .addSub usb (one 8) [⟨"TYPE", .kw "RSV"⟩, ⟨"DST", .str "10.0.0.1".toList⟩, ⟨"UDP", .int 102⟩, ⟨"PORTS", .list [(0, 1)]⟩, ⟨"TEMPLATE", .int 4⟩],
   .addPub usb (one 8) [⟨"TYPE", .kw "GOOSE"⟩, ⟨"TEMPLATE", .int 4⟩, ⟨"PORTS", .int 16⟩, ⟨"MIN", .dur 4000000⟩],
   .deleteSub usb .all [], .deletePub usb (one 1) [], .setTime usb [⟨"UTCOFFSET", .int 37⟩], .setHitch usb [⟨"GROUP", .int 2⟩, ⟨"FIS", .list [(1, 2)]⟩],
   .addHitch usb [⟨"REGION", .int 0⟩, ⟨"BASE", .hex 64⟩, ⟨"LENGTH", .int 64⟩], .deleteHitch usb [⟨"REGION", .int 0⟩], .setPanel usb [⟨"DEBOUNCE", .dur 5000000⟩],
   .setTrip usb (one 2) [⟨"MINPULSE", .dur 5000000⟩, ⟨"PLUG", .kw "NONE"⟩], .setInput usb (one 2) [⟨"VNOM", .int 110⟩, ⟨"INVERT", .kw "YES"⟩],
   .setFault usb (one 3) [⟨"CLASS", .kw "DEGRADED"⟩]]

theorem witness_StagingLines : stagings.all (taken seated) = true := by decide +kernel

/-- The conditions of StagingLines on the arguments, on the lines above. -/
theorem witness_StagingLines_arguments :
    Args.has [⟨"IN", .int 1⟩, ⟨"FROM", .kw "SUB-9"⟩] "IN" = true ∧ Args.int? [⟨"IN", .int 1⟩] "IN" = some 1 ∧
    Args.has [⟨"OUT", .int 1⟩, ⟨"TO", .kw "TRIP-2"⟩] "IN" = false ∧ Args.kw? [⟨"KIND", .kw "MAC"⟩] "KIND" = some "MAC" ∧
    Args.int? [⟨"DEBOUNCE", .dur 5000000⟩] "DEBOUNCE" = some 5000000 ∧ Args.get? [⟨"CLASS", .kw "DEGRADED"⟩] "CLASS" = some (.kw "DEGRADED") := by
  decide +kernel

def loads : List Instr :=
  [.loadImage usb [⟨"BANK", .kw "B"⟩, ⟨"KIND", .kw "STEWARD"⟩, ⟨"LENGTH", .int 1⟩], .loadFi usb (one 3) [⟨"LENGTH", .int 67108864⟩],
   .loadTable usb [⟨"KIND", .kw "LPM6"⟩, ⟨"LENGTH", .int 36⟩], .loadSub usb [⟨"TEMPLATE", .int 255⟩, ⟨"LENGTH", .int 4096⟩],
   .loadPub usb [⟨"TEMPLATE", .int 0⟩, ⟨"LENGTH", .int 1⟩],
   .loadKeyslot usb (one 9) [⟨"ALG", .kw "HMAC256"⟩, ⟨"USE", .kw "LOGIN"⟩, ⟨"FI", .kw "ANY"⟩, ⟨"FROM", .time 0 0⟩, ⟨"UNTIL", .time 9 0⟩, ⟨"LENGTH", .int 129⟩]]

theorem witness_LoadLines : loads.all (taken seated) = true := by decide +kernel

def shows : List Instr :=
  [.showUnit usb [], .showImage usb [], .showLife usb [], .showFi usb (one 0) [], .showTile usb (one 415) [], .showRepair usb [], .showDomain usb .all [],
   .showLane usb (one 3) [], .showPort usb (one 17) [], .showSub usb (one 9) [], .showPub usb (one 7) [], .showTime usb [], .showKeyslot usb (one 9) [],
   .showHitch usb (one 16) [], .showPanel usb [], .showTrip usb .all [], .showInput usb .all [], .showEvent usb (one 160) [], .showFault usb (one 3) [],
   .showLog usb [], .dumpTable usb [⟨"KIND", .kw "MAC"⟩]]

def domains (l : List Nat) (c : Chip) : Chip := { c with sup := { c.sup with doms := l.map (fun n => (n, { (c.dom n) with st := .on })) } }
/-- The unit of `seated` with its switch and cage domains on, a subscription, a key slot and a module in cage 3. -/
def slot0 : Slot := { Slot.init with st := .valid, alg := .ecp256, login := true, until? := (9, 0) }
def full : Chip :=
  let c := domains [0, 3, 15, 16] chip0
  { c with cfg := { c.cfg with subs := [(9, SubCfg.init)], users := [⟨['a'], 2, 9⟩] },
           panel := { c.panel with pres := [(10, { (c.pres 10) with active := true })], presence := some 1000 } }
def lit : State := desk seat full
def keyed : State := { lit with u := { lit.u with keys := { lit.u.keys with slots := [(9, slot0)] } } }
theorem witness_ShowLines : shows.all (taken keyed) = true ∧ (keyed.u.arrived usb).domOn 16 = true := by decide +kernel

theorem witness_ShowLines_registers : taken lit (.readReg usb [⟨"ADDR", .hex 0x1C⟩] []) = true ∧
    taken lit (.cageWindowRead usb 3 63 (some 5)) = true ∧ Args.get? [⟨"ADDR", .hex 0x1C⟩] "ADDR" = some (.hex 0x1C) ∧
    Args.has [⟨"ADDR", .hex 0x1C⟩] "COUNT" = false ∧
    ((lit.u.arrived usb).reg 0x1C).any (fun r => r.kind != .win && r.dom.isNone) = true := by decide +kernel

/-! Lines that act: FI 0 ADMITTED, RUNNING and DRAINING, a command point on hitch 16, held by session 1 or by FI 2. -/

def withState (s : State) (st : FiSt) : State := { s with u := s.u.modFi 0 (fun x => { x with st := st }) }
def pointed (holder : Nat) (sels : List Sel) : State :=
  let c := full.fab' (fun f => { f with hitches := [(16, ⟨holder, [], false⟩)] })
  desk { seat with sels := sels } { c with cfg := { c.cfg with fis := [(0, { cfg0 with points := [(4, ⟨16, 10⟩)], ins := [(0, .point 4)] })] } }
def sel4 : Sel := { fi := 0, point := 4, hitch := 16, value := 1, until? := 1000 }
def masterUsb : Nat := masterSess 1

theorem witness_ActionLines :
    (let s := withState seated .admitted; taken s (.armFi usb (one 0)) = true ∧ ((s.u.arrived usb).armRoom 0) = true ∧
      ((s.u.arrived usb).fi 0).st = .admitted ∧ (s.u.arrived usb).targetLive 0 = 0) ∧
    (let s := withState { seated with u := { seated.u with rep := { seated.u.rep with retired := [5] }, cfg := { seated.u.cfg with fis := [(0, { cfg0 with cls := 0, bw := 1024000 })] } } } .stopped
     taken s (.armFi usb (one 0)) = true ∧ (s.u.arrived usb).armRoom 0 = false) ∧
    taken seated (.stopFi usb (one 0)) = true ∧ ((seated.u.arrived usb).fi 0).st.active = true ∧
    taken seated (.clearFiCounts usb (one 0)) = true ∧ taken seated (.clearFiPoison usb (one 0)) = true ∧
    (∀ h ∈ [0, 3], let s := pointed h []; taken s (.selectFi usb (one 0) [⟨"POINT", .int 4⟩, ⟨"VALUE", .kw "CLOSE"⟩]) = true ∧
      (s.u.arrived usb).pointOf 0 4 = some ⟨16, 10⟩ ∧ ((s.u.arrived usb).hitch 16).broken = false ∧ ((s.u.arrived usb).hitch 16).holder = h) ∧
    (let s := pointed masterUsb [sel4]; let c := s.u.arrived usb
     taken s (.executeFi usb (one 0) [⟨"POINT", .int 4⟩]) = true ∧ taken s (.cancelFi usb (one 0) [⟨"POINT", .int 4⟩]) = true ∧
     c.pointBroken 0 4 = false ∧ c.selOf 1 0 4 = some sel4 ∧ c.clk.cycle < sel4.until? ∧ (c.hitch 16).holder = masterSess 1 ∧ (c.hitch 16).queue = [] ∧
     (c.fi 0).st.active = true) ∧
    taken seated (.clearPort usb (one 17)) = true ∧
    (∀ h ∈ [0, 3], let s := pointed h []; taken s (.takeHitch usb (one 16) [⟨"WAIT", .dur 1000000000⟩]) = true ∧
      ((s.u.arrived usb).hitch 16).holder = h ∧ ((s.u.arrived usb).hitch 16).queue = []) ∧
    (∀ h ∈ [masterUsb, 3], let s := pointed h []; taken s (.releaseHitch usb (one 16)) = true ∧ ((s.u.arrived usb).hitch 16).queue = []) ∧
    taken seated (.writePanel usb [⟨"LINE", .int 0⟩, ⟨"TEXT", .str ['O', 'K']⟩]) = true ∧
    (let s := withState seated .stopped; taken s (.testTrip usb (one 3) []) = true ∧ ((s.u.arrived usb).trip 3).drive = .off ∧
      ((s.u.arrived usb).trip 3).latched = false) ∧
    taken seated (.notifyFault usb (one 3) [⟨"STATE", .kw "ON"⟩]) = true ∧ taken seated (.notifyEvent usb (one 160) [⟨"STATE", .kw "ON"⟩]) = true ∧
    taken seated (.notifyEvent usb (one 160) [⟨"STATE", .kw "OFF"⟩]) = true ∧ faultOf 160 = none ∧
    taken seated (.clearFault usb (one 336)) = true ∧ (srcRow 336).isSome = true := by decide +kernel

/-- A private line of FI 0 that CLEAR FI POISON finds. -/
theorem witness_ActionLines_poison : let s : State := { seated with mem := { mem0 with dpoison := [(16384 * 23552, 3)] } }
    taken s (.clearFiPoison usb (one 0)) = true ∧ CM.poisonedLines (s.u.arrived usb, s.mem) 0 ≠ [] := by decide +kernel

/-! ## Sessions -/

def at' (x : Sess) : State := desk x base

/-- Lines at the length limit of the editor. -/
theorem witness_LineEditing_length (n : Nat) :
    let x := (at' { seat with line := List.replicate n 'A' }).u.sess 1; x.tooLong = false ∧ x.waiting = .nothing ∧ x.line.length = n :=
  ⟨rfl, rfl, List.length_replicate⟩

/-- A line of two words with spaces, a history of two lines, and a session that waits. -/
theorem witness_LineEditing :
    (let x := (at' { seat with line := "SET FI ".toList, history := [['A'], ['B']], histAt := 0 }).u.sess 1
     x.active = true ∧ x.script = false ∧ x.line = "SET".toList ++ List.replicate 1 ' ' ++ "FI".toList ++ List.replicate 1 ' ' ∧
     "FI".toList ≠ [] ∧ "FI".toList.all (fun ch => ch != ' ') = true ∧ "SET".toList.getLast? ≠ some ' ' ∧ x.history[x.histAt]? = some ['A']) ∧
    (let x := (at' { seat with history := [['A'], ['B']], histAt := 2 }).u.sess 1; x.histAt = 0 + 2 ∧ x.history[0]? = some ['A']) ∧
    (' '.toNat = 32 ∧ '~'.toNat = 126) := by decide +kernel

/-- A session that waits and holds as much input as it can. -/
theorem witness_LineEditing_waiting :
    let x := (at' { seat with waiting := .commit none 9, inputHeld := 8192 }).u.sess 1; x.waiting ≠ .nothing ∧ 8192 ≤ x.inputHeld :=
  ⟨by decide +kernel, Nat.le_refl 8192⟩

def script : Sess := { seat with script := true, lastNum := some 4, store := [⟨4, crc16 "BEGIN".toList, [.ok]⟩] }
theorem witness_LinesNotExecuted :
    (let x := (at' seat).u.sess 1; x.active = true ∧ x.waiting = .nothing ∧ x.rejected = false) ∧
    ((at' { seat with rejected := true }).u.sess 1).rejected = true ∧
    (let x := (at' { seat with overrun := 3, lost := 1 }).u.sess 1; x.overrun = 2 + 1 ∧ x.lost = 0 + 1 ∧ x.queue.length < 256) ∧
    (let h : Hdr := { usb with text := "FROB".toList }; ((((at' seat).u.lineArrives 1).framing h).isNone = true ∧ lexCode false h.text = some "0108")) ∧
    (let h : Hdr := ⟨1, some 4, crc16 "BEGIN".toList, "BEGIN".toList⟩; let x := (at' script).u.sess 1
     x.active = true ∧ x.script = true ∧ h.crc = crc16 h.text ∧ x.store.find? (fun e => e.num == 4) = some ⟨4, h.crc, [.ok]⟩ ∧ h.text.length + 12 ≤ 1024) := by
  decide +kernel

def tcp (l : List Nat) : State := let s := at' seat; { s with u := { s.u with trev := { s.u.trev with sess := l.map (fun n => (n, seat)) } } }
theorem witness_SessionLife :
    (let s := tcp []; (s.u.sess 1).active = false ∧ s.u.unit.started = true) ∧ ((tcp [1]).u.sess 1).active = true ∧
    ((tcp [2, 3]).u.sess 4).active = false ∧ (∀ m ∈ [2, 3], ((tcp [2, 3]).u.sess m).active = true) ∧
    (∀ m ∈ (List.range 14).map (2 + ·), ((tcp ((List.range 14).map (2 + ·))).u.sess m).active = true) ∧
    ((tcp [15]).u.sess (2 + 13)).active = true ∧ ((tcp [1]).u.sess 1).warned = false ∧
    (tcp [0]).u.unit.open0 = false ∧ (let s := tcp [0]; ({ s with u := { s.u with unit := { s.u.unit with open0 := true } } } : State).u.unit.open0 = true) ∧
    (let s := tcp []; ({ s with u := { s.u with trev := { s.u.trev with locks := [(2, 9)] } } } : State).u.trev.locks.get 0 2 ≠ 0) := by decide +kernel

def bulk0 (d : Bool) : Bulk := { what := .sub 4, length := 9, data := [1, 2], discarding := d, last := 0, level := 2 }
theorem witness_BulkRecords :
    (∀ d ∈ [false, true], ((at' { seat with bulk := some (bulk0 d) }).u.sess 1).bulk = some (bulk0 d)) ∧
    parseRecord (let b := "00000002 0A0B".toList; ':' :: b ++ " *".toList ++ digitsText 16 4 (crc16 b)) = some (2, [10, 11]) ∧
    parseRecord ":nonsense".toList = none ∧
    parseRecord (let b := "00000003 0A0B".toList; ':' :: b ++ " *".toList ++ digitsText 16 4 (crc16 b)) = some (3, [10, 11]) := by decide +kernel

def challenge : Challenge := { num := 0, user := ['a'], level := 2, nonce := [], at? := 0, answered := false }
def challenged (user : List Char) : State :=
  let s := at' { seat with level := some 0, challenge := some { challenge with user := user } }
  { s with u := { s.u with cfg := { s.u.cfg with users := [⟨['a'], 2, 9⟩] }, keys := { s.u.keys with slots := [(9, slot0)] } } }
def answer : Args := [⟨"ANSWER", .str "00000000".toList⟩]
def holding (holder : Nat) (x : Sess) : State := let s := at' x; { s with u := s.u.fab' (fun f => { f with hitches := [(0, ⟨holder, [], false⟩)] }) }
def dtempl : List Byte := []

theorem witness_SessionLines :
    taken (at' seat) (.modeLine usb (some true) []) = true ∧ taken (at' seat) (.modeLine usb none [⟨"ECHO", .kw "OFF"⟩, ⟨"WAIT", .dur 1000000000⟩]) = true ∧
    (let args : Args := [⟨"USER", .str ['a']⟩, ⟨"LEVEL", .kw "SECURE"⟩]
     taken (at' seat) (.loginUser usb args) = true ∧ (at' seat).u.trev.locks.get 0 (carrierOf 1) = 0 ∧ levelArg args ≤ carrierMax 1) ∧
    (let s := challenged ['b']; let c := s.u.arrived usb; let k := { challenge with user := ['b'] }
     taken s (.loginAnswer usb answer) = true ∧ (c.sess 1).challenge = some k ∧ k.answered = false ∧ c.clk.cycle ≤ k.at? + 30000000000 ∧
     (c.modSess 1 (fun x => { x with challenge := some { k with answered := true } })).needsEngine k = false ∧ c.credentialBad 1 k [0, 0, 0, 0] = some "NOUSER") ∧
    (let args : Args := [⟨"LEVEL", .kw "SECURE"⟩]; let s := desk seat full
     taken s (.loginPresence usb args) = true ∧ (s.u.arrived usb).present = true) ∧
    (let h : Hdr := ⟨2, none, 0, []⟩; taken (tcp [2]) (.logoutLine h) = true) ∧ taken (at' seat) (.logoutLine usb) = true ∧
    taken (at' { seat with txn := false }) (.beginTxn usb) = true ∧ taken (at' seat) (.abortLine usb) = true ∧
    (let s := at' seat; let c := s.u.arrived usb
     taken s (.commitLine usb []) = true ∧ (c.hitch 0).broken = false ∧ (c.hitch 0).holder = 0 ∧ (c.hitch 0).queue = [] ∧ c.trev.commit = none ∧
     ((c.modHitch 0 (fun x => { x with holder := masterSess 1 })).validate (c.sess 1).staged).toOption.isSome = true) ∧
    (let s := holding 3 seat; let c := s.u.arrived usb
     taken s (.commitLine usb []) = true ∧ (c.hitch 0).broken = false ∧ (c.hitch 0).holder ≠ 0 ∧ (c.hitch 0).holder ≠ masterSess 1 ∧ (c.hitch 0).queue = []) ∧
    (let s := at' { seat with bulk := some (bulk0 false) }
     taken s (.endLoad usb true) = true ∧ taken s (.endCancel usb) = true ∧ (bulk0 false).data.length ≠ (bulk0 false).length) := by decide +kernel

/-- An answer that the free verification accepts is an account's credential; no statement says which answers those are. -/
theorem witness_SessionLines_answer (h : Config.verifies 1 [] (((challenged ['a']).u.arrived usb).loginMessage 1 challenge) (List.replicate 64 0) = true) :
    ((challenged ['a']).u.arrived usb).credentialBad 1 challenge (List.replicate 64 0) = none := by
  have h1 : ((challenged ['a']).u.arrived usb).cfg.users.find? (fun a => a.user == challenge.user) = some ⟨['a'], 2, 9⟩ := by decide +kernel
  have h2 : ((challenged ['a']).u.arrived usb).slot 9 = slot0 := by decide +kernel
  have h3 : ((challenged ['a']).u.arrived usb).keys.storeBad = false := by decide +kernel
  have h4 : timeLe (0, 0) ((challenged ['a']).u.arrived usb).now = true ∧ timeLe (9, 0) ((challenged ['a']).u.arrived usb).now = false := by decide +kernel
  unfold Chip.credentialBad
  rw [h1]
  simp only [h2, h3, h4, slot0, Slot.init]
  simpa using h

/-- A decode template of one UINT32 item, whole. -/
def templ : List Byte := [1, 1, 1, 0, 18, 192, 1, 1] ++ List.replicate 144 0 ++ [2, 0, 0, 0, 0, 0, 0, 0]
theorem witness_SessionLines_end : let b : Bulk := { bulk0 false with length := 160, data := templ }; let s := at' { seat with bulk := some b }
    taken s (.endLoad usb true) = true ∧ b.data.length = b.length ∧ b.what = .sub 4 ∧ (parseDTempl b.data).toOption.isSome = true := by decide +kernel

/-! ## The unit as a whole -/

def inLife (l : Life) (c : Chip) : State := let s := desk seat c; { s with u := { s.u with keys := { s.u.keys with life := l } } }
def moves (dest : String) : Instr := .moveLife usb [⟨"TO", .kw dest⟩, ⟨"CONFIRM", .str "HXN0000000".toList⟩] true
/-- A VALID graph key and a SECURE account with a VALID login key. -/
def ready : Chip :=
  { full with cfg := { full.cfg with graphKey := some 8, users := [⟨['a'], 3, 9⟩] },
              keys := { full.keys with slots := [(8, { slot0 with graph := true }), (9, slot0)] } }

theorem witness_UnitLines :
    taken (at' seat) (.restartUnit usb [⟨"KIND", .kw "COLD"⟩]) = true ∧ taken (at' seat) (.restartUnit usb []) = true ∧
    (∀ k ∈ ["WARDEN", "STEWARD", "BOTH"], taken (at' seat) (.switchImage usb [⟨"BANK", .kw "B"⟩, ⟨"KIND", .kw k⟩]) = true) ∧
    (let s := at' seat; taken { s with u := { s.u with unit := { s.u.unit with camp := [(.graph, [])] } } } (.acceptImageUntested usb) = true) ∧
    taken (inLife .factory full) (moves "ISSUED") = true ∧ taken (inLife .issued ready) (moves "FIELD") = true ∧
    taken (inLife .field full) (moves "ISSUED") = true ∧ (∀ l ∈ [Life.factory, .issued, .field], taken (inLife l full) (moves "RETURN") = true) ∧
    taken (at' seat) (.writeReg usb [⟨"ADDR", .hex 0x1C⟩, ⟨"VALUE", .hex 0xFFFFFFFF⟩] true) = true ∧
    taken (at' seat) (.faultInjSelWrite usb 0x00030001) = true ∧
    (let s := at' seat; let s : State := { s with u := { s.u with unit := { s.u.unit with latches := [(0, 0x00000003)] } } }
     taken s (.faultInjGoWrite usb 1) = true ∧ (s.u.arrived usb).unit.latches.find 0 = some 3) ∧
    (∀ ack ∈ [true, false], taken lit (.portCageWrWrite usb 3 0xFF01 ack) = true) := by decide +kernel

/-- Tile 415, a spare one, in a domain that is ON, or OFF; a step in cluster 3; the clock; a key slot. -/
theorem witness_UnitLines_rest :
    (let s := desk seat { full with rep := { full.rep with tiles := [(0, { full.tileRep 0 with st := .spare }), (415, { full.tileRep 415 with st := .spare })] } }
     taken s (.testTile usb (one 0) (some 0)) = true ∧ (s.u.arrived usb).domOn (clusterOf 0) = true ∧
     taken s (.testTile usb (one 415) none) = true ∧ (s.u.arrived usb).domOn (clusterOf 415) = false) ∧
    (let c := lit.u.arrived usb
     taken lit (.startRepair usb [⟨"CLUSTER", .int 3⟩]) = true ∧ c.domOn 3 = true ∧ (c.candidateTile 3).any (fun t => (c.slotsOn t).isEmpty) = true) ∧
    taken (at' seat) (.adjustTime usb [⟨"RATE", .int 200000000⟩]) = true ∧ taken (at' seat) (.adjustTime usb [⟨"SET", .time 9 0⟩, ⟨"AT", .time 8 0⟩]) = true ∧
    (∀ b ∈ [true, false], taken keyed (.revokeKeyslot usb (one 9) b) = true) ∧
    takenB (at' seat) usb { reservedDef usb with v := { (reservedDef usb).v with reserved := fun _ => false } } = true := by decide +kernel

theorem witness_UnitLines_scrap : taken (inLife .return full) (moves "SCRAPPED") = true := by decide +kernel

/-! Commits. -/

def commit0 (edge : Option (Nat × Nat)) (fis : List Nat) (applied : Bool) : Commit :=
  { session := 1, number := 1, cfg := base.cfg, touched := [], fiParts := fis, edge := edge, edgeAt := 0, alive := true, place := [], raised := [], applied := applied }
def committing (k : Commit) (fi : Fi) : State := let s := desk seat { base with fis := [(0, fi)] }; { s with u := { s.u with trev := { s.u.trev with commit := some k } } }

theorem witness_CommitFlow :
    (∀ ok ∈ [true, false], let e : Staged := { edits := [if ok then .unit [.baud 9600] else .delUser ['z']], level := 2, extra := [] }
     let s := holding masterUsb { seat with waiting := .commit none 9, staged := [e] }
     let free := s.u.modSess 1 (fun y => { y with waiting := .nothing })
     (s.u.sess 1).waiting = .commit none 9 ∧ (s.u.hitch 0).holder = masterSess 1 ∧ s.u.trev.commit = none ∧
     (free.validate (s.u.sess 1).staged).toOption.isSome = ok ∧ (s.u.hitch 0).queue = []) ∧
    (let s := at' { seat with waiting := .commit none 9 }
     let s : State := { s with u := s.u.fab' (fun f => { f with hitches := [(0, ⟨3, [masterUsb], false⟩)] }) }
     (s.u.sess 1).waiting = .commit none 9 ∧ masterSess 1 ∈ (s.u.hitch 0).queue) ∧
    (let s := committing (commit0 none [] false) Fi.init; s.u.trev.commit = some (commit0 none [] false) ∧ (commit0 none [] false).edge = none ∧
      (commit0 none [] false).fiParts = []) ∧
    (let k := commit0 (some (1, 0)) [0] true; let s := committing k { fi0 with st := .running }
     s.u.trev.commit = some k ∧ k.edge = some (1, 0) ∧ k.fiParts = [0] ∧ (s.u.fi 0).st = .running ∧ k.edgeAt ≤ (s.u.fi 0).lastStart) := by decide +kernel

theorem witness_TimedLines :
    (let s := pointed masterUsb [sel4]; s.u.selOf 1 0 4 = some sel4 ∧ (s.u.hitch 16).holder = masterSess 1 ∧ (s.u.hitch 16).queue = []) ∧
    (∀ a ∈ ([{ rate := some 5, jump := none, at? := some (9, 0) }, { rate := none, jump := some (.set (2 ^ 48 - 1) 0), at? := some (9, 0) }] : List Adjust),
      let s := on { base with clk := { base.clk with pendingAdj := some a } }; s.u.clk.pendingAdj = some a) ∧
    ((at' { seat with waiting := .take 16 5 9 [] [] }).u.sess 1).waiting = .take 16 5 9 [] [] ∧
    ((on { base with panel := { base.panel with trips := [(15, { (base.trip 15) with drive := .test })] } }).u.trip 15).drive = .test := by decide +kernel

/-! ## The network -/

def lane (m : LaneMode) : Lane := { Lane.init with st := .up, run := ⟨m, .auto⟩, los := false }
/-- Ports 0 and 1 UP at one rate, port 16 UP, lanes 14 and 15 UP in ROPE, the switch, the codec and the engine on. -/
def net : Chip :=
  let c := domains [12, 15, 16, 17, 18] chip0
  { c with cfg := { c.cfg with lanes := [(0, ⟨.bx1, .auto⟩), (1, ⟨.bx1, .auto⟩), (14, ⟨.rope, .auto⟩), (15, ⟨.rope, .auto⟩)], subs := [(9, SubCfg.init)] },
           links := { c.links with lanes := [(0, lane .bx1), (1, lane .bx1), (14, lane .rope), (15, lane .rope)], mgmt := [16] } }
def plain : Frame :=
  { dst := 0x020000000099, src := 0x020000000077, vtag := none, hsr := none, prp := none, len := 64, fcs := true, payload := .other 0x0800, raw := [] }
def grouped : Frame := { plain with src := 0x010000000077 }
def withSw (c : Chip) (g : Switch → Switch) : State := on (c.sw' g)
def queued (f : Frame) : EgFrame :=
  { prio := 0, vlan := 1, tagged := false, frame := f, cells := [], ingress := 0, ingressPort := 0, corr := false }
def learning : Learn := { mac := 5, vlan := 1, port := 0 }
def macEnt (static : Bool) : MacEnt := { mac := 5, vlan := 1, static := static, ports := [0], stamp := 0 }

/-- Too short, too long, outside the VLANs of its port, with a bad FCS at both ends of the legal lengths; and a frame with a group source address that is
not learned, to its one egress port with and without a tag. -/
theorem witness_SwitchFrames :
    net.portUp 0 = true ∧ net.portUp 16 = true ∧ (net.portCfg 0).vlans.contains (net.classify 0 plain).1 = true ∧
    (net.portCfg 0).vlans.contains (net.classify 0 { plain with vtag := some (7, 9) }).1 = false ∧ net.subMatch 0 plain = none ∧
    (let c := { net with links := { net.links with mgmt := [] }, cfg := { net.cfg with ports := [(2, { PortCfg.init with vlans := [2] })] } }
     let c := { c with cfg := { c.cfg with ports := ((List.range 18).filter (fun p => 2 ≤ p)).map (fun p => (p, { PortCfg.init with vlans := [2] })) } }
     ∀ f ∈ [grouped, { grouped with len := 1536, vtag := some (7, 0) }],
     c.portUp 0 = true ∧ (c.portCfg 0).vlans.contains (c.classify 0 f).1 = true ∧ (c.portCfg 0).redund = .none ∧ c.subMatch 0 f = none ∧
     isReserved f.dst = false ∧ c.toSteward 0 f = (false, true) ∧ isGroup f.src = true ∧ c.egress 0 1 f = [1] ∧ (c.classify 0 f).1 = 1 ∧
     c.cutsThrough 0 1 (c.classify 0 f).2 = true) ∧
    (let s := withSw net (fun w => { w with queues := [(0, [queued plain])] }); s.u.sw.queues.get [] 0 = [queued plain] ∧ (queued plain).frame.isPtp = false) ∧
    (∀ b ∈ [true, false], let s := withSw net (fun w => { w with learnQ := [learning], half0 := if b then [(macSlot false 1 5, macEnt true)] else [] })
      s.u.sw.learnQ = [learning] ∧ (s.u.sw.macFind 1 5).isSome = b ∧ s.u.learned 0 < (s.u.portCfg 0).learn ∧
      (s.u.sw.half0.find (macSlot false 1 5)).isSome = b) ∧
    (let s := withSw net (fun w => { w with stash := [macEnt false] }); s.u.sw.stash = [macEnt false] ∧ s.u.sw.half0.find (macSlot false 1 5) = none) ∧
    (let x : PtpPend := { domain := 0, seq := 1, spi := 2, corr := 3, at? := 4 }
     let s := withSw net (fun w => { w with syncs := [(17, [x])] }); s.u.sw.syncs.get [] 17 = [x]) := by decide +kernel

/-! The codec: a frame whose tag is checked, a subscription whose time to live ends, a publication to build with and without a tag. -/

def pdu : Pdu := .sv [] []
def msg : Msg := { wellFormed := true, encrypted := false, sim := false, spdu := none, tag := none, pdu := pdu }
def await : AuthWait := { sub := 9, port := 0, mirrored := false, stamp := ⟨0, 0, 0⟩, cycle := 0, msg := msg, raw := [] }
def pubFrame (again : Bool) : PubFrame :=
  { values := [], cell := none, stNum := 1, sqNum := 0, smpCnt := 0, test := false, invalid := false, again := again, interval := 2000000, due := 0 }
def building (a : Auth) (c : Chip) : State :=
  on { c with cfg := { c.cfg with pubs := [(7, { PubCfg.init with auth := a, slot := 9 })] },
              codec := { c.codec with pubs := [(7, { PubSt.init with building := some (pubFrame false), pending := some (pubFrame false) })] },
              keys := { c.keys with slots := [(9, { slot0 with authtag := true, alg := .hmac256 })] } }

theorem witness_CodecEvents :
    (∀ b ∈ [true, false], let s := on (net.keys' (fun k => { k with checked := [(await, b)] }))
      (s.u.cfg.subs.find await.sub).isSome = true ∧ s.u.keys.checked = [(await, b)]) ∧
    (let s := on (net.modSub 4095 (fun x => { x with talEnd := some 77 })); (s.u.sub 4095).talEnd = some 77 ∧ s.u.subBound 4095 = []) ∧
    ((building .none net).u.pubPick = some (7, pubFrame false) ∧ (building .none net).u.domOn 17 = true ∧
     ((building .none net).u.pubCfg 7).auth = .none) ∧
    ((building .none base).u.pubPick = some (7, pubFrame false) ∧ (building .none base).u.domOn 17 = false) ∧
    (let s := building .hmac net; s.u.pubPick = some (7, pubFrame false) ∧ s.u.domOn 17 = true ∧ (s.u.pubCfg 7).auth ≠ .none ∧ s.u.pubSlotOk 7 = true ∧
      s.u.keys.tagQ.length < 64) ∧
    (let s := on (net.modPub 1023 (fun x => { x with dueAt := some 5, interval := 2000000 })); (s.u.pub 1023).dueAt = some 5 ∧
      (s.u.pub 1023).building = none) := by decide +kernel

/-! The engine: idle, serving the codec, serving the steward at both sides of a segment's end, and with a key that was revoked. -/

def engReq (codec : Bool) (op : EngOp) (slot : Option Nat) (left : Nat) : EngReq :=
  { codec := codec, slot := slot, op := op, left := left, resumed := false, arrival := 0, use := .steward }
def engine (k : Keys → Keys) : State := on ((net.keys' (fun x => { x with slots := [(9, slot0)] })).keys' k)

theorem witness_EngineTurns :
    (let s := engine id; s.u.domOn 18 = true ∧ s.u.keys.cur = none ∧ s.u.keys.waiters = [] ∧ s.u.keys.workBad = false ∧ (s.u.slot 9).st = .valid ∧
      (s.u.slot 9).bad = false ∧ s.u.keys.work ≠ some 9) ∧
    (let r := engReq true .gmac (some 9) 64; let s := engine (fun k => { k with cur := some r }); s.u.domOn 18 = true ∧ s.u.keys.cur = some r ∧
      r.codec = true ∧ s.u.keys.waiters = []) ∧
    (∀ n ∈ [2048, 2049], let r := engReq false .sha256 none n; let s := engine (fun k => { k with cur := some r })
      s.u.keys.cur = some r ∧ s.u.keys.waiters = [] ∧ decide (2048 < r.left) = (n == 2049) ∧ r.use = .steward ∧ r.slot = none) ∧
    (let r := engReq false .hmac (some 9) 2048
     let s := engine (fun k => { k with cur := some r, work := some 9, slots := [(9, { slot0 with st := .revoked })] })
     s.u.keys.cur = some r ∧ s.u.keys.waiters = [] ∧ r.left ≤ 2048 ∧ r.op.keyed = true ∧ (s.u.slot 9).st = .revoked) ∧
    (let s := engine (fun k => { k with work := some 9 }); s.u.keys.cur = none ∧ s.u.keys.work = some 9) := by decide +kernel

/-! Lanes in each state; cages; the rope link. -/

def laneIn (x : Lane) : State := on (domains [12, 15, 16] { base with links := { base.links with lanes := [(0, x), (15, x)] } })
def stops (m : LaneMode) : Lane := { lane .bx1 with stopEnd := some 10, next := ⟨m, .auto⟩ }

theorem witness_LaneTransitions : ∀ n ∈ [0, 15],
    (∀ t ∈ [LaneSt.training, .down], let s := laneIn { lane .bx1 with st := t }
      (s.u.lane n).st = t ∧ (s.u.lane n).hwBad = false ∧ (s.u.lane n).latched = none ∧ s.u.domOn (12 + n / 4) = true) ∧
    ((laneIn (lane .bx1)).u.lane n).st = .up ∧
    (∀ m ∈ [LaneMode.off, .bp25], let s := laneIn (stops m)
      (s.u.lane n).stopEnd = some 10 ∧ (s.u.lane n).latched = none ∧ (s.u.dom (12 + n / 4)).latched = none ∧ (s.u.lane n).next.mode = m ∧
      s.u.domOn (12 + n / 4) = true) := by decide +kernel

theorem witness_LaneTransitions_cages :
    net.links.mgmt.contains 16 = true ∧ net.links.mgmt.contains 17 = false ∧
    (let s := on (net.modCage 3 (fun x => { x with ready := some 9 })); (s.u.cage 3).ready = some 9 ∧ (s.u.cage 3).resetOut = false) ∧
    (∀ b ∈ [true, false], let s := on (net.modCage 3 (fun x => { x with intl := !b })); (s.u.cage 3).intl = !b) := by decide +kernel

def ropeTok : RopeTok := { port := 3, tok := tok (data 3) }
def ropeFrame (seq : Nat) : RopeFrame := { version := 1, typ := 1, seq := seq, resv := 0, body := .tokens [] }
def beacon : Beacon :=
  { serial := "HXN0000001".toList, alive := true, basecamp := false, lane15 := true, echoValid := true, tx := (0, 0), txFrac := 0, txq := 0, echoSeq := 0,
    echoRx := (0, 0), echoTx := (0, 0) }
def withLinks (g : Links → Links) : State := on (net.links' g)
def heard (n : Nat) : RopeLane := { RopeLane.init with rxAt := some n, echoValid := true }
/-- FI 0 runs with a rope input. -/
def ropedFi (f : Fi) (fb : Bool) : Chip :=
  { net with cfg := { net.cfg with fis := [(0, { cfg0 with rope := true, fallback := if fb then .loc else .stop })] }, fis := [(0, f)] }

/-- Distances 0, 1, 32,767 and 32,768 of a rope frame's sequence number from the last one, across the wrap. -/
theorem witness_RopeLink :
    (let s := withLinks (fun l => { l with txQueue := [ropeTok] }); s.u.links.txQueue = [ropeTok] ∧ s.u.ropeLaneUp s.u.links.txLane = true ∧
      s.u.links.mirrors = []) ∧
    (∀ q ∈ [65535, 0, 32766, 32767], let s := withLinks (fun l => { l with rxSeq := [(1, 65535)] })
      s.u.ropeLaneUp 14 = true ∧ s.u.ropeLaneUp 15 = true ∧ s.u.links.mirrors = [] ∧ s.u.links.rxSeq.find 1 = some 65535 ∧
      decide (1 ≤ (65536 + (ropeFrame q).seq - 65535) % 65536 ∧ (65536 + (ropeFrame q).seq - 65535) % 65536 ≤ 32767) = (q == 0 || q == 32766)) ∧
    net.roped = true ∧
    (let s := withLinks (fun l => { l with ropeUp := true }); s.u.ropeLaneUp 15 = true ∧ s.u.links.rxSeq.find 3 = none ∧ s.u.links.ropeUp = true) ∧
    (let s := withLinks (fun l => { l with rlanes := [(15, heard 0)] }); s.u.ropeIll s.u.links.txLane = some "NOBEACON" ∧
      s.u.ropeIll (29 - s.u.links.txLane) = none ∧ s.u.links.mirrors = []) ∧
    (∀ b ∈ [true, false], let s := on (ropedFi fi0 b); (s.u.fiCfg 0).rope = true ∧ s.u.links.ropeUp = false ∧ (s.u.fi 0).st.active = true ∧
      (s.u.fi 0).fallenBack = false ∧ (s.u.fiCfg 0).fallback = (if b then .loc else .stop)) ∧
    (let n := 29 - net.links.txLane; (net.ropeIll n).isSome = true ∧ (net.rlane n).downNoted = false) ∧
    (∀ t ∈ [FiSt.draining, .stopped], let s := on { (ropedFi { fi0 with st := t, ropeStopped := true, intent := true } false) with
        links := { net.links with ropeUp := true } }
      s.u.links.ropeUp = true ∧ (s.u.fi 0).ropeStopped = true ∧ (s.u.fi 0).intent = true ∧ (s.u.fi 0).st = t ∧ s.u.targetLive 0 = 0) := by decide +kernel

/-! ## Time, panel, field, faults -/

def withClk (g : Clk → Clk) : State := on { base with clk := g base.clk }
def withTime (g : TimeCfg → TimeCfg) (h : Clk → Clk) : State := on { base with cfg := { base.cfg with time := g base.cfg.time }, clk := h base.clk }
def anchorAt (n : Nat) : Anchor := { Anchor.reset with sec := n }

/-- Every way the three copies of the anchor can stand to each other: all equal, each one the odd one out, and all different. -/
theorem witness_TimeEvents :
    (withClk (fun k => { k with refIn := .ext10 })).u.clk.refIn = .ext10 ∧ base.clk.refIn = .int25 ∧
    (∀ a ∈ [0, 1, 2], ∀ b ∈ [0, 1, 2], ∀ d ∈ [0, 1, 2], (anchorAt a = anchorAt b ∨ anchorAt a = anchorAt d) ∨
      (anchorAt a ≠ anchorAt b ∧ anchorAt b = anchorAt d) ∨ (anchorAt a ≠ anchorAt b ∧ anchorAt a ≠ anchorAt d ∧ anchorAt b ≠ anchorAt d)) ∧
    (∀ d ∈ [Disc.disciplined, .holdover], let s := withClk (fun k => { k with disc := d, lastAdjCycle := some 9 })
      s.u.clk.lastAdjCycle = some 9 ∧ s.u.clk.disc = d) ∧
    (let s := withClk (fun k => { k with lastStep := some 5 }); s.u.clk.lastStep = some 5 ∧ s.u.clk.dueNext = []) ∧ base.clk.unsettled = true ∧
    (∀ l ∈ [Leap.insert, .delete], let s := withTime (fun t => { t with leap := l, leapAt := some (60, 0) }) id
      s.u.cfg.time.leap ≠ .none ∧ s.u.cfg.time.leapAt = some (60, 0)) ∧ base.cfg.time.irig = false ∧ base.cfg.time.pps = false ∧
    (∀ p ∈ [InState.unknown, .present, .absent, .invalid], let s := withTime (fun t => { t with irig := true, pps := true }) (fun k => { k with irig := p, pps := p })
      s.u.cfg.time.irig = true ∧ s.u.cfg.time.pps = true ∧ s.u.clk.irig = p ∧ s.u.clk.pps = p ∧ s.u.clk.ppsSeen = false) ∧
    (∀ n ∈ [899999999, 900000000], let s := withTime (fun t => { t with pps := true }) (fun k => { k with ppsSeen := true, ppsLast := 7, cycle := n + 7 })
      s.u.cfg.time.pps = true ∧ s.u.clk.ppsSeen = true ∧ decide (s.u.clk.cycle < 900000000 + s.u.clk.ppsLast) = (n == 899999999)) := by decide +kernel

/-- The panel's domain on and its board present; keys 62 and 63 and the presence input 6 active. -/
def board (g : Panel → Panel) : State :=
  let c := domains [21] base
  on { c with panel := g { c.panel with pres := [(5, { Pres.init with active := true }), (6, { Pres.init with active := true })],
                                        keys := [(62, { Key.init with raw := true, pressed := true }), (63, { Key.init with raw := true, pressed := true })] } }
def panelAlone : State := on { base with panel := { base.panel with presence := some 50 } }

theorem witness_PanelEvents :
    (let s := board id; s.u.presenceHeld = true ∧ s.u.panel.presHeld = false ∧ s.u.panel.presence = none) ∧
    panelAlone.u.panel.presence = some 50 ∧ panelAlone.u.scanning = false ∧
    (∀ k ∈ [0, 62], let s := board id; s.u.scanning = true ∧ (s.u.key k).stuck = false ∧ (s.u.key k).pressed = (k == 62) ∧ s.u.boundTo (.key k) = []) ∧
    (let s := board (fun p => { p with keys := [(63, { Key.init with stuck := true, pressed := true, raw := true })] })
     s.u.scanning = true ∧ (s.u.key 63).stuck = true) ∧
    (∀ b ∈ [true, false], ∀ t ∈ [true, false], ∀ n ∈ [0, 99, 100, 101], let s := board (fun p => { p with touch := [(7, ⟨n, 100, t, 1, b⟩)] })
      s.u.scanning = true ∧ s.u.boundTo (.touch 7) = [] ∧ (s.u.touch 7).bad = b ∧ (s.u.touch 7).touched = t ∧ (s.u.touchCfg 7).drift = true) := by
  decide +kernel

/-- Presence inputs 6 (supervised) and 15, the board's input 5, and the counts at which a channel of threshold 64 changes. -/
theorem witness_PanelEvents_presence :
    (let s := board id; s.u.domOn 21 = true ∧ (s.u.pres 15).active = false ∧ supervised 6 = true ∧ (s.u.pres 6).fault = false ∧ supervised 15 = false) ∧
    (let s := board (fun p => { p with presence := some 50 }); s.u.domOn 21 = true ∧ (s.u.pres 6).active = true ∧ s.u.panel.presence = some 50) ∧
    (let s := board (fun p => { p with keys := [] })
     s.u.domOn 21 = true ∧ (s.u.pres 5).fault = false ∧ (s.u.pres 5).active = true ∧ s.u.panel.keys = [] ∧ s.u.panel.touch = []) ∧
    (let s := board (fun p => { p with pres := [] }); s.u.domOn 21 = true ∧ (s.u.pres 5).fault = false ∧ (s.u.pres 5).active = false) := by decide +kernel

theorem witness_PanelEvents_keys (k : Nat) : ((board (fun p => { p with keys := [] })).u.key k).pressed = false ∧
    ((board (fun p => { p with keys := [] })).u.touch k).touched = false := ⟨rfl, rfl⟩

/-- Thirty and thirty-one changes inside the last second. -/
def inputs (n : Nat) (blocked : Bool) : State :=
  on { base with panel := { base.panel with inputs := [(15, { BinIn.init with accepted := List.replicate n base.clk.cycle, blocked := blocked })] } }
def tripIn (t : Trip) : State := on { base with panel := { base.panel with trips := [(15, t)] } }

theorem witness_FieldEvents :
    (∀ n ∈ [0, 29, 30], ∀ b ∈ [true, false], let s := inputs n b; let x := s.u.binIn 15
      s.u.boundTo (.input 15) = [] ∧ x.filt = !true ∧ x.blocked = b ∧
      decide (30 < (x.accepted.filter (fun t => decide (s.u.clk.cycle < 1000000000 + t)) ++ [s.u.clk.cycle]).length) = (n == 30)) ∧
    (let s := tripIn { Trip.init with drive := .fi, held := true }; (s.u.trip 15).drive = .fi ∧ (s.u.trip 15).held = true) ∧
    (∀ x ∈ [Sup.ok, .opened], let s := tripIn { Trip.init with sup := x }; (s.u.tripCfg 15).supervise = true ∧ (s.u.trip 15).drive = .off ∧
      (s.u.trip 15).sup = x) ∧
    ((tripIn { Trip.init with drive := .test }).u.trip 15).drive = .test := by decide +kernel

/-! Faults, the alive logic, the cairn. -/

def raise0 (src : Nat) : Raise := { src := src, inst := 0, fi := none, stamp := ⟨1, 2, 3⟩, cycle := 4, arrival := 5, detail := [] }
def rec0 : Rec := { seq := 0, id := 274, inst := 0, stamp := ⟨1, 2, 3⟩, cycle := 4, arrival := 5, detail := [], tail := false, kept := false, cls := none, fi := none }
def alive (on? : Bool) (g : Chip → Chip) : State :=
  on (g { base with alive := { base.alive with toggling := on?, heartbeat := some 0 }, unit := { base.unit with started := true, steward := true },
                    clk := { base.clk with disc := .disciplined } })
def saving : TailSave := { cause := "SUPPLY", from? := 1, to? := 2, began := 0, complete := false, bad := false }

theorem witness_FaultAndCairn :
    (∀ x ∈ [256, 257], (srcRow x).isSome = true ∧ (base.srcClass x = .degraded ∨ base.srcClass x = .corrected) ∧ 62500000 ≤ (base.src x).credit) ∧
    base.coll.queue = [] ∧ (srcRow 384).isSome = true ∧ base.srcClass 384 = .unitFatal ∧ base.boundOutputs = [] ∧
    (let s := on { base with belay := { base.belay with start := false } }; s.u.belay.unit = false ∧ s.u.latched (.trip 15) = false) ∧
    (let s := on { base with coll := { base.coll with inbound := [raise0 256], wardenDown := some 5 } }; s.u.coll.inbound = [raise0 256] ∧
      s.u.srcClass (raise0 256).src = .degraded ∧ s.u.coll.wardenDown = some 5) := by decide +kernel

theorem witness_FaultAndCairn_alive :
    (let s := alive true (fun c => { c with alive := { c.alive with inToggling := true } }); s.u.alive.heartbeat = some 0 ∧ s.u.unit.steward = true ∧
      s.u.alive.heartbeatLost = false ∧ s.u.alive.toggling = true ∧ s.u.alive.inToggling = true ∧ s.u.boundTo .alive = [] ∧ s.u.alive.readbackBad = false) ∧
    (∀ l ∈ [[0, 0], [0, 0, 0]], let s := alive true (fun c => { c with unit := { c.unit with watchdogs := l } })
      decide (3 ≤ (s.u.unit.watchdogs.filter (fun t => decide (max s.u.clk.cycle 2000000000 ≤ 3600000000000 + t))).length) = (l.length == 3)) ∧
    (alive true (fun c => { c with alive := { c.alive with unitFatal := true } })).u.aliveFailing ≠ [] ∧
    (let s := alive false id; s.u.alive.toggling = false ∧ s.u.alive.inToggling = false ∧ s.u.aliveFailing = [] ∧ (s.u.advance 10000000).aliveFailing = []) := by
  decide +kernel

theorem witness_FaultAndCairn_sessions (n : Nat) : ((alive true id).u.sess n).active = false := rfl

theorem witness_FaultAndCairn_cairn :
    (∀ b ∈ [true, false], let c := if b then domains [8, 9, 10, 11] base else base
      let s := on { c with cairn := { c.cairn with held := [rec0] } }
      s.u.cairn.held = [rec0] ∧ s.u.coll.queue = [] ∧ s.u.cairn.lost = 0 ∧ s.u.trev.sess = [] ∧ s.u.cairn.stopped = false ∧ s.u.dramOn = b ∧
      s.u.coll.wardenDown = none ∧ s.u.clk.dueNext = []) ∧
    (∀ b ∈ [true, false], let s := on { base with cairn := { base.cairn with save := some saving }, sup := { base.sup with warning := b } }
      s.u.cairn.save = some saving ∧ saving.complete = false ∧ s.u.sup.warning = b) := by decide +kernel

/-! ## Power and repair -/

def found : StartFindings :=
  { tiles := [], rows := [], macroBad := false, ppr := [], groups := [], stackMods := [], entropyBad := false, cfgBad := false, badImages := [], badBanks := [], ext10 := false }
def restarting (k : StartKind) : State := on { base with unit := { base.unit with restart := some k } }
def edge (camp : List (Camp × Fields)) : State := on { base with unit := { base.unit with edgeDue := true, camp := camp } }
def supplied (w : Bool) : State := on { base with sup := { base.sup with warning := w } }
def domIn (n : Nat) (d : Dom) (l : List Nat) : State :=
  on { base with sup := { base.sup with doms := l.map (fun m => (m, { Dom.init with st := .on })) ++ [(n, d)] } }

theorem witness_PowerEvents :
    State.reset.u.sup.powered = false ∧
    (∀ k ∈ [StartKind.life, .cold], let s := restarting k; s.u.sup.powered = true ∧ s.u.trev.commit = none ∧ s.u.unit.restart = some k ∧
      ∀ i < 22, (s.u.sensor i).st = .normal ∨ (s.u.sensor i).st = .warm) ∧
    (restarting .warm).u.unit.restart = some .warm ∧
    (∀ l ∈ [[], [(Camp.noimage, [])]], let s := edge l; s.u.unit.edgeDue = true ∧ s.u.unit.camp = l ∧ s.u.fis = [] ∧ s.u.boundOutputs = []) ∧
    (let s := supplied false; s.u.sup.warning = false ∧ s.u.srcClass 392 = .degraded ∧ s.u.rep.steps = [] ∧ (s.u.dom 23).st = .off) ∧
    (let s := supplied true; s.u.sup.warning = true ∧ s.u.cairn.save = none) ∧
    (∀ n ∈ [0, 11, 18, 22, 23], let s := domIn n { Dom.init with st := .rising } [8, 9, 10, 11, 20, 15]
      n ∈ [8, 9, 10, 11, 20, 15] ∨ ((s.u.dom n).st = .rising ∧ (s.u.dom n).latched = none ∧ s.u.trev.commit = none)) ∧
    (let s := domIn 11 { Dom.init with st := .rising } []; (s.u.dom 11).st = .rising ∧ (s.u.dom 11).latched = none ∧
      (domUsers 11).all (fun m => (s.u.dom m).latched.isNone) = true) ∧
    (∀ n ∈ [0, 12, 22], let s := domIn n { Dom.init with st := .falling } []; (s.u.dom n).st = .falling ∧ (s.u.dom n).latched = none ∧
      (domNeeds n).all (fun m => (s.u.dom m).latched.isNone) = true) ∧
    (∀ n ∈ [12, 18, 21, 22], ((domIn n { Dom.init with st := .rising } []).u.dom n).st = .rising) ∧
    (∀ n ∈ [0, 12, 22], let s := domIn n { Dom.init with retryAt := some 9 } [8, 9, 10, 11, 20, 16, 15]
      (s.u.dom n).retryAt = some 9 ∧ (s.u.dom n).st = .off ∧ s.u.canRise n = true) := by decide +kernel

/-- A stack's sensor WARM for 10 s below its return level; every other sensor NORMAL. -/
def warmStack : State :=
  on { base with sup := { base.sup with step := 1, sensors := [(19, { Sensor.init with st := .warm, since := [some 7, none, none] })] } }
def governed : State := on { chip0 with cfg := { chip0.cfg with fis := [(0, { cfg0 with cls := 0 })] } }

theorem witness_PowerEvents_sensors :
    (base.fis = [] ∧ base.sup.limitHeld = false ∧ base.sup.step = 0 ∧ (base.sensor 21).bad = false) ∧
    (∀ n < 22, -55 ≤ (thresholds n).getD 0 0 - 1 ∧ (thresholds n).getD 0 0 - 1 ≤ 150 ∧ (thresholds n).getD 1 0 < (thresholds n).getD 2 0 ∧
      (thresholds n).getD 2 0 - 1 ≤ 150) ∧
    (let s := warmStack; s.u.fis = [] ∧ s.u.sup.limitHeld = false ∧ s.u.sup.step = 1 ∧ (s.u.sensor 19).st = .warm ∧
      (s.u.sensor 19).since = some 7 :: [none, none]) ∧
    (let s := governed; s.u.fis = [(0, fi0)] ∧ fi0.copies = [copy0] ∧ fi0.st.acts = true ∧ (s.u.fiCfg 0).cls = 0 ∧
      (s.u.fiCfg 0).booked ≤ s.u.rateCap) := by decide +kernel

theorem witness_PowerEvents_normal (m : Nat) : (base.sensor m).st = .normal ∧ (m ≠ 19 → (warmStack.u.sensor m).st = .normal) := by
  refine ⟨rfl, fun h => ?_⟩
  show (Tbl.get Sensor.init [(19, _)] m).st = .normal
  simp [Tbl.get, h, Sensor.init]

/-! Repair. -/

def move0 (b : Bool) : SlotMove := { fi := 0, copy := 0, periods := 8, switched := b }
def stepIn (p : Phase) (m : List SlotMove) : Machine.Step :=
  { cand := 0, target := some 50, phase := p, since := 5, copied := 6, lastSwitch := 7, slots := m, scheduled := true, accused := none }
def repairing (p : Phase) (m : List SlotMove) : State :=
  let c := domains [0, 23] chip0
  on { c with rep := { c.rep with steps := [(0, stepIn p m)] } }

theorem witness_RepairEvents :
    base.rep.rowErr.find 3 = none ∧
    (let s := on { base with mctl := { base.mctl with marked := [(0, [5, 6])] } }; s.u.mctl.marked.find 0 = some [5, 6]) ∧
    (let s := on (domains [0] base); let cl := s.u.rep.next % 8
     s.u.cfg.traverse = true ∧ s.u.rep.steps = [] ∧ s.u.stepsHeld = false ∧ s.u.domOn cl = true ∧
       (s.u.candidateTile cl).any (fun t => (s.u.slotsOn t).isEmpty) = true) := by decide +kernel

theorem witness_RepairEvents_steps (p : Phase) (b : Bool) : let x := stepIn p [move0 b]; let s := repairing p [move0 b]
    s.u.step' 0 = some x ∧ x.phase = p ∧ x.target = some 50 ∧ move0 b ∈ x.slots ∧ (move0 b).switched = b ∧ 0 < s.u.nCopies 0 ∧ x.accused = none ∧
    s.u.domOn 23 = true ∧ (s.u.tileRep x.cand).suspect = false := by cases p <;> cases b <;> decide +kernel

theorem witness_RepairEvents_links :
    (∀ b ∈ [true, false], let s := on { base with rep := { base.rep with retired := if b then [63] else [], reloc := 2 } }
      s.u.rep.retired.contains 63 = b ∧ s.u.rep.reloc < 3 ∧ s.u.fis = []) ∧
    (∀ n ∈ [1, 2], ∀ b ∈ [true, false], let s := on { base with rep := { base.rep with links := [(4, ⟨n, b, false, []⟩)] } }
      (s.u.repLink 4).spares = n ∧ (s.u.repLink 4).half = b ∧ (s.u.repLink 4).out = false) := by decide +kernel

/-! ## The step and the frames -/

theorem witness_StepRunsFront : ({ on base with pending := [Instr.macLearn] } : State).pending = Instr.macLearn :: [] := rfl
theorem witness_IdleTick : (on base).pending = [] ∧ (on base).u.sup.powered = true ∧ State.reset.pending = [] ∧ State.reset.u.sup.powered = false := by decide

/-- Both ends of the ranges: the last nanosecond of a second, the largest fraction, the extreme rates. -/
theorem witness_AnchorAdvances : ∀ r ∈ [200000000, -200000000, (0 : Int)], ∀ n ∈ [0, 999999999], ∀ f ∈ [0, 2 ^ 48 - 1],
    let s := withClk (fun k => { k with anchor := ⟨2 ^ 48 - 2, n, f, r⟩ })
    s.pending = [] ∧ s.u.sup.powered = true ∧ s.u.clk.dueNext = [] ∧ s.u.clk.anchor.ns < 10 ^ 9 ∧ s.u.clk.anchor.sub < 2 ^ 48 ∧
      s.u.clk.anchor.sec < 2 ^ 48 - 1 ∧ s.u.clk.anchor.rate.natAbs ≤ 200000000 := by decide +kernel

theorem witness_UnpoweredIgnores : State.reset.u.sup.powered = false ∧ ∀ f, Instr.macLearn ≠ .powerOn f := ⟨rfl, fun _ h => by cases h⟩
theorem witness_MemoryKeptCanonical : (on base).Safe ∧ ∃ t, step (on base) = .next t := ⟨show (on base).mem.wf = true by decide +kernel, _, rfl⟩
theorem witness_MemoryFrame : ∃ t, exec (.mov 0) (on base) = .next t := ⟨_, rfl⟩
theorem witness_ComputeFrame : Instr.add ∈ ([.mov, .add, .agen] : List (Fin 416 → Instr)) ∧
    ∃ t, exec (.add 0) (runs (firing (opWord 0x10) (data 3) (data 4))) = .next t := ⟨.tail _ (.head _), _, rfl⟩

theorem witness_LinesAct : taken seated (.setLane usb (one 3) [⟨"MODE", .kw "OFF"⟩]) = true := by decide +kernel

/-- A line reaches its verb and fails a check. -/
def turned (s : State) (i : Instr) : Bool := match lineOf s i with
  | some (h, d) => s.u.sup.powered && (s.u.sess h.sess).active && ((s.u.lineArrives h.sess).framing h).isNone && ((s.u.arrived h).sess h.sess).bulk.isNone &&
      decide ((s.u.sess h.sess).waiting = .nothing) && (d.bad h (s.u.arrived h)).isSome
  | none => false

/-- A session that is not in use; selectors outside the range; a line without its transaction; a reserved verb. -/
theorem witness_LinesRefused : (seated.u.sess 5).active = false ∧ (lineOf seated (.showUnit { usb with sess := 5 } [])).isSome = true ∧
    turned seated (.setFi usb (one 1024) [⟨"TILES", .int 2⟩]) = true ∧ turned (desk { seat with txn := false } chip0) (.setFi usb (one 3) [⟨"TILES", .int 2⟩]) = true ∧
    turned seated (.reservedVerb usb) = true := by decide +kernel

/-! ## Worked cases of the spec -/

/-- 02, worked case: the check code of BEGIN. -/
theorem test_check_code : crc16 "B".toList = 0x8976 ∧ crc16 "BE".toList = 0x6EC0 ∧ crc16 "BEG".toList = 0x754B ∧ crc16 "BEGI".toList = 0xBCDF ∧
    crc16 "BEGIN".toList = 0x105D := by decide +kernel

/-- 08, worked case: QMUL rounding; and the one product outside the range (R355). -/
theorem test_qmul_rounding : (qMul 32 0x00000001 0x40000000).data = 1 ∧ (qMul 32 0xFFFFFFFF 0x40000000).data = 0 ∧
    (qMul 32 0x40000000 0xC0000000).data.setWidth 32 = 0xE0000000#32 ∧
    (let r := qMul 32 0x80000000 0x80000000; r.data.setWidth 32 = 0x7FFFFFFF#32 ∧ r.sat = true) := by decide +kernel

/-- 08, worked case: the fields of F, G and QCHK. -/
theorem test_word_fields : (let w : Word := 0x6981000182410000;
      Word.op w = 0x69 ∧ Word.ge w = true ∧ Word.gs w = false ∧ Word.gp w = 0 ∧ Word.vq w = false ∧ Word.form w = 1 ∧ Word.aux w = 0 ∧
      Dest.of24 (Word.dest0 w) = ⟨3, 0, 288, true⟩ ∧ Word.second w = none) ∧
    (let w : Word := 0x9E02070000000000;
      Word.op w = 0x9E ∧ Word.ge w = false ∧ Word.form w = 2 ∧ Word.aux w = 7 ∧ Word.dest0 w = 0 ∧ Word.dest1 w = 0) ∧
    opForms 0x97 = [] := by decide +kernel

/-- 09, worked case: addresses in FI 301. -/
def desc301 : Desc :=
  { smem := 8192, priv := 64, cells := 0, banks := [0, 0, 0x300], hwt := 0, crcs := [],
    rings := [⟨false, 0, 0⟩, ⟨false, 0, 0⟩, ⟨false, 0, 0⟩, ⟨true, 0, 128⟩, ⟨false, 0, 0⟩, ⟨true, 0x400, 64⟩] }
theorem test_addresses : let d := desc301
    effAddr d 0x22 0x7A18 = some 0x3007A18 ∧ effAddr d 0x43 6400 = some 0 ∧ effAddr d 0x43 6337 = some 0x208 ∧ effAddr d 0x43 (-5) = some 0x3D8 ∧
      effAddr d 0x65 11 = some 0x5A0 := by decide +kernel

/-- 09, worked case: CRC-8 of "OR", and the check values of Table 9-9 over 123456789. -/
theorem test_crc : let d : CrcDesc := { used := true, refin := false, refout := false, width := 8, poly := 7, init := 0, xorout := 0 }
    let e : CrcDesc := { used := true, refin := true, refout := true, width := 32, poly := 0x04C11DB7, init := 0xFFFFFFFF, xorout := 0xFFFFFFFF }
    let overflow (d : CrcDesc) : Word := ("123456789".toList.map (fun c => (BitVec.ofNat 64 c.toNat : Word))).foldl (crcB d) 0x8000000000000000
    crcB d 0x8000000000000000 0x4F = 0xEA ∧ crcB d 0xEA 0x52 = 0x21 ∧ crcF d 0x21 = 0x21 ∧ crcF d (overflow d) = 0xF4 ∧ crcF e (overflow e) = 0xCBF43926 := by
  decide +kernel

/-- 13, worked case: an R-GOOSE route. -/
theorem test_route : let l : List Pfx := [⟨0, 0, 17, 0⟩, ⟨0x0A210000, 16, 16, 0⟩, ⟨0x0A211400, 22, 3, 0x024E11003301⟩]
    (lpm 32 l 0x0A211607).map Pfx.port = some 3 ∧ (lpm 32 l 0x0A211801).map Pfx.port = some 16 ∧ (lpm 32 l 0xC0000209).map Pfx.port = some 17 := by
  decide +kernel

/-- Table 4-3: images whose compatibility sets fit leave no base camp cause; a warden for another stepping, and a steward the warden does not name, do. -/
def compat (kind major : Nat) (s : String) : Compat :=
  { Compat.empty with kind := kind, major := major, steppings := [s.toList], partners := [(1, 2, 0), (2, 4, 0)] }
def shipped (w s : Compat) : Chip :=
  { Chip.reset with unit := { Chip.reset.unit with banks := [(0, ⟨true, true, w⟩), (2, ⟨true, true, s⟩)], runW := some false, runS := some false } }
theorem test_pairings : (shipped (compat 1 2 "C1") (compat 2 4 "C1")).imageCamp.map (·.1) = [] ∧
    (shipped (compat 1 2 "B0") (compat 2 4 "C1")).imageCamp.map (·.1) = [.warden] ∧
    (shipped (compat 1 3 "C1") (compat 2 5 "C1")).imageCamp.map (·.1) = [.steward] := by decide +kernel

/-- The token that one firing of an opcode sends. -/
def result (op : Nat) (l r : Opnd) (i : Instr) : Option Opnd :=
  match exec i (runs (firing (opWord op) l r)) with
  | .next t => t.u.fab.net.head?.map (fun x => x.tok.op)
  | _ => none

/-- R354, R357, R358, R359 by one firing each: a wrap, the least significant bits of a product, a quotient toward zero, a 32-bit sum extended by its sign, the
codes of KTEST. -/
theorem test_results : result 0x10 (data (2 ^ 64 - 1)) (data 2) (.add 0) = some (data 1) ∧ result 0x12 (data (2 ^ 63)) (data 3) (.mul 0) = some (data (2 ^ 63)) ∧
    result 0x15 (data (2 ^ 64 - 7)) (data 2) (.div 0) = some (data (2 ^ 64 - 3)) ∧ result 0x10 (data 1) void (.add 0) = some void ∧
    result 0x05 void (data 0) (.ktest 0) = some (data 1) ∧ result 0x05 poison (data 0) (.ktest 0) = some (data 2) := by decide +kernel

/-! ## Commands that the well-formedness check refuses -/

theorem test_ill_formed_header : Instr.wf (.showUnit ⟨16, none, 0, []⟩ []) = false ∧ Instr.wf (.showUnit ⟨0, some 10000, 0, []⟩ []) = false ∧
    Instr.wf (.showUnit ⟨0, none, 65536, []⟩ []) = false ∧ Instr.wf (.showUnit usb []) = true := by decide
theorem test_ill_formed_selector : Instr.wf (.showFi usb (.items []) []) = false ∧ Instr.wf (.showFi usb (.items [(5, 4)]) []) = false := by decide
theorem test_ill_formed_anchor : Instr.wf (.anchorVoteFault (some ⟨2 ^ 48, 0, 0, 0⟩) none none) = false ∧
    Instr.wf (.anchorVoteFault none (some ⟨0, 10 ^ 9, 0, 0⟩) none) = false ∧ Instr.wf (.anchorVoteFault none none (some ⟨0, 0, 2 ^ 48, 0⟩)) = false := by
  decide +kernel
theorem test_ill_formed_frames : Instr.wf (.frameReceive 0 { plain with dst := 2 ^ 48 }) = false ∧ Instr.wf (.frameReceive 0 { plain with src := 2 ^ 48 }) = false ∧
    Instr.wf (.frameReceive 0 { plain with vtag := some (8, 0) }) = false ∧ Instr.wf (.frameReceive 0 { plain with vtag := some (0, 4096) }) = false ∧
    Instr.wf (.frameReceive 0 { plain with hsr := some 65536 }) = false ∧ Instr.wf (.frameReceive 0 { plain with prp := some (16, 0) }) = false ∧
    Instr.wf (.ropeFrameReceive 0 { ropeFrame 0 with version := 256 }) = false ∧ Instr.wf (.beaconReceive 0 0 { beacon with serial := [] }) = false := by
  decide +kernel
theorem test_ill_formed_findings : Instr.wf (.sramScrub [.row 0 (some 416)]) = false ∧ Instr.wf (.sramScrub [.word 8388608 0]) = false ∧
    Instr.wf (.sramScrub [.frameBad 8 0 0 0]) = false ∧ Instr.wf (.sramScrub [.entryBad 416 0 true]) = false ∧ Instr.wf (.sramScrub [.mapBad 1024 0 0]) = false ∧
    Instr.wf (.sramScrub [.macBad 0 4096]) = false ∧ Instr.wf (.sramScrub [.subBad 0 18 []]) = false ∧ Instr.wf (.sramScrub [.pfxBad true 0 129]) = false ∧
    Instr.wf (.sramScrub [.templBad 512]) = false ∧ Instr.wf (.sramScrub [.hitchBad 134217984]) = false ∧ Instr.wf (.sramScrub [.portCounter 18]) = false ∧
    Instr.wf (.sramScrub [.frameLost 8]) = false ∧ Instr.wf (.dramPatrol [.lineBad 536870912 0]) = false ∧ Instr.wf (.dramPatrol [.deepBad 1024 true 0]) = false := by
  decide +kernel
theorem test_ill_formed_starts : Instr.wf (.powerOn { found with tiles := [416] }) = false ∧ Instr.wf (.powerOn { found with groups := [64] }) = false ∧
    Instr.wf (.powerOn { found with ppr := [64] }) = false ∧ Instr.wf (.powerOn { found with stackMods := [4] }) = false ∧
    Instr.wf (.powerOn { found with badImages := [1024] }) = false ∧ Instr.wf (.powerOn { found with badBanks := [4] }) = false := by decide +kernel
theorem test_ill_formed_others : Instr.wf (.engineRequest (some (.hmac, some 4096, 0)) true) = false ∧ Instr.wf (.twinCompare 0 704) = false ∧
    Instr.wf (.hitchBroken 134217984) = false ∧ Instr.wf (.acceptedCharacter 1 (Char.ofNat 127)) = false ∧
    Instr.wf (.acceptedCharacter 1 (Char.ofNat 31)) = false ∧ Instr.wf (.readReg usb [] [some 4294967296]) = false := by decide +kernel

/-- The table gives its rows no bits. -/
theorem test_no_words : decodeTableWord 0 0 = none ∧ State.reset.withFetchWord 8 0 = State.reset := ⟨rfl, rfl⟩

end Sys2Proof.Tests
end

section
/-!
PROOFS. The compute instructions of chapter 8: the quotients and saturating sums of R358, the fixed-point instructions of R359 and the compare
instructions of R362. Each result function meets its specification in a lemma of its own; `yields_of` carries it to the instruction.
-/
namespace Sys2Proof.Machine

/-! ### Integers in the 64-bit result field -/

theorem toInt_ofI (i : Int) : (ofI i).toInt = i.bmod (2 ^ 64) := BitVec.toInt_ofInt i

/-- The result field holds every integer of the 64-bit signed range as it is. -/
theorem toInt_ofI_of_range {i : Int} (hlo : -(2 ^ 63) ≤ i) (hhi : i < 2 ^ 63) : (ofI i).toInt = i :=
  BitVec.toInt_ofInt_eq_self (by decide) hlo hhi

theorem Res.quiet_pure (w : Word) : (Res.pure w).quiet := rfl

/-! ### Division (R358) -/

/-- The quotient, wrapped into the result field, is the bit-vector library's signed quotient. -/
theorem ofI_tdiv (l r : Word) : ofI (Int.tdiv (i64 l) (i64 r)) = l.sdiv r :=
  BitVec.eq_of_toInt_eq ((toInt_ofI _).trans (BitVec.toInt_sdiv l r).symm)

theorem aDiv_of_ne_zero {l r : Word} (hr : r ≠ 0) : aDiv l r = .pure (l.sdiv r) := by rw [← ofI_tdiv]; exact if_neg hr
theorem aDivu_of_ne_zero {l r : Word} (hr : r ≠ 0) : aDivu l r = .pure (l / r) := by rw [BitVec.udiv_def]; exact if_neg hr
theorem aRem_of_ne_zero {l r : Word} (hr : r ≠ 0) : aRem l r = .pure (ofI (Int.tmod l.toInt r.toInt)) := if_neg hr
theorem aRemu_of_ne_zero {l r : Word} (hr : r ≠ 0) : aRemu l r = .pure (l % r) := by rw [BitVec.umod_def]; exact if_neg hr

/-- The one quotient that lies outside the signed range wraps to -2^63. -/
theorem toInt_sdiv_word (l r : Word) :
    (l.sdiv r).toInt = if l.toInt = -(2 ^ 63) ∧ r.toInt = -1 then -(2 ^ 63) else l.toInt.tdiv r.toInt := by
  split
  next h => rw [BitVec.toInt_sdiv, h.1, h.2]; decide
  next h =>
    refine BitVec.toInt_sdiv_of_ne_or_ne l r (not_and_or.mp fun ⟨hl, hr⟩ => h ⟨?_, ?_⟩)
    · rw [hl]; decide
    · rw [hr]; decide

theorem toInt_ofI_tmod (l r : Word) : (ofI (Int.tmod l.toInt r.toInt)).toInt = l.toInt.tmod r.toInt := by
  rw [← BitVec.toInt_srem]
  exact toInt_ofI_of_range (BitVec.le_toInt _) (BitVec.toInt_lt)

/-! ### Saturation -/

/-- The model's saturation to an n-bit view of the result field is the clamp of R358 and R359. -/
theorem clamped_satI {n : Nat} (h64 : n ≤ 64) (i : Int) : Clamped n i (satI n i) := by
  have hpos : (0 : Int) < 2 ^ (n - 1) := by positivity
  have hmax : (2 : Int) ^ (n - 1) ≤ 2 ^ 63 := pow_le_pow_right₀ (by decide) (by omega)
  unfold satI Clamped
  generalize (2 : Int) ^ (n - 1) = m at hpos hmax ⊢
  split
  case isTrue habove =>
    refine ⟨?_, ?_⟩
    · rw [toInt_ofI_of_range (by omega) (by omega)]; omega
    · rw [decide_eq_true (show i < -m ∨ m ≤ i by omega)]
  case isFalse habove =>
    split
    case isTrue hbelow =>
      refine ⟨?_, ?_⟩
      · rw [toInt_ofI_of_range (by omega) (by omega)]; omega
      · rw [decide_eq_true (show i < -m ∨ m ≤ i by omega)]
    case isFalse hbelow =>
      refine ⟨?_, ?_⟩
      · rw [Res.pure, toInt_ofI_of_range (by omega) (by omega)]; omega
      · rw [decide_eq_false (show ¬(i < -m ∨ m ≤ i) by omega)]; rfl

/-! ### Fixed point (R359) -/

/-- A rounding by a shift of at least one place adds half of the weight it discards. -/
theorem roundShift_succ (i : Int) (n : Nat) : roundShift i (n + 1) = (i + 2 ^ n) / 2 ^ (n + 1) := if_neg n.succ_ne_zero

theorem natAbs_eq_max_neg (i : Int) : (i.natAbs : Int) = max i (-i) := by omega

theorem i16_range (w : Word) : -(2 ^ 15) ≤ i16 w ∧ i16 w < 2 ^ 15 := ⟨BitVec.le_toInt _, BitVec.toInt_lt⟩

/-- A Q15 value widened to Q31 always fits. -/
theorem toInt_h2q (l : Word) : (h2q l).data.toInt = i16 l * 2 ^ 16 := by
  obtain ⟨hlo, hhi⟩ := i16_range l
  exact toInt_ofI_of_range (by omega) (by omega)

/-! ### Compare (R362) -/

theorem bit_eq_ite {b : Bool} {p : Prop} [Decidable p] (h : b = true ↔ p) : bit b = if p then 1 else 0 := if_congr h rfl rfl

theorem bit_eq_ite_not {b : Bool} {p : Prop} [Decidable p] (h : b = true ↔ ¬p) : bit b = if p then 0 else 1 := by
  rw [bit_eq_ite h, ite_not]

/-! ### The obligations -/

/-- Settles O13: the quotients and remainders are the bit-vector library's, and the sums are one clamp. -/
theorem divisionAndSaturation : Obligations.DivisionAndSaturation := by
  refine ⟨yields_of exec_div fun l r => ite_prop_iff_and.mpr ⟨fun hr => if_pos hr, fun hr => ?div⟩,
    yields_of exec_divu fun l r => ite_prop_iff_and.mpr ⟨fun hr => if_pos hr, fun hr => ?divu⟩,
    yields_of exec_rem fun l r => ite_prop_iff_and.mpr ⟨fun hr => if_pos hr, fun hr => ?rem⟩,
    yields_of exec_remu fun l r => ite_prop_iff_and.mpr ⟨fun hr => if_pos hr, fun hr => ?remu⟩,
    yields_of exec_adds fun _ _ => clamped_satI le_rfl _, yields_of exec_subs fun _ _ => clamped_satI le_rfl _⟩
  case div => rw [aDiv_of_ne_zero hr]; exact ⟨toInt_sdiv_word l r, Res.quiet_pure _⟩
  case divu => rw [aDivu_of_ne_zero hr]; exact ⟨BitVec.toNat_udiv, Res.quiet_pure _⟩
  case rem => rw [aRem_of_ne_zero hr]; exact ⟨toInt_ofI_tmod l r, Res.quiet_pure _⟩
  case remu => rw [aRemu_of_ne_zero hr]; exact ⟨BitVec.toNat_umod, Res.quiet_pure _⟩

/-- Settles O14: every fixed-point instruction but H2Q is one saturation of its exact rounded value. -/
theorem fixedPointResults : Obligations.FixedPointResults := by
  have h32 (i : Int) : Clamped 32 i (satI 32 i) := clamped_satI (by decide) i
  have h16 (i : Int) : Clamped 16 i (satI 16 i) := clamped_satI (by decide) i
  refine ⟨yields_of exec_qadd fun _ _ => h32 _, yields_of exec_qsub fun _ _ => h32 _, yields_of exec_qmul fun l r => ?qmul,
    yields_of exec_qneg fun _ _ => h32 _, yields_of exec_qabs fun l _ => ?qabs, yields_of exec_qshl fun _ _ => h32 _,
    yields_of exec_qshr fun _ _ => h32 _, yields_of exec_hadd fun _ _ => h16 _, yields_of exec_hsub fun _ _ => h16 _,
    yields_of exec_hmul fun l r => ?hmul, yields_of exec_hneg fun _ _ => h16 _, yields_of exec_habs fun l _ => ?habs,
    yields_of exec_hshl fun _ _ => h16 _, yields_of exec_hshr fun _ _ => h16 _, yields_of exec_q2h fun l _ => ?q2h,
    yields_of exec_h2q fun l _ => ⟨toInt_h2q l, Res.quiet_pure _⟩, yields_of exec_qmul64 fun _ _ => clamped_satI le_rfl _,
    yields_of exec_qrnd fun l _ => ?qrnd, by decide, by decide⟩
  case qmul => rw [← roundShift_succ (i32 l * i32 r) 30]; exact h32 _
  case hmul => rw [← roundShift_succ (i16 l * i16 r) 14]; exact h16 _
  case qabs => rw [← natAbs_eq_max_neg]; exact h32 _
  case habs => rw [← natAbs_eq_max_neg]; exact h16 _
  case q2h => rw [← roundShift_succ (i32 l) 15]; exact h16 _
  case qrnd => rw [← roundShift_succ l.toInt 31]; exact h32 _

/-- Settles O15: each relation of the model is the relation of the statement, and the seven opcodes have one list of FORMs. -/
theorem compareResults : Obligations.CompareResults := by
  refine ⟨yields_of exec_ceq fun l r => congrArg Res.pure (bit_eq_ite ?ceq), yields_of exec_cne fun l r => congrArg Res.pure (bit_eq_ite_not ?cne),
    yields_of exec_clt fun _ _ => congrArg Res.pure (bit_eq_ite decide_eq_true_iff),
    yields_of exec_cle fun _ _ => congrArg Res.pure (bit_eq_ite decide_eq_true_iff),
    yields_of exec_cltu fun _ _ => congrArg Res.pure (bit_eq_ite decide_eq_true_iff),
    yields_of exec_cleu fun _ _ => congrArg Res.pure (bit_eq_ite decide_eq_true_iff),
    yields_of exec_ctst fun _ _ => congrArg Res.pure (bit_eq_ite_not bne_iff_ne), fun op hlo hhi => ?forms⟩
  case ceq => rw [beq_iff_eq, BitVec.toNat_inj]
  case cne => rw [bne_iff_ne, ne_eq, BitVec.toNat_inj]
  case forms => interval_cases op <;> rfl

end Sys2Proof.Machine
end

section
/-!
PROOFS. The rounding of R360 and R361: an exact value n/d is measured in units of the format's least place, where every finite value of the format is
an integer, and rounding is to the nearest multiple of a power of two.
-/
namespace Sys2Proof.Machine

/-! ### Distances and the rounding quotient -/

/-- The distance of two numbers. -/
def gap (a b : Nat) : Nat := (a - b) + (b - a)

/-- The rounded quotient is the quotient, where the remainder is at most half, or its successor, where it is at least half; at a half it is even. -/
theorem rne_cases (N D : Nat) :
    (rne N D = N / D ∧ 2 * (N % D) ≤ D ∧ (2 * (N % D) = D → rne N D % 2 = 0)) ∨
    (rne N D = N / D + 1 ∧ D ≤ 2 * (N % D) ∧ (2 * (N % D) = D → rne N D % 2 = 0)) := by
  unfold rne
  dsimp only
  split
  · omega
  · split <;> omega

/-- The rounded quotient is a nearest one, and of two nearest the even one. -/
theorem gap_rne (N : Nat) {D : Nat} (hD : 0 < D) (j : Nat) :
    gap (rne N D * D) N < gap (j * D) N ∨ (gap (rne N D * D) N = gap (j * D) N ∧ (rne N D = j ∨ rne N D % 2 = 0)) := by
  have hN : N / D * D + N % D = N := Nat.div_add_mod' N D
  have hr : N % D < D := Nat.mod_lt N hD
  have hstep {i k : Nat} (h : i < k) : i * D + D ≤ k * D := Nat.succ_mul i D ▸ Nat.mul_le_mul_right D h
  unfold gap
  obtain ⟨hq, hhalf, heven⟩ | ⟨hq, hhalf, heven⟩ := rne_cases N D
  · rcases lt_trichotomy j (rne N D) with hj | rfl | hj
    · have := hstep hj; rw [hq] at *; omega
    · exact .inr ⟨rfl, .inl rfl⟩
    · have := hstep hj; rw [hq] at *; omega
  · have hnext : (N / D + 1) * D = N / D * D + D := Nat.succ_mul _ _
    rcases lt_trichotomy j (rne N D) with hj | rfl | hj
    · have := hstep hj; rw [hq] at *; omega
    · exact .inr ⟨rfl, .inl rfl⟩
    · have := hstep hj; rw [hq] at *; omega

theorem rne_mul_right (N D : Nat) {c : Nat} (hc : 0 < c) : rne (N * c) (D * c) = rne N D := by
  unfold rne
  have hlt (a b : Nat) : 2 * (a * c) < b * c ↔ 2 * a < b := by rw [← Nat.mul_assoc]; exact Nat.mul_lt_mul_right hc
  have hgt (a b : Nat) : 2 * (a * c) > b * c ↔ 2 * a > b := by rw [← Nat.mul_assoc]; exact Nat.mul_lt_mul_right hc
  simp only [Nat.mul_div_mul_right N D hc, Nat.mul_mod_mul_right, hlt, hgt]

/-! ### The exponent -/

/-- In whole powers: log2Ratio n d is the exponent of the greatest power of two that is at most n/d. -/
theorem log2Ratio_spec {n d : Nat} (hn : n ≠ 0) (hd : d ≠ 0) {a b : Nat} (hab : (a : Int) - b = log2Ratio n d) :
    d * 2 ^ a ≤ n * 2 ^ b ∧ n * 2 ^ b < d * 2 ^ (a + 1) := by
  -- the estimate from the two logarithms is right or one too high
  have hest {a b : Nat} (h : (a : Int) - b = (n.log2 : Int) - d.log2) : n * 2 ^ b < d * 2 ^ (a + 1) ∧ d * 2 ^ a < n * 2 ^ (b + 1) := by
    have hlo : a + d.log2 = b + n.log2 := by omega
    have h1 : n * 2 ^ b < 2 ^ (n.log2 + 1 + b) := by rw [pow_add]; exact Nat.mul_lt_mul_of_pos_right Nat.lt_log2_self (by positivity)
    have h2 : 2 ^ (d.log2 + (a + 1)) ≤ d * 2 ^ (a + 1) := by rw [pow_add]; exact Nat.mul_le_mul_right _ (Nat.log2_self_le hd)
    have h3 : d * 2 ^ a < 2 ^ (d.log2 + 1 + a) := by rw [pow_add]; exact Nat.mul_lt_mul_of_pos_right Nat.lt_log2_self (by positivity)
    have h4 : 2 ^ (n.log2 + (b + 1)) ≤ n * 2 ^ (b + 1) := by rw [pow_add]; exact Nat.mul_le_mul_right _ (Nat.log2_self_le hn)
    rw [show n.log2 + 1 + b = d.log2 + (a + 1) by omega] at h1
    rw [show d.log2 + 1 + a = n.log2 + (b + 1) by omega] at h3
    exact ⟨h1.trans_le h2, h3.trans_le h4⟩
  -- comparing n/d with a power of two does not depend on how the power is written
  have hscale {a b a' b' : Nat} (h : (a : Int) - b = (a' : Int) - b') : n * 2 ^ b < d * 2 ^ a ↔ n * 2 ^ b' < d * 2 ^ a' := by
    rw [← Nat.mul_lt_mul_right (show 0 < 2 ^ b' by positivity), ← Nat.mul_lt_mul_right (a0 := show 0 < 2 ^ b by positivity) (b := n * 2 ^ b')]
    simp only [Nat.mul_assoc, ← pow_add]
    rw [Nat.add_comm b' b, show a + b' = a' + b by omega]
  set k : Int := (n.log2 : Int) - d.log2 with hk
  have hcond : (if k ≥ 0 then n < d * 2 ^ k.toNat else n * 2 ^ (-k).toNat < d) ↔ n * 2 ^ (-k).toNat < d * 2 ^ k.toNat := by
    split
    next h => rw [show (-k).toNat = 0 by omega, pow_zero, Nat.mul_one]
    next h => rw [show k.toNat = 0 by omega, pow_zero, Nat.mul_one]
  unfold log2Ratio at hab
  simp only [← hk, hcond] at hab
  split at hab
  case isTrue h =>
    have h' := (hscale (a := k.toNat) (b := (-k).toNat) (a' := a + 1) (b' := b) (by push_cast; omega)).mp h
    have h2 := (hest (a := a + 1) (b := b) (by push_cast; omega)).2
    refine ⟨?_, h'⟩
    rw [pow_succ, pow_succ, ← Nat.mul_assoc, ← Nat.mul_assoc] at h2
    exact (Nat.lt_of_mul_lt_mul_right h2).le
  case isFalse h =>
    exact ⟨Nat.le_of_not_lt fun hlt => h ((hscale (by omega)).mpr hlt), (hest hab).1⟩

/-! ### Places of a format: its finite values in units of 2^qmin -/

/-- An exact value n/d, times d, in units of the least place. -/
def FFmt.exact (f : FFmt) (n : Nat) : Nat := n * 2 ^ (-f.qmin).toNat

/-- The place at which n/d is rounded, counted from the least place. -/
def FFmt.place (f : FFmt) (n d : Nat) : Nat := (max (log2Ratio n d - (f.p - 1)) f.qmin - f.qmin).toNat

/-- The rounded quotient of the exact value by its place: the mantissa before a carry. -/
def FFmt.quot (f : FFmt) (n d : Nat) : Nat := rne (f.exact n) (d * 2 ^ f.place n d)

section
variable {f : FFmt} (hp : 2 ≤ f.p) {n d : Nat} (hn : n ≠ 0) (hd : d ≠ 0)
include hp

theorem FFmt.qmin_nonpos : f.qmin ≤ 0 := by unfold FFmt.qmin; omega

omit hp in
theorem FFmt.qmin_add_place : f.qmin + f.place n d = max (log2Ratio n d - (f.p - 1)) f.qmin := by
  unfold FFmt.place; omega

/-- The mantissa that the model takes is the exact value divided by its place and rounded. -/
theorem FFmt.mantissa_eq (qe : Int) (hqe : f.qmin + f.place n d = qe) :
    (if qe ≥ 0 then rne n (d * 2 ^ qe.toNat) else rne (n * 2 ^ (-qe).toNat) d) = f.quot n d := by
  have hq := FFmt.qmin_nonpos hp
  unfold FFmt.quot FFmt.exact
  split
  next h =>
    rw [show f.place n d = qe.toNat + (-f.qmin).toNat by omega, pow_add, ← Nat.mul_assoc, rne_mul_right _ _ (by positivity)]
  next h =>
    rw [show (-f.qmin).toNat = (-qe).toNat + f.place n d by omega, pow_add, ← Nat.mul_assoc, rne_mul_right _ _ (by positivity)]

include hn hd

/-- The exact value lies in the binade of its place, or below it at the least place. -/
theorem FFmt.exact_bounds : f.exact n < 2 ^ f.p * (d * 2 ^ f.place n d) ∧
    (f.place n d = 0 ∨ 2 ^ (f.p - 1) * (d * 2 ^ f.place n d) ≤ f.exact n) := by
  have hq := FFmt.qmin_nonpos hp
  have hs := FFmt.qmin_add_place (f := f) (n := n) (d := d)
  have hswap (a b : Nat) : 2 ^ a * (d * 2 ^ b) = d * 2 ^ (a + b) := by rw [pow_add]; ring
  rw [hswap, hswap]
  unfold FFmt.exact
  by_cases hL : 0 ≤ log2Ratio n d - f.qmin
  · obtain ⟨hlo, hhi⟩ := log2Ratio_spec hn hd (a := (log2Ratio n d - f.qmin).toNat) (b := (-f.qmin).toNat) (by omega)
    refine ⟨hhi.trans_le (Nat.mul_le_mul_left d (Nat.pow_le_pow_right (by decide) (by omega))), ?_⟩
    by_cases h0 : f.place n d = 0
    · exact .inl h0
    · exact .inr (le_trans (Nat.mul_le_mul_left d (Nat.pow_le_pow_right (by decide) (by omega))) hlo)
  · obtain ⟨-, hhi⟩ := log2Ratio_spec hn hd (a := 0) (b := (-log2Ratio n d).toNat) (by omega)
    refine ⟨?_, .inl (by omega)⟩
    calc n * 2 ^ (-f.qmin).toNat ≤ n * 2 ^ (-log2Ratio n d).toNat := Nat.mul_le_mul_left n (Nat.pow_le_pow_right (by decide) (by omega))
      _ < d * 2 ^ (0 + 1) := hhi
      _ ≤ _ := Nat.mul_le_mul_left d (Nat.pow_le_pow_right (by decide) (by omega))

omit hp hn in
theorem FFmt.pos_place : 0 < d * 2 ^ f.place n d := Nat.mul_pos (Nat.pos_of_ne_zero hd) (by positivity)

/-- No value of p bits is nearer than the one rounded to the place, and of two nearest that one's mantissa is even: a value that is no multiple of the
place lies below the binade, and the rounded one is then strictly nearer. -/
theorem FFmt.gap_rounded (m' t : Nat) (hm' : m' < 2 ^ f.p) :
    gap (f.quot n d * 2 ^ f.place n d * d) (f.exact n) < gap (m' * 2 ^ t * d) (f.exact n) ∨
      (gap (f.quot n d * 2 ^ f.place n d * d) (f.exact n) = gap (m' * 2 ^ t * d) (f.exact n) ∧
        (f.quot n d * 2 ^ f.place n d * d = m' * 2 ^ t * d ∨ f.quot n d % 2 = 0)) := by
  obtain ⟨-, hbin⟩ := FFmt.exact_bounds (f := f) hp hn hd
  have hD := FFmt.pos_place (f := f) (n := n) hd
  have hcomm (j : Nat) : j * 2 ^ f.place n d * d = j * (d * 2 ^ f.place n d) := by ring
  have hquot : rne (f.exact n) (d * 2 ^ f.place n d) = f.quot n d := rfl
  have hnear (j : Nat) := hquot ▸ gap_rne (f.exact n) hD j
  by_cases ht : f.place n d ≤ t
  · -- a multiple of the place
    have hmul : m' * 2 ^ t * d = m' * 2 ^ (t - f.place n d) * (d * 2 ^ f.place n d) := by
      rw [← hcomm, Nat.mul_assoc m' (2 ^ (t - _)), ← pow_add, Nat.sub_add_cancel ht]
    rw [hmul, hcomm]
    refine (hnear (m' * 2 ^ (t - f.place n d))).imp_right (And.imp_right (Or.imp_left fun h => ?_))
    rw [← h]
  · -- below the binade
    have hbin := hbin.resolve_left (by omega)
    have hlow : m' * 2 ^ t * d < 2 ^ (f.p - 1) * (d * 2 ^ f.place n d) := by
      rw [← hcomm]
      refine Nat.mul_lt_mul_of_pos_right ?_ (Nat.pos_of_ne_zero hd)
      calc m' * 2 ^ t < 2 ^ f.p * 2 ^ t := Nat.mul_lt_mul_of_pos_right hm' (by positivity)
        _ = 2 ^ (f.p + t) := (pow_add ..).symm
        _ ≤ 2 ^ (f.p - 1 + f.place n d) := Nat.pow_le_pow_right (by decide) (by omega)
        _ = _ := pow_add ..
    have hnear := hnear (2 ^ (f.p - 1))
    left
    rw [hcomm]
    unfold gap at hnear ⊢
    omega

end

/-! ### What a rounding leaves -/

/-- The word of a sign, a mantissa and a place: subnormal where the mantissa lacks its leading bit. -/
def FFmt.pack (f : FFmt) (neg : Bool) (m s : Nat) : Word :=
  if m < 2 ^ (f.p - 1) then BitVec.ofNat 64 (m + f.sgn neg) else BitVec.ofNat 64 ((s + 1) * 2 ^ (f.p - 1) + (m - 2 ^ (f.p - 1)) + f.sgn neg)

/-- The result of a mantissa and a place: the infinity where they lie past the last exponent. -/
def FFmt.finish (f : FFmt) (neg : Bool) (m s : Nat) : Res :=
  if 2 ^ (f.p - 1) ≤ m ∧ 2 * f.emax ≤ s then { data := f.inf neg, fovf := true } else .pure (f.pack neg m s)

/-- A mantissa and a place that stand for the rounded exact value: the mantissa has p bits, and its leading one above the least place; it is even where
the rounded quotient is. -/
structure FFmt.Normal (f : FFmt) (n d m s : Nat) : Prop where
  value : m * 2 ^ s = f.quot n d * 2 ^ f.place n d
  even : f.quot n d % 2 = 0 → m % 2 = 0
  short : m < 2 ^ f.p
  lead : s = 0 ∨ 2 ^ (f.p - 1) ≤ m

/-- The last branches of the model's rounding. -/
theorem FFmt.finish_eq (f : FFmt) (neg : Bool) (m s : Nat) (qe : Int) (hqe : f.qmin + s = qe) :
    (if m < 2 ^ (f.p - 1) then Res.pure (BitVec.ofNat 64 (m + f.sgn neg))
      else if (qe - f.qmin + 1).toNat > 2 * f.emax then { data := f.inf neg, fovf := true }
      else .pure (BitVec.ofNat 64 ((qe - f.qmin + 1).toNat * 2 ^ (f.p - 1) + (m - 2 ^ (f.p - 1)) + f.sgn neg))) = f.finish neg m s := by
  rw [show (qe - f.qmin + 1).toNat = s + 1 by omega]
  unfold FFmt.finish FFmt.pack
  by_cases hm : m < 2 ^ (f.p - 1)
  · rw [if_pos hm, if_pos hm, if_neg (by omega)]
  · by_cases hs : 2 * f.emax ≤ s
    · rw [if_neg hm, if_pos (by omega), if_pos (by omega)]
    · rw [if_neg hm, if_neg (by omega), if_neg (by omega), if_neg hm]

section
variable {f : FFmt} (hp : 2 ≤ f.p) {n d : Nat} (hn : n ≠ 0) (hd : d ≠ 0)
include hp hn hd

theorem FFmt.rounded_range : f.quot n d ≤ 2 ^ f.p ∧
    (f.place n d = 0 ∨ 2 ^ (f.p - 1) ≤ f.quot n d) := by
  obtain ⟨hhi, hlo⟩ := FFmt.exact_bounds (f := f) hp hn hd
  have hD := FFmt.pos_place (f := f) (n := n) hd
  have h1 := (Nat.div_lt_iff_lt_mul hD).mpr hhi
  have h2 (h : 2 ^ (f.p - 1) * (d * 2 ^ f.place n d) ≤ f.exact n) := (Nat.le_div_iff_mul_le hD).mpr h
  obtain ⟨hq, -, -⟩ | ⟨hq, -, -⟩ := rne_cases (f.exact n) (d * 2 ^ f.place n d) <;> change f.quot n d = _ at hq
  · exact ⟨hq ▸ h1.le, hlo.imp_right fun h => hq ▸ h2 h⟩
  · exact ⟨hq ▸ h1, hlo.imp_right fun h => hq ▸ (h2 h).trans (Nat.le_succ _)⟩

/-- The rounding is that of one normal mantissa and place. A quotient rounded up to 2^p is half of it one place higher. -/
theorem FFmt.round_eq_finish (neg : Bool) : ∃ m s, f.Normal n d m s ∧ f.round neg n d = f.finish neg m s := by
  obtain ⟨htop, hlead⟩ := FFmt.rounded_range (f := f) hp hn hd
  have hqe := FFmt.qmin_add_place (f := f) (n := n) (d := d)
  have hpow : 2 ^ f.p = 2 * 2 ^ (f.p - 1) := by rw [← pow_succ', Nat.sub_add_cancel (by omega)]
  unfold FFmt.round
  simp only [if_neg hn, FFmt.mantissa_eq hp _ hqe]
  by_cases hcarry : f.quot n d = 2 ^ f.p
  · have hpow1 : 2 ^ (f.p - 1) = 2 * 2 ^ (f.p - 2) := by rw [← pow_succ', show f.p - 2 + 1 = f.p - 1 by omega]
    have hpos : 0 < 2 ^ (f.p - 2) := by positivity
    refine ⟨2 ^ f.p / 2, f.place n d + 1, ⟨?_, fun _ => by omega, by omega, .inr (by omega)⟩, ?_⟩
    · rw [hcarry, pow_succ', ← Nat.mul_assoc, Nat.div_mul_cancel ⟨_, hpow⟩]
    · simp only [hcarry, if_true]
      exact f.finish_eq neg _ _ _ (by omega)
  · refine ⟨_, f.place n d, ⟨rfl, id, by omega, hlead⟩, ?_⟩
    simp only [if_neg hcarry]
    exact f.finish_eq neg _ _ _ hqe

end

/-! ### Words of the two formats -/

/-- A finite word is a mantissa of p bits at one of the format's places. -/
theorem FFmt.unpack_eq_fin {f : FFmt} (hp : 1 ≤ f.p) (he : 1 ≤ f.emax) {w : Word} {neg : Bool} {m : Nat} {e : Int} (h : f.unpack w = .fin neg m e) :
    ∃ t : Nat, e = f.qmin + t ∧ t < 2 * f.emax ∧ m < 2 ^ f.p := by
  have hpow : 2 ^ f.p = 2 * 2 ^ (f.p - 1) := by rw [← pow_succ', Nat.sub_add_cancel (by omega)]
  have hfrac := Nat.mod_lt (w.toNat % 2 ^ f.width) (show 0 < 2 ^ (f.p - 1) by positivity)
  have hex := Nat.mod_lt (w.toNat % 2 ^ f.width / 2 ^ (f.p - 1)) (show 0 < 2 * f.emax + 2 by omega)
  unfold FFmt.unpack at h
  dsimp only at h
  generalize w.toNat % 2 ^ f.width / 2 ^ (f.p - 1) % (2 * f.emax + 2) = ex at h hex
  generalize w.toNat % 2 ^ f.width % 2 ^ (f.p - 1) = frac at h hfrac
  split at h
  · split at h <;> cases h
  · split at h
    · cases h; exact ⟨0, by simp, by omega, by omega⟩
    · cases h; exact ⟨ex - 1, by omega, by omega, by omega⟩

/-- The fields of a word below 2^width are read back as they were put together: w exponent bits above p - 1 fraction bits, with the sign above both. -/
theorem FFmt.unpack_fields (f : FFmt) (neg : Bool) {ex frac : Nat} (hw : f.width ≤ 64) (hsplit : 2 ^ (f.width - 1) = (2 * f.emax + 2) * 2 ^ (f.p - 1))
    (hwidth : 1 ≤ f.width) (hfrac : frac < 2 ^ (f.p - 1)) (hex : ex ≤ 2 * f.emax) :
    f.unpack (BitVec.ofNat 64 (ex * 2 ^ (f.p - 1) + frac + f.sgn neg)) =
      if ex = 0 then .fin neg frac f.qmin else .fin neg (frac + 2 ^ (f.p - 1)) (f.qmin + ex - 1) := by
  have hdouble : 2 ^ f.width = 2 * 2 ^ (f.width - 1) := by rw [← pow_succ', Nat.sub_add_cancel hwidth]
  have h64 : 2 ^ f.width ≤ 2 ^ 64 := Nat.pow_le_pow_right (by decide) hw
  have hbody : ex * 2 ^ (f.p - 1) + frac < 2 ^ (f.width - 1) := by
    rw [hsplit]
    calc ex * 2 ^ (f.p - 1) + frac < (ex + 1) * 2 ^ (f.p - 1) := by rw [Nat.succ_mul]; omega
      _ ≤ _ := Nat.mul_le_mul_right _ (by omega)
  have hsgn : f.sgn neg = neg.toNat * 2 ^ (f.width - 1) := by cases neg <;> simp [FFmt.sgn]
  have hneg : neg.toNat ≤ 1 := Bool.toNat_le neg
  have hpos : 0 < 2 ^ (f.p - 1) := by positivity
  have hx : ex * 2 ^ (f.p - 1) + frac + f.sgn neg < 2 ^ f.width := by cases neg <;> simp only [hsgn, Bool.toNat] <;> simp <;> omega
  have hxfrac : (ex * 2 ^ (f.p - 1) + frac + f.sgn neg) % 2 ^ (f.p - 1) = frac := by
    rw [hsgn, hsplit, ← Nat.mul_assoc, Nat.add_right_comm, ← Nat.add_mul, Nat.mul_add_mod_self_right, Nat.mod_eq_of_lt hfrac]
  have hxex : (ex * 2 ^ (f.p - 1) + frac + f.sgn neg) / 2 ^ (f.p - 1) % (2 * f.emax + 2) = ex := by
    rw [hsgn, hsplit, ← Nat.mul_assoc, Nat.add_right_comm, ← Nat.add_mul, Nat.add_comm, Nat.add_mul_div_right _ _ hpos, Nat.div_eq_of_lt hfrac,
      Nat.zero_add, Nat.add_mul_mod_self_right, Nat.mod_eq_of_lt (by omega)]
  have hxneg : ((ex * 2 ^ (f.p - 1) + frac + f.sgn neg) / 2 ^ (f.width - 1) == 1) = neg := by
    rw [hsgn, Nat.add_mul_div_right _ _ (by positivity), Nat.div_eq_of_lt hbody]
    cases neg <;> rfl
  unfold FFmt.unpack
  simp only [BitVec.toNat_ofNat, Nat.mod_eq_of_lt (hx.trans_le h64), Nat.mod_eq_of_lt hx, hxfrac, hxex, hxneg, if_neg (show ¬ex = 2 * f.emax + 1 by omega)]

/-- A normal mantissa and place are read back from their word. -/
theorem FFmt.unpack_pack (f : FFmt) (neg : Bool) {m s : Nat} (hw : f.width ≤ 64) (hsplit : 2 ^ (f.width - 1) = (2 * f.emax + 2) * 2 ^ (f.p - 1))
    (hwidth : 1 ≤ f.width) (hp : 1 ≤ f.p) (hm : m < 2 ^ f.p) (hlead : s = 0 ∨ 2 ^ (f.p - 1) ≤ m) (hs : ¬(2 ^ (f.p - 1) ≤ m ∧ 2 * f.emax ≤ s)) :
    f.unpack (f.pack neg m s) = .fin neg m (f.qmin + s) := by
  have hpow : 2 ^ f.p = 2 * 2 ^ (f.p - 1) := by rw [← pow_succ', Nat.sub_add_cancel hp]
  unfold FFmt.pack
  split
  next h =>
    have h0 := f.unpack_fields neg hw hsplit hwidth h (Nat.zero_le _)
    rw [Nat.zero_mul, Nat.zero_add, if_pos rfl] at h0
    rw [h0, hlead.resolve_right (by omega)]
    simp
  next h =>
    rw [f.unpack_fields neg hw hsplit hwidth (by omega) (by omega), if_neg (by omega), Nat.sub_add_cancel (by omega)]
    congr 1
    push_cast
    omega

/-! ### The obligation -/

/-- Settles O17: the rounded mantissa is nearest among the multiples of its place, and every finite value of the format is one or lies below. -/
theorem floatRounding : Obligations.FloatRounding := by
  intro f hf neg n d hn hd
  obtain ⟨hp, he, hw, hwidth, hsplit⟩ : 2 ≤ f.p ∧ 1 ≤ f.emax ∧ f.width ≤ 64 ∧ 1 ≤ f.width ∧ 2 ^ (f.width - 1) = (2 * f.emax + 2) * 2 ^ (f.p - 1) := by
    rcases hf with rfl | rfl <;> decide
  obtain ⟨m, s, hnorm, hround⟩ := FFmt.round_eq_finish (f := f) hp hn hd neg
  have hplace (t : Nat) : (f.qmin + t - f.qmin).toNat = t := by omega
  have hnear (m' t : Nat) (hm' : m' < 2 ^ f.p) := hnorm.value ▸ FFmt.gap_rounded (f := f) hp hn hd m' t hm'
  dsimp only
  rw [hround]
  unfold FFmt.finish
  split
  case isTrue hover =>
    refine ⟨fun _ => ⟨rfl, fun w m' e' hw' => ?_⟩, fun h => (Bool.noConfusion h)⟩
    obtain ⟨t, rfl, ht, hm'⟩ := FFmt.unpack_eq_fin (by omega) he hw'
    rw [hplace]
    have hless : m' * 2 ^ t * d < m * 2 ^ s * d := by
      refine Nat.mul_lt_mul_of_pos_right ?_ (Nat.pos_of_ne_zero hd)
      calc m' * 2 ^ t < 2 ^ f.p * 2 ^ t := Nat.mul_lt_mul_of_pos_right hm' (by positivity)
        _ = 2 ^ (f.p + t) := (pow_add ..).symm
        _ ≤ 2 ^ (f.p - 1 + s) := Nat.pow_le_pow_right (by decide) (by omega)
        _ = 2 ^ (f.p - 1) * 2 ^ s := pow_add ..
        _ ≤ _ := Nat.mul_le_mul_right _ hover.1
    have := hnear m' t hm'
    unfold gap FFmt.exact at this
    omega
  case isFalse hfin =>
    refine ⟨fun h => (Bool.noConfusion h), fun _ => ⟨m, f.qmin + s, f.unpack_pack neg hw hsplit hwidth (by omega) hnorm.short hnorm.lead hfin, rfl, ?_⟩⟩
    intro w m' e' hw'
    obtain ⟨t, rfl, -, hm'⟩ := FFmt.unpack_eq_fin (by omega) he hw'
    rw [hplace, hplace]
    exact (hnear m' t hm').imp_right (And.imp_right (Or.imp_right hnorm.even))

end Sys2Proof.Machine
end

section
/-!
PROOFS. The step, the queue and the power; what a command without a memory action leaves; the state at reset; and the lines of Trevline as a whole.
-/
namespace Sys2Proof.Machine

/-! ### The idle cycle (R64, R600) -/

theorem Chip.sendAsync_eq (c : Chip) (n : Nat) : ∃ t, c.sendAsync n = { c with trev := t } := by
  unfold Chip.sendAsync
  split
  · exact ⟨_, rfl⟩
  · exact ⟨c.trev, rfl⟩

/-- The asynchronous lines that leave change the sessions alone. -/
theorem Chip.foldl_sendAsync_eq (l : List Nat) (c : Chip) : ∃ t, l.foldl Chip.sendAsync c = { c with trev := t } := by
  induction l generalizing c with
  | nil => exact ⟨c.trev, rfl⟩
  | cons n l ih =>
    obtain ⟨t, ht⟩ := c.sendAsync_eq n
    obtain ⟨t', ht'⟩ := ih (c.sendAsync n)
    exact ⟨t', ht'.trans (by rw [ht])⟩

theorem step_idle {s : State} (hq : s.pending = []) : step s = s.onChip Chip.idleTick := by unfold step; rw [hq]

/-- An idle cycle of a unit with power advances its clock by one cycle; only the sessions change beside. -/
theorem step_idle_powered {s : State} (hq : s.pending = []) (hp : s.u.sup.powered = true) :
    ∃ t, step s = .next { s with u := { s.u.advance 1 with trev := t } } := by
  obtain ⟨t, ht⟩ := (s.u.advance 1).foldl_sendAsync_eq (List.range 16)
  exact ⟨t, (step_idle hq).trans ((onChip_powered s _ hp).trans (by rw [Chip.idleTick, ht]))⟩

/-- With no adjustment due, a cycle moves the anchor by one cycle at its rate word. -/
theorem Chip.advance_one_anchor (c : Chip) (hdue : c.clk.dueNext = []) : (c.advance 1).clk.anchor = (c.clk.anchor.after 1).after 0 := by
  have hpass : (c.passCycles 1).clk.dueNext = [] := hdue
  unfold Chip.advance
  dsimp only
  rw [hpass]
  rfl

theorem Anchor.perCycle_range {r : Int} (h : r.natAbs ≤ 200000000) : -60000000000 < Anchor.perCycle r ∧ Anchor.perCycle r < 60000000000 := by
  unfold Anchor.perCycle; omega

theorem Anchor.units_ofUnits {u : Nat} (r : Int) (hu : u / 281474976710656 / 1000000000 < 281474976710656) : (Anchor.ofUnits u r).units = u := by
  unfold Anchor.units Anchor.ofUnits; dsimp only; omega

/-- An anchor in its ranges, one cycle later: D of R600 and one nanosecond are added, and the seconds do not wrap. -/
theorem Anchor.after_one (a : Anchor) (hns : a.ns < 10 ^ 9) (hsub : a.sub < 2 ^ 48) (hsec : a.sec < 2 ^ 48 - 1) (hrate : a.rate.natAbs ≤ 200000000) :
    (((a.after 1).after 0).units : Int) = a.units + 2 ^ 48 + Anchor.perCycle a.rate ∧ ((a.after 1).after 0).ns < 10 ^ 9 ∧
      ((a.after 1).after 0).rate = a.rate := by
  obtain ⟨hlo, hhi⟩ := Anchor.perCycle_range hrate
  have hunits : a.units = 281474976710656 * (1000000000 * a.sec + a.ns) + a.sub := rfl
  have h1 : a.after 1 = Anchor.ofUnits (a.units + (281474976710656 + Anchor.perCycle a.rate)).toNat a.rate := by
    simp only [Anchor.after, Nat.cast_one, one_mul]
  have h0 (b : Anchor) : b.after 0 = Anchor.ofUnits b.units b.rate := by simp [Anchor.after]
  have hu1 : (a.after 1).units = (a.units + (281474976710656 + Anchor.perCycle a.rate)).toNat := by
    rw [h1]; exact Anchor.units_ofUnits _ (by omega)
  rw [h0, hu1]
  refine ⟨?_, Nat.mod_lt _ (by decide), by rw [h1]; rfl⟩
  rw [Anchor.units_ofUnits _ (by omega)]
  omega

/-! ### What a command answers -/

/-- A result's memories are those of the state it was taken in. -/
def KeepsMem (s : State) (r : Result) : Prop := ∀ t, r = .next t → t.mem = s.mem

theorem onChip_keepsMem (s : State) (f : Chip → Chip) : KeepsMem s (s.onChip f) := by
  intro t ht
  obtain ⟨u, hu⟩ := onChip_next s f
  rw [hu] at ht
  cases ht
  rfl

theorem onCM_keepsMem (s : State) (f : Chip × Mem → Chip × Mem) (hf : (f (s.u, s.mem)).2 = s.mem) : KeepsMem s (s.onCM f) := by
  intro t ht
  cases hp : s.u.sup.powered
  · rw [onCM_unpowered s f hp] at ht; cases ht; rfl
  · rw [onCM_powered s f hp] at ht; cases ht; exact hf

/-- A request of an instruction that does no memory action keeps the memories. -/
theorem onCM_addressed_keepsMem (s : State) (tile op : Nat) (k : Bool) (ho : op < 0xA0 ∨ 0xA5 < op) :
    KeepsMem s (s.onCM (fun cm => CM.addressed cm tile op k (performOp op))) :=
  onCM_keepsMem s _ (addressed_mem (P := (· = s.mem)) s.u rfl tile op k (fun fs c m hm => (performOp_mem op ho fs c m).trans hm))

theorem onCM_request_keepsMem (s : State) (tile op : Nat) (l k : Bool) (ho : op < 0xA0 ∨ 0xA5 < op) :
    KeepsMem s (s.onCM (fun cm => CM.request cm tile op l k (performOp op))) :=
  onCM_keepsMem s _ (request_mem (P := (· = s.mem)) s.u rfl tile op l k (fun fs c m hm => (performOp_mem op ho fs c m).trans hm))

/-- A load that empties nothing keeps the memories. -/
theorem onCM_sld_keepsMem (s : State) (tile : Nat) : KeepsMem s (s.onCM (fun cm => CM.addressed cm tile 0xA0 false (performOp 0xA0))) :=
  onCM_keepsMem s _ (addressed_mem (P := (· = s.mem)) s.u rfl tile 0xA0 false (fun fs c m hm => (performLoad_mem fs c m).trans hm))

/-! ### The obligations -/

/-- Settles O1: the definition of the step. -/
theorem stepRunsFront : Obligations.StepRunsFront := by
  intro s i rest hq
  unfold step
  rw [hq]

/-- Settles O2: an idle cycle changes the clock, the records and the sessions. -/
theorem idleTick : Obligations.IdleTick := by
  intro s hq
  refine ⟨fun hp => ?_, fun hp => (step_idle hq).trans (onChip_unpowered s _ hp)⟩
  obtain ⟨t, ht⟩ := step_idle_powered hq hp
  exact ⟨_, ht, s.u.advance_cycle 1, rfl, hq, s.u.advance_cfg 1, s.u.advance_fis 1, s.u.advance_fab 1, s.u.advance_panel 1, s.u.advance_keys 1,
    s.u.advance_coll 1⟩

/-- Settles O3: in units of 2^-48 ns the anchor gains 2^48 and D of R600, and within its ranges no carry is lost. -/
theorem anchorAdvances : Obligations.AnchorAdvances := by
  intro s hq hp hdue hns hsub hsec hrate
  obtain ⟨t, ht⟩ := step_idle_powered hq hp
  obtain ⟨hunits, hns', hrate'⟩ := Anchor.after_one s.u.clk.anchor hns hsub hsec hrate
  rw [← s.u.advance_one_anchor hdue] at hunits hns' hrate'
  refine ⟨_, ht, hns', hrate', ?_⟩
  change (2 ^ 48 * (10 ^ 9 * (s.u.advance 1).clk.anchor.sec + (s.u.advance 1).clk.anchor.ns) + (s.u.advance 1).clk.anchor.sub : Int) = _
  simp only [Anchor.units] at hunits
  push_cast at hunits
  omega

/-- Settles O4: each of the three ways in which a command changes the state answers a next state with the same queue. -/
theorem alwaysNext : Obligations.AlwaysNext := by
  intro i s
  obtain ⟨found, rfl⟩ | ⟨f, hf⟩ | ⟨f, hf⟩ := exec_shape s i
  · exact ⟨_, exec_powerOn s found, rfl⟩
  · obtain ⟨u, m, h⟩ := onCM_next s f
    exact ⟨_, hf.trans h, rfl⟩
  · obtain ⟨u, h⟩ := onChip_next s f
    exact ⟨_, hf.trans h, rfl⟩

/-- Settles O5: every effect but that of the power-on is guarded by the power. -/
theorem unpoweredIgnores : Obligations.UnpoweredIgnores := by
  intro i s hp hne
  obtain ⟨found, rfl⟩ | ⟨f, hf⟩ | ⟨f, hf⟩ := exec_shape s i
  · exact absurd rfl (hne found)
  · exact hf.trans (onCM_unpowered s f hp)
  · exact hf.trans (onChip_unpowered s f hp)

/-- Settles O7: the lists of octets are empty at reset. -/
theorem resetSafe : Obligations.ResetSafe := (Mem.wf_iff _).2 reset_ok

/-- Settles O8: beside the commands named, each acts on the unit alone or makes a request without a memory action. -/
theorem memoryFrame : Obligations.MemoryFrame := by
  intro i s
  unfold exec
  cases i
  case commitEdge | cfgFiApply | cfgForcedApply | deferralRetry | dstMergeExpiry | twinCompare | sst | slde | sclr | dld | dst | powerOn | coldRestart
      | domainRiseDone | domainFault | sensorRead | stackCool | sramScrub | dramPatrol | poisonClearDone => exact fun _ _ => trivial
  case sld tile => exact onCM_sld_keepsMem s tile
  case clearFiPoison h sel => exact onCM_keepsMem s (fun cm => (cm.1.runDef h (clearPoisonDef cm.2 h sel), cm.2)) rfl
  case frd tile | fwr tile | hwr tile | hrd tile | hwait tile | hpark tile | hrel tile | salloc tile | sfree tile =>
    exact onCM_addressed_keepsMem s tile _ _ (.inr (by decide))
  case trip tile | pub tile | evt tile | chan tile | led tile | disp tile | rope tile =>
    exact onCM_request_keepsMem s tile _ _ _ (.inr (by decide))
  all_goals exact onChip_keepsMem s _

end Sys2Proof.Machine
end

section
/-!
PROOFS. The state at reset, the CRC register, and what every line of Trevline does: it acts and is answered, or it is refused and changes nothing else.
-/
namespace Sys2Proof.Machine

/-! ### The CRC register (R388) -/

theorem div_pow63_eq_one_iff (l : Word) : l.toNat / 2 ^ 63 = 1 ↔ l.getLsbD 63 = true := by
  have := l.isLt
  rw [← BitVec.testBit_toNat, Nat.testBit_eq_decide_div_mod_eq, decide_eq_true_iff]
  omega

/-- One shift of the register, with the polynomial taken in where the bit shifted out is set. -/
theorem crcSteps_succ (w poly n reg : Nat) : crcSteps w poly (n + 1) reg =
    crcSteps w poly n (if Nat.testBit reg (w - 1) then (Nat.xor (2 * reg) poly) % 2 ^ w else 2 * reg % 2 ^ w) := by
  simp only [crcSteps, Nat.testBit_eq_decide_div_mod_eq, decide_eq_true_iff, Nat.mul_comm reg 2]
  rfl

/-! ### Lines -/

/-- What answering a line changes: its session, and the raises, where the code is one of the 09xx. -/
theorem Chip.answered_eq (c : Chip) (h : Hdr) (a : Answer) : ∃ k t, c.answered h a = { c with coll := k, trev := t } := by
  have hf : ∃ k, c.hardwareFault h.sess a = { c with coll := k } := by
    unfold Chip.hardwareFault
    split
    · split
      · exact ⟨_, rfl⟩
      · exact ⟨c.coll, rfl⟩
    · exact ⟨c.coll, rfl⟩
  obtain ⟨k, hk⟩ := hf
  unfold Chip.answered
  dsimp only
  rw [hk]
  split
  · exact ⟨k, c.trev, rfl⟩
  · exact ⟨k, _, rfl⟩

theorem Chip.answered_err_answer (c : Chip) (h : Hdr) (code : String) (fs : Fields) :
    ((c.answered h (.err code fs)).sess h.sess).answer = Answer.lines (.err code fs) := by
  unfold Chip.answered
  rw [if_neg (by simp)]
  simp [Chip.respond]

/-- A line that finds its session free changes its session and the clock on its arrival. -/
theorem Chip.arrived_eq (c : Chip) (h : Hdr) (hw : (c.sess h.sess).waiting = .nothing) : ∃ t, c.arrived h = { c.advance 1 with trev := t } := by
  have hs : c.settleWait h.sess = c := by unfold Chip.settleWait; rw [hw]
  unfold Chip.arrived Chip.lineArrives
  rw [hs]
  exact ⟨_, rfl⟩

/-! ### The obligations -/

/-- Settles O9: at reset every table is empty and reads its default. -/
theorem resetState : Obligations.ResetState := by
  refine ⟨fun _ => ⟨rfl, rfl⟩, fun w => ?_, fun _ => rfl, fun _ => rfl, fun o => ?_, fun _ => rfl, rfl, rfl, rfl⟩
  · simp [State.reset, Mem.reset, Mem.present', Mem.halfLost]
  · simp [State.reset, Chip.reset, Belay.reset, Chip.belayed, Chip.latched]

/-- Settles O19: the check values by evaluation, the rest by one shift of the register. -/
theorem crcRegister : Obligations.CrcRegister := by
  refine ⟨fun d l hl => if_pos ((div_pow63_eq_one_iff l).mpr hl), fun d l hl => if_neg fun h => ?_, crcSteps_succ, ?_, ?_⟩
  · rw [(div_pow63_eq_one_iff l).mp h] at hl; cases hl
  · decide +kernel
  · decide +kernel

/-- Settles O10: a taken line is its definition's action on the arrived unit. -/
theorem linesAct : Obligations.LinesAct := by
  intro s i h d hl ht
  exact ⟨_, exec_taken hl ht, rfl, rfl, rfl⟩

/-- Settles O11: neither the arrival nor the refusal reaches beyond the session, the clock and the raises. -/
theorem linesRefused : Obligations.LinesRefused := by
  refine ⟨fun s i h d hl hp ha => ⟨_, exec_line hl hp, rfl, rfl, ?_⟩, fun s i h d code fs hl hr hw hb => ⟨_, exec_refused hl hr hb, rfl, rfl, ?_⟩⟩
  · simp [Chip.runDef, Chip.runLine, ha]
  · obtain ⟨t, ht⟩ := s.u.arrived_eq h hw
    obtain ⟨k, t', hk⟩ := (s.u.arrived h).answered_eq h (.err code fs)
    refine ⟨rfl, Chip.answered_err_answer _ _ _ _, ?_⟩
    simp only [hk]
    simp [ht]

end Sys2Proof.Machine
end

section
/-!
PROOFS. The integer instructions of Table 8-11 (R357): each result in the view that its row names.
-/
namespace Sys2Proof.Machine

/-! ### Products -/

theorem toInt_word_range (w : Word) : -(2 ^ 63) ≤ w.toInt ∧ w.toInt < 2 ^ 63 := ⟨BitVec.le_toInt w, BitVec.toInt_lt⟩

/-- The high half of a signed product fits the result field. -/
theorem toInt_aMulh (l r : Word) : (aMulh l r).toInt = l.toInt * r.toInt / 2 ^ 64 := by
  obtain ⟨hl, hl'⟩ := toInt_word_range l
  obtain ⟨hr, hr'⟩ := toInt_word_range r
  have habs : |l.toInt * r.toInt| ≤ 2 ^ 63 * 2 ^ 63 := by
    rw [abs_mul]
    exact mul_le_mul (abs_le.mpr ⟨hl, hl'.le⟩) (abs_le.mpr ⟨hr, hr'.le⟩) (abs_nonneg _) (by positivity)
  obtain ⟨hlo, hhi⟩ := abs_le.mp habs
  exact toInt_ofI_of_range (i := l.toInt * r.toInt / 18446744073709551616) (by omega) (by omega)

theorem toNat_aMulhu (l r : Word) : (aMulhu l r).toNat = l.toNat * r.toNat / 2 ^ 64 := by
  have h : l.toNat * r.toNat < 2 ^ 64 * 2 ^ 64 := Nat.mul_lt_mul'' l.isLt r.isLt
  rw [aMulhu, BitVec.toNat_ofNat]
  exact Nat.mod_eq_of_lt (Nat.div_lt_of_lt_mul h)

/-! ### Views of fewer bits -/

/-- A sum, difference or product of the 32-bit views wraps to 32 bits and is extended by its sign. -/
theorem toInt_sx32 (i : Int) : (sx32 i).toInt = Int.bmod i (2 ^ 32) :=
  (BitVec.toInt_signExtend_of_le (by decide)).trans (BitVec.toInt_ofInt i)

/-- SEXT is the sign extension of the low bits. -/
theorem aSext_eq_signExtend (l r : Word) : aSext l r = (l.setWidth (sh6 r + 1)).signExtend 64 := by
  have hpow : 2 ^ (sh6 r + 1) = 2 * 2 ^ sh6 r := Nat.pow_succ'
  unfold aSext ofI
  rw [BitVec.signExtend, BitVec.toInt_eq_toNat_cond, BitVec.toNat_setWidth]
  dsimp only
  push_cast
  have hcast : ((l.toNat : Int) % 2 ^ (sh6 r + 1) < 2 ^ sh6 r) ↔ 2 * (l.toNat % 2 ^ (sh6 r + 1)) < 2 ^ (sh6 r + 1) := by
    rw [hpow]; norm_cast; rw [hpow]; omega
  simp only [hcast]

theorem sh6_lt (r : Word) : sh6 r < 64 := Nat.mod_lt _ (by decide)

theorem getLsbD_aSext (l r : Word) {k : Nat} (hk : k < 64) : (aSext l r).getLsbD k = l.getLsbD (min k (sh6 r)) := by
  have hr := sh6_lt r
  rw [aSext_eq_signExtend, BitVec.getLsbD_signExtend, BitVec.msb_eq_getLsbD_last, BitVec.getLsbD_setWidth, BitVec.getLsbD_setWidth]
  by_cases h : k < sh6 r + 1
  · simp [h, hk, min_eq_left (Nat.le_of_lt_succ h)]
  · simp [h, hk, min_eq_right (show sh6 r ≤ k by omega)]

theorem getLsbD_aZext (l r : Word) (k : Nat) : (aZext l r).getLsbD k = (decide (k ≤ sh6 r) && l.getLsbD k) := by
  have hr := sh6_lt r
  rw [aZext, BitVec.getLsbD_ofNat, Nat.testBit_mod_two_pow, BitVec.testBit_toNat]
  by_cases h : k ≤ sh6 r
  · simp [h, Nat.lt_succ_of_le h, show k < 64 by omega]
  · simp [h, show ¬k < sh6 r + 1 by omega]

theorem getLsbD_aExtr (l r : Word) (k : Nat) : (aExtr l r).getLsbD k =
    (decide (k < if r.toNat / 64 % 64 = 0 then 64 else r.toNat / 64 % 64) && l.getLsbD (k + sh6 r)) := by
  unfold aExtr
  have hlen : (if r.toNat / 64 % 64 = 0 then 64 else r.toNat / 64 % 64) ≤ 64 := by split <;> omega
  dsimp only
  generalize (if r.toNat / 64 % 64 = 0 then 64 else r.toNat / 64 % 64) = len at hlen ⊢
  rw [BitVec.getLsbD_ofNat, Nat.testBit_mod_two_pow, Nat.testBit_div_two_pow, BitVec.testBit_toNat]
  by_cases h : k < len
  · simp [h, show k < 64 by omega]
  · simp [h]

/-! ### Bits -/

theorem getLsbD_andn (l r : Word) (k : Nat) : (l &&& ~~~r).getLsbD k = (l.getLsbD k && !r.getLsbD k) := by
  rw [BitVec.getLsbD_and, BitVec.getLsbD_not]
  by_cases h : k < 64
  · simp [h]
  · simp [BitVec.getLsbD_of_ge l k (by omega)]

/-- The bit at a place moves up by the count of a rotation, round the end. -/
theorem getLsbD_rotateLeft_add (l : Word) (n : Nat) {k : Nat} (hk : k < 64) : (l.rotateLeft (n % 64)).getLsbD ((k + n) % 64) = l.getLsbD k := by
  rw [BitVec.getLsbD_rotateLeft]
  by_cases h : (k + n) % 64 < n % 64 % 64
  · rw [decide_eq_true h, cond_true]; congr 1; omega
  · rw [decide_eq_false h, cond_false, decide_eq_true (by omega), Bool.true_and]; congr 1; omega

theorem getLsbD_rotateRight_add (l : Word) (n : Nat) {k : Nat} (hk : k < 64) : (l.rotateRight (n % 64)).getLsbD k = l.getLsbD ((k + n) % 64) := by
  rw [BitVec.getLsbD_rotateRight]
  by_cases h : k < 64 - n % 64 % 64
  · rw [decide_eq_true h, cond_true]; congr 1; omega
  · rw [decide_eq_false h, cond_false, decide_eq_true hk, Bool.true_and]; congr 1; omega

/-! ### The obligation -/

/-- Settles O12: each result function meets its row of Table 8-11, and none counts. -/
theorem integerResults : Obligations.IntegerResults := by
  refine ⟨yields_of exec_add fun l r => ⟨BitVec.toNat_add l r, rfl⟩, yields_of exec_sub fun l r => ⟨?sub, rfl⟩,
    yields_of exec_mul fun l r => ⟨BitVec.toNat_mul l r, rfl⟩, yields_of exec_mulh fun l r => ⟨toInt_aMulh l r, rfl⟩,
    yields_of exec_mulhu fun l r => ⟨toNat_aMulhu l r, rfl⟩, yields_of exec_and fun l r => ⟨fun k => BitVec.getLsbD_and, rfl⟩,
    yields_of exec_or fun l r => ⟨fun k => BitVec.getLsbD_or, rfl⟩, yields_of exec_xor fun l r => ⟨fun k => BitVec.getLsbD_xor, rfl⟩,
    yields_of exec_andn fun l r => ⟨getLsbD_andn l r, rfl⟩, yields_of exec_shl fun l r => ⟨?shl, rfl⟩, yields_of exec_shr fun l r => ⟨?shr, rfl⟩,
    yields_of exec_sar fun l r => ⟨?sar, rfl⟩, yields_of exec_rol fun l r => ⟨fun k hk => getLsbD_rotateLeft_add l r.toNat hk, rfl⟩,
    yields_of exec_ror fun l r => ⟨fun k hk => getLsbD_rotateRight_add l r.toNat hk, rfl⟩, yields_of exec_min fun l r => ⟨?min, rfl⟩,
    yields_of exec_max fun l r => ⟨?max, rfl⟩, yields_of exec_minu fun l r => ⟨?minu, rfl⟩, yields_of exec_maxu fun l r => ⟨?maxu, rfl⟩,
    yields_of exec_neg fun l _ => ⟨?neg, rfl⟩, yields_of exec_not fun l _ => ⟨?not, rfl⟩, yields_of exec_abs fun l _ => ⟨?abs, rfl⟩,
    yields_of exec_sext fun l r => ⟨fun k hk => getLsbD_aSext l r hk, rfl⟩, yields_of exec_zext fun l r => ⟨getLsbD_aZext l r, rfl⟩,
    yields_of exec_extr fun l r => ⟨getLsbD_aExtr l r, rfl⟩, yields_of exec_add32 fun l r => ⟨toInt_sx32 _, rfl⟩,
    yields_of exec_sub32 fun l r => ⟨toInt_sx32 _, rfl⟩, yields_of exec_mul32 fun l r => ⟨toInt_sx32 _, rfl⟩⟩
  all_goals simp only [Res.pure]
  case sub => bv_omega
  case shl => rw [BitVec.toNat_shiftLeft, Nat.shiftLeft_eq]; rfl
  case shr => rw [BitVec.toNat_ushiftRight, Nat.shiftRight_eq_div_pow]; rfl
  case sar => rw [BitVec.toInt_sshiftRight, Int.shiftRight_eq_div_pow]; rfl
  case min => unfold i64; split <;> omega
  case max => unfold i64; split <;> omega
  case minu => split <;> bv_omega
  case maxu => split <;> bv_omega
  case neg => bv_omega
  case not => bv_omega
  case abs =>
    obtain ⟨hlo, hhi⟩ := toInt_word_range l
    rw [ofI, i64, BitVec.ofInt_natCast, BitVec.toNat_ofNat]
    omega

end Sys2Proof.Machine
end

section
/-!
PROOFS. The bit instructions of Tables 9-7 and 9-8 (R387–R389).
-/
namespace Sys2Proof.Machine

/-! ### Counts of set bits -/

/-- The set bits of a word among its 64 places. -/
def setBits (w : Word) : List Nat := (List.range 64).filter w.getLsbD

theorem bit_eq_getLsbD_toNat (w : Word) (i : Nat) : w.toNat / 2 ^ i % 2 = (w.getLsbD i).toNat := by
  rw [← BitVec.testBit_toNat, Nat.testBit_eq_decide_div_mod_eq]
  rcases Nat.mod_two_eq_zero_or_one (w.toNat / 2 ^ i) with h | h <;> simp [h]

theorem popc_eq_length (w : Word) : popc w = (setBits w).length := by
  have h (l : List Nat) : ∀ n, l.foldl (fun n i => n + w.toNat / 2 ^ i % 2) n = n + (l.filter w.getLsbD).length := by
    induction l with
    | nil => exact fun n => rfl
    | cons i l ih =>
      intro n
      rw [List.foldl_cons, ih, bit_eq_getLsbD_toNat, List.filter_cons]
      cases w.getLsbD i
      · simp
      · simp; omega
  exact (h (List.range 64) 0).trans (Nat.zero_add _)

theorem toNat_popc (w : Word) : (BitVec.ofNat 64 (popc w)).toNat = (setBits w).length := by
  have hle : popc w ≤ 64 := by
    rw [popc_eq_length, setBits]
    exact (List.length_filter_le _ _).trans (by simp)
  rw [BitVec.toNat_ofNat, Nat.mod_eq_of_lt (by omega), popc_eq_length]

theorem parity_eq_ite (w : Word) : parity w = if (setBits w).length % 2 = 1 then 1 else 0 := by
  unfold parity
  rw [popc_eq_length]
  rcases Nat.mod_two_eq_zero_or_one (setBits w).length with h | h <;> rw [h] <;> rfl

/-! ### Bits in reverse -/

theorem revBits_lt (n x : Nat) : revBits n x < 2 ^ n := by
  induction n generalizing x with
  | zero => exact Nat.one_pos
  | succ n ih =>
    have := ih (x / 2)
    rcases Nat.mod_two_eq_zero_or_one x with h | h <;> simp only [revBits, h, Nat.pow_succ'] <;> omega

theorem testBit_revBits (n x k : Nat) : (revBits n x).testBit k = (decide (k < n) && x.testBit (n - 1 - k)) := by
  induction n generalizing x k with
  | zero => simp [revBits]
  | succ n ih =>
    rw [revBits, Nat.mul_comm, Nat.testBit_two_pow_mul_add _ (revBits_lt n _), ih]
    rcases lt_trichotomy k n with h | rfl | h
    · rw [if_pos h, ← Nat.testBit_succ]
      simp [h, show k < n + 1 by omega, show n - 1 - k + 1 = n - k by omega]
    · simp [Nat.testBit_zero]
    · rw [if_neg (by omega), Nat.testBit_lt_two_pow (i := k - n) (x := x % 2)]
      · simp [show ¬k < n + 1 by omega]
      · exact (Nat.mod_lt x (by decide)).trans_le (Nat.le_self_pow (by omega) 2)

theorem getLsbD_brev (l r : Word) (k : Nat) : (brev l r).getLsbD k =
    (decide (k < if r.toNat % 64 = 0 then 64 else r.toNat % 64) && l.getLsbD ((if r.toNat % 64 = 0 then 64 else r.toNat % 64) - 1 - k)) := by
  unfold brev sh6
  have hn : (if r.toNat % 64 = 0 then 64 else r.toNat % 64) ≤ 64 := by split <;> omega
  dsimp only
  generalize (if r.toNat % 64 = 0 then 64 else r.toNat % 64) = n at hn ⊢
  rw [BitVec.getLsbD_ofNat, testBit_revBits, Nat.testBit_mod_two_pow, BitVec.testBit_toNat]
  by_cases h : k < n
  · simp [h, show k < 64 by omega, show n - 1 - k < n by omega]
  · simp [h]

/-! ### Octets in reverse -/

/-- The bits of a word built from octets: bit k is in the octet k/8 from the end. -/
theorem testBit_foldl_octets (l : List Nat) (k : Nat) :
    (l.foldl (fun a b => a * 256 + b % 256) 0).testBit k = (l.reverse.getD (k / 8) 0 % 256).testBit (k % 8) := by
  induction l using List.reverseRecOn generalizing k with
  | nil => simp
  | append_singleton l b ih =>
    rw [List.foldl_append, List.foldl_cons, List.foldl_nil, Nat.mul_comm, show 256 = 2 ^ 8 from rfl,
      Nat.testBit_two_pow_mul_add _ (Nat.mod_lt b (by decide)), List.reverse_append, List.reverse_singleton, List.singleton_append]
    by_cases h : k < 8
    · simp [h, Nat.div_eq_of_lt h, Nat.mod_eq_of_lt h]
    · rw [if_neg h, show k / 8 = (k - 8) / 8 + 1 by omega, show k % 8 = (k - 8) % 8 by omega, List.getD_cons_succ]
      exact ih (k - 8)

theorem getLsbD_bswap (l : Word) {k : Nat} (hk : k < 64) : (bswap l).getLsbD k = l.getLsbD (8 * (7 - k / 8) + k % 8) := by
  have hk8 : k / 8 < 8 := by omega
  rw [bswap, ofOctets, BitVec.getLsbD_ofNat, testBit_foldl_octets, List.reverse_reverse, octets, List.getD_eq_getElem _ _ (by simpa using hk8)]
  simp only [List.getElem_map, List.getElem_range]
  rw [Nat.mod_mod, show 256 = 2 ^ 8 from rfl, Nat.testBit_mod_two_pow, Nat.testBit_div_two_pow, BitVec.testBit_toNat, decide_eq_true hk,
    decide_eq_true (show k % 8 < 8 by omega), Bool.true_and, Bool.true_and, Nat.add_comm]

/-! ### Leading and trailing zeros -/

theorem clz_spec (l : Word) : (clz l).toNat ≤ 64 ∧ (∀ k, k < (clz l).toNat → l.getLsbD (63 - k) = false) ∧
    ((clz l).toNat < 64 → l.getLsbD (63 - (clz l).toNat) = true) := by
  by_cases h : l = 0
  · subst h
    exact ⟨by decide, fun k _ => BitVec.getLsbD_zero, fun h => absurd h (by decide)⟩
  · have h0 : l.toNat ≠ 0 := fun h0 => h (BitVec.eq_of_toNat_eq h0)
    have hlog : l.toNat.log2 < 64 := (Nat.log2_lt h0).mpr l.isLt
    have hclz : (clz l).toNat = 63 - l.toNat.log2 := by
      rw [clz, if_neg h, BitVec.toNat_ofNat, Nat.mod_eq_of_lt (by omega)]
    rw [hclz]
    refine ⟨by omega, fun k hk => ?_, fun _ => ?_⟩
    · rw [← BitVec.testBit_toNat]
      exact Nat.testBit_lt_two_pow ((Nat.log2_lt h0).mp (by omega))
    · rw [← BitVec.testBit_toNat, show 63 - (63 - l.toNat.log2) = l.toNat.log2 by omega]
      exact Nat.testBit_log2 h0

theorem ctzAux_spec (n x : Nat) : ctzAux n x ≤ n ∧ (∀ k, k < ctzAux n x → x.testBit k = false) ∧ (ctzAux n x < n → x.testBit (ctzAux n x) = true) := by
  induction n generalizing x with
  | zero => exact ⟨le_rfl, fun k hk => absurd hk (Nat.not_lt_zero k), fun h => absurd h (Nat.lt_irrefl 0)⟩
  | succ n ih =>
    obtain ⟨hle, hlow, htop⟩ := ih (x / 2)
    by_cases hx : x % 2 = 1
    · rw [ctzAux, if_pos hx]
      exact ⟨Nat.zero_le _, fun k hk => absurd hk (Nat.not_lt_zero k), fun _ => by simp [Nat.testBit_zero, hx]⟩
    · rw [ctzAux, if_neg hx, Nat.add_comm 1]
      refine ⟨by omega, fun k hk => ?_, fun h => ?_⟩
      · cases k with
        | zero => simp [Nat.testBit_zero, hx]
        | succ k => rw [Nat.testBit_succ]; exact hlow k (by omega)
      · rw [Nat.testBit_succ]; exact htop (by omega)

theorem ctz_spec (l : Word) : (ctz l).toNat ≤ 64 ∧ (∀ k, k < (ctz l).toNat → l.getLsbD k = false) ∧
    ((ctz l).toNat < 64 → l.getLsbD (ctz l).toNat = true) := by
  obtain ⟨hle, hlow, htop⟩ := ctzAux_spec 64 l.toNat
  have hctz : (ctz l).toNat = ctzAux 64 l.toNat := by rw [ctz, BitVec.toNat_ofNat, Nat.mod_eq_of_lt (by omega)]
  rw [hctz]
  simp only [BitVec.testBit_toNat] at hlow htop
  exact ⟨hle, hlow, htop⟩

/-! ### CRC and PAR words -/

/-- A legal CRC word names one of the eight descriptors (R375). -/
theorem aux_lt_of_crc {s : State} {tile : Fin 416} {op : Nat} {f : Firing} {rest : List Firing} (h : Fires s tile op f rest)
    (hop : op = 0xC0 ∨ op = 0xC1 ∨ op = 0xC2) : Word.aux f.word < 8 := by
  have hlegal := h.legal
  have hword := h.opcode
  unfold wordOk at hlegal
  simp only [hword, Bool.and_eq_true] at hlegal
  obtain ⟨⟨⟨hform, -⟩, haux⟩, -⟩ := hlegal
  have hf : Word.form f.word ≠ 2 ∧ Word.form f.word ≠ 3 := by
    rcases hop with rfl | rfl | rfl <;> simp [opForms] at hform <;> omega
  unfold auxOk at haux
  rw [if_neg hf.1, if_neg hf.2] at haux
  rcases hop with rfl | rfl | rfl <;> simp at haux <;> exact haux.1

/-- What a CRC instruction emits under a descriptor, from operands that are neither VOID nor POISON. -/
theorem completes_crcStep {i : Instr} {s : State} {tile : Fin 416} {op : Nat} {f : Firing} {rest : List Firing} {d : CrcDesc}
    {g : CrcDesc → Word → Word → Word} (hi : exec i s = s.onChip (fun c => c.crcStep tile op g)) (h : Fires s tile op f rest)
    (hop : op = 0xC0 ∨ op = 0xC1 ∨ op = 0xC2) (hn : combine f.tok.op f.rOpnd = none) (hd : (s.u.image f.tok.fi).desc.crcs[Word.aux f.word]? = some d) :
    CompletesChip i s (fun u => u = (s.u.fired tile f rest).emit f ⟨.data, g d f.tok.op.data f.r.data⟩) := by
  refine completes_execute h hi ?_
  have himage : (s.u.fired tile f rest).image f.tok.fi = s.u.image f.tok.fi := by
    unfold Chip.image Chip.fiCfg; rw [Chip.fired_cfg]
  rw [hn, himage, Nat.mod_eq_of_lt (aux_lt_of_crc h hop), hd]

/-- PAR's result: the parity of the set bits of L, or of L AND R. -/
theorem parity_operands (l : Word) (r : Option Opnd) :
    parity (match r with | some r => l &&& r.data | none => l) =
      if ((List.range 64).filter (fun k => l.getLsbD k && ((r.map Opnd.data).getD (BitVec.allOnes 64)).getLsbD k)).length % 2 = 1 then 1 else 0 := by
  rw [parity_eq_ite, setBits]
  refine if_congr (iff_of_eq (congrArg (fun n : List Nat => n.length % 2 = 1) (List.filter_congr fun k hk => ?_))) rfl rfl
  cases r with
  | none => rw [Option.map_none, Option.getD_none, BitVec.getLsbD_allOnes, decide_eq_true (List.mem_range.mp hk), Bool.and_true]
  | some r => exact BitVec.getLsbD_and

/-! ### The obligation -/

/-- Settles O18: each bit of each result, and the CRC register of the word's descriptor. -/
theorem bitResults : Obligations.BitResults := by
  refine ⟨emits_of exec_par fun f c => ?par, yields_of exec_brev fun l r => ⟨getLsbD_brev l r, rfl⟩,
    yields_of exec_popc fun l _ => ⟨toNat_popc l, rfl⟩, yields_of exec_bswap fun l _ => ⟨fun k hk => getLsbD_bswap l hk, rfl⟩,
    yields_of exec_clz fun l _ => ?clz, yields_of exec_ctz fun l _ => ?ctz, fun s tile f rest d hn hd => ⟨fun h => ?crcw, fun h => ?crcb, fun h => ?crcf⟩⟩
  case par => exact congrArg (fun w => c.emit f ((combine f.tok.op f.rOpnd).getD ⟨.data, w⟩)) (parity_operands _ _)
  case clz => obtain ⟨h1, h2, h3⟩ := clz_spec l; exact ⟨h1, h2, h3, rfl⟩
  case ctz => obtain ⟨h1, h2, h3⟩ := ctz_spec l; exact ⟨h1, h2, h3, rfl⟩
  case crcw => have hc := completes_crcStep (exec_crcw s tile) h (.inl rfl) hn hd; exact hc
  case crcb => have hc := completes_crcStep (exec_crcb s tile) h (.inr (.inl rfl)) hn hd; exact hc
  case crcf => have hc := completes_crcStep (exec_crcf s tile) h (.inr (.inr rfl)) hn hd; exact hc

end Sys2Proof.Machine
end

section
/-!
PROOFS. Steering and control (R353–R356), the token of a firing (R244, R249), the predicate writers (R268, R271, R363, R364), the context and iteration
instructions (R254, R258–R260, R310–R312), and reserved words (R342).
-/
namespace Sys2Proof.Machine

/-! ### Control operands -/

theorem controlKind_void {o : Opnd} (h : o.kind = .void) : controlKind o = some ⟨.void, 0⟩ := by unfold controlKind; rw [h]; rfl
theorem controlKind_poison {o : Opnd} (h : o.kind = .poison) : controlKind o = some o := by unfold controlKind; rw [h]

theorem combine_none_of_kind {o : Opnd} (hv : o.kind ≠ .void) (hp : o.kind ≠ .poison) : combine o none = none := by
  unfold combine; rw [if_neg hp]; exact if_neg hv

/-- Bit 0 of R selects the destination of STEER. -/
theorem mod_two_eq_one_iff (w : Word) : w.toNat % 2 = 1 ↔ w.getLsbD 0 = true := by
  rw [← BitVec.testBit_toNat, Nat.testBit_zero, decide_eq_true_iff]

/-! ### KSET -/

theorem Kind.ofCode_reserved {n : Nat} (h : 5 ≤ n) (h8 : n < 8) : (Kind.ofCode n).reserved = true ∧ (Kind.ofCode n).code = n := by
  interval_cases n <;> exact ⟨rfl, rfl⟩

theorem Kind.ofCode_not_reserved {n : Nat} (h : n < 5) : (Kind.ofCode n).reserved = false := by interval_cases n <;> rfl

/-- All that KSET does past its firing, in one line per case of its control operand. -/
theorem completes_kset {s : State} {tile : Fin 416} {f : Firing} {rest : List Firing} {P : Chip → Prop} (h : Fires s tile 0x04 f rest)
    (hp : P (let c := s.u.fired tile f rest
      match controlKind f.r with
      | some o => c.emit f o
      | none =>
        let k := Kind.ofCode (f.r.data.toNat % 8)
        if k.reserved then (c.misbehaves f.tok.fi).raise 3 f.tok.fi (some f.tok.fi) [fNat "KIND" k.code]
        else if f.tok.op.kind = .void ∨ f.tok.op.kind = .poison then c.emit f f.tok.op
        else match k with
          | .void => c.emit f Opnd.void
          | .poison => c.emit f ⟨.poison, BitVec.ofNat 64 (f.tok.op.data.toNat % 4096)⟩
          | k => c.emit f ⟨k, f.tok.op.data⟩)) :
    CompletesChip (.kset tile) s P := completes_execute h (exec_kset s tile) hp

/-! ### The copy's map, and the token on the network -/

/-- Two units whose copies have the same clusters and tile maps. -/
def Chip.SameMaps (a b : Chip) : Prop :=
  ∀ fi k, (a.copy fi k).cluster = (b.copy fi k).cluster ∧ (a.copy fi k).map = (b.copy fi k).map ∧ (a.copy fi k).mapBad = (b.copy fi k).mapBad

theorem Chip.SameMaps.refl (a : Chip) : a.SameMaps a := fun _ _ => ⟨rfl, rfl, rfl⟩

theorem Chip.SameMaps.trans {a b d : Chip} (h1 : a.SameMaps b) (h2 : b.SameMaps d) : a.SameMaps d := fun fi k =>
  ⟨(h1 fi k).1.trans (h2 fi k).1, (h1 fi k).2.1.trans (h2 fi k).2.1, (h1 fi k).2.2.trans (h2 fi k).2.2⟩

theorem Chip.SameMaps.of_copies {a b : Chip} (h : ∀ fi, (a.fi fi).copies = (b.fi fi).copies) : a.SameMaps b := by
  intro fi k
  have hk : a.copy fi k = b.copy fi k := by unfold Chip.copy; rw [h]
  rw [hk]
  exact ⟨rfl, rfl, rfl⟩

theorem Chip.modFi_sameMaps (c : Chip) (n : Nat) (g : Fi → Fi) (hg : ∀ x, (g x).copies = x.copies) : (c.modFi n g).SameMaps c := by
  refine .of_copies fun fi => ?_
  by_cases h : fi = n
  · subst h; rw [Chip.fi_modFi, hg]
  · rw [Chip.fi_modFi_ne c n fi g h]

theorem Chip.modCopy_sameMaps (c : Chip) (fi k : Nat) (g : Copy → Copy)
    (hg : ∀ x, (g x).cluster = x.cluster ∧ (g x).map = x.map ∧ (g x).mapBad = x.mapBad) : (c.modCopy fi k g).SameMaps c := by
  intro fi' k'
  unfold Chip.copy Chip.modCopy
  by_cases h : fi' = fi
  · subst h
    rw [Chip.fi_modFi]
    dsimp only
    rw [List.getElem?_modify]
    by_cases hk : k = k'
    · subst hk
      cases (c.fi fi').copies[k]? with
      | none => exact ⟨rfl, rfl, rfl⟩
      | some x => simpa using hg x
    · cases (c.fi fi').copies[k']? <;> simp [hk]
  · rw [Chip.fi_modFi_ne c fi fi' _ h]
    exact ⟨rfl, rfl, rfl⟩

theorem Chip.liveCount_sameMaps (c : Chip) (t : Token) (k : Nat) (g : Nat → Nat) : (c.liveCount t k g).SameMaps c := by
  have h := c.modFi_sameMaps t.fi (fun x => { x with live := x.live.put 0 t.gen (g (x.live.get 0 t.gen)) }) fun _ => rfl
  unfold Chip.liveCount
  dsimp only
  split
  · exact Chip.SameMaps.trans (.of_copies fun _ => rfl) h
  · exact h

theorem Chip.consume_sameMaps (c : Chip) (f : Firing) : (c.consume f).SameMaps c := by
  unfold Chip.consume
  dsimp only
  split
  · exact (Chip.liveCount_sameMaps _ _ _ _).trans (Chip.liveCount_sameMaps _ _ _ _)
  · exact Chip.liveCount_sameMaps _ _ _ _

theorem Chip.fired_sameMaps (c : Chip) (tile : Nat) (f : Firing) (rest : List Firing) : (c.fired tile f rest).SameMaps c :=
  (Chip.consume_sameMaps _ f).trans (.of_copies fun _ => rfl)

theorem Chip.count_sameMaps (c : Chip) (fi k : Nat) (g : Cnt → Cnt) : (c.count fi k g).SameMaps c :=
  c.modCopy_sameMaps fi k (fun x => { x with cnt := g x.cnt }) fun _ => ⟨rfl, rfl, rfl⟩

theorem Chip.born_sameMaps (c : Chip) (t : Token) (k : Nat) : (c.born t k).SameMaps c := by
  have hw : (c.watchFrom t.fi k).SameMaps c := by
    unfold Chip.watchFrom
    split
    · exact c.modCopy_sameMaps _ _ _ fun _ => ⟨rfl, rfl, rfl⟩
    · exact .refl c
  have h := ((c.watchFrom t.fi k).liveCount_sameMaps t k (· + 1)).trans hw
  unfold Chip.born
  dsimp only
  generalize (c.watchFrom t.fi k).liveCount t k (· + 1) = d at h
  split
  · exact (d.count_sameMaps _ _ _).trans h
  · exact h

/-- A token with a sound destination joins the network. -/
theorem Chip.send_net {c : Chip} {src : Nat} {t : Token} {k : Nat} {a b : Option Nat} {dst : Nat} (hv : t.vt < (c.image t.fi).v)
    (hm : (c.copy t.fi k).map[t.vt % (c.copy t.fi k).map.length]? = some dst)
    (hb : (c.copy t.fi k).mapBad.contains (t.vt % (c.copy t.fi k).map.length) = false) :
    (c.send src t k a b).fab.net = c.fab.net ++ [{ src := src, dst := dst, copy := k, tok := t, startsPeriod := a, chan := b }] := by
  have hlen : max (c.copy t.fi k).map.length 1 = (c.copy t.fi k).map.length := by
    have := (List.getElem?_eq_some_iff.mp hm).1
    omega
  unfold Chip.send
  dsimp only
  rw [hlen, hm]
  dsimp only
  rw [if_pos ⟨hv, by simpa using hb⟩]
  rfl

theorem of_if_pos {α : Type} {P : α → Prop} {p : Prop} [Decidable p] {a b : α} (h : p) (ha : P a) : P (if p then a else b) := (if_pos h).symm ▸ ha

/-! ### Raises -/

theorem raised_raise (c : Chip) (src inst : Nat) (fi : Option Nat) (d : Fields) : Raised c.coll (c.raise src inst fi d).coll src inst :=
  List.map_append

theorem Raised.of_eq {a b d : Collector} {src inst : Nat} (h : Raised b d src inst) (e : b = a) : Raised a d src inst := e ▸ h

/-! ### Predicate writers -/

theorem Firing.predValue_eq (f : Firing) (g : Word → Word → Bool) :
    f.predValue g = (decide (combine f.tok.op f.rOpnd = none) && g f.tok.op.data f.r.data) := by
  unfold Firing.predValue
  cases combine f.tok.op f.rOpnd <;> rfl

theorem writesPredicate_of {i : Fin 416 → Instr} {op : Nat} {ow : Bool} {g g' : Word → Word → Bool}
    (he : ∀ (s : State) (tile : Fin 416), exec (i tile) s = s.onChip (fun c => c.predicate tile op ow g')) (hg : ∀ l r, g' l r = g l r) :
    WritesPredicate i op ow g := by
  intro s tile f rest h c key p v hlive
  have hv : f.predValue g' = v := by rw [Firing.predValue_eq, hg]
  refine ⟨fun hp => completes_execute h (he s tile) ?_, fun hp how => completes_execute h (he s tile) ?_⟩
  · rw [hv, Chip.predWrite_done _ _ _ _ _ _ hlive hp, Chip.ctx_modCtx]
    exact ⟨Tbl.find_set_same _ _ _, fun q hq => Tbl.find_set_ne _ _ hq, rfl, rfl, s.u.fired_net tile f rest⟩
  · subst how
    rw [Chip.predWrite_again _ _ _ _ _ hlive hp]
    exact ⟨rfl, (raised_raise _ _ _ _ _).of_eq (s.u.fired_coll tile f rest)⟩

/-- A tile marked for test is among the marks. -/
theorem Chip.mem_marks_markTile (c : Chip) (t : Nat) : t ∈ (c.markTile t).fab.marks := by
  change t ∈ (if c.fab.marks.contains t then c.fab.marks else c.fab.marks ++ [t])
  split
  next h => exact List.contains_iff_mem.mp h
  next h => exact List.mem_append_right _ (List.mem_singleton.mpr rfl)

/-! ### Contexts and iterations -/

theorem div_pow15_eq_getLsbD (w : Word) : (w.toNat / 32768 % 2 == 1) = w.getLsbD 15 := by
  rw [← BitVec.testBit_toNat, Nat.testBit_eq_decide_div_mod_eq]
  rfl

/-- The retirement of an iteration in a live context whose loop counts one returns its credit. -/
theorem Chip.retire_live {c : Chip} {f : Firing} {l : Nat} (hl : c.ctxLive f.tok f.copy = true) (hn : (c.ctx (c.ctxOf f.tok f.copy)).loops.get 0 l ≠ 0) :
    c.retire f l = (c.modCtx (c.ctxOf f.tok f.copy) (fun x => { x with loops := x.loops.put 0 l (x.loops.get 0 l - 1) })).modCopy f.tok.fi f.copy
      (fun p => { p with credit := p.credit + 1 }) := by
  unfold Chip.retire
  rw [hl]
  exact if_neg hn

/-- The plain and the retiring INEXT, whose roles are 0 and 2. -/
theorem inext_of_role {s : State} {tile : Fin 416} {f : Firing} {rest : List Firing} (h : Fires s tile 0xD5 f rest) :
    (Word.aux f.word / 8 % 4 = 0 → s.u.inext tile = (s.u.fired tile f rest).emitTo f (Word.dests f.word) f.tok.op
      ((f.tok.colour + 1) % 256) f.tok.epoch f.tok.frame) ∧
    (Word.aux f.word / 8 % 4 = 2 → s.u.inext tile = ((s.u.fired tile f rest).retire f (Word.aux f.word / 32)).emitTo f (Word.dests f.word) f.tok.op
      ((f.tok.colour + 1) % 256) f.tok.epoch f.tok.frame) := by
  unfold Chip.inext
  rw [takeFiring_fires h]
  dsimp only
  refine ⟨fun haux => ?_, fun haux => ?_⟩ <;> rw [haux] <;> rfl

/-! ### The obligations -/

/-- Settles O20: each instruction past its firing, by its control operand. -/
theorem steerResults : Obligations.SteerResults := by
  refine ⟨emits_of exec_mov fun _ _ => rfl, emits_of exec_gate fun _ _ => rfl, emits_of exec_ktest fun f c => ?ktest, emits_of exec_tread fun _ _ => rfl,
    emits_of exec_lit fun _ _ => rfl, emits_of exec_tqual fun f c => ?tqual, fun s tile f rest h => completes_execute h (exec_sink s tile) rfl,
    fun s tile f rest h => ?steer, fun s tile f rest h => ?kset⟩
  case ktest => cases f.tok.op.kind <;> rfl
  case tqual => rw [BitVec.ofNat_toNat]
  case steer =>
    refine ⟨fun o ho => completes_execute h (exec_steer s tile) ?_, fun hn hb => completes_execute h (exec_steer s tile) ?_,
      fun hn hb => completes_execute h (exec_steer s tile) ?_⟩
    · rw [ho]
    · rw [hn, if_pos ((mod_two_eq_one_iff _).mpr hb)]
    · rw [hn, if_neg (by rw [mod_two_eq_one_iff, hb]; decide)]
  case kset =>
    refine ⟨fun o ho => completes_kset h ?_, fun hn hk hr => completes_kset h ?_, fun hn hv hp => ?_, fun hn hr => completes_kset h ?_⟩
    · rw [ho]
    · rw [hn]
      simp only [Kind.ofCode_not_reserved hr, Bool.false_eq_true, if_false, if_pos hk]
    · have hk : ¬(f.tok.op.kind = .void ∨ f.tok.op.kind = .poison) := not_or.mpr ⟨hv, hp⟩
      refine ⟨fun hr => ?_, fun hr => ?_, fun hr => ?_, fun hr => ?_, fun hr => ?_⟩ <;> refine completes_kset h ?_ <;> rw [hn, hr] <;> exact if_neg hk
    · obtain ⟨hres, hcode⟩ := Kind.ofCode_reserved hr (Nat.mod_lt _ (by decide))
      rw [hn]
      simp only [hres, if_true, hcode]

/-- Settles O21: the one destination's token, through the copy's map that neither the firing nor the token's birth changes. -/
theorem tokenSent : Obligations.TokenSent := by
  intro s tile f rest dst h hsecond d cp hv hm hb
  refine completes_execute h (exec_mov s tile) ?_
  have hdests : Word.dests f.word = [d] := by unfold Word.dests; rw [hsecond]
  unfold Chip.emit Chip.emitTo
  rw [hdests, List.foldl_cons, List.foldl_nil]
  dsimp only
  generalize ht : Token.mk f.tok.fi f.tok.gen f.tok.epoch f.tok.frame d.vt d.page d.off d.portR f.tok.colour f.tok.op = t
  have hfi : t.fi = f.tok.fi := by rw [← ht]
  have hvt : t.vt = d.vt := by rw [← ht]
  have hcounts := (s.u.fired tile f rest).born_counts t f.copy
  obtain ⟨-, hmap, hbad⟩ := (((s.u.fired tile f rest).born_sameMaps t f.copy).trans (s.u.fired_sameMaps tile f rest)) f.tok.fi f.copy
  have himage : ((s.u.fired tile f rest).born t f.copy).image f.tok.fi = s.u.image f.tok.fi := by
    unfold Chip.image Chip.fiCfg
    rw [hcounts.frame.cfg, Chip.fired_cfg]
  rw [Chip.send_net (by rw [hfi, hvt, himage]; exact hv) (by rw [hfi, hvt, hmap]; exact hm) (by rw [hfi, hvt, hmap, hbad]; exact hb),
    hcounts.net, Chip.fired_net]

/-- Settles O22: a write takes effect where the predicate is absent or the writer overwrites, and is a fault elsewhere. -/
theorem predicateWrites : Obligations.PredicateWrites := by
  refine ⟨writesPredicate_of exec_pset fun _ _ => rfl, writesPredicate_of exec_psetw fun _ _ => rfl, writesPredicate_of exec_peq fun l r => ?peq,
    writesPredicate_of exec_plt fun _ _ => rfl, writesPredicate_of exec_pltu fun _ _ => rfl, writesPredicate_of exec_ptst fun l r => ?ptst,
    writesPredicate_of exec_qchk fun l r => ?qchk⟩
  case peq => exact beq_eq_decide l r
  case ptst => rw [Bool.eq_iff_iff, bne_iff_ne, decide_eq_true_iff]
  case qchk => exact beq_eq_decide _ _

/-- Settles O23: each instruction past its firing, by its operands, its role and its context. -/
theorem contextResults : Obligations.ContextResults := by
  refine ⟨emits_of exec_cself fun _ _ => rfl, fun s tile f rest h => ?cput, fun s tile f rest h => ?crel, fun s tile f rest n h hper => ?pdone,
    fun s tile f rest h haux => ?next, fun s tile f rest h haux hk hg hc hd hq => ?gate, fun s tile f rest h haux hl hn => ?retire,
    fun s tile f rest h haux => ?iset, fun s tile f rest fr h hv hp hg => ?cnew⟩
  case cput =>
    intro c x
    refine ⟨fun hk => completes_execute h (exec_cput s tile) ?_, fun hk => completes_execute h (exec_cput s tile) ?_,
      fun hn hx => completes_execute h (exec_cput s tile) ?_, fun hn hx ho => completes_execute h (exec_cput s tile) ?_⟩
    · rw [controlKind_void hk]; rfl
    · rw [controlKind_poison hk]; dsimp only; rw [hk]; rfl
    · rw [hn]
      have hfree : ¬(x.st ≠ .free ∧ (x.fi ≠ f.tok.fi ∨ x.copy ≠ f.copy)) := by
        rintro ⟨hst, ho⟩
        rcases hx with hx | ⟨hfi, hcopy⟩
        · exact hst hx
        · exact ho.elim (absurd hfi) (absurd hcopy)
      refine (if_neg hfree).trans ?_
      rw [div_pow15_eq_getLsbD]
      rfl
    · rw [hn]
      refine of_if_pos (P := fun c : Chip => Raised s.u.coll c.coll 2 f.tok.fi) ⟨hx, ho⟩ ?_
      exact (raised_raise _ _ _ _ _).of_eq (s.u.fired_coll tile f rest)
  case crel =>
    refine ⟨fun hl => completes_execute h (exec_crel s tile) (if_pos hl), fun hl => completes_execute h (exec_crel s tile) (if_neg ?_)⟩
    rw [hl]; decide
  case pdone =>
    refine completes_execute h (exec_pdone s tile) ?_
    rw [hper]
    exact congrArg (· ++ [(f.tok.fi, f.copy, n)]) (s.u.fired_dones tile f rest)
  case next =>
    exact completes_onChip (exec_inext s tile) h.powered ((inext_of_role h).1 haux)
  case gate =>
    refine completes_onChip (exec_inext s tile) h.powered ?_
    unfold Chip.inext
    simp only [takeFiring_fires h, haux]
    have hno : ¬((((s.u.popped tile rest).copy f.tok.fi f.copy).credit = 0 ∨ ((s.u.popped tile rest).fi f.tok.fi).deepHold = true ∨
        (s.u.popped tile rest).fab.creditQ.any (fun q => q.1 == f.tok.fi && q.2.1 == f.copy) = true)) := by
      rw [hd, hq]; simp [hc]
    rw [if_neg (Nat.not_le.mpr hk), hg, if_neg Bool.false_ne_true, if_neg hno]
  case retire =>
    refine completes_onChip (exec_inext s tile) h.powered (((inext_of_role h).2 haux).trans ?_)
    rw [Chip.retire_live hl hn]
  case iset =>
    have hplain : ¬Word.aux f.word / 8 % 4 = 2 := by omega
    refine ⟨fun o ho => completes_execute h (exec_iset s tile) ?_, fun hn => completes_execute h (exec_iset s tile) ?_⟩
    · dsimp only
      rw [if_neg hplain, ho]
    · dsimp only
      rw [if_neg hplain, hn]
  case cnew =>
    refine completes_onChip (exec_cnew s tile) h.powered ?_
    unfold Chip.cnew
    rw [takeFiring_fires h]
    dsimp only
    rw [combine_none_of_kind hv hp, hg]
    rfl

/-- Settles O29: the word's operands are consumed, and the fault marks the tile. -/
theorem reservedWords : Obligations.ReservedWords := by
  intro s tile f rest corrupt hp hpipe
  have hword (P : Chip → Prop) (h : P (if (corrupt || !wordOk (s.u.image f.tok.fi) f.word) = true then
      (s.u.fired tile f rest).instrIntegrity f.tok.fi tile [⟨"WORD", .hex 16 f.word.toNat⟩] else s.u)) :
      CompletesChip (.reservedOpcode tile corrupt) s P := by
    refine completes_onChip (exec_reservedOpcode s tile corrupt) hp ?_
    unfold Chip.reservedWord
    rw [hpipe]
    exact h
  refine ⟨fun hbad => hword _ ?_, fun hc hok => hword _ ?_⟩
  · rw [if_pos (by rcases hbad with h | h <;> simp [h])]
    refine ⟨s.u.fired_net tile f rest, (raised_raise _ _ _ _ _).of_eq (s.u.fired_coll tile f rest), Chip.mem_marks_markTile _ _,
      (s.u.fired_frame tile f rest).trans rfl⟩
  · rw [if_neg (by simp [hc, hok])]

end Sys2Proof.Machine
end

section
/-!
PROOFS. What the register-only instructions leave unchanged (R336, R348): each runs in the unit alone, and what it does to the unit stays in the fabric.
-/
namespace Sys2Proof.Machine

/-- An instruction that changes no memory, and of the unit the fabric, the FIs' running state and the raises alone. -/
def RegisterOnly (i : Fin 416 → Instr) : Prop :=
  ∀ s tile, ∃ g : Chip → Chip, exec (i tile) s = s.onChip g ∧ ∀ c, FabricAlone c (g c)

theorem RegisterOnly.of_compute {i : Fin 416 → Instr} {op : Nat} {g : Word → Word → Res}
    (he : ∀ (s : State) (tile : Fin 416), exec (i tile) s = s.onChip (fun c => c.compute tile op g)) : RegisterOnly i :=
  fun s tile => ⟨_, he s tile, fun c => c.compute_frame tile op g⟩

theorem RegisterOnly.of_execute {i : Fin 416 → Instr} {op : Nat} {g : Firing → Chip → Chip}
    (he : ∀ (s : State) (tile : Fin 416), exec (i tile) s = s.onChip (fun c => c.execute tile op g))
    (hg : ∀ f c, FabricAlone c (g f c)) : RegisterOnly i :=
  fun s tile => ⟨_, he s tile, fun c => c.execute_frame tile op g hg⟩

theorem RegisterOnly.of_predicate {i : Fin 416 → Instr} {op : Nat} {w : Bool} {g : Word → Word → Bool}
    (he : ∀ (s : State) (tile : Fin 416), exec (i tile) s = s.onChip (fun c => c.predicate tile op w g)) : RegisterOnly i :=
  .of_execute he (fun _ c => c.predWrite_frame _ _ _ _ _)

/-- Where an instruction that runs in the unit alone answers a next state, the rest of the state is as it was. -/
theorem RegisterOnly.next {i : Fin 416 → Instr} (h : RegisterOnly i) {s t : State} {tile : Fin 416} (ht : exec (i tile) s = .next t) :
    FabricAlone s.u t.u ∧ t.mem = s.mem ∧ t.pending = s.pending := by
  obtain ⟨g, he, hg⟩ := h s tile
  rw [he] at ht
  unfold State.onChip at ht
  split at ht <;> cases ht
  · exact ⟨hg s.u, rfl, rfl⟩
  · exact ⟨FabricAlone.refl _, rfl, rfl⟩

/-! ### One effect at a time -/

theorem Chip.misbehaves_frame (c : Chip) (fi : Nat) : FabricAlone c (c.misbehaves fi) := by
  unfold Chip.misbehaves
  dsimp only
  split <;> exact rfl

theorem Chip.crcStep_frame (c : Chip) (tile op : Nat) (g : CrcDesc → Word → Word → Word) : FabricAlone c (c.crcStep tile op g) := by
  refine c.execute_frame tile op _ (fun f c => ?_)
  split
  · exact c.emit_frame _ _
  · exact c.emit_frame _ _
  · exact .refl c

theorem Chip.kset_frame (c : Chip) (tile : Nat) : FabricAlone c (c.kset tile) := by
  refine c.execute_frame tile 0x04 _ (fun f c => ?_)
  dsimp only
  split
  · exact c.emit_frame _ _
  · split
    · exact (c.misbehaves_frame f.tok.fi).trans rfl
    · split
      · exact c.emit_frame _ _
      · split <;> exact c.emit_frame _ _

theorem Chip.steer_frame (c : Chip) (tile : Nat) : FabricAlone c (c.steer tile) := by
  refine c.execute_frame tile 0x01 _ (fun f c => ?_)
  dsimp only
  split
  · exact c.emit_frame _ _
  · exact c.emitTo_frame _ _ _ _ _ _

theorem Chip.cput_frame (c : Chip) (tile : Nat) : FabricAlone c (c.cput tile) := by
  refine c.execute_frame tile 0xD2 _ (fun f c => ?_)
  dsimp only
  split
  · exact c.emit_frame _ _
  · split
    · exact rfl
    · exact c.emitTo_frame _ _ _ _ _ _

theorem Chip.kld_frame (c : Chip) (tile : Nat) : FabricAlone c (c.kld tile) := by
  refine c.execute_frame tile 0xA6 _ (fun f c => ?_)
  split
  · exact c.emit_frame _ _
  · split
    · exact c.emit_frame _ _
    · exact rfl

/-! ### The families -/

theorem registerOnly_integer : ∀ i ∈ ([.add, .sub, .mul, .mulh, .mulhu, .div, .divu, .rem, .remu, .and, .or, .xor, .andn, .shl, .shr, .sar, .rol, .ror, .min, .max,
    .minu, .maxu, .neg, .not, .abs, .sext, .zext, .extr, .adds, .subs, .add32, .sub32, .mul32, .qadd, .qsub, .qmul, .qneg, .qabs,
    .qshl, .qshr, .hadd, .hsub, .hmul, .hneg, .habs, .hshl, .hshr, .q2h, .h2q, .qmul64, .qrnd] :
    List (Fin 416 → Instr)), RegisterOnly i := by
  simp only [List.forall_mem_cons]
  exact ⟨.of_compute exec_add, .of_compute exec_sub, .of_compute exec_mul, .of_compute exec_mulh, .of_compute exec_mulhu, .of_compute
    exec_div, .of_compute exec_divu, .of_compute exec_rem, .of_compute exec_remu, .of_compute exec_and, .of_compute exec_or,
    .of_compute exec_xor, .of_compute exec_andn, .of_compute exec_shl, .of_compute exec_shr, .of_compute exec_sar, .of_compute
    exec_rol, .of_compute exec_ror, .of_compute exec_min, .of_compute exec_max, .of_compute exec_minu, .of_compute exec_maxu,
    .of_compute exec_neg, .of_compute exec_not, .of_compute exec_abs, .of_compute exec_sext, .of_compute exec_zext, .of_compute
    exec_extr, .of_compute exec_adds, .of_compute exec_subs, .of_compute exec_add32, .of_compute exec_sub32, .of_compute
    exec_mul32, .of_compute exec_qadd, .of_compute exec_qsub, .of_compute exec_qmul, .of_compute exec_qneg, .of_compute exec_qabs,
    .of_compute exec_qshl, .of_compute exec_qshr, .of_compute exec_hadd, .of_compute exec_hsub, .of_compute exec_hmul, .of_compute
    exec_hneg, .of_compute exec_habs, .of_compute exec_hshl, .of_compute exec_hshr, .of_compute exec_q2h, .of_compute exec_h2q,
    .of_compute exec_qmul64, .of_compute exec_qrnd, by simp⟩

theorem registerOnly_float : ∀ i ∈ ([.fadd, .fsub, .fmul, .fdiv, .fsqrt, .fmin, .fmax, .fneg, .fabs, .fclt, .fcle, .fceq, .f2i, .i2f, .f2q, .q2f, .f2d, .d2f, .fhypot,
    .dadd, .dsub, .dmul, .ddiv, .dsqrt, .dmin, .dmax, .dneg, .dabs, .dclt, .dcle, .dceq, .d2i, .i2d, .ceq, .cne, .clt, .cle,
    .cltu, .cleu, .ctst] :
    List (Fin 416 → Instr)), RegisterOnly i := by
  simp only [List.forall_mem_cons]
  exact ⟨.of_compute exec_fadd, .of_compute exec_fsub, .of_compute exec_fmul, .of_compute exec_fdiv, .of_compute exec_fsqrt, .of_compute
    exec_fmin, .of_compute exec_fmax, .of_compute exec_fneg, .of_compute exec_fabs, .of_compute exec_fclt, .of_compute exec_fcle,
    .of_compute exec_fceq, .of_compute exec_f2i, .of_compute exec_i2f, .of_compute exec_f2q, .of_compute exec_q2f, .of_compute
    exec_f2d, .of_compute exec_d2f, .of_compute exec_fhypot, .of_compute exec_dadd, .of_compute exec_dsub, .of_compute exec_dmul,
    .of_compute exec_ddiv, .of_compute exec_dsqrt, .of_compute exec_dmin, .of_compute exec_dmax, .of_compute exec_dneg,
    .of_compute exec_dabs, .of_compute exec_dclt, .of_compute exec_dcle, .of_compute exec_dceq, .of_compute exec_d2i, .of_compute
    exec_i2d, .of_compute exec_ceq, .of_compute exec_cne, .of_compute exec_clt, .of_compute exec_cle, .of_compute exec_cltu,
    .of_compute exec_cleu, .of_compute exec_ctst, by simp⟩

theorem registerOnly_predicate : ∀ i ∈ ([.pset, .psetw, .peq, .plt, .pltu, .ptst, .qchk] :
    List (Fin 416 → Instr)), RegisterOnly i := by
  simp only [List.forall_mem_cons]
  exact ⟨.of_predicate exec_pset, .of_predicate exec_psetw, .of_predicate exec_peq, .of_predicate exec_plt, .of_predicate exec_pltu,
    .of_predicate exec_ptst, .of_predicate exec_qchk, by simp⟩

theorem registerOnly_bits : ∀ i ∈ ([.brev, .popc, .bswap, .clz, .ctz] :
    List (Fin 416 → Instr)), RegisterOnly i := by
  simp only [List.forall_mem_cons]
  exact ⟨.of_compute exec_brev, .of_compute exec_popc, .of_compute exec_bswap, .of_compute exec_clz, .of_compute exec_ctz, by simp⟩

theorem registerOnly_crc : ∀ i ∈ ([.crcw, .crcb, .crcf] : List (Fin 416 → Instr)), RegisterOnly i := by
  simp only [List.forall_mem_cons]
  exact ⟨fun s tile => ⟨_, exec_crcw s tile, fun c => c.crcStep_frame _ _ _⟩, fun s tile => ⟨_, exec_crcb s tile, fun c => c.crcStep_frame _ _ _⟩,
    fun s tile => ⟨_, exec_crcf s tile, fun c => c.crcStep_frame _ _ _⟩, by simp⟩

/-- The instructions that emit one token made from their operands and the unit. -/
theorem registerOnly_emitting : ∀ i ∈ ([.mov, .gate, .ktest, .tread, .lit, .tqual, .fmov, .par, .cself, .agen] : List (Fin 416 → Instr)),
    RegisterOnly i := by
  have hg : ∀ (o : Chip → Firing → Opnd) (f : Firing) (c : Chip), FabricAlone c (c.emit f (o c f)) := fun o f c => c.emit_frame f _
  simp only [List.forall_mem_cons]
  exact ⟨.of_execute exec_mov (hg _), .of_execute exec_gate (hg _), .of_execute exec_ktest (hg _), .of_execute exec_tread (hg _),
    .of_execute exec_lit (hg _), .of_execute exec_tqual (hg _), .of_execute exec_fmov (hg _), .of_execute exec_par (hg _),
    .of_execute exec_cself (hg _), .of_execute exec_agen (hg _), by simp⟩

theorem registerOnly_steering : ∀ i ∈ ([.steer, .sink, .kset, .cput, .kld] : List (Fin 416 → Instr)), RegisterOnly i := by
  simp only [List.forall_mem_cons]
  exact ⟨fun s tile => ⟨_, exec_steer s tile, fun c => c.steer_frame _⟩, .of_execute exec_sink (fun _ c => .refl c),
    fun s tile => ⟨_, exec_kset s tile, fun c => c.kset_frame _⟩, fun s tile => ⟨_, exec_cput s tile, fun c => c.cput_frame _⟩,
    fun s tile => ⟨_, exec_kld s tile, fun c => c.kld_frame _⟩, by simp⟩

/-- Settles O27: every instruction named belongs to one of the families above. -/
theorem computeFrame : Obligations.ComputeFrame := by
  unfold Obligations.ComputeFrame
  intro s t tile i hi ht
  refine RegisterOnly.next ?_ ht
  have h1 := registerOnly_integer
  have h2 := registerOnly_float
  have h3 := registerOnly_predicate
  have h4 := registerOnly_bits
  have h5 := registerOnly_crc
  have h6 := registerOnly_emitting
  have h7 := registerOnly_steering
  simp only [List.forall_mem_cons] at h1 h2 h3 h4 h5 h6 h7
  revert i
  simp only [List.forall_mem_cons]
  simp [h1, h2, h3, h4, h5, h6, h7]

end Sys2Proof.Machine
end

section
/-!
PROOFS. The addressed memories read after an operation on one word, one line or one table entry (R380, R409, R421).
-/
namespace Sys2Proof.Machine

/-! ### Lists and tables -/

@[simp] theorem mem_insNat {l : List Nat} {n x : Nat} : x ∈ insNat l n ↔ x = n ∨ x ∈ l := by
  induction l with
  | nil => simp [insNat]
  | cons k t ih =>
    unfold insNat
    split
    · simp
    · split
      · subst_vars; simp
      · simp only [List.mem_cons, ih]; tauto

theorem Tbl.find_del_ne {α : Type} (t : Tbl α) {n m : Nat} (h : m ≠ n) : (t.del n).find m = t.find m := by
  induction t with
  | nil => rfl
  | cons e t ih =>
    obtain ⟨k, v⟩ := e
    by_cases hk : k = n
    · subst hk
      simpa [Tbl.del, Tbl.find, h] using ih
    · by_cases hm : m = k
      · simp [Tbl.del, hk, Tbl.find, hm]
      · simpa [Tbl.del, hk, Tbl.find, hm] using ih

/-! ### Words -/

/-- Octets written from an address upward read back. -/
theorem cellGet_puts_in {l : List Host.Cell} (h : CellOk l) (a : Nat) (bs : List Byte) {i : Nat} (hi : i < bs.length) :
    cellGet (cellPuts l a bs) (a + i) = bs[i] := by
  induction bs generalizing l a i with
  | nil => exact absurd hi (Nat.not_lt_zero _)
  | cons b bs ih =>
    rw [cellPuts]
    cases i with
    | zero => rw [cellGet_puts_out _ _ _ (by omega), Nat.add_zero, cellGet_put_same h]; rfl
    | succ i =>
      have := ih (h.put a b) (a + 1) (i := i) (by simpa using hi)
      rw [show a + (i + 1) = a + 1 + i by omega, this]
      rfl

theorem append_octets (w : Word) : w.extractLsb' 56 8 ++ w.extractLsb' 48 8 ++ w.extractLsb' 40 8 ++ w.extractLsb' 32 8 ++ w.extractLsb' 24 8 ++
    w.extractLsb' 16 8 ++ w.extractLsb' 8 8 ++ w.extractLsb' 0 8 = w := by
  ext k hk
  simp only [BitVec.getElem_append, BitVec.getElem_extractLsb']
  repeat' split
  all_goals rw [← BitVec.getLsbD_eq_getElem]; exact congrArg w.getLsbD (by omega)

/-- A written word reads back. -/
theorem wordAt_wordPut {l : List Host.Cell} (h : CellOk l) (a : Nat) (w : Word) : wordAt (wordPut l a w) a = w := by
  have hg : ∀ i (hi : i < 8), cellGet (wordPut l a w) (a + i) = (wordOctets w)[i] := fun i hi => cellGet_puts_in h a (wordOctets w) hi
  have h0 := hg 0 (by omega)
  rw [Nat.add_zero] at h0
  unfold wordAt
  rw [h0, hg 1 (by omega), hg 2 (by omega), hg 3 (by omega), hg 4 (by omega), hg 5 (by omega), hg 6 (by omega), hg 7 (by omega)]
  exact append_octets w

theorem wordAt_congr {l l' : List Host.Cell} {a : Nat} (h : ∀ b, a ≤ b → b < a + 8 → cellGet l' b = cellGet l b) : wordAt l' a = wordAt l a := by
  unfold wordAt
  rw [h a (by omega) (by omega), h (a + 1) (by omega) (by omega), h (a + 2) (by omega) (by omega), h (a + 3) (by omega) (by omega),
    h (a + 4) (by omega) (by omega), h (a + 5) (by omega) (by omega), h (a + 6) (by omega) (by omega), h (a + 7) (by omega) (by omega)]

/-! ### Presence -/

/-- A word written or emptied is no longer lost with its half. -/
theorem Mem.cleanWord_same (m : Mem) (w : Nat) : (m.sbad.contains (wordHalf w) && !(m.cleanWord w).contains w) = false := by
  unfold Mem.cleanWord
  split
  · simp
  · rename_i h
    exact Bool.eq_false_iff.2 h

theorem Mem.cleanWord_ne (m : Mem) {w v : Nat} (h : v ≠ w) : (m.cleanWord w).contains v = m.sclean.contains v := by
  unfold Mem.cleanWord
  split
  · simp [h]
  · rfl

theorem Mem.halfLost_sempty_same (m : Mem) (w : Nat) : (m.sempty w).halfLost w = false := m.cleanWord_same w
theorem Mem.halfLost_swrite_same (m : Mem) (w : Nat) (v : Word) : (m.swrite w v).halfLost w = false := m.cleanWord_same w
theorem Mem.halfLost_sempty_ne (m : Mem) {w v : Nat} (h : v ≠ w) : (m.sempty w).halfLost v = m.halfLost v := by
  unfold Mem.halfLost
  exact congrArg (fun b => m.sbad.contains (wordHalf v) && !b) (m.cleanWord_ne h)
theorem Mem.halfLost_swrite_ne (m : Mem) {w v : Nat} (x : Word) (h : v ≠ w) : (m.swrite w x).halfLost v = m.halfLost v := m.halfLost_sempty_ne h

theorem Mem.present_sempty_same (m : Mem) (w : Nat) : (m.sempty w).present' w = false := by
  unfold Mem.present'
  rw [m.halfLost_sempty_same, Bool.or_false]
  simp [Mem.sempty]

theorem Mem.present_sempty_ne (m : Mem) {w v : Nat} (h : v ≠ w) : (m.sempty w).present' v = m.present' v := by
  unfold Mem.present'
  rw [m.halfLost_sempty_ne h]
  simp [Mem.sempty, h]

theorem Mem.sread_sempty_ne (m : Mem) {w v : Nat} (h : v ≠ w) : (m.sempty w).sread v = m.sread v := by
  unfold Mem.sread
  rw [m.halfLost_sempty_ne h, show (m.sempty w).spoison.find v = m.spoison.find v from Tbl.find_del_ne _ h]
  rfl

theorem Mem.present_swrite_same (m : Mem) (w : Nat) (v : Word) : (m.swrite w v).present' w = true := by
  unfold Mem.present'
  simp [Mem.swrite]

theorem Mem.present_swrite_ne (m : Mem) {w v : Nat} (x : Word) (h : v ≠ w) : (m.swrite w x).present' v = m.present' v := by
  unfold Mem.present'
  rw [m.halfLost_swrite_ne x h]
  simp [Mem.swrite, h]

/-- A stored word reads back. -/
theorem Mem.sread_swrite_same {m : Mem} (h : m.Ok) (w : Nat) (v : Word) : (m.swrite w v).sread w = ⟨.data, v⟩ := by
  unfold Mem.sread
  rw [m.halfLost_swrite_same, show (m.swrite w v).spoison.find w = none from Tbl.find_del_same _ _]
  exact congrArg (Opnd.mk .data) (wordAt_wordPut h.1 (8 * w) v)

/-- A cleaned line is no longer poisoned. -/
theorem Mem.linePoison_cleanLine (m : Mem) (l : Nat) : (m.cleanLine l).linePoison l = none := by
  unfold Mem.linePoison
  rw [show (m.cleanLine l).dpoison.find l = none from Tbl.find_del_same _ _]
  by_cases h : m.dbad.contains (groupOf (64 * l)) && !m.dclean.contains l
  · have : (m.cleanLine l).dclean = insNat m.dclean l := if_pos h
    rw [this]
    simp
  · have : (m.cleanLine l).dclean = m.dclean := if_neg h
    rw [this]
    exact if_neg h

end Sys2Proof.Machine
end

section
/-!
PROOFS. Loads, constants and stores (R376–R384, R420, Table 9-5).
-/
namespace Sys2Proof.Machine

/-! ### Requests made at once -/

theorem completes_addressed {i : Instr} {s : State} {tile : Fin 416} {op : Nat} {f : Firing} {rest : List Firing} {k : Bool}
    {perform : List Firing → CM → CM} {P : State → Prop} (h : Requesting s tile op f rest)
    (he : exec i s = s.onCM (fun cm => CM.addressed cm tile op k perform)) {u : Chip} {m : Mem}
    (hr : perform [f] (s.u.requested tile rest, s.mem) = (u, m)) (hp : P { s with u := u, mem := m }) : Completes i s P := by
  refine completesBoth he h.powered ?_
  rw [addressed_requesting h, hr]
  exact hp

theorem completesChip_addressed {i : Instr} {s : State} {tile : Fin 416} {op : Nat} {f : Firing} {rest : List Firing} {k : Bool}
    {perform : List Firing → CM → CM} {P : Chip → Prop} (h : Requesting s tile op f rest)
    (he : exec i s = s.onCM (fun cm => CM.addressed cm tile op k perform)) {u : Chip}
    (hr : perform [f] (s.u.requested tile rest, s.mem) = (u, s.mem)) (hp : P u) : CompletesChip i s P :=
  completes_addressed h he hr ⟨rfl, rfl, hp⟩

theorem Chip.requested_frame (c : Chip) (tile : Nat) (rest : List Firing) : FabricAlone c (c.requested tile rest) := rfl

/-- An answer is one reply on its way, and nothing else. -/
theorem replied_answerF (c : Chip) (f : Firing) (o : Option Opnd) : Replied c (c.answerF [f] o) f o := rfl

theorem Chip.answerF_frame (c : Chip) (fs : List Firing) (o : Option Opnd) : FabricAlone c (c.answerF fs o) := rfl

theorem Chip.requested_answerF_frame (c : Chip) (tile : Nat) (rest : List Firing) (fs : List Firing) (o : Option Opnd) :
    FabricAlone c ((c.requested tile rest).answerF fs o) := (c.requested_frame tile rest).trans (Chip.answerF_frame _ fs o)

/-! ### Loads -/

theorem performLoad_present {c : Chip} {m : Mem} {f : Firing} {w : Nat} {e : Bool} (hw : CM.splace (c, m) f.tok.fi (c.ea f) (!e) = .word w)
    (hp : m.present' w = true) : performLoad e [f] (c, m) = (c.answerF [f] (some (m.sread w)), if e then m.sempty w else m) := by
  simp only [performLoad, hw]
  exact if_pos hp

theorem performDld_owned {c : Chip} {m : Mem} {f : Firing} {a : Nat} (ha : c.dplace f.tok.fi (c.ea f) = some a) (ho : m.privOwned f.tok.fi a = true) :
    performDld [f] (c, m) = ((c.charge f.tok.fi f.copy 1).answerF [f] (some (m.dread a)), m) := by
  simp only [performDld, ha]
  exact if_pos ho

theorem Chip.charge_replies (c : Chip) (fi k n : Nat) : (c.charge fi k n).fab.replies = c.fab.replies := by
  unfold Chip.charge
  dsimp only
  split <;> rfl

theorem performFrd_present {c : Chip} {f : Firing} {v : Word} (hl : c.ctxLive f.tok f.copy = true)
    (hp : (c.ctx (c.ctxOf f.tok f.copy)).wpoison.contains (f.tok.op.data.toNat % 32) = false)
    (hv : (c.ctx (c.ctxOf f.tok f.copy)).words.find (f.tok.op.data.toNat % 32) = some v) :
    performFrd [f] c = c.answerF [f] (some ⟨.data, v⟩) := by
  unfold performFrd
  dsimp only
  rw [if_neg (by simp [hl]), if_neg (by rw [hp]; exact Bool.false_ne_true), hv]

theorem kld_fires {s : State} {tile : Fin 416} {f : Firing} {rest : List Firing} {P : Chip → Prop} (h : Fires s tile 0xA6 f rest) {o : Opnd}
    (ho : controlKind f.tok.op = some o ∨ controlKind f.tok.op = none ∧ (s.u.image f.tok.fi).consts[f.tok.op.data.toNat % 256]? = some o)
    (hp : P ((s.u.fired tile f rest).emit f o)) : CompletesChip (.kld tile) s P := by
  refine completes_execute h (exec_kld s tile) ?_
  have hc : (s.u.fired tile f rest).image f.tok.fi = s.u.image f.tok.fi := congrArg (fun g => (g.fis.get FiCfg.init f.tok.fi).image.getD Image.empty) (s.u.fired_cfg tile f rest)
  rw [hc]
  rcases ho with ho | ⟨hn, ho⟩
  · rw [ho]; exact hp
  · rw [hn, ho]; exact hp

/-- Settles O24: each request answers once with what its word, line or entry holds; the constants and the address are emitted. -/
theorem loadResults : Obligations.LoadResults := by
  unfold Obligations.LoadResults
  refine ⟨?_, ?_, ?_, ?_, ?_, ?_⟩
  · intro s tile f rest w h hw hp
    exact completesChip_addressed h (exec_sld s tile) (performLoad_present (e := false) hw hp)
      ⟨replied_answerF _ _ _, Chip.requested_answerF_frame _ _ _ _ _⟩
  · intro s tile f rest w h hw hp
    exact completes_addressed h (exec_slde s tile) (performLoad_present (e := true) hw hp) ⟨rfl, replied_answerF _ _ _,
      Chip.requested_answerF_frame _ _ _ _ _, s.mem.present_sempty_same w,
      fun v hv => ⟨s.mem.present_sempty_ne hv, s.mem.sread_sempty_ne hv⟩, fun _ => rfl, fun _ => rfl⟩
  · intro s tile f rest a h ha ho
    refine completes_addressed h (exec_dld s tile) (performDld_owned ha ho) ⟨rfl, ?_, rfl⟩
    exact congrArg (· ++ [{ firing := f, op := some (s.mem.dread a), entry := none }]) (Chip.charge_replies (s.u.requested tile rest) f.tok.fi f.copy 1)
  · intro s tile f rest h
    exact ⟨fun o ho => kld_fires h (.inl ho) rfl, fun o hn ho => kld_fires h (.inr ⟨hn, ho⟩) rfl⟩
  · exact emits_of exec_agen (fun _ _ => rfl)
  · intro s tile f rest v h hl x hp hv
    have hr : performOp 0xD7 [f] (s.u.requested tile rest, s.mem) = ((s.u.requested tile rest).answerF [f] (some ⟨.data, v⟩), s.mem) :=
      congrArg (fun c => (c, s.mem)) (performFrd_present (c := s.u.requested tile rest) hl hp hv)
    exact completesChip_addressed h (exec_frd s tile) hr ⟨replied_answerF _ _ _, Chip.requested_answerF_frame _ _ _ _ _⟩

end Sys2Proof.Machine
end

section
/-!
PROOFS. Stores (R379–R384, R420, Table 9-5).
-/
namespace Sys2Proof.Machine

/-- A write that no deferred read waits for serves none. -/
theorem Chip.serveDefers_none {c : Chip} {a : DeferAt} (v : Word) (h : ∀ d, d ∈ c.fab.defers → d.at? ≠ a ∨ d.retryAt.isSome = true) :
    c.serveDefers a v = (c, false) := by
  have hm : c.fab.defers.filter (fun d => d.at? == a && d.retryAt.isNone) = [] := by
    rw [List.filter_eq_nil_iff]
    intro d hd
    rcases h d hd with h | h
    · simp [h]
    · simp [Option.isSome_iff_ne_none.1 h]
  have hk : c.fab.defers.filter (fun d => !([] : List Defer).contains d) = c.fab.defers := by simp
  unfold Chip.serveDefers
  rw [hm]
  exact congrArg (fun l => (c.fab' (fun g => { g with defers := l }), false)) hk

/-- A store that writes has a data operand. -/
theorem Firing.writes.badData {f : Firing} (h : f.writes) (c : Chip) : c.badData [f] = none := by
  unfold Chip.badData
  dsimp only
  split
  · rename_i hk; exact absurd hk h.1
  · rename_i hk; exact absurd hk h.2
  · rfl

theorem performSst_word {c : Chip} {m : Mem} {f : Firing} {w : Nat} (hf : f.writes) (hw : CM.splace (c, m) f.tok.fi (c.ea f) true = .word w)
    (hd : ∀ d, d ∈ c.fab.defers → d.at? ≠ .sword w ∨ d.retryAt.isSome = true) :
    performSst [f] (c, m) = (c.answerF [f] (some ⟨.data, BitVec.ofNat 64 (c.ea f)⟩), m.swrite w f.r.data) := by
  simp only [performSst, hf.badData, hw, CM.writeWord, Chip.serveDefers_none f.r.data hd]
  rfl

theorem performSclr_word {c : Chip} {m : Mem} {f : Firing} {w : Nat} (hw : CM.splace (c, m) f.tok.fi (c.ea f) false = .word w) :
    performSclr [f] (c, m) = (c.answerF [f] (some ⟨.data, BitVec.ofNat 64 (c.ea f)⟩), m.sempty w) := by
  simp only [performSclr, hw]

/-! ### Merge entries -/

/-- The merge entry that a copy's first DST opens. -/
def openedMerge (c : Chip) (f : Firing) (a : Nat) : MergeEnt :=
  { fi := f.tok.fi, copy := f.copy, line := a / 64, words := [(a / 8 % 8, f.r.data)], last := c.clk.cycle, acks := [(f, c.ea f)] }

/-- The unit with a merge entry in the place of its copy's old one. -/
def Chip.withMerge (c : Chip) (e : MergeEnt) : Chip :=
  c.fab' (fun g => { g with merges := g.merges.filter (fun x => !(x.fi == e.fi && x.copy == e.copy)) ++ [e] })

theorem Chip.withMerge_frame (c : Chip) (e : MergeEnt) : FabricAlone c (c.withMerge e) := rfl

theorem performDst_open {c : Chip} {m : Mem} {f : Firing} {a : Nat} (hf : f.writes) (ha : c.dplace f.tok.fi (c.ea f) = some a)
    (hn : c.mergeEntry f.tok.fi f.copy = none) : performDst [f] (c, m) = (c.withMerge (openedMerge c f a), m) := by
  simp only [performDst, hf.badData, ha, CM.openMerge, hn, CM.addMerge]
  rfl

theorem Chip.mergeEntry_withMerge (c : Chip) (e : MergeEnt) : (c.withMerge e).mergeEntry e.fi e.copy = some e := by
  have hn : (c.fab.merges.filter (fun x => !(x.fi == e.fi && x.copy == e.copy))).find? (fun x => x.fi == e.fi && x.copy == e.copy) = none := by
    simp only [List.find?_eq_none, List.mem_filter]
    rintro x ⟨-, hx⟩ h
    simp [h] at hx
  change List.find? _ (_ ++ [e]) = some e
  rw [List.find?_append, hn]
  simp

theorem Chip.answers_merges (l : List (Firing × Nat)) (c : Chip) :
    (l.foldl (fun c a => c.answerF [a.1] (some ⟨.data, BitVec.ofNat 64 a.2⟩)) c).fab.merges = c.fab.merges := by
  induction l generalizing c with
  | nil => rfl
  | cons a l ih => exact (ih _).trans rfl

theorem Chip.charge_merges (c : Chip) (fi k n : Nat) : (c.charge fi k n).fab.merges = c.fab.merges := by
  unfold Chip.charge
  dsimp only
  split <;> rfl

/-- A merge entry of the copy's own line, whole or of a sound line, is written and gone. -/
theorem flushMerge_owned {c : Chip} {m : Mem} {e : MergeEnt} (ho : m.privOwned e.fi (64 * e.line) = true)
    (hw : e.words.length = 8 ∨ m.linePoison e.line = none) :
    (CM.flushMerge (c, m) e).2 = (m.dwrite e.line e.words).cleanLine e.line ∧
    (CM.flushMerge (c, m) e).1.fab.merges = c.fab.merges.filter (fun x => !(x.fi == e.fi && x.copy == e.copy)) := by
  have hc : (m.privOwned e.fi (64 * e.line) && (e.words.length == 8 || (m.linePoison e.line).isNone)) = true := by
    rw [ho, Bool.true_and]
    rcases hw with hw | hw
    · simp [hw]
    · simp [hw]
  unfold CM.flushMerge
  dsimp only
  rw [if_pos hc]
  exact ⟨rfl, (Chip.answers_merges _ _).trans ((Chip.charge_merges _ _ _ _).trans rfl)⟩

theorem mergeEntry_of_filtered {c : Chip} {l : List MergeEnt} {fi k : Nat}
    (h : c.fab.merges = l.filter (fun x => !(x.fi == fi && x.copy == k))) : c.mergeEntry fi k = none := by
  unfold Chip.mergeEntry
  rw [h]
  simp only [List.find?_eq_none, List.mem_filter]
  rintro x ⟨-, hx⟩ h
  simp [h] at hx

/-! ### Frame words -/

theorem Chip.modCtx_frame (c : Chip) (key : Nat) (g : Ctx → Ctx) : FabricAlone c (c.modCtx key g) := rfl

theorem performFwr_live {c : Chip} {f : Firing} (hf : f.writes) (hl : c.ctxLive f.tok f.copy = true)
    (hd : ∀ d, d ∈ c.fab.defers → d.at? ≠ .fword (c.ctxOf f.tok f.copy / 32768) (c.ctxOf f.tok f.copy % 32768) (f.tok.op.data.toNat % 32) ∨
      d.retryAt.isSome = true) :
    performFwr [f] c = (c.modCtx (c.ctxOf f.tok f.copy) (fun x => { x with
      words := x.words.set (f.tok.op.data.toNat % 32) f.r.data,
      wpoison := x.wpoison.filter (· != f.tok.op.data.toNat % 32) })).answerF [f] (some ⟨.data, BitVec.ofNat 64 (f.tok.op.data.toNat % 32)⟩) := by
  unfold performFwr
  dsimp only
  rw [hf.badData]
  dsimp only
  rw [if_neg (by simp [hl]), Chip.serveDefers_none]
  exact hd

/-- Settles O25: a store writes its own word alone, and a read of it afterwards gives what was stored. -/
theorem storeResults : Obligations.StoreResults := by
  unfold Obligations.StoreResults
  refine ⟨?_, ?_, ?_, ?_, ?_⟩
  · intro s tile f rest w h hf hs hw hd
    have hok := (Mem.wf_iff _).1 hs
    exact completes_addressed h (exec_sst s tile) (performSst_word hf hw hd) ⟨rfl, replied_answerF _ _ _, Chip.requested_answerF_frame _ _ _ _ _,
      s.mem.present_swrite_same _ _, Mem.sread_swrite_same hok _ _, (Mem.wf_iff _).2 (hok.swrite _ _),
      fun a ha => cellGet_word_out _ _ _ ha, fun v hv => s.mem.present_swrite_ne _ hv, fun _ => rfl⟩
  · intro s tile f rest w h hw
    exact completes_addressed h (exec_sclr s tile) (performSclr_word hw) ⟨rfl, replied_answerF _ _ _, Chip.requested_answerF_frame _ _ _ _ _,
      s.mem.present_sempty_same _, fun v hv => s.mem.present_sempty_ne hv, fun _ => rfl, fun _ => rfl⟩
  · intro s tile f rest a h hf ha hn
    have hr : performOp 0xA5 [f] (s.u.requested tile rest, s.mem) = ((s.u.requested tile rest).withMerge (openedMerge (s.u.requested tile rest) f a), s.mem) :=
      performDst_open (c := s.u.requested tile rest) hf ha hn
    exact completesChip_addressed h (exec_dst s tile) hr ⟨(s.u.requested_frame tile rest).trans (Chip.withMerge_frame _ _), _,
      Chip.mergeEntry_withMerge _ (openedMerge (s.u.requested tile rest) f a), rfl, rfl, rfl, rfl⟩
  · intro s fi k e hp hs he ho hw
    have hok := (Mem.wf_iff _).1 hs
    obtain ⟨hm, hl⟩ := flushMerge_owned (c := s.u.advanceTo (e.last + 8)) ho hw
    have hx : CM.mergeExpiry (s.u, s.mem) fi k = CM.flushMerge (s.u.advanceTo (e.last + 8), s.mem) e := by
      unfold CM.mergeExpiry
      rw [show s.u.fab.merges.find? (fun e => e.fi == fi.val && e.copy == k.val) = some e from he]
    refine completesBoth (exec_dstMergeExpiry s fi k) hp ?_
    rw [hx]
    refine ⟨rfl, mergeEntry_of_filtered hl, ?_, ?_, ?_, ?_⟩
    · change (CM.flushMerge (s.u.advanceTo (e.last + 8), s.mem) e).2.wf = true
      rw [hm]
      exact (Mem.wf_iff _).2 ((hok.dwrite _ _).cleanLine _)
    · exact congrArg Mem.dram hm
    · exact (congrArg Mem.sram hm).trans rfl
    · change (CM.flushMerge (s.u.advanceTo (e.last + 8), s.mem) e).2.linePoison e.line = none
      rw [hm]
      exact Mem.linePoison_cleanLine _ _
  · intro s tile f rest h hf hl w key hd
    have hr : performOp 0xD8 [f] (s.u.requested tile rest, s.mem) = (((s.u.requested tile rest).modCtx key (fun x => { x with
        words := x.words.set w f.r.data, wpoison := x.wpoison.filter (· != w) })).answerF [f] (some ⟨.data, BitVec.ofNat 64 w⟩), s.mem) :=
      congrArg (fun c => (c, s.mem)) (performFwr_live (c := s.u.requested tile rest) hf hl hd)
    have hx : ((s.u.requested tile rest).modCtx key (fun x => { x with
        words := x.words.set w f.r.data, wpoison := x.wpoison.filter (· != w) })).ctx key = { (s.u.requested tile rest).ctx key with
        words := ((s.u.requested tile rest).ctx key).words.set w f.r.data,
        wpoison := ((s.u.requested tile rest).ctx key).wpoison.filter (· != w) } := Chip.ctx_modCtx _ _ _
    refine completesChip_addressed h (exec_fwr s tile) hr ⟨?_, ?_, replied_answerF _ _ _, ?_⟩
    · exact (congrArg (fun x : Ctx => x.words.find w) hx).trans (Tbl.find_set_same _ _ _)
    · exact (congrArg (fun x : Ctx => x.wpoison.contains w) hx).trans (by simp)
    · exact (s.u.requested_frame tile rest).trans ((Chip.modCtx_frame _ key _).trans (Chip.answerF_frame _ _ _))

end Sys2Proof.Machine
end

section
/-!
PROOFS. The hitch and allocate instructions (R391–R394, R457, R458, R460, Table 9-11).
-/
namespace Sys2Proof.Machine

/-! ### The state of one hitch -/

theorem Chip.fab_frame (c : Chip) (g : Fabric → Fabric) : FabricAlone c (c.fab' g) := rfl

/-- A hitch is broken by itself or with its region. -/
def Chip.shown (c : Chip) (h : Nat) (x : Hitch) : Hitch :=
  if h ≥ 256 && c.fab.brokenRegions.contains ((h - 256) / 2097152) then { x with broken := true } else x

theorem Chip.hitch_modHitch (c : Chip) (h : Nat) (g : Hitch → Hitch) : (c.modHitch h g).hitch h = c.shown h (g (c.hitch h)) :=
  congrArg (c.shown h) (Tbl.get_put_same _ _ _ _)

theorem Chip.shown_holder (c : Chip) (h : Nat) (x : Hitch) : (c.shown h x).holder = x.holder := by unfold Chip.shown; split <;> rfl
theorem Chip.shown_queue (c : Chip) (h : Nat) (x : Hitch) : (c.shown h x).queue = x.queue := by unfold Chip.shown; split <;> rfl

theorem Chip.hitch_modHitch_holder (c : Chip) (h : Nat) (g : Hitch → Hitch) : ((c.modHitch h g).hitch h).holder = (g (c.hitch h)).holder := by
  rw [Chip.hitch_modHitch, Chip.shown_holder]

theorem Chip.hitch_modHitch_queue (c : Chip) (h : Nat) (g : Hitch → Hitch) : ((c.modHitch h g).hitch h).queue = (g (c.hitch h)).queue := by
  rw [Chip.hitch_modHitch, Chip.shown_queue]

/-- A change of a hitch that is answered: the hitch as changed, one reply, and nothing else. -/
theorem hitch_answered (c : Chip) (h : Nat) (g : Hitch → Hitch) (f : Firing) (o : Option Opnd) : let u := (c.modHitch h g).answerF [f] o
    (u.hitch h).holder = (g (c.hitch h)).holder ∧ (u.hitch h).queue = (g (c.hitch h)).queue ∧ Replied c u f o ∧ FabricAlone c u :=
  ⟨c.hitch_modHitch_holder h g, c.hitch_modHitch_queue h g, rfl, FabricAlone.trans (b := c.modHitch h g) rfl (Chip.answerF_frame _ _ _)⟩

/-- An instruction on a whole hitch acts there. -/
theorem onHitch_whole {g : Nat → Nat → Chip → Chip} {c : Chip} {f : Firing} {h : Nat} (hh : c.hitchOf f.tok.op.data = some h)
    (hb : (c.hitch h).broken = false) : onHitch g [f] c = g h (f.tok.fi + 1) c := by
  simp only [onHitch, hh]
  exact if_neg (by rw [hb]; exact Bool.false_ne_true)

/-! ### Writes -/

theorem performHwr_done {c c1 : Chip} {f : Firing} {h : Nat} (hh : c.hitchOf f.tok.op.data = some h) (hr : c.hitchRefused f.tok.fi h = false)
    (hb : (c.hitch h).broken = false) (hw : c.hitchWrite h (f.tok.fi + 1) = (.done, c1)) : performHwr [f] c = c1.answerF [f] (some f.tok.op) := by
  simp only [performHwr, hh]
  rw [if_neg (by rw [hr]; exact Bool.false_ne_true), if_neg (by rw [hb]; exact Bool.false_ne_true)]
  change (if (c.hitchWrite h (f.tok.fi + 1)).1 = .full then _ else (c.hitchWrite h (f.tok.fi + 1)).2).answerF [f] _ = _
  rw [hw]
  rfl

/-- A free hitch is taken. -/
theorem hitchWrite_free {c : Chip} {h m : Nat} (hf : (c.hitch h).holder = 0) (hm : m ≠ 0) (hq : (c.hitch h).queue.contains m = false) :
    c.hitchWrite h m = (.done, c.modHitch h (fun x => { x with holder := m })) := by
  unfold Chip.hitchWrite
  dsimp only
  rw [if_neg (by rw [hf, hq]; simp [Ne.symm hm]), if_pos hf]

/-- A master joins the queue of a hitch that another holds. -/
theorem hitchWrite_held {c : Chip} {h m : Nat} (h0 : (c.hitch h).holder ≠ 0) (hm : (c.hitch h).holder ≠ m)
    (hq : (c.hitch h).queue.contains m = false) (hl : (c.hitch h).queue.length < 32) (hh : h < 256) :
    c.hitchWrite h m = (.done, c.modHitch h (fun x => { x with queue := x.queue ++ [m] })) := by
  unfold Chip.hitchWrite
  dsimp only
  rw [if_neg (by rw [hq]; simp [hm]), if_neg h0, if_neg (by omega)]

/-! ### Releases -/

theorem hitchPass_alone {c : Chip} {tell : Nat → Nat → Chip → Chip} {h : Nat} (hq : (c.hitch h).queue = []) :
    c.hitchPass tell h = c.modHitch h (fun x => { x with holder := 0 }) := by
  unfold Chip.hitchPass
  rw [hq]

theorem performHrel_holder {c : Chip} {tell : Nat → Nat → Chip → Chip} {f : Firing} {h : Nat} (hh : c.hitchOf f.tok.op.data = some h)
    (hb : (c.hitch h).broken = false) (hm : (c.hitch h).holder = f.tok.fi + 1) (hq : (c.hitch h).queue = []) :
    performHrel tell [f] c = (c.modHitch h (fun x => { x with holder := 0 })).answerF [f] (some ⟨.data, 1⟩) := by
  unfold performHrel
  rw [onHitch_whole hh hb, if_pos hm, hitchPass_alone hq]

theorem performHrel_other {c : Chip} {tell : Nat → Nat → Chip → Chip} {f : Firing} {h : Nat} (hh : c.hitchOf f.tok.op.data = some h)
    (hb : (c.hitch h).broken = false) (hm : (c.hitch h).holder ≠ f.tok.fi + 1) :
    performHrel tell [f] c = ((c.misbehaves f.tok.fi).raise 131 f.tok.fi (some f.tok.fi) [fNat "HITCH" h]).answerF [f] (some ⟨.data, 0⟩) := by
  unfold performHrel
  rw [onHitch_whole hh hb, if_neg hm]

/-- A misbehaving instruction that raises a fault of its own: the fault stands last, and the answer is on its way. -/
theorem refused_answer (c : Chip) (f : Firing) (src : Nat) (d : Fields) (o : Option Opnd) :
    let u := ((c.misbehaves f.tok.fi).raise src f.tok.fi (some f.tok.fi) d).answerF [f] o
    u.fab.hitches = c.fab.hitches ∧ u.fab.cells = c.fab.cells ∧ Replied c u f o ∧ FabricAlone c u ∧
      ∃ l, u.coll.inbound = c.coll.inbound ++ l ∧ ∃ r, l.getLast? = some r ∧ r.src = src ∧ r.inst = f.tok.fi := by
  have hm : (c.misbehaves f.tok.fi).fab = c.fab ∧ ∃ l, (c.misbehaves f.tok.fi).coll.inbound = c.coll.inbound ++ l := by
    unfold Chip.misbehaves
    dsimp only
    split
    · exact ⟨rfl, _, rfl⟩
    · exact ⟨rfl, [], (List.append_nil _).symm⟩
  have hf := c.misbehaves_frame f.tok.fi
  obtain ⟨hfab, l, hl⟩ := hm
  generalize c.misbehaves f.tok.fi = a at hfab hl hf
  refine ⟨(congrArg Fabric.hitches hfab : a.fab.hitches = _), (congrArg Fabric.cells hfab : a.fab.cells = _), ?_, ?_, ?_⟩
  · exact congrArg (fun g : Fabric => g.replies ++ [{ firing := f, op := o, entry := none }]) hfab
  · exact (hf.trans (b := a) (d := a.raise src f.tok.fi (some f.tok.fi) d) rfl).trans (Chip.answerF_frame _ _ _)
  · refine ⟨l ++ [(a.raise src f.tok.fi (some f.tok.fi) d).coll.inbound.getLast (by simp [Chip.raise])], ?_, _, List.getLast?_concat, ?_, ?_⟩
    · rw [← List.append_assoc, ← hl]
      simp [Chip.raise, Chip.answerF, Chip.answer, Chip.fab']
    · simp [Chip.raise]
    · simp [Chip.raise]

/-! ### Packet cells -/

/-- The lowest free cell is granted. -/
theorem allocCell_lowest {c : Chip} {portOn : Nat → Bool} {r n : Nat}
    (hg : grantable (c.cellMin portOn r) (c.cellsHeld r) c.cellsFree (c.cellsRsv portOn) = true) (hn : n < 16384) (hf : c.fab.cells.find n = none)
    (hl : ∀ k, k < n → c.fab.cells.find k ≠ none) : c.allocCell portOn r =
      some (n, c.fab' (fun f => { f with cells := f.cells.set n { owner := r, words := [] }, cellPtr := (r + 1) % 1056 })) := by
  have hb : firstBelow 16384 (fun n => (c.fab.cells.find n).isNone) = some n := by
    unfold firstBelow
    rw [List.find?_range_eq_some]
    exact ⟨by rw [hf]; rfl, List.mem_range.2 hn, fun k hk => by simpa [Option.isSome_iff_ne_none] using hl k hk⟩
  unfold Chip.allocCell
  rw [if_pos hg, hb]

theorem performSalloc_granted {c c1 : Chip} {portOn : Nat → Bool} {f : Firing} {n : Nat} (ha : c.allocCell portOn (32 + f.tok.fi) = some (n, c1)) :
    performSalloc portOn [f] c = c1.answerF [f] (some ⟨.data, BitVec.ofNat 64 n⟩) := by
  simp only [performSalloc, ha]

theorem performSfree_own {c : Chip} {f : Firing} {x : Cell} (hx : c.fab.cells.find (f.tok.op.data.toNat % 16384) = some x)
    (ho : x.owner = 32 + f.tok.fi) : performSfree [f] c =
      (c.fab' (fun g => { g with cells := g.cells.del (f.tok.op.data.toNat % 16384) })).answerF [f] (some ⟨.data, 1⟩) := by
  simp only [performSfree, hx, ho, if_true]

theorem performSfree_other {c : Chip} {f : Firing} {x : Cell} (hx : c.fab.cells.find (f.tok.op.data.toNat % 16384) = some x)
    (ho : x.owner ≠ 32 + f.tok.fi) : performSfree [f] c =
      ((c.misbehaves f.tok.fi).raise 128 f.tok.fi (some f.tok.fi) [fNat "CELL" (f.tok.op.data.toNat % 16384)]).answerF [f] (some ⟨.data, 0⟩) := by
  simp only [performSfree, hx, ho, if_false]

/-- Settles O26: each instruction acts on the hitch or the cell it names, answers once, and leaves the rest of the unit. -/
theorem hitchInstructionResults : Obligations.HitchInstructionResults := by
  unfold Obligations.HitchInstructionResults
  refine ⟨?_, ?_, ?_, ?_, ?_, ?_, ?_⟩
  · intro s tile f rest h hq hh hr hb hn
    have hw := fun c1 => performHwr_done (c := s.u.requested tile rest) (c1 := c1) hh hr hb
    refine ⟨fun h0 => ?_, fun h0 hm hl h256 => ?_⟩
    · have hw := hw _ (hitchWrite_free (c := s.u.requested tile rest) h0 (Nat.succ_ne_zero _) hn)
      obtain ⟨h1, h2, h3, h4⟩ := hitch_answered (s.u.requested tile rest) h _ f _
      exact completesChip_addressed hq (exec_hwr s tile) (congrArg (fun c => (c, s.mem)) hw) ⟨h1, h2, h3, (s.u.requested_frame tile rest).trans h4⟩
    · have hw := hw _ (hitchWrite_held (c := s.u.requested tile rest) h0 hm hn hl h256)
      obtain ⟨h1, h2, h3, h4⟩ := hitch_answered (s.u.requested tile rest) h _ f _
      exact completesChip_addressed hq (exec_hwr s tile) (congrArg (fun c => (c, s.mem)) hw) ⟨h1, h2, h3, (s.u.requested_frame tile rest).trans h4⟩
  · intro s tile f rest h hq hh hb
    exact completesChip_addressed hq (exec_hrd s tile) (congrArg (fun c => (c, s.mem)) (onHitch_whole (c := s.u.requested tile rest) hh hb))
      ⟨replied_answerF _ _ _, rfl, Chip.requested_answerF_frame _ _ _ _ _⟩
  · intro s tile f rest h hq hh hb
    have hw := fun g => onHitch_whole (g := g) (c := s.u.requested tile rest) hh hb
    refine ⟨fun hn => ?_, fun hn => ?_⟩
    · refine completesChip_addressed hq (exec_hwait s tile) (congrArg (fun c => (c, s.mem)) ((hw _).trans (if_neg ?_)))
        ⟨replied_answerF _ _ _, rfl, Chip.requested_answerF_frame _ _ _ _ _⟩
      exact fun h => Bool.false_ne_true (hn.symm.trans h)
    · exact completesChip_addressed hq (exec_hwait s tile) (congrArg (fun c => (c, s.mem)) ((hw _).trans (if_pos hn)))
        ⟨rfl, rfl, rfl, (s.u.requested_frame tile rest).trans (Chip.fab_frame _ _)⟩
  · intro s tile f rest h hq hh hb hn
    refine completesChip_addressed hq (exec_hpark s tile)
      (congrArg (fun c => (c, s.mem)) ((onHitch_whole (c := s.u.requested tile rest) hh hb).trans (if_neg ?_)))
      ⟨replied_answerF _ _ _, rfl, Chip.requested_answerF_frame _ _ _ _ _⟩
    exact fun h => Bool.false_ne_true (hn.symm.trans h)
  · intro s tile f rest h hq hh hb
    refine ⟨fun hm hn => ?_, fun hm => ?_⟩
    · obtain ⟨h1, -, h3, h4⟩ := hitch_answered (s.u.requested tile rest) h (fun x => { x with holder := 0 }) f (some ⟨.data, 1⟩)
      exact completesChip_addressed hq (exec_hrel s tile) (congrArg (fun c => (c, s.mem)) (performHrel_holder (c := s.u.requested tile rest) hh hb hm hn))
        ⟨h1, h3, (s.u.requested_frame tile rest).trans h4⟩
    · obtain ⟨hs, -, ha, hf, hl⟩ := refused_answer (s.u.requested tile rest) f 131 [fNat "HITCH" h] (some ⟨.data, 0⟩)
      exact completesChip_addressed hq (exec_hrel s tile) (congrArg (fun c => (c, s.mem)) (performHrel_other (c := s.u.requested tile rest) hh hb hm))
        ⟨hs, ha, (s.u.requested_frame tile rest).trans hf, hl⟩
  · intro s tile f rest n hq hg hn hf hl
    have ha := allocCell_lowest (c := s.u.requested tile rest) (portOn := (s.u.requested tile rest).portOn) hg hn hf hl
    exact completesChip_addressed hq (exec_salloc s tile) (congrArg (fun c => (c, s.mem)) (performSalloc_granted ha)) ⟨Tbl.find_set_same _ _ _,
      fun k hk => Tbl.find_set_ne _ _ hk, replied_answerF _ _ _,
      (s.u.requested_frame tile rest).trans ((Chip.fab_frame _ _).trans (Chip.answerF_frame _ _ _))⟩
  · intro s tile f rest x hq n hx
    refine ⟨fun ho => ?_, fun ho => ?_⟩
    · exact completesChip_addressed hq (exec_sfree s tile) (congrArg (fun c => (c, s.mem)) (performSfree_own (c := s.u.requested tile rest) hx ho))
        ⟨Tbl.find_del_same _ _, replied_answerF _ _ _, (s.u.requested_frame tile rest).trans ((Chip.fab_frame _ _).trans (Chip.answerF_frame _ _ _))⟩
    · obtain ⟨-, hc, ha, hf, hl⟩ := refused_answer (s.u.requested tile rest) f 128 [fNat "CELL" n] (some ⟨.data, 0⟩)
      exact completesChip_addressed hq (exec_sfree s tile) (congrArg (fun c => (c, s.mem)) (performSfree_other (c := s.u.requested tile rest) hx ho))
        ⟨hc, ha, (s.u.requested_frame tile rest).trans hf, hl⟩

end Sys2Proof.Machine
end

section
/-!
PROOFS. Tokens that arrive, entries that are woken, instruction pages and purges (R247–R269, R312, R324–R326, R377, R382–R385, R428–R433).
-/
namespace Sys2Proof.Machine

theorem foldl_frame {α : Type} {g : Chip → α → Chip} (hg : ∀ c x, FabricAlone c (g c x)) (l : List α) (c : Chip) : FabricAlone c (l.foldl g c) := by
  induction l generalizing c with
  | nil => exact .refl c
  | cons x l ih => exact (hg c x).trans (ih _)

/-- A fold whose every step keeps a part of the unit keeps it. -/
theorem foldl_keeps {α β : Type} {g : Chip → α → Chip} (p : Chip → β) (hg : ∀ c x, p (g c x) = p c) (l : List α) (c : Chip) :
    p (l.foldl g c) = p c := by
  induction l generalizing c with
  | nil => rfl
  | cons x l ih => exact (ih _).trans (hg c x)

theorem Chip.modTile_frame (c : Chip) (t : Nat) (g : Tile → Tile) : FabricAlone c (c.modTile t g) := rfl

/-! ### A token that arrives -/

/-- The unit with these tokens on their way. -/
def Chip.withNet (c : Chip) (l : List Flight) : Chip := c.fab' (fun f => { f with net := l })

theorem Chip.withNet_frame (c : Chip) (l : List Flight) : FabricAlone c (c.withNet l) := rfl

/-- The first token of the network, of no channel and starting no period, at a tile that nothing has left, is taken to its queue. -/
theorem tokenArrives_first {c : Chip} {x : Flight} {rest : List Flight} (hn : c.fab.net = x :: rest) (hc : x.chan = none) (hs : x.startsPeriod = none)
    (hf : c.fab.fwd.find? (fun m => m.1 == x.tok.fi && m.2.1 == x.copy && m.2.2.1 == x.dst) = none) :
    c.tokenArrives 0 = (c.withNet rest).queueToken x.dst x.copy x.tok none := by
  have hr : c.flightReady 0 = true := by
    unfold Chip.flightReady
    rw [hn]
    rfl
  unfold Chip.tokenArrives
  rw [if_neg (by rw [hr]; exact Bool.false_ne_true), hn]
  dsimp only [List.getElem?_cons_zero]
  rw [hf]
  dsimp only
  rw [hc, hs]
  dsimp only [Chip.fab']
  rw [hn]
  rfl

theorem queueToken_reserved {c : Chip} {dst k : Nat} {t : Token} (h : t.op.kind.reserved = true) :
    c.queueToken dst k t none = (c.died t k).raise 3 t.fi (some t.fi) [fNat "TILE" dst] := by
  unfold Chip.queueToken
  exact if_pos h

theorem queueToken_foreign {c : Chip} {dst k : Nat} {t : Token} (h : t.op.kind.reserved = false) (hm : (c.copy t.fi k).map.contains dst = false) :
    c.queueToken dst k t none = ((c.died t k).raise 1 dst none [fNat "TILE" dst]).markTile dst := by
  unfold Chip.queueToken
  dsimp only
  rw [if_neg (by simp [h]), if_pos (by rw [hm]; rfl)]

theorem queueToken_sound {c : Chip} {dst k : Nat} {t : Token} (h : t.op.kind.reserved = false) (hm : (c.copy t.fi k).map.contains dst = true)
    (hp : t.page < (c.image t.fi).pg.getD t.vt 0) (hl : c.ctxLive t k = true) (hq : (c.tile dst).queued (c.fiCfg t.fi).cls < 256) :
    c.queueToken dst k t none = c.freshId.2.enqueue dst { tok := t, copy := k, partner := none, matched := false, arrival := c.fab.nextId, grant := ⟨false, none⟩ } := by
  unfold Chip.queueToken
  dsimp only
  rw [if_neg (by simp [h]), if_neg (by rw [hm]; exact Bool.false_ne_true), if_neg (by omega), if_neg (by simp [hl])]
  exact if_pos hq

theorem Chip.liveCount_fab (c : Chip) (t : Token) (k : Nat) (g : Nat → Nat) :
    (c.liveCount t k g).fab.net = c.fab.net ∧ (c.liveCount t k g).fab.tiles = c.fab.tiles ∧ (c.liveCount t k g).coll = c.coll :=
  have h := c.liveCount_counts t k g
  ⟨h.net, h.tiles, h.coll⟩

/-- Settles O30: the token is checked in the order of `queueToken`, and the first flaw decides. -/
theorem tokenArrives : Obligations.TokenArrives := by
  unfold Obligations.TokenArrives
  intro s x rest hp hn hc hs hf
  have ha := tokenArrives_first hn hc hs hf
  obtain ⟨hnet, htiles, hcoll⟩ := (s.u.withNet rest).liveCount_fab x.tok x.copy (· - 1)
  refine ⟨fun h => ?_, fun h hm => ?_, fun h hm hpg hl hq => ?_⟩
  · refine completes_onChip (exec_tokenQueued s 0) hp ?_
    rw [ha, queueToken_reserved h]
    exact ⟨hnet, htiles, (raised_raise _ 3 x.tok.fi _ _).of_eq hcoll⟩
  · refine completes_onChip (exec_tokenQueued s 0) hp ?_
    rw [ha, queueToken_foreign (c := s.u.withNet rest) h hm]
    exact ⟨hnet, htiles, (raised_raise _ 1 x.dst _ _).of_eq hcoll, Chip.mem_marks_markTile _ _⟩
  · refine completes_onChip (exec_tokenQueued s 0) hp ?_
    rw [ha, queueToken_sound (c := s.u.withNet rest) h hm hpg hl hq]
    refine ⟨rfl, ?_, (s.u.withNet_frame rest).trans ((Chip.fab_frame _ _).trans (Chip.modTile_frame _ _ _)), rfl⟩
    exact (congrArg (fun t : Tile => t.q.get [] _) (Chip.tile_modTile _ _ _)).trans (Tbl.get_put_same _ _ _ _)

/-! ### What waits is woken -/

theorem mirrorUpdate_first {c : Chip} {key p due : Nat} {v : Bool} {rest : List (Nat × Bool × Nat)} (h : (c.ctx key).updates = (p, v, due) :: rest) :
    c.mirrorUpdate key = (c.advanceTo due).modCtx key (fun x => { x with mirror := x.mirror.set p v, updates := rest }) := by
  unfold Chip.mirrorUpdate
  rw [h]

theorem Chip.ctx_advanceTo (c : Chip) (n key : Nat) : (c.advanceTo n).ctx key = c.ctx key := congrArg (fun g : Fabric => g.ctxs.get Ctx.init key) (c.advanceTo_fab n)
theorem Chip.tile_advanceTo (c : Chip) (n t : Nat) : (c.advanceTo n).tile t = c.tile t := congrArg (fun g : Fabric => g.tiles.get Tile.init t) (c.advanceTo_fab n)

/-- The watch that a re-queued entry starts leaves the fabric. -/
theorem Chip.watchFrom_fab (c : Chip) (fi k : Nat) : (c.watchFrom fi k).fab = c.fab := by
  unfold Chip.watchFrom
  split <;> rfl

theorem Chip.watchFrom_cfg (c : Chip) (fi k : Nat) : (c.watchFrom fi k).cfg = c.cfg := by
  unfold Chip.watchFrom
  split <;> rfl

/-- A tile with one more item in a class queue. -/
def Tile.queueing (t : Tile) (cls : Nat) (i : QItem) : Tile := { t with q := t.q.put [] cls (t.q.get [] cls ++ [i]) }

/-- A tile's only entry leaves its store for the tail of its class queue. -/
theorem requeueEntry_only {c : Chip} {tile : Nat} {e : Entry} (hs : (c.tile tile).store = [e]) :
    ((c.requeueEntry tile e.id (fun i => i)).tile tile).store = [] ∧
    ((c.requeueEntry tile e.id (fun i => i)).tile tile).q.get [] (c.fiCfg e.item.tok.fi).cls =
      (c.tile tile).q.get [] (c.fiCfg e.item.tok.fi).cls ++ [e.item] := by
  have hf : (c.tile tile).store.find? (fun x => x.id == e.id) = some e := by rw [hs]; simp
  have ht : (c.watchFrom e.item.tok.fi e.item.copy).tile tile = c.tile tile :=
    congrArg (fun g : Fabric => g.tiles.get Tile.init tile) (c.watchFrom_fab _ _)
  have hcls : (c.watchFrom e.item.tok.fi e.item.copy).cls e.item.tok.fi = (c.fiCfg e.item.tok.fi).cls :=
    congrArg (fun g : Cfg => (g.fis.get FiCfg.init e.item.tok.fi).cls) (c.watchFrom_cfg _ _)
  have hu : (c.requeueEntry tile e.id (fun i => i)).tile tile = ({ c.tile tile with store := [] } : Tile).queueing (c.fiCfg e.item.tok.fi).cls e.item := by
    unfold Chip.requeueEntry
    rw [hf]
    dsimp only [Chip.enqueue]
    rw [Chip.tile_modTile, Chip.tile_modTile, ht, hs]
    have hempty : [e].filter (fun x => x.id != e.id) = [] := by simp
    rw [hempty]
    exact congrArg (fun n => ({ c.tile tile with store := [] } : Tile).queueing n e.item) hcls
  rw [hu]
  exact ⟨rfl, Tbl.get_put_same _ _ _ _⟩

theorem frameWordRelease_only {c : Chip} {tile w : Nat} {e : Entry} {v : Word} (hs : (c.tile tile).store = [e]) (hw : e.wait = .frameWord w)
    (hv : (c.ctx (c.ctxOf e.item.tok e.item.copy)).words.find w = some v) : c.frameWordRelease tile = c.requeueEntry tile e.id (fun i => i) := by
  unfold Chip.frameWordRelease
  simp [hs, hw, hv]

theorem creditGrant_first {c : Chip} {fi k : Nat} {r : Nat × Nat × Nat × Nat} {e : Entry} (hc : (c.copy fi k).credit ≠ 0) (hh : (c.fi fi).deepHold = false)
    (hr : c.fab.creditQ.find? (fun r => r.1 == fi && r.2.1 == k) = some r) (he : (c.tile r.2.2.1).store.find? (fun e => e.id == r.2.2.2) = some e)
    (hi : Word.op (c.wordOf e.item.tok) ≠ 0xD5) (hn : Word.op (c.wordOf e.item.tok) ≠ 0xD0) : c.creditGrant fi k =
      ((c.fab' (fun f => { f with creditQ := f.creditQ.filter (fun q => q != r) })).modCopy fi k (fun p => { p with credit := p.credit - 1 })).requeueEntry
        r.2.2.1 r.2.2.2 (fun i => { i with grant := ⟨true, none⟩ }) := by
  unfold Chip.creditGrant
  rw [if_neg (by simp [hc, hh]), hr]
  dsimp only
  rw [show ((c.fab' (fun f => { f with creditQ := f.creditQ.filter (fun q => q != r) })).tile r.2.2.1).store.find? (fun e => e.id == r.2.2.2) = some e from he]
  dsimp only
  exact (if_neg (fun h => hi h.1)).trans (if_neg hn)

theorem frameGrant_first {c : Chip} {cluster tile id fr : Nat} {rest : List (Nat × Nat)} {e : Entry}
    (hw : (c.framePool cluster).waiting = (tile, id) :: rest) (he : (c.tile tile).store.find? (fun e => e.id == id) = some e)
    (hh : (c.fi e.item.tok.fi).deepHold = false) (hf : c.allocFrame e.item.tok.fi e.item.copy = some fr) : c.frameGrant cluster =
      ((c.modPool cluster (fun p => { p with waiting := rest })).openCtx e.item.tok.fi e.item.copy fr .child none none).requeueEntry tile id
        (fun i => { i with grant := { i.grant with frame := some fr } }) := by
  unfold Chip.frameGrant
  rw [hw]
  dsimp only
  rw [he]
  dsimp only
  rw [if_neg (by simp [hh]), hf]

/-- A tile once a request of it is answered: its place is free, and the entry that held it is gone. -/
def Tile.freed (t : Tile) (r : Reply) : Tile :=
  { t with reqs := t.reqs - 1, store := match r.entry with | some e => t.store.filter (fun x => x.id != e) | none => t.store }

/-- A reply without a token frees its place and consumes its operands. -/
theorem memoryReply_silent {c : Chip} {n : Nat} {r : Reply} (hr : c.fab.replies[n]? = some r) (ho : r.op = none) : c.memoryReply n =
    ((c.fab' (fun g => { g with replies := g.replies.eraseIdx n })).modTile r.firing.tile (fun t => t.freed r)).consume r.firing := by
  unfold Chip.memoryReply
  rw [hr]
  dsimp only
  rw [ho]
  rfl

theorem deferralRetry_present {c : Chip} {m : Mem} {d : Defer} {w : Nat} (hd : c.fab.defers.find? (fun d => d.retryAt.isSome) = some d)
    (ha : d.at? = .sword w) (hp : m.present' w = true) (he : d.empties = false) : CM.deferralRetry (c, m) =
      (((c.advanceTo (d.retryAt.getD 0)).fab' (fun g => { g with defers := g.defers.erase d })).answer (d.fs.map (fun x => (x.1, some x.2))) (some (m.sread w)), m) := by
  unfold CM.deferralRetry
  dsimp only
  rw [hd]
  dsimp only
  rw [ha]
  dsimp only
  rw [if_pos hp, he]
  rfl

/-- Settles O32: each wait ends with what its wake gives it. -/
theorem entriesWoken : Obligations.EntriesWoken := by
  unfold Obligations.EntriesWoken
  refine ⟨?_, ?_, ?_, ?_, ?_, ?_, ?_⟩
  · intro s cluster frame p v due rest hp hu
    have hx : ((s.u.advanceTo due).modCtx (ctxKey cluster frame) (fun x => { x with mirror := x.mirror.set p v, updates := rest })).ctx (ctxKey cluster frame) =
        { s.u.ctx (ctxKey cluster frame) with mirror := (s.u.ctx (ctxKey cluster frame)).mirror.set p v, updates := rest } := by
      rw [Chip.ctx_modCtx, Chip.ctx_advanceTo]
    refine completes_onChip (exec_predicateMirrorUpdate s cluster frame) hp ?_
    rw [mirrorUpdate_first (key := ctxKey cluster frame) hu]
    dsimp only
    rw [show 32768 * cluster.val + frame.val = ctxKey cluster frame from rfl, hx]
    exact ⟨Tbl.find_set_same _ _ _, fun q hq => Tbl.find_set_ne _ _ hq, rfl, rfl, Chip.advanceTo_cycle _ _⟩
  · intro s tile e hp he
    refine completes_onChip (exec_guardRequeue s tile) hp ?_
    unfold Chip.guardRequeue
    rw [he]
  · intro s tile e w v hp hs hw hv
    refine completes_onChip (exec_frameWordRelease s tile) hp ?_
    rw [frameWordRelease_only hs hw hv]
    exact requeueEntry_only hs
  · intro s fi k r e hp hc hh hr he hi hn
    exact completes_onChip (exec_creditGrant s fi k) hp (creditGrant_first hc hh hr he hi hn)
  · intro s cluster tile id rest e fr hp hw he hh hf
    exact completes_onChip (exec_frameGrant s cluster) hp (frameGrant_first hw he hh hf)
  · intro s n r hp hr ho
    refine completes_onChip (exec_memoryReply s n) hp ?_
    rw [memoryReply_silent hr ho]
    have hc := Chip.consume_counts ((s.u.fab' (fun g => { g with replies := g.replies.eraseIdx n })).modTile r.firing.tile (fun t => t.freed r)) r.firing
    refine ⟨hc.replies, ?_, hc.net, ((Chip.fab_frame _ _).trans (Chip.modTile_frame _ _ _)).trans hc.frame⟩
    exact congrArg Tile.reqs ((congrArg (fun t : Tbl Tile => t.get Tile.init r.firing.tile) hc.tiles).trans (Chip.tile_modTile _ _ _))
  · intro s d w hp hd ha hw he
    refine completesBoth (exec_deferralRetry s) hp ?_
    rw [deferralRetry_present hd ha hw he]
    have hf := s.u.advanceTo_fab (d.retryAt.getD 0)
    refine ⟨rfl, rfl, congrArg (fun g : Fabric => g.defers.erase d) hf, ?_⟩
    change (s.u.advanceTo (d.retryAt.getD 0)).fab.replies ++ _ = _
    rw [hf, List.map_map]
    rfl

/-! ### Instruction pages -/

theorem Chip.charge_fab_tile (c : Chip) (fi k n t : Nat) : (c.charge fi k n).tile t = c.tile t := by
  unfold Chip.charge
  dsimp only
  split <;> rfl

theorem fetchWaiting_none {c : Chip} {tile : Nat} (h : (c.tile tile).pageWait = []) : c.fetchWaiting tile = c := by
  unfold Chip.fetchWaiting
  rw [h]
  rfl

/-- The page of a fetch, once it is resident. -/
def Fetch.installed (f : Fetch) (now : Nat) : ResPage := { fi := f.fi, copy := f.copy, vt := f.vt, page := f.page, shared := f.shared, lastUse := now }

/-- A tile's only fetch ends with its page resident. -/
theorem pageInstall_good {c : Chip} {tile : Nat} {f : Fetch} (hf : (c.tile tile).fetches = [f]) (hr : f.retryAt = none) (hb : f.bad = false)
    (hw : (c.tile tile).pageWait = []) : (c.pageInstall tile true).tile tile =
      { c.tile tile with fetches := [], pages := (c.tile tile).pages ++ [f.installed c.clk.cycle] } := by
  have hfind : (c.tile tile).fetches.find? (fun f => f.retryAt.isNone && !f.bad) = some f := by rw [hf]; simp [hr, hb]
  unfold Chip.pageInstall
  rw [hfind]
  dsimp only
  rw [if_neg (by decide), hw]
  dsimp only [List.filter_nil, List.foldl_nil]
  rw [fetchWaiting_none, Chip.charge_fab_tile, Chip.tile_modTile]
  · rw [hf, hw]
    simp [Fetch.installed]
  · rw [Chip.charge_fab_tile, Chip.tile_modTile, hw]
    rfl

theorem Chip.tile_raise (c : Chip) (src inst : Nat) (fi : Option Nat) (d : Fields) (t : Nat) : (c.raise src inst fi d).tile t = c.tile t := rfl

/-- A tile's only fetch finds its page poisoned. -/
theorem pageInstall_bad {c : Chip} {tile : Nat} {f : Fetch} (hf : (c.tile tile).fetches = [f]) (hr : f.retryAt = none) (hb : f.bad = false) :
    (c.pageInstall tile false).tile tile = { c.tile tile with fetches := [{ f with bad := true }] } ∧
    Raised c.coll (c.pageInstall tile false).coll 69 f.fi := by
  have hfind : (c.tile tile).fetches.find? (fun f => f.retryAt.isNone && !f.bad) = some f := by rw [hf]; simp [hr, hb]
  unfold Chip.pageInstall
  rw [hfind]
  dsimp only
  rw [if_pos (show (!false) = true from rfl)]
  refine ⟨?_, raised_raise _ _ _ _ _⟩
  rw [Chip.tile_raise, Chip.tile_modTile, hf]
  simp

theorem Chip.modTile_congr {c : Chip} {t : Nat} {g g' : Tile → Tile} (h : g (c.tile t) = g' (c.tile t)) : c.modTile t g = c.modTile t g' := by
  unfold Chip.modTile
  rw [h]

theorem sharedReturn_only {c : Chip} {tile : Nat} {p : ResPage} (hp : (c.tile tile).pages = [p]) (hs : p.shared = true) (hi : (c.tile tile).pipe = []) :
    c.sharedReturn tile = (c.advanceTo (10000 + p.lastUse)).modTile tile (fun t => { t with pages := t.pages.filter (fun q => q != p) }) := by
  unfold Chip.sharedReturn
  dsimp only
  rw [hp, hi]
  simp [hs]

/-- Settles O34: a fetch ends, is tried again, or is refused; a page returns. -/
theorem pageFetches : Obligations.PageFetches := by
  unfold Obligations.PageFetches
  refine ⟨?_, ?_, ?_, ?_⟩
  · intro s tile f hp hf hr hb hw
    refine ⟨completes_onChip (exec_pageInstall s tile true) hp ?_, completes_onChip (exec_pageInstall s tile false) hp ?_⟩
    · rw [pageInstall_good hf hr hb hw]
      exact ⟨rfl, rfl⟩
    · obtain ⟨ht, hraise⟩ := pageInstall_bad hf hr hb
      rw [ht]
      exact ⟨rfl, rfl, hraise⟩
  · intro s tile f due hp hf hr
    refine completes_onChip (exec_pageRetry s tile) hp ?_
    have hfind : (s.u.tile tile).fetches.find? (fun f => f.retryAt.isSome) = some f := by rw [hf]; simp [hr]
    unfold Chip.pageRetry
    rw [hfind]
    dsimp only
    rw [hr]
    refine congrArg (fun c => Chip.startFetch c tile f.fi f.copy f.vt f.page) (Chip.modTile_congr ?_)
    rw [Option.getD_some, Chip.tile_advanceTo, hf]
    simp
  · intro s tile p hp hpg hs hi
    refine completes_onChip (exec_sharedPageReturn s tile) hp ?_
    rw [sharedReturn_only hpg hs hi]
    refine ⟨?_, ?_⟩
    · rw [Chip.tile_modTile, Chip.tile_advanceTo, hpg]
      simp
    · exact (Chip.advanceTo_cycle _ _).trans (by rw [Nat.add_comm])
  · intro s tile hp
    refine completes_onChip (exec_pageBackingRewrite s tile) hp ?_
    unfold Chip.pageRewrite
    rw [Chip.tile_modTile]
    exact ⟨rfl, rfl⟩

/-! ### Purges -/

theorem Tbl.get_mem_or_default {α : Type} (d : α) (t : Tbl α) (n : Nat) : t.get d n = d ∨ (n, t.get d n) ∈ t := by
  induction t with
  | nil => exact .inl rfl
  | cons e t ih =>
    obtain ⟨k, v⟩ := e
    by_cases hk : n = k
    · simp [Tbl.get, hk]
    · simp only [Tbl.get, hk, if_false]
      exact ih.imp id (List.mem_cons_of_mem _)

/-- The contexts that a tile's sweep is for. -/
def Chip.sweptKeys (c : Chip) (tile : Nat) : List Nat := (c.fab.ctxs.filter (fun e => e.2.st == .purging && e.2.sweeps.contains tile)).map (·.1)

theorem mem_sweptKeys {c : Chip} {tile key : Nat} (h : (c.ctx key).st = .purging) (hs : (c.ctx key).sweeps.contains tile = true) : key ∈ c.sweptKeys tile := by
  unfold Chip.sweptKeys
  rcases Tbl.get_mem_or_default Ctx.init c.fab.ctxs key with he | he
  · have hi : c.ctx key = Ctx.init := he
    rw [hi] at hs
    cases hs
  · exact List.mem_map.2 ⟨_, List.mem_filter.2 ⟨he, by change ((c.ctx key).st == .purging && (c.ctx key).sweeps.contains tile) = true; rw [h, hs]; rfl⟩, rfl⟩

/-- A discarded item leaves all tiles as they are, and all but the fabric, the FIs and the raises. -/
theorem Chip.purgeItem_tiles (c : Chip) (i : QItem) : (c.purgeItem i).fab.tiles = c.fab.tiles ∧ FabricAlone c (c.purgeItem i) := by
  have hd : (c.died i.tok i.copy).fab.tiles = c.fab.tiles ∧ FabricAlone c (c.died i.tok i.copy) :=
    ⟨(c.liveCount_fab _ _ _).2.1, (c.liveCount_counts _ _ _).frame⟩
  have hu : ∀ (a : Chip) fi k g, (a.ungrant fi k g).fab.tiles = a.fab.tiles ∧ FabricAlone a (a.ungrant fi k g) := by
    intro a fi k g
    unfold Chip.ungrant
    cases g.credit <;> cases g.frame <;> exact ⟨rfl, rfl⟩
  have h2 : (c.dropItem i).fab.tiles = c.fab.tiles ∧ FabricAlone c (c.dropItem i) := by
    unfold Chip.dropItem
    dsimp only
    split
    · have hd' : ((c.died i.tok i.copy).died i.tok i.copy).fab.tiles = (c.died i.tok i.copy).fab.tiles ∧
          FabricAlone (c.died i.tok i.copy) ((c.died i.tok i.copy).died i.tok i.copy) :=
        ⟨(Chip.liveCount_fab _ _ _ _).2.1, (Chip.liveCount_counts _ _ _ _).frame⟩
      exact ⟨(hu _ _ _ _).1.trans (hd'.1.trans hd.1), hd.2.trans (hd'.2.trans (hu _ _ _ _).2)⟩
    · exact ⟨(hu _ _ _ _).1.trans hd.1, hd.2.trans (hu _ _ _ _).2⟩
  exact ⟨h2.1, h2.2.trans (Chip.count_counts _ _ _ _).frame⟩

/-- What a sweep takes from its tile, and that it leaves the rest of the unit. -/
theorem purgeSweep_store (c : Chip) (tile : Nat) : FabricAlone c (c.purgeSweep tile) ∧ ((c.purgeSweep tile).tile tile).store =
    (c.tile tile).store.filter (fun e => !(c.purged e.item.tok e.item.copy && ((c.sweptKeys tile).take 16).contains (c.ctxOf e.item.tok e.item.copy))) := by
  unfold Chip.purgeSweep
  dsimp only
  refine ⟨?_, ?_⟩
  · exact (Chip.modTile_frame c tile _).trans ((foldl_frame (fun c i => (c.purgeItem_tiles i).2) _ _).trans (foldl_frame (fun c k => c.modCtx_frame k _) _ _))
  · refine (congrArg (fun t : Tbl Tile => (t.get Tile.init tile).store) ((foldl_keeps (fun c => c.fab.tiles)
      (g := fun c k => c.modCtx k (fun x => { x with sweeps := x.sweeps.filter (· != tile) })) (fun c k => rfl) _ _).trans (foldl_keeps (fun c => c.fab.tiles) (fun c i => (c.purgeItem_tiles i).1) _ _))).trans ?_
    exact congrArg Tile.store (Chip.tile_modTile c tile _)

theorem purgeComplete_empty {c : Chip} {key : Nat} (hst : (c.ctx key).st = .purging) (hs : (c.ctx key).sweeps = []) (hc : (c.ctx key).scan = false)
    (hl : (c.ctx key).live = 0) : c.purgeComplete key =
      (c.modCtx key (fun y => { y with scan := false })).modCtx key (fun y => { Ctx.init with epoch := y.epoch }) := by
  unfold Chip.purgeComplete
  dsimp only
  rw [if_neg (by simp [hst, hs]), hc]
  simp only [Bool.false_and, Bool.false_eq_true, if_false, List.foldl_nil]
  exact if_pos (by rw [Chip.ctx_modCtx]; exact hl)

/-- Settles O35: a sweep keeps no entry of the contexts it is for, and the frame of a context with nothing left is free. -/
theorem purges : Obligations.Purges := by
  unfold Obligations.Purges
  refine ⟨?_, ?_⟩
  · intro s tile hp hlen
    refine completes_onChip (exec_purgeSweep s tile) hp ?_
    obtain ⟨hf, hs⟩ := purgeSweep_store s.u tile
    refine ⟨hf, fun e he => ?_⟩
    rw [hs, List.take_of_length_le (by rw [Chip.sweptKeys, List.length_map]; exact hlen), List.mem_filter] at he
    obtain ⟨hm, hk⟩ := he
    refine ⟨hm, ?_⟩
    by_contra hno
    obtain ⟨h1, h2⟩ := not_or.1 hno
    rw [Bool.not_eq_false] at h1 h2
    have hst : (s.u.ctx (s.u.ctxOf e.item.tok e.item.copy)).st = .purging := by
      unfold Chip.purged at h1
      simp only [Bool.and_eq_true, beq_iff_eq] at h1
      exact h1.1.1.1
    have := mem_sweptKeys hst h2
    rw [h1, List.contains_iff_mem.2 this] at hk
    cases hk
  · intro s cluster frame hp key x hst hs hc hl
    refine completes_onChip (exec_purgeComplete s cluster frame) hp ?_
    rw [show ctxKey cluster frame = key from rfl, purgeComplete_empty hst hs hc hl]
    refine ⟨?_, (s.u.modCtx_frame key _).trans (Chip.modCtx_frame _ _ _)⟩
    rw [Chip.ctx_modCtx, Chip.ctx_modCtx]

end Sys2Proof.Machine
end

section
/-!
PROOFS. A TIMER tick (R210, R250, R257): the model starts the tick's period before it delivers the CTRL token, which then starts nothing.
-/
namespace Sys2Proof.Machine

/-- FI 0 is ARMED with one copy, its context ready, and one input port; its period source is TIMER. -/
def tickCfg : FiCfg :=
  { FiCfg.init with
    image := some { Image.empty with v := 1, pg := [1], inputs := [{ declared := true, required := false, rope := false, fallback := false, dests := [⟨0, 0, 0, false⟩] }] },
    cls := 2, tick := some 1000, frames := 4 }

def tickState : State :=
  { State.reset with u := { Chip.reset with
      sup := { Supply.reset with powered := true }, cfg := { Cfg.reset with fis := [(0, tickCfg)] },
      fis := [(0, { Fi.init with st := .armed, copies := [{ Copy.init with map := [0], prealloc := some 1 }] })],
      fab := { Fabric.reset with ctxs := [(1, { Ctx.init with st := .live, kind := .period })] } } }

/-- The unit once the first tick of FI 0 has taken its period context. -/
def tickTaken : Chip :=
  match ((tickState.u.advanceTo 1000).modFi 0 (fun x => { x with ticks := 1 })).takePeriod 0 1 with
  | .got c => c
  | .late c | .noctx c => c

/-- Which of FI 0's open periods have started. -/
def Chip.startedPeriods (c : Chip) : List Bool := (c.fi 0).opens.map Period.started

/-- The tick starts its period: the token that it delivers does not have to. -/
theorem startedPeriods_timerTick : (tickState.u.timerTick 0).startedPeriods = [true] := by decide

theorem startedPeriods_delivered : (tickTaken.deliverPeriod 0 1
    [{ port := 0, idx := 0, op := ⟨.ctrl, BitVec.ofNat 64 1⟩, start := true }]).startedPeriods = [false] := by decide

/-- Refutes O36: its first clause has the period start when the CTRL token is queued, while the tick itself has started it. -/
theorem not_instanceWatches : ¬ Obligations.InstanceWatches := by
  intro h
  have hc := h.1 tickState 0 rfl rfl rfl tickTaken rfl 0 rfl
  obtain ⟨t, ht, -, -, hu⟩ := hc
  rw [exec_timerTick, onChip_powered _ _ rfl] at ht
  injection ht with ht
  subst ht
  have := congrArg Chip.startedPeriods hu
  exact absurd (startedPeriods_timerTick.symm.trans (this.trans startedPeriods_delivered)) (by decide)

end Sys2Proof.Machine
end

section
/-!
PROOFS. The comparator of a twinned pair, the stalled hitch read, and broken hitches (R235–R237, R460, R469).
-/
namespace Sys2Proof.Machine

/-- A property that every step of a fold keeps holds at its end. -/
theorem foldl_holds {α : Type} {g : Chip → α → Chip} {P : Chip → Prop} (hg : ∀ c x, P c → P (g c x)) (l : List α) {c : Chip} (h : P c) : P (l.foldl g c) := by
  induction l generalizing c with
  | nil => exact h
  | cons x l ih => exact ih (hg c x h)

/-! ### The comparator -/

/-- The unit when a stream's oldest pair meets. -/
def Chip.paired (c : Chip) (fi key : Nat) (x y : TwinAct) (xs ys : List TwinAct) : Chip :=
  (c.advanceTo (max x.at? y.at? + 2)).fab' (fun g => { g with twins := g.twins.filterMap (fun z =>
    if z.fi = fi ∧ z.key = key then (if xs.isEmpty && ys.isEmpty then none else some { z with a := xs, b := ys }) else some z) })

theorem twinCompare_pair {c : Chip} {m : Mem} {fi key : Nat} {perform : Nat → List Firing → CM → CM} {st : TwinStream} {x y : TwinAct} {xs ys : List TwinAct}
    (hs : c.fab.twins.find? (fun z => z.fi == fi && z.key == key) = some st) (ha : st.a = x :: xs) (hb : st.b = y :: ys) :
    CM.twinCompare (c, m) fi key perform = if sameAction x.firing y.firing then
      perform (Word.op x.firing.word) [x.firing, y.firing] (c.paired fi key x y xs ys, m) else ((c.paired fi key x y xs ys).twinMismatch fi key "DIFFER", m) := by
  unfold CM.twinCompare
  dsimp only
  rw [hs]
  dsimp only
  rw [ha, hb]
  rfl

/-- A stream whose only pair has met is gone. -/
theorem paired_alone (c : Chip) (fi key : Nat) (x y : TwinAct) : c.paired fi key x y [] [] =
    (c.advanceTo (max x.at? y.at? + 2)).fab' (fun g => { g with twins := g.twins.filter (fun z => !(z.fi == fi && z.key == key)) }) := by
  have hl : ∀ l : List TwinStream, l.filterMap (fun z => if z.fi = fi ∧ z.key = key then (if ([] : List TwinAct).isEmpty && ([] : List TwinAct).isEmpty then
      none else some { z with a := [], b := [] }) else some z) = l.filter (fun z => !(z.fi == fi && z.key == key)) := by
    intro l
    induction l with
    | nil => rfl
    | cons z l ih =>
      by_cases h : z.fi = fi ∧ z.key = key
      · simpa [List.filterMap_cons, h] using ih
      · have h' : (z.fi == fi && z.key == key) = false := by simpa using h
        rw [List.filterMap_cons, if_neg h, List.filter_cons, h', ih]
        rfl
  exact congrArg (fun l => Chip.fab' (c.advanceTo (max x.at? y.at? + 2)) (fun g => { g with twins := l })) (hl _)

theorem twinTimeout_missing {c : Chip} {fi key : Nat} {st : TwinStream} {x : TwinAct} {xs : List TwinAct}
    (hs : c.fab.twins.find? (fun z => z.fi == fi && z.key == key) = some st) (ha : st.a = x :: xs) (hb : st.b = [])
    (hd : (c.ctx (c.ctxOf x.firing.tok x.firing.copy)).deadline = none) :
    c.twinTimeout fi key = (c.advanceTo (x.at? + 10000)).twinMismatch fi key "MISSING" := by
  unfold Chip.twinTimeout
  rw [hs]
  dsimp only
  rw [ha, hb]
  dsimp only
  rw [hd]

/-! ### The stalled read -/

theorem hwaitTimeout_only {c : Chip} {fi due : Nat} {w : HWaiter} (hw : c.fab.hwaits = [w]) (hu : w.until? = some due)
    (hf : w.fs.any (fun f => f.1.tok.fi == fi) = true) :
    let c1 := (c.advanceTo due).modHitch w.hitch (fun x => { x with queue := x.queue.filter (· != masterFi fi) })
    c.hwaitTimeout fi = (c1.fab' (fun g => { g with hwaits := [] })).answer w.fs (some ⟨.data, (c1.hitch w.hitch).read (masterFi fi)⟩) := by
  intro c1
  have hfind : c.fab.hwaits.find? (fun w => w.until?.isSome && w.fs.any (fun f => f.1.tok.fi == fi)) = some w := by
    rw [hw, List.find?_cons, hu, hf]
    rfl
  have hempty : c1.fab.hwaits.erase w = [] := by
    have hk := congrArg Fabric.hwaits (c.advanceTo_fab due)
    rw [show c1.fab.hwaits = (c.advanceTo due).fab.hwaits from rfl, hk, hw]
    simp
  unfold Chip.hwaitTimeout
  dsimp only
  rw [hfind]
  dsimp only
  rw [hu]
  exact congrArg (fun l => Chip.answer (c1.fab' (fun g => { g with hwaits := l })) w.fs (some ⟨.data, (c1.hitch w.hitch).read (masterFi fi)⟩)) hempty

theorem Chip.hitch_advanceTo (c : Chip) (n h : Nat) : (c.advanceTo n).hitch h = c.hitch h := by
  unfold Chip.hitch
  rw [Chip.advanceTo_fab]

theorem hwaits_answered (c : Chip) (fs : List (Firing × Option Nat)) (h m : Nat) :
    let u := (c.fab' (fun g => { g with hwaits := [] })).answer fs (some ⟨.data, (c.hitch h).read m⟩)
    u.fab.hwaits = [] ∧ u.hitch h = c.hitch h ∧
      u.fab.replies = c.fab.replies ++ fs.map (fun x => { firing := x.1, op := some ⟨.data, (u.hitch h).read m⟩, entry := x.2 }) := ⟨rfl, rfl, rfl⟩

/-! ### A broken hitch -/

theorem recorded_record (c : Chip) (id inst : Nat) (d : Fields) : Recorded c.cairn (c.record id inst d).cairn id inst d := ⟨_, rfl, rfl, rfl, rfl⟩

/-- The hitch itself once it is found broken: no holder, nobody queued, the fault on its way. -/
def Chip.broke (c : Chip) (h : Nat) : Chip :=
  (c.modHitch h (fun x => { x with holder := 0, queue := [], broken := true })).raise 132 h none [fNat "HITCH" h]

/-- The waiters of a broken hitch answered and gone. -/
def Chip.dropWaiters (c : Chip) (h : Nat) : Chip :=
  ((c.fab.hwaits.filter (fun w => w.hitch == h)).foldl (fun c w => c.answer w.fs (some hitchPoison)) c).fab' (fun g =>
    { g with hwaits := g.hwaits.filter (fun w => w.hitch != h) })

/-- What a session that selected on a broken hitch, or waits for it, is told. -/
def Chip.tellBroken (h : Nat) (c : Chip) (s : Nat) : Chip :=
  let c4 := c.modSess s (fun y => { y with sels := y.sels.filter (fun e => e.hitch != h) })
  match (c.sess s).waiting with
  | .take n _ _ _ _ => if n = h then ((c4.modSess s (fun y => { y with waiting := .nothing })).respond s (.err "0905" [])).raise 421 s none [fSym "CODE" "0905"] else c4
  | .commit _ _ => if h = 0 then ((c4.modSess s (fun y => { y with waiting := .nothing })).respond s (.err "0905" [])).raise 421 s none [fSym "CODE" "0905"] else c4
  | .nothing => c4

theorem hitchBroken_whole {c : Chip} {h : Nat} (hb : (c.hitch h).broken = false) : c.hitchBroken h =
    let c2 := (c.broke h).dropWaiters h
    let c3 := if (c.hitch h).holder = 0 then c2 else c2.record 164 h [fNat "HITCH" h, fMaster "MASTER" (c.hitch h).holder, fSym "CAUSE" "BROKEN"]
    c3.trev.sess.keys.foldl (Chip.tellBroken h) c3 := by
  unfold Chip.hitchBroken
  dsimp only
  rw [if_neg (by rw [hb]; exact Bool.false_ne_true)]
  rfl

theorem tellBroken_keeps (h : Nat) (c : Chip) (s : Nat) : (c.tellBroken h s).fab = c.fab ∧ (c.tellBroken h s).cairn = c.cairn ∧
    ∃ l, (c.tellBroken h s).coll.inbound = c.coll.inbound ++ l := by
  have hm : ∀ a : Chip, a.coll = c.coll → ∃ l, a.coll.inbound = c.coll.inbound ++ l := fun a ha => ⟨[], by rw [ha, List.append_nil]⟩
  have hr : ∀ (a : Chip) src inst fi d, a.coll = c.coll → ∃ l, (a.raise src inst fi d).coll.inbound = c.coll.inbound ++ l :=
    fun a src inst fi d ha => ⟨_, congrArg (fun k : Collector => k.inbound ++ _) ha⟩
  unfold Chip.tellBroken
  dsimp only
  split
  · split
    · exact ⟨by simp, by simp, hr _ _ _ _ _ (by simp)⟩
    · exact ⟨by simp, by simp, hm _ (by simp)⟩
  · split
    · exact ⟨by simp, by simp, hr _ _ _ _ _ (by simp)⟩
    · exact ⟨by simp, by simp, hm _ (by simp)⟩
  · exact ⟨by simp, by simp, hm _ (by simp)⟩

/-- The waiters' answers leave the hitches, the records and the raises. -/
theorem dropWaiters_keeps (c : Chip) (h : Nat) : let u := c.dropWaiters h
    (u.fab.hitches, u.fab.brokenRegions, u.cairn, u.coll) = (c.fab.hitches, c.fab.brokenRegions, c.cairn, c.coll) ∧
      u.fab.hwaits = c.fab.hwaits.filter (fun w => w.hitch != h) := by
  have hk := foldl_keeps (g := fun c (w : HWaiter) => c.answer w.fs (some hitchPoison))
    (fun c => (c.fab.hitches, c.fab.brokenRegions, c.cairn, c.coll, c.fab.hwaits)) (fun _ _ => rfl) (c.fab.hwaits.filter (fun w => w.hitch == h)) c
  simp only [Prod.mk.injEq] at hk
  obtain ⟨h1, h2, h3, h4, h5⟩ := hk
  refine ⟨?_, ?_⟩
  · simp only [Prod.mk.injEq]
    exact ⟨h1, h2, h3, h4⟩
  · exact congrArg (List.filter _) h5

theorem Chip.hitch_congr {a b : Chip} (h1 : a.fab.hitches = b.fab.hitches) (h2 : a.fab.brokenRegions = b.fab.brokenRegions) (h : Nat) : a.hitch h = b.hitch h := by
  unfold Chip.hitch
  rw [h1, h2]

theorem hitch_broke (c : Chip) (h : Nat) : ((c.broke h).hitch h).broken = true ∧ ((c.broke h).hitch h).holder = 0 ∧ ((c.broke h).hitch h).queue = [] := by
  have hm : (c.broke h).hitch h = c.shown h _ := Chip.hitch_modHitch c h (fun x => { x with holder := 0, queue := [], broken := true })
  rw [hm]
  unfold Chip.shown
  split <;> exact ⟨rfl, rfl, rfl⟩

/-- All that finding a hitch broken leaves. -/
theorem hitchBroken_spec {c : Chip} {h : Nat} (hb : (c.hitch h).broken = false) : let u := c.hitchBroken h
    ((u.hitch h).broken = true ∧ (u.hitch h).holder = 0 ∧ (u.hitch h).queue = []) ∧ (132, h) ∈ u.coll.inbound.map (fun r => (r.src, r.inst)) ∧
      (∀ w, w ∈ u.fab.hwaits → w.hitch ≠ h) ∧ ((c.hitch h).holder ≠ 0 →
        Recorded c.cairn u.cairn 0x0A4 h [fNat "HITCH" h, fMaster "MASTER" (c.hitch h).holder, fSym "CAUSE" "BROKEN"]) := by
  intro u
  obtain ⟨hk, hw⟩ := dropWaiters_keeps (c.broke h) h
  simp only [Prod.mk.injEq] at hk
  obtain ⟨h1, h2, h3, h4⟩ := hk
  have hu : u = _ := hitchBroken_whole hb
  dsimp only at hu
  have hf : ∀ c3 : Chip, c3.fab = ((c.broke h).dropWaiters h).fab → c3.coll = ((c.broke h).dropWaiters h).coll →
      u = c3.trev.sess.keys.foldl (Chip.tellBroken h) c3 →
      (u.fab = ((c.broke h).dropWaiters h).fab ∧ u.cairn = c3.cairn) ∧ (132, h) ∈ u.coll.inbound.map (fun r => (r.src, r.inst)) := by
    intro c3 e1 e2 hu
    have hp := foldl_keeps (g := Chip.tellBroken h) Chip.fab (fun c s => (tellBroken_keeps h c s).1) c3.trev.sess.keys c3
    have hq := foldl_keeps (g := Chip.tellBroken h) Chip.cairn (fun c s => (tellBroken_keeps h c s).2.1) c3.trev.sess.keys c3
    rw [← hu] at hp hq
    refine ⟨⟨hp.trans e1, hq⟩, ?_⟩
    rw [hu]
    refine foldl_holds (P := fun c => (132, h) ∈ c.coll.inbound.map (fun r => (r.src, r.inst))) (fun c s hc => ?_) _ ?_
    · obtain ⟨-, -, l, hl⟩ := tellBroken_keeps h c s
      rw [hl, List.map_append]
      exact List.mem_append_left _ hc
    · rw [e2, h4]
      simp [Chip.broke, Chip.raise]
  have hall : (u.fab = ((c.broke h).dropWaiters h).fab ∧ ((c.hitch h).holder ≠ 0 → u.cairn =
      (((c.broke h).dropWaiters h).record 164 h [fNat "HITCH" h, fMaster "MASTER" (c.hitch h).holder, fSym "CAUSE" "BROKEN"]).cairn)) ∧
      (132, h) ∈ u.coll.inbound.map (fun r => (r.src, r.inst)) := by
    by_cases h0 : (c.hitch h).holder = 0
    · rw [if_pos h0] at hu
      obtain ⟨⟨ha, -⟩, hc⟩ := hf _ rfl rfl hu
      exact ⟨⟨ha, fun hn => absurd h0 hn⟩, hc⟩
    · rw [if_neg h0] at hu
      obtain ⟨⟨ha, hb⟩, hc⟩ := hf (((c.broke h).dropWaiters h).record 164 h _) rfl rfl hu
      exact ⟨⟨ha, fun _ => hb⟩, hc⟩
  obtain ⟨⟨hfab, hcairn⟩, hr⟩ := hall
  have hh : u.hitch h = (c.broke h).hitch h :=
    Chip.hitch_congr ((congrArg Fabric.hitches hfab).trans h1) ((congrArg Fabric.brokenRegions hfab).trans h2) h
  refine ⟨by rw [hh]; exact hitch_broke c h, hr, fun w hmem => ?_, fun hn => ?_⟩
  · rw [hfab, hw, List.mem_filter] at hmem
    simpa using hmem.2
  · have hrec := recorded_record ((c.broke h).dropWaiters h) 164 h [fNat "HITCH" h, fMaster "MASTER" (c.hitch h).holder, fSym "CAUSE" "BROKEN"]
    rw [h3] at hrec
    rw [hcairn hn]
    exact hrec

/-- Settles O37: each pair, read and hitch is followed to the end of its command. -/
theorem twinsAndHitches : Obligations.TwinsAndHitches := by
  unfold Obligations.TwinsAndHitches
  refine ⟨?_, ?_, ?_, ?_, ?_⟩
  · intro s fi key st x xs y ys hp hs ha hb
    have hc := twinCompare_pair (m := s.mem) (perform := performOp) hs ha hb
    refine ⟨fun hd => ?_, fun hd h1 h2 => ?_⟩
    · rw [if_neg (by rw [hd]; exact Bool.false_ne_true)] at hc
      refine completesBoth (exec_twinCompare s fi key) hp ?_
      rw [hc]
      have hrep := congrArg Fabric.replies (s.u.advanceTo_fab (max x.at? y.at? + 2))
      exact ⟨rfl, rfl, (raised_raise _ 15 _ _ _).of_eq (s.u.advanceTo_coll _), s.u.advanceTo_cycle _, s.u.advanceTo_panel _, hrep⟩
    · subst h1 h2
      rw [if_pos hd, paired_alone] at hc
      exact completesBoth (exec_twinCompare s fi key) hp ⟨rfl, hc⟩
  · intro s fi key st x xs hp hs ha hb hd
    refine completes_onChip (exec_twinPartnerTimeout s fi key) hp ?_
    rw [twinTimeout_missing hs ha hb hd]
    exact ⟨(raised_raise _ 15 _ _ _).of_eq (s.u.advanceTo_coll _), s.u.advanceTo_cycle _⟩
  · intro s fi w due hp hw hu hf
    refine completes_onChip (exec_hwaitTimeout s fi) hp ?_
    rw [hwaitTimeout_only hw hu hf]
    have hh := s.u.hitch_advanceTo due w.hitch
    have hrep := congrArg Fabric.replies (s.u.advanceTo_fab due)
    have hq := Chip.hitch_modHitch_queue (s.u.advanceTo due) w.hitch (fun x => { x with queue := x.queue.filter (· != masterFi fi) })
    have ho := Chip.hitch_modHitch_holder (s.u.advanceTo due) w.hitch (fun x => { x with queue := x.queue.filter (· != masterFi fi) })
    obtain ⟨h1, h2, h3⟩ := hwaits_answered ((s.u.advanceTo due).modHitch w.hitch (fun x => { x with queue := x.queue.filter (· != masterFi fi) })) w.fs
      w.hitch (masterFi fi)
    rw [hh] at hq ho
    exact ⟨h1, (congrArg Hitch.queue h2).trans hq, (congrArg Hitch.holder h2).trans ho, h3.trans (congrArg (· ++ _) hrep)⟩
  · intro s h hp hb
    refine completes_onChip (exec_hitchBroken s h) hp ?_
    obtain ⟨⟨h1, h2, h3⟩, h4, h5, h6⟩ := hitchBroken_spec hb
    exact ⟨h1, h2, h3, h4, h5, h6⟩
  · intro s h hp hl hb
    refine completes_onChip (exec_hitchRestore s h) hp ?_
    have hr : s.u.hitchRestore h = s.u.modHitch h (fun x => { x with broken := false }) := if_pos ⟨hl, hb⟩
    have hm := Chip.hitch_modHitch s.u h (fun x => { x with broken := false })
    have hn : (h ≥ 256 && s.u.fab.brokenRegions.contains ((h - 256) / 2097152)) = false := by
      rw [decide_eq_false (by omega), Bool.false_and]
    unfold Chip.shown at hm
    rw [hn] at hm
    rw [hr, hm]
    exact ⟨rfl, rfl⟩

end Sys2Proof.Machine
end

section
/-!
PROOFS. The keys of an interactive session, and the lines that are not executed (R33, R34, R41, R48–R50, R58, R66).
-/
namespace Sys2Proof.Machine

/-! ### One session -/

theorem Chip.modSess_congr {c : Chip} {n : Nat} {g g' : Sess → Sess} (h : g (c.sess n) = g' (c.sess n)) : c.modSess n g = c.modSess n g' := by
  unfold Chip.modSess
  rw [h]

theorem Tbl.set_set {α : Type} (t : Tbl α) (n : Nat) (x y : α) : (t.set n x).set n y = t.set n y := by
  induction t with
  | nil => simp [Tbl.set]
  | cons e t ih =>
    obtain ⟨k, v⟩ := e
    by_cases h1 : n < k
    · simp [Tbl.set, h1]
    · by_cases h2 : n = k
      · simp [Tbl.set, h2]
      · simp [Tbl.set, h1, h2, ih]

theorem Tbl.del_set {α : Type} (t : Tbl α) (n : Nat) (x : α) : (t.set n x).del n = t.del n := by
  induction t with
  | nil => simp [Tbl.set, Tbl.del]
  | cons e t ih =>
    obtain ⟨k, v⟩ := e
    unfold Tbl.set
    split
    · simp [Tbl.del]
    · split
      · simp_all [Tbl.del]
      · simp only [Tbl.del] at ih ⊢
        rw [List.filter_cons, List.filter_cons, ih]

/-- An entry written twice is the entry written last, where the first is not the table's default. -/
theorem Tbl.put_put {α : Type} [DecidableEq α] (d : α) (t : Tbl α) (n : Nat) {x : α} (y : α) (hx : x ≠ d) : (t.put d n x).put d n y = t.put d n y := by
  unfold Tbl.put
  rw [if_neg hx]
  split
  · exact t.del_set n x
  · exact t.set_set n x y

/-- A session changed twice, where it is in use between. -/
theorem Chip.modSess_modSess (c : Chip) (n : Nat) (g g' : Sess → Sess) (h : (g (c.sess n)).active = true) :
    (c.modSess n g).modSess n g' = c.modSess n (fun x => g' (g x)) := by
  have hi : g (c.sess n) ≠ Sess.init := fun he => by rw [he] at h; cases h
  unfold Chip.modSess Chip.trev'
  have hs : Chip.sess { c with trev := { c.trev with sess := c.trev.sess.put Sess.init n (g (c.sess n)) } } n = g (c.sess n) := c.sess_modSess n g
  rw [hs]
  exact congrArg (fun l => { c with trev := { c.trev with sess := l } }) (Tbl.put_put _ _ _ _ hi)

/-- An asynchronous line joins the queue of a session in use that has room. -/
theorem Chip.async_room {c : Chip} {s : Nat} (kind : String) (fs : Fields) (ha : (c.sess s).active = true) (hq : (c.sess s).queue.length < 256) :
    c.async s kind fs = c.modSess s (fun x => { x with queue := x.queue ++ [.async kind fs] }) := by
  unfold Chip.async
  rw [if_neg (by simp [ha]), if_neg (by omega)]

/-! ### Editing keys -/

theorem edited_of {i : Instr} {s : State} {n : Nat} {g k : Sess → Sess} (he : exec i s = s.onChip (fun c => c.keyed n k)) (hp : s.u.sup.powered = true)
    (ha : (s.u.sess n).active = true) (hs : (s.u.sess n).script = false) (sent : List Char) (hk : k (s.u.sess n) = { g (s.u.sess n) with sent := sent }) :
    Edited i s n g := by
  refine completes_onChip he hp ⟨sent, ?_⟩
  unfold Chip.keyed
  rw [if_pos ⟨ha, by simp [hs]⟩]
  exact Chip.modSess_congr hk

theorem dropWhile_replicate_append {p : Char → Bool} {ch : Char} (hp : p ch = true) (n : Nat) (l : List Char) :
    (List.replicate n ch ++ l).dropWhile p = l.dropWhile p := by
  induction n with
  | zero => rfl
  | succ n ih => simp [List.replicate_succ, hp]

theorem dropWhile_all_append {p : Char → Bool} {w : List Char} (hw : ∀ ch ∈ w, p ch = true) (l : List Char) :
    (w ++ l).dropWhile p = l.dropWhile p := by
  induction w with
  | nil => rfl
  | cons ch w ih =>
    rw [List.cons_append, List.dropWhile_cons_of_pos (hw ch List.mem_cons_self)]
    exact ih (fun x hx => hw x (List.mem_cons_of_mem _ hx))

theorem dropWhile_head {p : Char → Bool} {l : List Char} (h : ∀ ch, l.head? = some ch → p ch = false) : l.dropWhile p = l := by
  cases l with
  | nil => rfl
  | cons ch l => exact List.dropWhile_cons_of_neg (by rw [h ch rfl]; exact Bool.false_ne_true)

/-- Ctrl-W takes the spaces at the end, the last word, and the spaces before it. -/
theorem eraseWordOf_eq {a w : List Char} {j k : Nat} (hw : w ≠ []) (hn : ∀ ch, ch ∈ w → ch ≠ ' ') (ha : a.getLast? ≠ some ' ') (hj : j = 0 → a = []) :
    eraseWordOf (a ++ List.replicate j ' ' ++ w ++ List.replicate k ' ') = a := by
  have hr : (a ++ List.replicate j ' ' ++ w ++ List.replicate k ' ').reverse = List.replicate k ' ' ++ (w.reverse ++ (List.replicate j ' ' ++ a.reverse)) := by
    simp
  have h1 : (w.reverse ++ (List.replicate j ' ' ++ a.reverse)).dropWhile (· == ' ') = w.reverse ++ (List.replicate j ' ' ++ a.reverse) := by
    refine dropWhile_head (fun ch hc => ?_)
    have hne : w.reverse ≠ [] := by simpa using hw
    rw [List.head?_append_of_ne_nil _ hne, List.head?_reverse] at hc
    exact beq_false_of_ne (hn ch (List.mem_of_getLast? hc))
  have h2 : (w.reverse ++ (List.replicate j ' ' ++ a.reverse)).dropWhile (· != ' ') = List.replicate j ' ' ++ a.reverse := by
    rw [dropWhile_all_append (fun ch hc => by simpa using hn ch (List.mem_reverse.1 hc))]
    cases j with
    | zero => rw [hj rfl]; rfl
    | succ j => exact List.dropWhile_cons_of_neg (by simp)
  have h3 : (List.replicate j ' ' ++ a.reverse).dropWhile (· == ' ') = a.reverse := by
    rw [dropWhile_replicate_append (by simp)]
    refine dropWhile_head (fun ch hc => ?_)
    rw [List.head?_reverse] at hc
    exact beq_false_of_ne (fun he => ha (he ▸ hc))
  unfold eraseWordOf
  rw [hr, dropWhile_replicate_append (by simp), h1, h2, h3, List.reverse_reverse]

theorem Sess.recall_some {x : Sess} {i : Nat} {t : List Char} (h : x.history[i]? = some t) : x.recall (i + 1) =
    { x with line := t, rejected := false, tooLong := false, histAt := i + 1, sent := x.echoes (erasure x.line.length ++ t) } := by
  unfold Sess.recall
  rw [Nat.add_sub_cancel, h]
  exact if_neg (Nat.succ_ne_zero i)

/-- Settles O38: each key is one change of the session's line. -/
theorem lineEditing : Obligations.LineEditing := by
  unfold Obligations.LineEditing
  intro s n hp ha hs x
  have hchar : ∀ ch : Char, 32 ≤ ch.toNat → ch.toNat ≤ 126 → exec (.acceptedCharacter n ch) s = s.onChip (fun c => c.keyed n (fun x => x.accept ch)) := by
    intro ch h1 h2
    rw [exec_acceptedCharacter]
    exact congrArg s.onChip (funext fun c => if_pos ⟨h1, h2⟩)
  refine ⟨?_, ?_, ?_, ?_, ?_, ?_, ?_, ?_, ?_⟩
  · exact edited_of (exec_eraseChar s n) hp ha hs _ (by rw [Sess.eraseTo, List.dropLast_eq_take])
  · exact edited_of (exec_eraseLine s n) hp ha hs (x.echoes (erasure (x.line.length - 0))) rfl
  · intro a j w k hl hw hn hlast hj
    refine edited_of (exec_eraseWord s n) hp ha hs (x.echoes (erasure (x.line.length - a.length))) ?_
    have he : eraseWordOf x.line = a := by rw [hl]; exact eraseWordOf_eq hw hn hlast hj
    rw [show eraseWordOf (s.u.sess n).line = a from he, Sess.eraseTo]
    have ht : (s.u.sess n).line.take a.length = a := by
      rw [show (s.u.sess n).line = _ from hl, List.append_assoc, List.append_assoc, List.take_left]
    rw [ht]
  · exact edited_of (exec_ctrlC s n) hp ha hs (x.echoes (['^', 'C'] ++ crlf) ++ prompt) rfl
  · intro t ht
    exact edited_of (exec_historyPrevious s n) hp ha hs _ (Sess.recall_some ht)
  · intro t k hk ht
    refine edited_of (exec_historyNext s n) hp ha hs (x.echoes (erasure x.line.length ++ t)) ?_
    rw [show (s.u.sess n).histAt - 1 = k + 1 by rw [show (s.u.sess n).histAt = k + 2 from hk]; rfl]
    exact Sess.recall_some ht
  · exact edited_of (exec_rejectedControlChar s n) hp ha hs [] rfl
  · intro ch h1 h2 hl hw
    have hfree : ¬(x.waiting ≠ Waiting.nothing ∧ 8192 ≤ x.inputHeld) := fun h => h.1 hw
    refine ⟨fun hlen => ?_, fun hlen => ?_⟩
    · refine edited_of (hchar ch h1 h2) hp ha hs (x.echoes [ch]) ?_
      unfold Sess.accept
      rw [if_neg hfree]
      dsimp only
      rw [if_pos (show (s.u.sess n).waiting = .nothing from hw), if_neg (by rw [show (s.u.sess n).tooLong = false from hl]; simpa using hlen), if_pos hw]
    · refine edited_of (hchar ch h1 h2) hp ha hs [] ?_
      unfold Sess.accept
      rw [if_neg hfree]
      dsimp only
      rw [if_pos (show (s.u.sess n).waiting = .nothing from hw), if_pos (.inr hlen)]
  · intro ch h1 h2 hw hheld
    refine completes_onChip (hchar ch h1 h2) hp ?_
    unfold Chip.keyed
    rw [if_pos ⟨ha, by simp [hs]⟩]
    exact Chip.modSess_congr (if_pos ⟨hw, hheld⟩)

end Sys2Proof.Machine
end

section
/-!
PROOFS. Lines that are not executed (R33, R34, R41, R49, R58, R66).
-/
namespace Sys2Proof.Machine

theorem Chip.sess_advance (c : Chip) (n k : Nat) : (c.advance n).sess k = c.sess k := congrArg (fun t : Trev => t.sess.get Sess.init k) (c.advance_trev n)
theorem Chip.sess_advanceTo (c : Chip) (n k : Nat) : (c.advanceTo n).sess k = c.sess k := c.sess_advance _ k

/-- A line arrives at a session that waits for no hitch: one cycle passes. -/
theorem lineArrives_free {c : Chip} {n : Nat} (hw : (c.sess n).waiting = .nothing) : c.lineArrives n =
    (c.advance 1).modSess n (fun x => { x with lastLine := c.clk.cycle + 1, warned := false, inputHeld := 0 }) := by
  have hs : c.settleWait n = c := by unfold Chip.settleWait; rw [hw]
  unfold Chip.lineArrives
  rw [hs]
  dsimp only
  rw [Chip.advance_cycle]

/-- The session that a line reaches, and what the line's arrival leaves. -/
theorem lineArrives_sess {c : Chip} {n : Nat} (hw : (c.sess n).waiting = .nothing) :
    (c.lineArrives n).sess n = { c.sess n with lastLine := c.clk.cycle + 1, warned := false, inputHeld := 0 } ∧
    (c.lineArrives n).clk.cycle = c.clk.cycle + 1 ∧ (c.lineArrives n).cfg = c.cfg ∧ (c.lineArrives n).fis = c.fis := by
  rw [lineArrives_free hw]
  refine ⟨?_, c.advance_cycle 1, c.advance_cfg 1, c.advance_fis 1⟩
  rw [Chip.sess_modSess, Chip.sess_advance]

theorem framing_replay {c : Chip} {h : Hdr} {n : Nat} {e : Stored} (hs : (c.sess h.sess).script = true) (hn : h.num = some n) (hc : h.crc = crc16 h.text)
    (he : (c.sess h.sess).store.find? (fun e => e.num == n) = some e) (hec : e.crc = h.crc)
    (hd : (e.resp.filter (fun l => match l with | .data _ => true | _ => false)).length ≤ 256) (hl : h.text.length + 12 ≤ 1024) :
    c.framing h = some (c.reply h.sess (some n) e.resp) := by
  unfold Chip.framing Hdr.length
  dsimp only
  rw [hs, if_neg (show ¬(h.text.length + (if true = true then 12 else 0) > 1024) by simpa using hl), if_neg (by simp), hn]
  dsimp only
  rw [if_neg (by simp [hc]), he]
  dsimp only
  rw [if_neg (by simp [hec])]
  exact if_neg (Nat.not_lt.2 hd)

/-- Settles O39: the line is answered, or not, where it arrives, and no setting is touched. -/
theorem linesNotExecuted : Obligations.LinesNotExecuted := by
  unfold Obligations.LinesNotExecuted
  refine ⟨?_, ?_, ?_⟩
  · intro s n hp ha hw x
    obtain ⟨hx, hcyc, hcfg, -⟩ := lineArrives_sess hw
    have hempty : ∀ P : Chip → Prop, P (if ((s.u.lineArrives n).sess n).rejected ∧ ¬ ((s.u.lineArrives n).sess n).script then
        ((s.u.lineArrives n).modSess n (fun x => { x with line := [], rejected := false, tooLong := false, histAt := 0 })).reply n none [.err "0101" []]
        else (s.u.lineArrives n).modSess n (fun x => { x with line := [], rejected := false, tooLong := false, histAt := 0, sent := if x.script then [] else prompt })) →
        CompletesChip (.emptyLine n) s P := by
      intro P h
      refine completes_onChip (exec_emptyLine s n) hp ?_
      unfold Chip.emptyLine
      rw [if_neg (by simp [ha])]
      exact h
    refine ⟨fun hr => hempty _ ?_, fun hr hs => hempty _ ?_, fun num => ?_, fun k hk hq => ?_, fun k hk hq => ?_⟩
    · have hno : ¬(((s.u.lineArrives n).sess n).rejected = true ∧ ¬ ((s.u.lineArrives n).sess n).script = true) := by
        rw [hx]
        rintro ⟨h1, h2⟩
        rcases hr with hr | hr
        · exact Bool.false_ne_true (hr.symm.trans h1)
        · exact h2 hr
      rw [if_neg hno]
      rw [Chip.sess_modSess, hx]
      exact ⟨rfl, rfl, rfl, rfl, hcyc, hcfg⟩
    · rw [if_pos (by rw [hx]; exact ⟨hr, by simpa using hs⟩)]
      unfold Chip.reply
      rw [Chip.sess_modSess, Chip.sess_modSess, hx]
      exact ⟨rfl, rfl, rfl, rfl⟩
    · refine completes_onChip (exec_longLine s n num) hp ?_
      unfold Chip.longLine
      rw [if_neg (by simp [ha])]
      unfold Chip.reply
      rw [Chip.sess_modSess, Chip.sess_modSess, hx]
      exact ⟨rfl, rfl, rfl, hcfg⟩
    · refine completes_onChip (exec_overrunReport s n) hp ?_
      unfold Chip.overrunReport
      dsimp only
      have hk' : (s.u.sess n).overrun = k + 1 := hk
      rw [if_pos ⟨by omega, hw⟩, Chip.async_room _ _ (by rw [Chip.sess_modSess]; exact ha) (by rw [Chip.sess_modSess]; exact hq),
        Chip.modSess_modSess _ _ _ _ (by exact ha), hk']
    · refine completes_onChip (exec_lostReport s n) hp ?_
      unfold Chip.lostReport
      dsimp only
      have hk' : (s.u.sess n).lost = k + 1 := hk
      rw [if_pos ⟨by omega, hq⟩, Chip.async_room _ _ (by rw [Chip.sess_modSess]; exact ha) (by rw [Chip.sess_modSess]; exact hq),
        Chip.modSess_modSess _ _ _ _ (by exact ha), hk']
  · intro s h code hp ha hw hf hc
    obtain ⟨hx, -, hcfg, hfis⟩ := lineArrives_sess hw
    refine completes_onChip (exec_malformedLine s h) hp ?_
    unfold Chip.malformedLine
    dsimp only
    rw [if_neg (by simp [ha]), hf]
    dsimp only
    rw [hc]
    dsimp only [Chip.respond, Chip.executed]
    rw [Chip.sess_modSess, Chip.sess_modSess, hx]
    exact ⟨rfl, hcfg, hfis, rfl⟩
  · intro s h n e hp x ha hw hs hn hc he hec hd hl
    obtain ⟨hx, -, hcfg, -⟩ := lineArrives_sess hw
    refine completes_onChip (exec_scriptLineReplay s h) hp ?_
    have hany : (s.u.sess h.sess).store.any (fun e => some e.num == h.num && e.crc == h.crc) = true := by
      refine List.any_eq_true.2 ⟨e, List.mem_of_find?_eq_some he, ?_⟩
      have := List.find?_some he
      simp only [beq_iff_eq] at this
      simp [hn, hec, this]
    have hfr := framing_replay (c := s.u.lineArrives h.sess) (h := h) (n := n) (e := e) (by rw [hx]; exact hs) hn hc (by rw [hx]; exact he) hec hd hl
    unfold Chip.scriptReplay
    dsimp only
    rw [if_pos ⟨ha, hs, hc, hany⟩, hfr, Option.getD_some]
    unfold Chip.reply
    rw [Chip.sess_modSess, hx]
    refine ⟨rfl, ?_, rfl, rfl, rfl, hcfg⟩
    exact if_pos hs

end Sys2Proof.Machine
end

section
/-!
PROOFS. What settling a line that waits, or passing a hitch on, can change: the clock and the records, the raises, the fabric, and the sessions' own
waits and answers (R39, R76, R145, R458, R460).
-/
namespace Sys2Proof.Machine

/-- Two units that differ in their clock, records, raises, fabric and sessions alone, with the same sessions in use and the same login locks. -/
structure Chip.Settled (c u : Chip) : Prop where
  frame : { u with clk := c.clk, cairn := c.cairn, coll := c.coll, fab := c.fab, trev := c.trev } = c
  locks : u.trev.locks = c.trev.locks
  active : ∀ n, (u.sess n).active = (c.sess n).active

theorem Chip.Settled.refl (c : Chip) : c.Settled c := ⟨rfl, rfl, fun _ => rfl⟩

theorem Chip.Settled.trans {a b d : Chip} (h1 : a.Settled b) (h2 : b.Settled d) : a.Settled d := by
  refine ⟨?_, h2.locks.trans h1.locks, fun n => (h2.active n).trans (h1.active n)⟩
  have hf := h1.frame
  rw [← h2.frame] at hf
  exact hf

theorem Chip.Settled.unit {c u : Chip} (h : c.Settled u) : u.unit = c.unit :=
  (congrArg Chip.unit h.frame : (({ u with clk := c.clk, cairn := c.cairn, coll := c.coll, fab := c.fab, trev := c.trev } : Chip)).unit = _)
theorem Chip.Settled.cfg {c u : Chip} (h : c.Settled u) : u.cfg = c.cfg :=
  (congrArg Chip.cfg h.frame : (({ u with clk := c.clk, cairn := c.cairn, coll := c.coll, fab := c.fab, trev := c.trev } : Chip)).cfg = _)
theorem Chip.Settled.fis {c u : Chip} (h : c.Settled u) : u.fis = c.fis :=
  (congrArg Chip.fis h.frame : (({ u with clk := c.clk, cairn := c.cairn, coll := c.coll, fab := c.fab, trev := c.trev } : Chip)).fis = _)

/-- A session changed, in use as before. -/
theorem settled_modSess (c : Chip) (n : Nat) (g : Sess → Sess) (hg : ∀ x, (g x).active = x.active) : c.Settled (c.modSess n g) := by
  refine ⟨rfl, rfl, fun m => ?_⟩
  by_cases hm : m = n
  · subst hm
    rw [Chip.sess_modSess, hg]
  · rw [Chip.sess_modSess_ne _ _ _ _ hm]

theorem settled_advance (c : Chip) (n : Nat) : c.Settled (c.advance n) := by
  refine ⟨?_, congrArg Trev.locks (c.advance_trev n), fun m => congrArg Sess.active (c.sess_advance n m)⟩
  have hf : ({ c.advance n with clk := c.clk, cairn := c.cairn } : Chip) = c := c.advance_frame n
  have h1 := c.advance_coll n
  have h2 := c.advance_fab n
  have h3 := c.advance_trev n
  rw [← h1, ← h2, ← h3]
  exact hf

theorem settled_respond (c : Chip) (n : Nat) (a : Answer) : c.Settled (c.respond n a) := by
  unfold Chip.respond
  exact settled_modSess c n _ (fun _ => rfl)
theorem settled_waiting (c : Chip) (n : Nat) (w : Waiting) : c.Settled (c.modSess n (fun x => { x with waiting := w })) :=
  settled_modSess c n _ (fun _ => rfl)
theorem settled_unstaged (c : Chip) (n : Nat) : c.Settled (c.modSess n (fun x => { x with staged := [], loaded := 0 })) :=
  settled_modSess c n _ (fun _ => rfl)
theorem settled_fab (c : Chip) (g : Fabric → Fabric) : c.Settled (c.fab' g) := ⟨rfl, rfl, fun _ => rfl⟩
theorem settled_modHitch (c : Chip) (h : Nat) (g : Hitch → Hitch) : c.Settled (c.modHitch h g) := ⟨rfl, rfl, fun _ => rfl⟩
theorem settled_raise (c : Chip) (src inst : Nat) (fi : Option Nat) (d : Fields) : c.Settled (c.raise src inst fi d) := ⟨rfl, rfl, fun _ => rfl⟩
theorem settled_record (c : Chip) (id inst : Nat) (d : Fields) : c.Settled (c.record id inst d) := ⟨rfl, rfl, fun _ => rfl⟩
theorem settled_commit (c : Chip) (n : Nat) (k : Commit) : c.Settled (c.trev' (fun t => { t with commitNum := n, commit := some k })) := ⟨rfl, rfl, fun _ => rfl⟩

theorem settled_foldl {α : Type} {g : Chip → α → Chip} (hg : ∀ (c : Chip) x, c.Settled (g c x)) (l : List α) (c : Chip) : c.Settled (l.foldl g c) := by
  induction l generalizing c with
  | nil => exact .refl c
  | cons x l ih => exact (hg c x).trans (ih _)

theorem settled_hitchWrite (c : Chip) (h m : Nat) : c.Settled (c.hitchWrite h m).2 := by
  unfold Chip.hitchWrite
  dsimp only
  split
  · exact .refl c
  · split
    · exact settled_modHitch c h (fun x => { x with holder := m })
    · split
      · exact .refl c
      · exact settled_modHitch c h (fun x => { x with queue := x.queue ++ [m] })

theorem settled_takeNext (s wait : Nat) : ∀ (l : List Nat) (d : List Fields) (c : Chip), c.Settled (c.takeNext s wait l d).1
  | [], _, c => .refl c
  | h :: t, d, c => by
    have hw := settled_hitchWrite c h (masterSess s)
    unfold Chip.takeNext
    split
    · exact .refl c
    · split
      · exact .refl c
      · exact .refl c
      · rename_i c1 hc
        rw [hc] at hw
        split
        · exact hw.trans (settled_takeNext s wait t _ c1)
        · split
          · exact settled_takeNext s wait t _ c
          · exact hw.trans (settled_waiting c1 s (.take h wait (c1.clk.cycle + wait) t d))

theorem settled_takeOn (c : Chip) (s wait : Nat) (rest : List Nat) (d : List Fields) : c.Settled (c.takeOn s wait rest d) := by
  have hm := settled_modSess c s (fun x => { x with waiting := .nothing }) (fun _ => rfl)
  have hn := settled_takeNext s wait rest d (c.modSess s (fun x => { x with waiting := .nothing }))
  unfold Chip.takeOn
  split
  · rename_i c1 hc
    rw [hc] at hn
    exact hm.trans hn
  · rename_i c1 a _ hc
    rw [hc] at hn
    exact (hm.trans hn).trans (settled_respond _ _ _)

theorem settled_tell (s h : Nat) (c : Chip) : c.Settled (tell s h c) := by
  unfold tell
  split
  · split
    · exact settled_takeOn _ _ _ _ _
    · exact .refl c
  · exact .refl c

theorem settled_hitchPass (c : Chip) (h : Nat) : c.Settled (c.hitchPass tell h) := by
  unfold Chip.hitchPass
  split
  · exact settled_modHitch _ _ _
  · dsimp only
    split
    · exact (settled_modHitch _ _ _).trans (settled_tell _ _ _)
    · refine ((settled_modHitch c h _).trans (settled_fab _ _)).trans (settled_foldl (fun c w => ?_) _ _)
      exact settled_fab c _

theorem settled_dropHitches (c : Chip) (m : Nat) (cause : String) : c.Settled (c.dropHitches m cause (fun h c => c.hitchPass tell h)) := by
  unfold Chip.dropHitches
  refine settled_foldl (fun c h => ?_) _ _
  dsimp only
  split
  · exact ((settled_modHitch c h _).trans (settled_record _ _ _ _)).trans (settled_hitchPass _ _)
  · exact (settled_modHitch c h _).trans (settled_record _ _ _ _)

theorem settled_commitHeld (c : Chip) (s : Nat) (ifn : Option Nat) : c.Settled (c.commitHeld s ifn).1 := by
  unfold Chip.commitHeld
  dsimp only
  split
  · exact settled_hitchPass _ _
  · split
    · exact settled_hitchPass _ _
    · exact (settled_commit _ _ _).trans (settled_unstaged _ s)

theorem settled_commitGranted (c : Chip) (s : Nat) : c.Settled (c.commitGranted s) := by
  unfold Chip.commitGranted
  split
  · dsimp only
    have hm := settled_modSess c s (fun x => { x with waiting := .nothing }) (fun _ => rfl)
    split
    · split
      · exact .refl c
      · exact (hm.trans (settled_commitHeld _ _ _)).trans (settled_respond _ _ _)
    · split
      · exact .refl c
      · exact (hm.trans (settled_raise _ _ _ _ _)).trans (settled_respond _ _ _)
  · exact .refl c

theorem settled_commitTimeout (c : Chip) (s : Nat) : c.Settled (c.commitTimeout s) := by
  unfold Chip.commitTimeout
  split
  · dsimp only
    split
    · exact (((settled_advance c _).trans (settled_modHitch _ _ _)).trans (settled_waiting _ s .nothing)).trans (settled_respond _ _ _)
    · exact settled_commitGranted _ _
  · exact .refl c

theorem settled_takeTimeout (c : Chip) (s : Nat) : c.Settled (c.takeTimeout s) := by
  unfold Chip.takeTimeout
  split
  · exact ((settled_advance c _).trans (settled_modHitch _ _ _)).trans (settled_takeOn _ _ _ _ _)
  · exact .refl c

theorem settled_settleWait (c : Chip) (s : Nat) : c.Settled (c.settleWait s) := by
  unfold Chip.settleWait
  split
  · exact .refl c
  · exact settled_takeTimeout c s
  · exact settled_commitTimeout c s

/-- A line's arrival settles what waited and changes its session. -/
theorem settled_lineArrives (c : Chip) (s : Nat) : c.Settled (c.lineArrives s) := by
  unfold Chip.lineArrives
  exact ((settled_settleWait c s).trans (settled_advance _ _)).trans (settled_modSess _ _ _ (fun _ => rfl))

theorem settled_arrived (c : Chip) (h : Hdr) : c.Settled (c.arrived h) := by
  unfold Chip.arrived Chip.executed
  exact (settled_lineArrives c h.sess).trans (settled_modSess _ _ _ (fun _ => rfl))

end Sys2Proof.Machine
end

section
/-!
PROOFS. How sessions begin and end (R35, R40, R42, R44, R46, R668, R669).
-/
namespace Sys2Proof.Machine

/-! ### A session that begins -/

/-- A session just begun, whatever asynchronous lines it has been given. -/
def Sess.Begun (x : Sess) (n : Nat) : Prop :=
  ∃ q l t, x = { Sess.init with active := true, level := if n < 2 then some 0 else none, lastLine := t, queue := q, lost := l }

/-- An asynchronous line changes the queue of its session and the count of lines lost. -/
theorem async_sess (c : Chip) (s : Nat) (k : String) (fs : Fields) :
    ∃ q l, (c.async s k fs).sess s = { c.sess s with queue := q, lost := l } := by
  unfold Chip.async
  split
  · exact ⟨_, _, rfl⟩
  · split
    · exact ⟨_, _, by rw [Chip.sess_modSess]⟩
    · exact ⟨_, _, by rw [Chip.sess_modSess]⟩

theorem async_cairn (c : Chip) (s : Nat) (k : String) (fs : Fields) : (c.async s k fs).cairn = c.cairn := by
  unfold Chip.async
  split
  · rfl
  · split <;> rfl

theorem Sess.Begun.async {c : Chip} {n : Nat} (h : (c.sess n).Begun n) (k : String) (fs : Fields) : ((c.async n k fs).sess n).Begun n := by
  obtain ⟨q, l, t, hx⟩ := h
  obtain ⟨q', l', hy⟩ := async_sess c n k fs
  exact ⟨q', l', t, by rw [hy, hx]⟩

theorem begun_foldl {α : Type} (n : Nat) (k : String) (fs : α → Fields) (l : List α) {c : Chip} (h : (c.sess n).Begun n) :
    ((l.foldl (fun c e => c.async n k (fs e)) c).sess n).Begun n := by
  induction l generalizing c with
  | nil => exact h
  | cons e l ih => exact ih (h.async k (fs e))

theorem beginSession_begun (c : Chip) (n : Nat) : ((c.beginSession n).sess n).Begun n := by
  have h : ∀ d, ((Chip.record (c.modSess n (fun _ => { Sess.init with active := true, level := if n < 2 then some 0 else none, lastLine := c.clk.cycle }))
      (Config.openEvent 0) n d).sess n).Begun n := fun d =>
    ⟨[], 0, c.clk.cycle, (c.sess_modSess n (fun _ => { Sess.init with active := true, level := if n < 2 then some 0 else none, lastLine := c.clk.cycle }))⟩
  exact begun_foldl n "BASECAMP" (fun e : Camp × Fields => [fSym "CAUSE" e.1.name] ++ e.2) _ (h _)

theorem beginSession_recorded (c : Chip) (n : Nat) : Recorded c.cairn (c.beginSession n).cairn (Config.openEvent 0) n
    [fNat "SESSION" n, fSym "STATE" "START", fSym "CAUSE" (["SERIAL", "USB", "TCP"].getD (carrierOf n) "TCP")] := by
  have hk := foldl_keeps (g := fun (c : Chip) (e : Camp × Fields) => c.async n "BASECAMP" ([fSym "CAUSE" e.1.name] ++ e.2)) (fun c => c.cairn)
    (fun c e => async_cairn c n _ _)
  unfold Chip.beginSession
  dsimp only
  rw [hk]
  exact recorded_record _ _ _ _

/-! ### A session that ends -/

/-- The session's load, transaction, staged set, wait and selects are gone (R42). -/
def Chip.letGo (c : Chip) (n : Nat) : Chip :=
  c.modSess n (fun x => { x with bulk := none, txn := false, staged := [], loaded := 0, waiting := .nothing, sels := [] })

/-- Then its hitches are passed on, and its selects are recorded. -/
def Chip.lastRecords (c : Chip) (n : Nat) : Chip :=
  (c.sess n).sels.foldl (fun c e => c.selectRecord n e "CANCEL")
    ((c.letGo n).dropHitches (masterSess n) "SESSION" (fun h c => c.hitchPass tell h))

/-- The end of the session itself: its record, and its commit under way no longer its own. -/
def Chip.ended (c : Chip) (n : Nat) (cause : String) : Chip :=
  (((c.lastRecords n).sessionRecord n "END" cause).modSess n (fun _ => Sess.init)).trev' (fun t =>
    { t with commit := t.commit.map (fun k => if k.session = n then { k with alive := false } else k) })

theorem endSession_eq {c : Chip} {n : Nat} (cause : String) (ha : (c.sess n).active = true) :
    c.endSession n cause = if n = 0 ∧ (c.ended n cause).unit.open0 = true then (c.ended n cause).beginSession 0 else c.ended n cause :=
  if_neg (by simp [ha])

theorem settled_letGo (c : Chip) (n : Nat) : c.Settled (c.letGo n) := settled_modSess c n _ (fun _ => rfl)

theorem settled_lastRecords (c : Chip) (n : Nat) : c.Settled (c.lastRecords n) :=
  ((settled_letGo c n).trans (settled_dropHitches _ _ _)).trans (settled_foldl (fun c (e : Sel) => settled_record c 258 e.point _) _ _)

theorem ended_unit (c : Chip) (n : Nat) (cause : String) : (c.ended n cause).unit = c.unit := (settled_lastRecords c n).unit

theorem ended_sess (c : Chip) (n : Nat) (cause : String) : (c.ended n cause).sess n = Sess.init :=
  Chip.sess_modSess ((c.lastRecords n).sessionRecord n "END" cause) n (fun _ => Sess.init)

/-- A session that ends is as at reset, unless it is the serial session of an open unit, which begins again (R42). -/
theorem endSession_sess {c : Chip} {n : Nat} (cause : String) (ha : (c.sess n).active = true) (hn : n ≠ 0 ∨ c.unit.open0 = false) :
    (c.endSession n cause).sess n = Sess.init := by
  rw [endSession_eq cause ha, ended_unit, if_neg]
  · exact ended_sess c n cause
  · rintro ⟨h0, ho⟩
    rcases hn with h | h
    · exact h h0
    · exact Bool.false_ne_true (h.symm.trans ho)

theorem endSession_begins {c : Chip} (cause : String) (ha : (c.sess 0).active = true) (ho : c.unit.open0 = true) :
    ((c.endSession 0 cause).sess 0).Begun 0 := by
  rw [endSession_eq cause ha, ended_unit, if_pos ⟨rfl, ho⟩]
  exact beginSession_begun _ _

theorem async_unit (c : Chip) (s : Nat) (k : String) (fs : Fields) : (c.async s k fs).unit = c.unit := by
  unfold Chip.async
  split
  · rfl
  · split <;> rfl

/-- What stands before the end of a session by its idle limit: the session in use, the unit's open session as it was. -/
theorem idleWarning_kept (c : Chip) (n : Nat) (ha : (c.sess n).active = true) :
    ((c.idleWarning n).sess n).active = true ∧ (c.idleWarning n).unit = c.unit := by
  unfold Chip.idleWarning
  dsimp only
  split
  · obtain ⟨q, l, hx⟩ := async_sess ((c.advanceTo ((c.sess n).lastLine + (c.idleLimit n - 60000000000))).modSess n (fun x => { x with warned := true })) n "SESSION"
      [fWord "IDLE", ⟨"LEFT", .dur 60000000000⟩]
    rw [hx, Chip.sess_modSess, Chip.sess_advanceTo, async_unit, Chip.modSess_unit, Chip.advanceTo_unit]
    exact ⟨ha, rfl⟩
  · exact ⟨ha, rfl⟩

theorem findSome?_range_first {α : Type} {f : Nat → Option α} {n k : Nat} {v : α} (hk : k < n) (hv : f k = some v) (hn : ∀ i, i < k → f i = none) :
    (List.range n).findSome? f = some v := by
  induction n with
  | zero => omega
  | succ n ih =>
    rw [List.range_succ, List.findSome?_append]
    by_cases h : k = n
    · subst h
      rw [List.findSome?_eq_none_iff.2 (fun i hi => hn i (List.mem_range.1 hi)), Option.none_or, List.findSome?_cons_of_isSome (by rw [hv]; rfl)]
      simpa using hv
    · rw [ih (by omega), Option.some_or]

theorem freeTcp_first {c : Chip} {t : Nat} (h1 : 2 ≤ t) (h2 : t < 16) (hf : (c.sess t).active = false) (hu : ∀ m, 2 ≤ m → m < t → (c.sess m).active = true) :
    c.freeTcp = some t := by
  refine findSome?_range_first (k := t - 2) (by omega) ?_ (fun i hi => if_pos (hu _ (by omega) (by omega)))
  rw [show 2 + (t - 2) = t by omega, hf]
  rfl

theorem freeTcp_none {c : Chip} (hu : ∀ m, 2 ≤ m → m < 16 → (c.sess m).active = true) : c.freeTcp = none := by
  unfold Chip.freeTcp
  rw [List.findSome?_eq_none_iff]
  intro i hi
  have := List.mem_range.1 hi
  rw [if_pos (hu _ (by omega) (by omega))]

/-- Settles O40: a session begins as new, and ends as at reset. -/
theorem sessionLife : Obligations.SessionLife := by
  unfold Obligations.SessionLife
  refine ⟨?_, ?_, ?_, ?_, ?_, ?_, ?_, ?_, ?_⟩
  · intro s hp hs ha
    refine completes_onChip (exec_usbDtrAssert s) hp ?_
    unfold Chip.usbAssert
    rw [if_neg (by simp [ha, hs])]
    obtain ⟨q, l, t, hx⟩ := beginSession_begun s.u 1
    rw [hx]
    exact ⟨rfl, rfl, rfl, rfl, beginSession_recorded s.u 1⟩
  · intro s hp ha
    exact completes_onChip (exec_usbDetach s) hp (endSession_sess _ ha (.inl (by decide)))
  · intro s cause hp hs
    refine completes_onChip (exec_tlsHandshake s false cause) hp ?_
    unfold Chip.tlsHandshake
    rw [if_neg (by simp [hs]), if_pos (by decide)]
    exact ⟨rfl, recorded_record _ _ _ _⟩
  · intro s cause t hp hs h1 h2 hf hu
    refine completes_onChip (exec_tlsHandshake s true cause) hp ?_
    unfold Chip.tlsHandshake
    rw [if_neg (by simp [hs]), if_neg (by decide), freeTcp_first h1 h2 hf hu]
    obtain ⟨q, l, t', hx⟩ := beginSession_begun s.u t
    rw [if_neg (show ¬ t < 2 by omega)] at hx
    dsimp only
    rw [hx]
    exact ⟨rfl, rfl, rfl⟩
  · intro s cause hp hs hu
    refine completes_onChip (exec_tlsHandshake s true cause) hp ?_
    unfold Chip.tlsHandshake
    rw [if_neg (by simp [hs]), if_neg (by decide), freeTcp_none hu]
  · intro s conn cause hp ha
    exact completes_onChip (exec_tcpClose s conn cause) hp (endSession_sess _ ha (.inl (by omega)))
  · intro s n hp ha hw hq
    refine completes_onChip (exec_sessionIdleWarning s n) hp ?_
    unfold Chip.idleWarning
    dsimp only
    rw [if_pos ⟨ha, by simp [hw]⟩, Chip.async_room _ _ (by rw [Chip.sess_modSess, Chip.sess_advanceTo]; exact ha)
      (by rw [Chip.sess_modSess, Chip.sess_advanceTo]; exact hq), Chip.sess_modSess, Chip.sess_modSess, Chip.sess_advanceTo, Chip.modSess_clk,
      Chip.modSess_clk, Chip.advanceTo_cycle]
    exact ⟨rfl, rfl, rfl⟩
  · intro s n hp ha
    have hend : ∀ P : Chip → Prop, (∀ c : Chip, (c.sess n).active = true → c.unit = s.u.unit → P (c.endSession n "IDLE")) →
        CompletesChip (.sessionIdleTimeout n) s P := by
      intro P h
      refine completes_onChip (exec_sessionIdleTimeout s n) hp ?_
      unfold Chip.idleTimeout
      dsimp only
      rw [if_pos ha]
      obtain ⟨hk, hku⟩ := idleWarning_kept s.u n ha
      split
      · exact h _ (by rw [Chip.sess_advanceTo]; exact ha) (Chip.advanceTo_unit _ _)
      · exact h _ (by rw [Chip.sess_advanceTo]; exact hk) ((Chip.advanceTo_unit _ _).trans hku)
    refine ⟨fun hn => hend _ (fun c hc hu => endSession_sess _ hc (hn.imp_right (fun h => by rw [hu]; exact h))), fun hn ho => hend _ (fun c hc hu => ?_)⟩
    rw [hn] at hc ⊢
    obtain ⟨q, l, t, hx⟩ := endSession_begins "IDLE" hc (by rw [hu]; exact ho)
    rw [hx]
    exact ⟨rfl, rfl, rfl, rfl, rfl⟩
  · intro s k hp hk
    refine completes_onChip (exec_loginLockExpiry s k) hp ?_
    unfold Chip.lockExpiry
    rw [if_neg hk]
    have hs := congrArg Trev.sess (Chip.advanceTo_trev s.u (s.u.trev.locks.get 0 k))
    exact ⟨Tbl.get_del_same _ _ _, Chip.advanceTo_cycle _ _, hs⟩

end Sys2Proof.Machine
end

section
/-!
PROOFS. Bulk data records (R69–R73).
-/
namespace Sys2Proof.Machine

/-- The answer to a record that is not the one due, and the load that waits for that one (R70). -/
def Chip.notDue (c : Chip) (n : Nat) (b : Bulk) : Chip :=
  if b.discarding then c.modSess n (fun x => { x with bulk := some { b with last := c.clk.cycle } })
  else (c.modSess n (fun x => { x with bulk := some { b with last := c.clk.cycle, discarding := true } })).reply n none
    [.err "010E" [⟨"NEXT", .hex 8 b.data.length⟩]]

theorem bulkRecord_due {c : Chip} {n : Nat} {b : Bulk} {t : List Char} {l : List Byte} (ha : (c.sess n).active = true)
    (hb : ((c.lineArrives n).sess n).bulk = some b) (ht : parseRecord t = some (b.data.length, l)) : c.bulkRecord n t =
    (c.lineArrives n).modSess n (fun x => { x with bulk := some { b with last := (c.lineArrives n).clk.cycle, data := b.data ++ l, discarding := false } }) := by
  unfold Chip.bulkRecord
  rw [if_neg (by simp [ha])]
  dsimp only
  rw [hb, ht]
  exact if_pos rfl

theorem bulkRecord_notDue {c : Chip} {n : Nat} {b : Bulk} {t : List Char} (ha : (c.sess n).active = true)
    (hb : ((c.lineArrives n).sess n).bulk = some b) (ht : ∀ l, parseRecord t ≠ some (b.data.length, l)) : c.bulkRecord n t = (c.lineArrives n).notDue n b := by
  unfold Chip.bulkRecord
  rw [if_neg (by simp [ha])]
  dsimp only
  rw [hb]
  dsimp only
  cases h : parseRecord t with
  | none => rfl
  | some p => exact if_neg (fun he => ht p.2 (by rw [h, ← he]))

theorem notDue_sess (c : Chip) (n : Nat) (b : Bulk) : (((c.notDue n b).sess n).bulk = some { b with discarding := true, last := c.clk.cycle }) ∧
    ((c.notDue n b).sess n).answer = if b.discarding = true then (c.sess n).answer else [.err "010E" [⟨"NEXT", .hex 8 b.data.length⟩]] := by
  unfold Chip.notDue
  by_cases h : b.discarding = true
  · rw [if_pos h, if_pos h, Chip.sess_modSess]
    exact ⟨by rw [← h], rfl⟩
  · rw [if_neg h, if_neg h]
    unfold Chip.reply
    rw [Chip.sess_modSess, Chip.sess_modSess]
    exact ⟨rfl, rfl⟩

/-- Settles O41: the record that is due joins the load, any other is told which one is. -/
theorem bulkRecords : Obligations.BulkRecords := by
  unfold Obligations.BulkRecords
  intro s n b hp ha hw hb
  obtain ⟨hx, hcyc, -, -⟩ := lineArrives_sess hw
  have hxb : ((s.u.lineArrives n).sess n).bulk = some b := by rw [hx]; exact hb
  refine ⟨fun t l ht => ?_, fun t ht => ?_, fun hq => ?_⟩
  · refine completes_onChip (exec_bulkRecord s n t) hp ?_
    rw [bulkRecord_due ha hxb ht, Chip.sess_modSess, hx, hcyc]
    exact ⟨rfl, rfl⟩
  · refine completes_onChip (exec_bulkRecord s n t) hp ?_
    rw [bulkRecord_notDue ha hxb ht]
    obtain ⟨h1, h2⟩ := notDue_sess (s.u.lineArrives n) n b
    rw [h1, h2, hx, hcyc]
    exact ⟨rfl, rfl⟩
  · refine completes_onChip (exec_loadIdleCancel s n) hp ?_
    unfold Chip.loadIdle
    rw [hb]
    dsimp only
    rw [Chip.async_room _ _ (by rw [Chip.sess_modSess, Chip.sess_advanceTo]; exact ha) (by rw [Chip.sess_modSess, Chip.sess_advanceTo]; exact hq),
      Chip.sess_modSess, Chip.sess_modSess, Chip.sess_advanceTo, Chip.modSess_clk, Chip.modSess_clk, Chip.advanceTo_cycle]
    exact ⟨rfl, rfl, rfl, rfl⟩

end Sys2Proof.Machine
end

section
/-!
PROOFS. The lines that change the session (R45, R53, R54, R71, R74–R86, R663–R666).
-/
namespace Sys2Proof.Machine

/-! ### A line that is taken -/

/-- What a taken line leaves is what its action leaves, answered. -/
theorem lineEffect_of {i : Instr} {s : State} {h : Hdr} {d : LineDef} {P : Chip → Chip → Prop} (hl : lineOf s i = some (h, d))
    (H : LineTaken s h d → P (s.u.arrived h) ((d.act (s.u.arrived h) d.items).1.answered h (d.act (s.u.arrived h) d.items).2)) : LineEffect i s h d P :=
  fun ht => ⟨_, exec_taken hl ht, rfl, rfl, H ht⟩

/-- A line that is answered OK leaves the unit its action made, with that response. -/
theorem lineEffect_ok {i : Instr} {s : State} {h : Hdr} {d : LineDef} {P : Chip → Chip → Prop} (l : List Fields) (u : Chip) (hl : lineOf s i = some (h, d))
    (ha : LineTaken s h d → d.act (s.u.arrived h) d.items = (u, .ok l)) (H : LineTaken s h d → P (s.u.arrived h) (u.respond h.sess (.ok l))) :
    LineEffect i s h d P :=
  lineEffect_of hl (fun ht => by rw [ha ht]; exact H ht)

/-- The session of an answered line: its answer, and what the action left of the rest. -/
theorem respond_sess (c : Chip) (n : Nat) (a : Answer) : ∃ num sent store,
    (c.respond n a).sess n = { c.sess n with answer := a.lines, answerNum := num, sent := sent, store := store } := by
  unfold Chip.respond
  rw [Chip.sess_modSess]
  exact ⟨_, _, _, rfl⟩

/-- A carrier without a lock is not locked when the line arrives. -/
theorem arrived_unlocked {s : State} {h : Hdr} (hk : s.u.trev.locks.get 0 (carrierOf h.sess) = 0) : ((s.u.arrived h).locked h.sess) = false := by
  unfold Chip.locked
  rw [show (s.u.arrived h).trev.locks = s.u.trev.locks from (settled_arrived s.u h).locks, hk]
  exact decide_eq_false (Nat.not_lt_zero _)

/-! ### LOGIN -/

theorem loginUser_act {c : Chip} {h : Hdr} {args : Args} (l : List Nat) (hk : c.locked h.sess = false) (hm : levelArg args ≤ carrierMax h.sess) :
    ∃ k data, k.user = (args.str? "USER").getD [] ∧ k.level = levelArg args ∧ k.answered = false ∧ k.at? = c.clk.cycle ∧
      (((loginUserDef h args).act c l).1.sess h.sess) = { c.sess h.sess with challenge := some k } ∧ ((loginUserDef h args).act c l).2 = .ok data := by
  unfold loginUserDef
  dsimp only
  rw [if_neg (by simp [hk]), if_neg (by omega)]
  refine ⟨_, _, ?_, ?_, ?_, ?_, Chip.sess_modSess _ _ _, rfl⟩ <;> rfl

theorem countFail_sess (c : Chip) (n m : Nat) : (c.countFail n).sess m = c.sess m := by
  unfold Chip.countFail
  dsimp only
  split <;> rfl

/-- An open challenge, answered with the credential check still to come. -/
structure Challenged (c : Chip) (h : Hdr) (k : Challenge) : Prop where
  unlocked : c.locked h.sess = false
  challenge : (c.sess h.sess).challenge = some k
  answered : k.answered = false
  fresh : c.clk.cycle ≤ k.at? + 30000000000
  engine : c.needsEngine k = false

/-- The challenge is used up by its first answer. -/
def Chip.used (c : Chip) (h : Hdr) (k : Challenge) : Chip := c.modSess h.sess (fun x => { x with challenge := some { k with answered := true } })

def answerOctets (args : Args) : List Byte := (((args.str? "ANSWER").bind parseGroups).getD []).flatMap (numOctets 4)

theorem loginAnswer_act {c : Chip} {h : Hdr} {args : Args} {k : Challenge} (l : List Nat) (hc : Challenged c h k) :
    (loginAnswerDef h args).act c l = match c.credentialBad h.sess k (answerOctets args) with
      | some cause => ((c.used h k).countFail h.sess).loginFail h.sess (some k.user) k.level "0801" cause
      | none => if ((c.cfg.users.find? (fun a => a.user == k.user)).map Account.level).getD 0 < k.level then
          (c.used h k).loginFail h.sess (some k.user) k.level "0201" "LEVEL"
        else ((((c.used h k).modSess h.sess (fun x => { x with level := some k.level, user := some k.user, present := false })).loginRecord h.sess
          (some k.user) k.level none), .ok [[fWord "LOGIN", fText "USER" k.user, fSym "LEVEL" (levelName k.level)]]) := by
  obtain ⟨h1, h2, h3, h4, h5⟩ := hc
  unfold loginAnswerDef
  dsimp only
  rw [if_neg (by simp [h1]), h2]
  dsimp only [Option.map_some, Option.getD_some]
  rw [if_neg (by rw [h3]; simp only [Bool.false_eq_true, false_or]; omega), if_neg (by simp [h5])]
  rfl

theorem loginPresence_act {c : Chip} {h : Hdr} {args : Args} (l : List Nat) (hk : c.locked h.sess = false) (hs : h.sess < 2) (hp : c.present = true) :
    (loginPresenceDef h args).act c l =
      ((c.modSess h.sess (fun x => { x with level := some (levelArg args), user := none, present := true })).loginRecord h.sess none (levelArg args) none,
        .ok [[fWord "LOGIN", ⟨"USER", .none⟩, fSym "LEVEL" (levelName (levelArg args))]]) := by
  unfold loginPresenceDef
  dsimp only
  rw [if_neg (by simp [hk]), if_neg (by omega), if_neg (by simp [hp])]

/-! ### LOGOUT -/

/-- LOGOUT's response is given on the session that is left. -/
theorem logout_act (c : Chip) (h : Hdr) (l : List Nat) : ∃ num sent x, (logoutDef h).act c l = (x, .silent) ∧
    x.sess h.sess = { (if h.sess = 1 ∧ ¬ ((c.endSession h.sess "LOGOUT").sess 1).active = true then (c.endSession h.sess "LOGOUT").beginSession 1
      else c.endSession h.sess "LOGOUT").sess h.sess with answer := [.ok], answerNum := num, sent := sent } := by
  unfold logoutDef
  dsimp only
  refine ⟨((c.reply h.sess h.num [.ok]).sess h.sess).answerNum, ((c.reply h.sess h.num [.ok]).sess h.sess).sent, _, rfl, ?_⟩
  rw [Chip.sess_modSess]
  unfold Chip.reply
  rw [Chip.sess_modSess]

/-! ### COMMIT -/

theorem masterSess_ne (n : Nat) : masterSess n ≠ 0 := by unfold masterSess; omega

/-- The unit with the configuration hitch in a session's hands. -/
def Chip.withHitch (c : Chip) (n : Nat) : Chip := c.modHitch 0 (fun x => { x with holder := masterSess n })

theorem withHitch_holder (c : Chip) (n : Nat) : ((c.withHitch n).hitch 0).holder = masterSess n :=
  c.hitch_modHitch_holder 0 (fun x => { x with holder := masterSess n })

theorem commit_granted {c : Chip} {n : Nat} (hb : (c.hitch 0).broken = false) (hh : (c.hitch 0).holder = 0) (hq : (c.hitch 0).queue = [])
    (hc : c.trev.commit = none) (ifn : Option Nat) : c.commitLine n ifn = (c.withHitch n).commitHeld n ifn := by
  have hw := hitchWrite_free hh (masterSess_ne n) (show (c.hitch 0).queue.contains (masterSess n) = false by rw [hq]; rfl)
  unfold Chip.commitLine
  rw [if_neg (by simp [hb]), hw]
  exact if_pos ⟨withHitch_holder c n, congrArg Option.isNone hc⟩

/-- The commit of a valid staged set. -/
def Chip.newCommit (c : Chip) (n : Nat) (g : Cfg) (pl : Placement) : Commit :=
  { session := n, number := (c.trev.commitNum + 1) % 4294967296, cfg := g, touched := (c.sess n).staged.flatMap Staged.edits,
    fiParts := touchedFis ((c.sess n).staged.flatMap Staged.edits), edge := none, edgeAt := 0, alive := true, place := pl, raised := [], applied := false }

theorem commit_begins {c : Chip} {n : Nat} {g : Cfg} {pl : Placement} (hv : c.validate (c.sess n).staged = .ok (g, pl)) :
    c.commitHeld n none = ((c.trev' (fun t => { t with commitNum := (c.trev.commitNum + 1) % 4294967296, commit := some (c.newCommit n g pl) })).modSess n
      (fun x => { x with staged := [], loaded := 0 }), .ok []) := by
  unfold Chip.commitHeld
  dsimp only
  rw [if_neg (by simp), hv]
  rfl

/-- The unit where a session's COMMIT has joined the queue of the configuration hitch. -/
def Chip.commitQueued (c : Chip) (n : Nat) : Chip := c.modHitch 0 (fun x => { x with queue := x.queue ++ [masterSess n] })

theorem commitQueued_holder (c : Chip) (n : Nat) : ((c.commitQueued n).hitch 0).holder = (c.hitch 0).holder :=
  c.hitch_modHitch_holder 0 (fun x => { x with queue := x.queue ++ [masterSess n] })
theorem commitQueued_queue (c : Chip) (n : Nat) : ((c.commitQueued n).hitch 0).queue = (c.hitch 0).queue ++ [masterSess n] :=
  c.hitch_modHitch_queue 0 (fun x => { x with queue := x.queue ++ [masterSess n] })

/-- A COMMIT that finds the hitch held joins its queue and waits. -/
theorem commit_waits {c : Chip} {n : Nat} (hb : (c.hitch 0).broken = false) (h0 : (c.hitch 0).holder ≠ 0) (hm : (c.hitch 0).holder ≠ masterSess n)
    (hq : (c.hitch 0).queue = []) (ifn : Option Nat) : c.commitLine n ifn =
      ((c.commitQueued n).modSess n (fun x => { x with waiting := .commit ifn (c.clk.cycle + x.wait) }), .wait) := by
  have hw := hitchWrite_held h0 hm (show (c.hitch 0).queue.contains (masterSess n) = false by rw [hq]; rfl) (by rw [hq]; decide) (by decide)
  unfold Chip.commitLine
  rw [if_neg (by simp [hb]), hw]
  exact if_neg (fun h => hm ((commitQueued_holder c n).symm.trans h.1))

/-! ### END -/

/-- END's response: length and digest follow what the load answers (R71). -/
def Bulk.told (b : Bulk) : Answer → Answer
  | .ok d => .ok (d ++ [[fNat "LENGTH" b.length], [⟨"SHA256", .raw 64 (Config.sha256 b.data)⟩]])
  | a => a

theorem endLoad_act {c : Chip} {h : Hdr} (flashOk : Bool) {b : Bulk} (l : List Nat) (hb : (c.sess h.sess).bulk = some b) :
    ((endLoadDef h flashOk).act c l).1 = ((c.modSess h.sess (fun x => { x with bulk := none })).endContent h.sess b flashOk).1 ∧
    ((endLoadDef h flashOk).act c l).2 = b.told ((c.modSess h.sess (fun x => { x with bulk := none })).endContent h.sess b flashOk).2 := by
  unfold endLoadDef
  dsimp only
  rw [hb]
  refine ⟨rfl, ?_⟩
  dsimp only
  unfold Bulk.told
  split <;> simp_all

theorem endContent_short {c : Chip} {n : Nat} {b : Bulk} (flashOk : Bool) (hl : b.data.length ≠ b.length) : c.endContent n b flashOk = (c, .err "0701" []) :=
  if_pos hl

theorem endContent_sub {c : Chip} {n k : Nat} {b : Bulk} {t : DTempl} (flashOk : Bool) (hl : b.data.length = b.length) (hw : b.what = .sub k)
    (hp : parseDTempl b.data = .ok t) : c.endContent n b flashOk =
      ((c.modSess n (fun x => { x with staged := x.staged ++ [{ edits := [.loadSub k t], level := b.level, extra := [] }] })).modSess n
        (fun x => { x with loaded := x.loaded + b.length }), .ok []) := by
  unfold Chip.endContent
  dsimp only
  rw [if_neg (by simp [hl]), hw, hp]
  rfl

/-! ### The lines -/

theorem mode_line (s : State) (h : Hdr) (word : Option Bool) (args : Args) :
    LineEffect (.modeLine h word args) s h (modeDef h word args) (fun c u => let x := c.sess h.sess; let y := u.sess h.sess
      y.script = word.getD x.script ∧ y.echo = (args.on? "ECHO").getD x.echo ∧ y.wait = (args.int? "WAIT").getD x.wait ∧ y.answer = [.ok] ∧
      y.level = x.level ∧ u.cfg = c.cfg) := by
  refine lineEffect_of rfl (fun _ => ?_)
  unfold modeDef Chip.reply
  dsimp only
  rw [answered_silent, Chip.sess_modSess, Chip.sess_modSess]
  exact ⟨rfl, rfl, rfl, rfl, rfl, rfl⟩

theorem loginRecord_sess (c : Chip) (s : Nat) (user : Option (List Char)) (level : Nat) (cause : Option String) (n : Nat) :
    (c.loginRecord s user level cause).sess n = c.sess n := rfl

/-- A right answer raises the session to the level that was asked for. -/
theorem loginAnswer_right {s : State} {h : Hdr} {args : Args} {k : Challenge} (hc : Challenged (s.u.arrived h) h k)
    (hr : (s.u.arrived h).credentialBad h.sess k (answerOctets args) = none)
    (ht : k.level ≤ (((s.u.arrived h).cfg.users.find? (fun a => a.user == k.user)).map Account.level).getD 0) :
    LineEffect (.loginAnswer h args) s h (loginAnswerDef h args) (fun _ u =>
      (u.sess h.sess).level = some k.level ∧ (u.sess h.sess).user = some k.user ∧ (u.sess h.sess).present = false) := by
  refine lineEffect_of rfl (fun _ => ?_)
  rw [loginAnswer_act _ hc, hr]
  dsimp only
  rw [if_neg (by omega), answered_ok]
  obtain ⟨num, sent, store, he⟩ := respond_sess ((((s.u.arrived h).used h k).modSess h.sess (fun x => { x with level := some k.level, user := some k.user, present := false })).loginRecord
    h.sess (some k.user) k.level none) h.sess (.ok [[fWord "LOGIN", fText "USER" k.user, fSym "LEVEL" (levelName k.level)]])
  rw [he, loginRecord_sess, Chip.sess_modSess]
  exact ⟨rfl, rfl, rfl⟩

/-- A wrong answer leaves the level and is answered 0801. -/
theorem loginAnswer_wrong {s : State} {h : Hdr} {args : Args} {k : Challenge} {cause : String} (hc : Challenged (s.u.arrived h) h k)
    (hr : (s.u.arrived h).credentialBad h.sess k (answerOctets args) = some cause) :
    LineEffect (.loginAnswer h args) s h (loginAnswerDef h args) (fun c u =>
      (u.sess h.sess).level = (c.sess h.sess).level ∧ (u.sess h.sess).answer = [.err "0801" []]) := by
  refine lineEffect_of rfl (fun _ => ?_)
  have ha : ∀ d : Chip, d.answered h (.err "0801" []) = d.respond h.sess (.err "0801" []) := fun _ => rfl
  rw [loginAnswer_act _ hc, hr]
  dsimp only [Chip.loginFail]
  rw [ha]
  obtain ⟨num, sent, store, he⟩ := respond_sess ((((s.u.arrived h).used h k).countFail h.sess).loginRecord h.sess (some k.user) k.level (some cause)) h.sess
    (.err "0801" [])
  rw [he, loginRecord_sess, countFail_sess]
  unfold Chip.used
  rw [Chip.sess_modSess]
  exact ⟨rfl, rfl⟩

theorem loginPresence_line {s : State} {h : Hdr} {args : Args} (hk : (s.u.arrived h).locked h.sess = false) (hs : h.sess < 2) (hp : (s.u.arrived h).present = true) :
    LineEffect (.loginPresence h args) s h (loginPresenceDef h args) (fun _ u =>
      (u.sess h.sess).level = some (levelArg args) ∧ (u.sess h.sess).user = none ∧ (u.sess h.sess).present = true) := by
  refine lineEffect_ok _ _ rfl (fun _ => loginPresence_act _ hk hs hp) (fun _ => ?_)
  obtain ⟨num, sent, store, hr⟩ := respond_sess (((s.u.arrived h).modSess h.sess (fun x => { x with level := some (levelArg args), user := none, present := true })).loginRecord
    h.sess none (levelArg args) none) h.sess (.ok [[fWord "LOGIN", ⟨"USER", .none⟩, fSym "LEVEL" (levelName (levelArg args))]])
  rw [hr, loginRecord_sess, Chip.sess_modSess]
  exact ⟨rfl, rfl, rfl⟩

theorem arrived_active {s : State} {h : Hdr} {d : LineDef} (ht : LineTaken s h d) : ((s.u.arrived h).sess h.sess).active = true :=
  ((settled_arrived s.u h).active h.sess).trans ht.active

/-- LOGOUT ends a TCP session. -/
theorem logout_ends (s : State) {h : Hdr} (hn : 2 ≤ h.sess) :
    LineEffect (.logoutLine h) s h (logoutDef h) (fun _ u => (u.sess h.sess).active = false ∧ (u.sess h.sess).answer = [.ok]) := by
  refine lineEffect_of rfl (fun ht => ?_)
  obtain ⟨num, sent, x, hx, hsess⟩ := logout_act (s.u.arrived h) h (logoutDef h).items
  rw [hx, answered_silent, hsess, if_neg (by omega), endSession_sess "LOGOUT" (arrived_active ht) (.inl (by omega))]
  exact ⟨rfl, rfl⟩

/-- LOGOUT begins sessions 0 and 1 again. -/
theorem logout_begins {s : State} {h : Hdr} (hn : h.sess = 1 ∨ (h.sess = 0 ∧ s.u.unit.open0 = true)) :
    LineEffect (.logoutLine h) s h (logoutDef h) (fun _ u => (u.sess h.sess).active = true ∧
      (u.sess h.sess).level = some 0 ∧ (u.sess h.sess).user = none ∧ (u.sess h.sess).txn = false ∧ (u.sess h.sess).answer = [.ok]) := by
  refine lineEffect_of rfl (fun ht => ?_)
  obtain ⟨num, sent, x, hx, hsess⟩ := logout_act (s.u.arrived h) h (logoutDef h).items
  rw [hx, answered_silent, hsess]
  have hbegun : ((if h.sess = 1 ∧ ¬ (((s.u.arrived h).endSession h.sess "LOGOUT").sess 1).active = true then ((s.u.arrived h).endSession h.sess "LOGOUT").beginSession 1
      else (s.u.arrived h).endSession h.sess "LOGOUT").sess h.sess).Begun h.sess := by
    have ha := arrived_active ht
    rcases hn with h1 | ⟨h0, ho⟩
    · rw [h1] at ha ⊢
      have he := endSession_sess "LOGOUT" ha (.inl (by decide))
      rw [if_pos ⟨rfl, by rw [he]; decide⟩]
      exact beginSession_begun _ _
    · rw [h0] at ha ⊢
      rw [if_neg (by simp)]
      exact endSession_begins "LOGOUT" ha (by rw [(settled_arrived s.u h).unit]; exact ho)
  obtain ⟨q, l, t, hb⟩ := hbegun
  rw [hb, if_pos (show h.sess < 2 by omega)]
  exact ⟨rfl, rfl, rfl, rfl, rfl⟩

theorem commit_line_granted {s : State} {h : Hdr} {args : Args} {g : Cfg} {pl : Placement} (hb : ((s.u.arrived h).hitch 0).broken = false)
    (hh : ((s.u.arrived h).hitch 0).holder = 0) (hq : ((s.u.arrived h).hitch 0).queue = []) (hc : (s.u.arrived h).trev.commit = none) (hi : args.int? "IF" = none)
    (hv : ((s.u.arrived h).withHitch h.sess).validate ((s.u.arrived h).sess h.sess).staged = .ok (g, pl)) :
    LineEffect (.commitLine h args) s h (commitCommandDef h args) (fun c u => u.trev.commitNum = (c.trev.commitNum + 1) % 4294967296 ∧
      (∃ k, u.trev.commit = some k ∧ k.cfg = g ∧ k.session = h.sess ∧ k.edge = none ∧ k.number = u.trev.commitNum) ∧
      (u.hitch 0).holder = masterSess h.sess ∧ (u.sess h.sess).answer = [.ok] ∧ u.cfg = c.cfg) := by
  refine lineEffect_of rfl (fun _ => ?_)
  have hact : (commitCommandDef h args).act (s.u.arrived h) (commitCommandDef h args).items = _ := commit_granted hb hh hq hc (args.int? "IF")
  rw [hact, hi]
  clear hact hb hh hq hc
  generalize s.u.arrived h = c at *
  rw [show (c.withHitch h.sess).commitHeld h.sess none = _ from commit_begins hv, answered_ok]
  obtain ⟨num, sent, store, hr⟩ := respond_sess (((c.withHitch h.sess).trev' (fun t => { t with commitNum := ((c.withHitch h.sess).trev.commitNum + 1) % 4294967296, commit := some ((c.withHitch h.sess).newCommit h.sess g pl) })).modSess
    h.sess (fun x => { x with staged := [], loaded := 0 })) h.sess (.ok [])
  exact ⟨rfl, ⟨_, rfl, rfl, rfl, rfl, rfl⟩, withHitch_holder c h.sess, congrArg Sess.answer hr, rfl⟩

theorem commit_line_waits {s : State} {h : Hdr} {args : Args} (hb : ((s.u.arrived h).hitch 0).broken = false) (h0 : ((s.u.arrived h).hitch 0).holder ≠ 0)
    (hm : ((s.u.arrived h).hitch 0).holder ≠ masterSess h.sess) (hq : ((s.u.arrived h).hitch 0).queue = []) :
    LineEffect (.commitLine h args) s h (commitCommandDef h args) (fun c u =>
      (u.sess h.sess).waiting = .commit (args.int? "IF") (c.clk.cycle + (c.sess h.sess).wait) ∧ (u.hitch 0).queue = [masterSess h.sess] ∧
      (u.hitch 0).holder = (c.hitch 0).holder ∧ u.trev.commitNum = c.trev.commitNum ∧ u.cfg = c.cfg) := by
  refine lineEffect_of rfl (fun _ => ?_)
  have hact : (commitCommandDef h args).act (s.u.arrived h) (commitCommandDef h args).items = _ := commit_waits hb h0 hm hq (args.int? "IF")
  rw [hact]
  clear hact hb h0 hm
  generalize s.u.arrived h = c at *
  refine ⟨?_, ?_, commitQueued_holder c h.sess, rfl, rfl⟩
  · obtain ⟨num, sent, store, hr⟩ := respond_sess ((c.commitQueued h.sess).modSess h.sess
      (fun x => { x with waiting := .commit (args.int? "IF") (c.clk.cycle + x.wait) })) h.sess .wait
    refine (congrArg Sess.waiting hr).trans ?_
    rw [Chip.sess_modSess]
    rfl
  · have hu := commitQueued_queue c h.sess
    rw [hq] at hu
    exact hu

theorem endLoad_short {s : State} {h : Hdr} {flashOk : Bool} {b : Bulk} (hb : ((s.u.arrived h).sess h.sess).bulk = some b) (hl : b.data.length ≠ b.length) :
    LineEffect (.endLoad h flashOk) s h (endLoadDef h flashOk) (fun c u =>
      u = (c.modSess h.sess (fun x => { x with bulk := none })).respond h.sess (.err "0701" [])) := by
  refine lineEffect_of rfl (fun _ => ?_)
  obtain ⟨h1, h2⟩ := endLoad_act flashOk (endLoadDef h flashOk).items hb
  rw [endContent_short flashOk hl] at h1 h2
  rw [h1, h2]
  rfl

theorem endLoad_sub {s : State} {h : Hdr} {flashOk : Bool} {b : Bulk} {n : Nat} {t : DTempl} (hb : ((s.u.arrived h).sess h.sess).bulk = some b)
    (hl : b.data.length = b.length) (hw : b.what = .sub n) (hp : parseDTempl b.data = .ok t) :
    LineEffect (.endLoad h flashOk) s h (endLoadDef h flashOk) (fun c u => let x := c.sess h.sess; let y := u.sess h.sess
      y.bulk = none ∧ y.staged = x.staged ++ [{ edits := [.loadSub n t], level := b.level, extra := [] }] ∧ y.loaded = x.loaded + b.length ∧
      y.answer = [.data [fNat "LENGTH" b.length], .data [⟨"SHA256", .raw 64 (Config.sha256 b.data)⟩], .ok] ∧ u.cfg = c.cfg) := by
  refine lineEffect_of rfl (fun _ => ?_)
  obtain ⟨h1, h2⟩ := endLoad_act flashOk (endLoadDef h flashOk).items hb
  rw [endContent_sub flashOk hl hw hp] at h1 h2
  rw [h1, h2]
  clear h1 h2 hb
  generalize s.u.arrived h = c at *
  dsimp only [Bulk.told]
  rw [answered_ok]
  obtain ⟨num, sent, store, hr⟩ := respond_sess (((c.modSess h.sess (fun x => { x with bulk := none })).modSess h.sess
    (fun x => { x with staged := x.staged ++ [{ edits := [.loadSub n t], level := b.level, extra := [] }] })).modSess h.sess
      (fun x => { x with loaded := x.loaded + b.length })) h.sess (.ok ([] ++ [[fNat "LENGTH" b.length], [⟨"SHA256", .raw 64 (Config.sha256 b.data)⟩]]))
  rw [hr, Chip.sess_modSess, Chip.sess_modSess, Chip.sess_modSess]
  refine ⟨rfl, rfl, rfl, rfl, ?_⟩
  rw [Chip.respond_cfg, Chip.modSess_cfg, Chip.modSess_cfg, Chip.modSess_cfg]

theorem loginUser_line {s : State} {h : Hdr} {args : Args} (hk : (s.u.arrived h).locked h.sess = false) (hm : levelArg args ≤ carrierMax h.sess) :
    LineEffect (.loginUser h args) s h (loginUserDef h args) (fun c u =>
      (∃ k, (u.sess h.sess).challenge = some k ∧ k.user = (args.str? "USER").getD [] ∧ k.level = levelArg args ∧ k.answered = false ∧ k.at? = c.clk.cycle) ∧
      (u.sess h.sess).level = (c.sess h.sess).level) := by
  refine lineEffect_of rfl (fun _ => ?_)
  obtain ⟨k, data, h1, h2, h3, h4, h5, h6⟩ := loginUser_act (args := args) (loginUserDef h args).items hk hm
  rw [h6, answered_ok]
  obtain ⟨num, sent, store, hr⟩ := respond_sess ((loginUserDef h args).act (s.u.arrived h) (loginUserDef h args).items).1 h.sess (.ok data)
  rw [hr, h5]
  exact ⟨⟨k, rfl, h1, h2, h3, h4⟩, rfl⟩

/-- Settles O42: each line's action, and the response that its session gets. -/
theorem sessionLines : Obligations.SessionLines := by
  unfold Obligations.SessionLines
  refine ⟨mode_line, fun s h args hk hm => loginUser_line (arrived_unlocked hk) hm, ?_, fun s h args hk hs hp => loginPresence_line (arrived_unlocked hk) hs hp,
    fun s h => ⟨logout_ends s, logout_begins⟩, fun s h => lineEffect_ok [] _ rfl (fun _ => rfl) (fun _ => rfl),
    fun s h => lineEffect_ok [] _ rfl (fun _ => rfl) (fun _ => rfl), fun s h args g pl hb hh hq hc hi hv => commit_line_granted hb hh hq hc hi hv,
    fun s h args hb h0 hm hq => commit_line_waits hb h0 hm hq, fun s h flashOk b hb => ⟨endLoad_short hb, fun n t => endLoad_sub hb⟩,
    fun s h => lineEffect_ok [] _ rfl (fun _ => rfl) (fun _ => rfl)⟩
  intro s h args k hk c ans h1 h2 h3 h4
  have hc : Challenged (s.u.arrived h) h k := ⟨arrived_unlocked hk, h1, h2, h3, h4⟩
  exact ⟨loginAnswer_right hc, fun cause => loginAnswer_wrong hc⟩

end Sys2Proof.Machine
end

section
/-!
PROOFS. Staging lines (R74, R75, R92–R94, R101–R151) and LOAD lines (R68, R100, R106, R115, R131, R140).
-/
namespace Sys2Proof.Machine

/-- A line whose action stages edits at its own level stages them and changes nothing else. -/
theorem stages_of {i : Instr} {s : State} {h : Hdr} {d : LineDef} {P : List Edit → Prop} (extra : List String) (es : List Edit) (hl : lineOf s i = some (h, d))
    (ha : ∀ c : Chip, d.act c d.items = c.stageEdits h.sess d.v.spec.level extra es) (hp : P es) : Stages i s h d P :=
  lineEffect_of hl (fun _ => by rw [ha]; exact ⟨⟨es, d.v.spec.level, extra⟩, rfl, hp, rfl⟩)

/-! ### Arguments -/

/-- A setting that is given stands among a line's settings. -/
theorem mem_setting {α : Type} {args : Args} {n : String} {v : AVal} {f : AVal → Option α} {x : α} (h : args.get? n = some v) (hf : f v = some x) :
    x ∈ setting args n f := by
  simp [setting, h, hf]

theorem has_of_int? {args : Args} {n : String} {p : Nat} (h : args.int? n = some p) : args.has n = true := by
  unfold Args.int? at h
  unfold Args.has
  cases hg : args.get? n with
  | none => rw [hg] at h; cases h
  | some v => rfl

theorem int?_of_not_has {args : Args} {n : String} (h : args.has n = false) : args.int? n = none := by
  unfold Args.has at h
  unfold Args.int?
  cases hg : args.get? n with
  | none => rfl
  | some v => rw [hg] at h; cases h

theorem addFi_part {args : Args} {p : Nat} : (args.has "IN" = true → (fiParts.filter args.has).headD "IN" = "IN") ∧
    (args.has "IN" = false → args.int? "OUT" = some p → (fiParts.filter args.has).headD "IN" = "OUT") := by
  refine ⟨fun h => ?_, fun h ho => ?_⟩
  · simp [fiParts, h]
  · simp [fiParts, h, has_of_int? ho]

theorem macKind {args : Args} (h : args.kw? "KIND" = some "MAC") : (args.kw? "KIND" == some "MAC") = true := by rw [h]; rfl

/-! ### The lines -/

theorem addFi_stages (s : State) (h : Hdr) (sel : Selector) (args : Args) (p : Nat) :
    (args.has "IN" = true → args.int? "IN" = some p → Stages (.addFi h sel args) s h (addFiDef h sel args) (fun es =>
      es = (sel.members 1024).map (fun n => .addIn n p (sourceOf ((args.kw? "FROM").getD "ALIVE"))))) ∧
    (args.has "IN" = false → args.int? "OUT" = some p → Stages (.addFi h sel args) s h (addFiDef h sel args) (fun es =>
      es = (sel.members 1024).map (fun n => .addOut n p (targetOf ((args.kw? "TO").getD ""))))) := by
  refine ⟨fun h1 h2 => ?_, fun h1 h2 => ?_⟩
  · refine stages_of _ _ rfl (fun _ => rfl) (List.map_congr_left (fun n _ => ?_))
    rw [(addFi_part (p := p)).1 h1]
    exact congrArg (fun q => Edit.addIn n (q.getD 0) (sourceOf ((args.kw? "FROM").getD "ALIVE"))) h2
  · refine stages_of _ _ rfl (fun _ => rfl) (List.map_congr_left (fun n _ => ?_))
    rw [addFi_part.2 h1 h2]
    exact congrArg (fun q => Edit.addOut n (q.getD 0) (targetOf ((args.kw? "TO").getD ""))) h2

theorem deleteFi_stages (s : State) (h : Hdr) (sel : Selector) (args : Args) : Stages (.deleteFi h sel args) s h (deleteFiDef h sel args) (fun es =>
    (args = [] → es = (sel.members 1024).map .delFi) ∧ (∀ p, args.int? "IN" = some p → es = (sel.members 1024).map (fun n => .delIn n p))) := by
  refine stages_of _ _ rfl (fun _ => rfl) ⟨fun he => ?_, fun p hp => ?_⟩
  · rw [he]
    rfl
  · refine List.map_congr_left (fun n _ => ?_)
    rw [hp]

theorem setLane_stages (s : State) (h : Hdr) (sel : Selector) (args : Args) : Stages (.setLane h sel args) s h (setLaneDef h sel args) (fun es =>
    ∃ m f, es = (sel.members 16).map (fun n => .lane n m f) ∧
      (args.get? "MODE" = some (.kw "OFF") → m = some .off) ∧ (args.get? "FEC" = some (.kw "RS") → f = some .rs)) := by
  refine stages_of _ _ rfl (fun _ => rfl) ⟨_, _, rfl, fun hm => ?_, fun hf => ?_⟩
  · rw [hm]
    rfl
  · rw [hf]
    rfl

theorem setPanel_stages (s : State) (h : Hdr) (args : Args) : Stages (.setPanel h args) s h (setPanelDef h args) (fun es =>
    (∀ n, args.int? "DEBOUNCE" = some n → args.has "TOUCH" = false → args.has "LED" = false → es = [.debounce n])) := by
  refine stages_of _ _ rfl (fun _ => rfl) (fun n hn ht hl => ?_)
  rw [hn, int?_of_not_has ht, int?_of_not_has hl]
  rfl

theorem setFault_stages (s : State) (h : Hdr) (sel : Selector) (args : Args) : Stages (.setFault h sel args) s h (setFaultDef h sel args) (fun es =>
    args.get? "CLASS" = some (.kw "DEGRADED") → es = (sel.members 1024).map (fun n => .faultCls n .degraded)) := by
  refine stages_of _ _ rfl (fun _ => rfl) (fun hc => ?_)
  rw [hc]
  rfl

/-- Settles O43: each staging line's edits, at the level of its verb. -/
theorem stagingLines : Obligations.StagingLines := by
  unfold Obligations.StagingLines
  refine ⟨?_, ?_, ?_, ?_, addFi_stages, deleteFi_stages, ?_, ?_, setLane_stages, ?_, ?_, ?_, ?_, ?_, ?_, ?_, ?_, ?_, ?_, ?_, ?_, setPanel_stages, ?_, ?_, setFault_stages⟩
  · refine fun s h args => stages_of _ _ rfl (fun _ => rfl) ⟨_, rfl, fun n hn => ?_⟩
    simp only [List.mem_append]
    iterate 8 left
    exact mem_setting hn rfl
  · exact fun s h args => stages_of _ _ rfl (fun _ => rfl) rfl
  · exact fun s h args => stages_of _ _ rfl (fun _ => rfl) rfl
  · refine fun s h sel args => stages_of _ _ rfl (fun _ => rfl) ⟨_, rfl, fun n hn => ?_, fun n hn => ?_⟩
    · have := mem_setting (f := fun v => (natArg v).map FiField.tiles) hn rfl
      simp [this]
    · have := mem_setting (f := fun v => (natArg v).map FiField.bw) hn rfl
      simp [this]
  · exact fun s h args => stages_of _ _ rfl (fun _ => rfl) rfl
  · exact fun s h sel args => stages_of _ _ rfl (fun _ => rfl) rfl
  · refine fun s h sel args => stages_of _ _ rfl (fun _ => rfl) ⟨_, rfl, fun n hn => ?_⟩
    have := mem_setting (f := fun v => (natArg v).map PortField.pvid) hn rfl
    simp [this]
  · exact fun s h args => stages_of _ _ rfl (fun _ => rfl) (fun hk => congrArg (fun e => [e]) (if_pos (macKind hk)))
  · exact fun s h args => stages_of _ _ rfl (fun _ => rfl) (fun hk => congrArg (fun e => [e]) (if_pos (macKind hk)))
  · exact fun s h args => stages_of _ _ rfl (fun _ => rfl) rfl
  · exact fun s h sel args => stages_of _ _ rfl (fun _ => rfl) ⟨_, rfl, rfl, rfl, rfl⟩
  · exact fun s h sel args => stages_of _ _ rfl (fun _ => rfl) ⟨_, rfl, rfl, rfl, rfl, rfl⟩
  · exact fun s h sel args => stages_of _ _ rfl (fun _ => rfl) rfl
  · exact fun s h sel args => stages_of _ _ rfl (fun _ => rfl) rfl
  · refine fun s h args => stages_of _ _ rfl (fun _ => rfl) ⟨_, rfl, fun n hn => ?_⟩
    have := mem_setting (f := fun v => (natArg v).map TimeField.utcOffset) hn rfl
    simp [this]
  · exact fun s h args => stages_of _ _ rfl (fun _ => rfl) rfl
  · exact fun s h args => stages_of _ _ rfl (fun _ => rfl) rfl
  · exact fun s h args => stages_of _ _ rfl (fun _ => rfl) rfl
  · exact fun s h sel args => stages_of _ _ rfl (fun _ => rfl) rfl
  · exact fun s h sel args => stages_of _ _ rfl (fun _ => rfl) rfl

/-- A LOAD line opens its load. -/
theorem loads_of {i : Instr} {s : State} {h : Hdr} {d : LineDef} {args : Args} {w : LoadWhat} (b : Chip → Bulk) (hl : lineOf s i = some (h, d))
    (ha : ∀ c : Chip, d.act c d.items = (c.modSess h.sess (fun x => { x with bulk := some (b c) }), .ok []))
    (hb : ∀ c, (b c).what = w ∧ (b c).length = (args.int? "LENGTH").getD 0 ∧ (b c).data = [] ∧ (b c).discarding = false ∧ (b c).last = c.clk.cycle) :
    Loads i s h d args w :=
  lineEffect_of hl (fun _ => by
    rw [ha]
    obtain ⟨h1, h2, h3, h4, h5⟩ := hb (s.u.arrived h)
    exact ⟨_, h1, h2, h3, h4, h5, rfl⟩)

/-- Settles O44: each LOAD line opens the load that it names. -/
theorem loadLines : Obligations.LoadLines := by
  unfold Obligations.LoadLines
  refine ⟨?_, ?_, ?_, ?_, ?_, ?_⟩
  · exact fun s h args => loads_of _ rfl (fun _ => rfl) (fun _ => ⟨rfl, rfl, rfl, rfl, rfl⟩)
  · exact fun s h sel args => loads_of _ rfl (fun _ => rfl) (fun _ => ⟨rfl, rfl, rfl, rfl, rfl⟩)
  · exact fun s h args => loads_of _ rfl (fun _ => rfl) (fun _ => ⟨rfl, rfl, rfl, rfl, rfl⟩)
  · exact fun s h args => loads_of _ rfl (fun _ => rfl) (fun _ => ⟨rfl, rfl, rfl, rfl, rfl⟩)
  · exact fun s h args => loads_of _ rfl (fun _ => rfl) (fun _ => ⟨rfl, rfl, rfl, rfl, rfl⟩)
  · refine fun s h sel args => ⟨_, _, _, _, _, loads_of _ rfl (fun _ => rfl) (fun _ => ⟨rfl, rfl, rfl, rfl, rfl⟩), fun ha => ?_, fun hf => ?_⟩
    · rw [ha]
      rfl
    · rw [hf]
      rfl

end Sys2Proof.Machine
end

section
/-!
PROOFS. SHOW, DUMP TABLE and READ REG (R91, R92, R99, R108, R154, R155, R471, R489, R563, R628, R786).
-/
namespace Sys2Proof.Machine

/-- A line's action on a unit answers OK and uses up free values at most. -/
def LineDef.Quiet (d : LineDef) (c : Chip) (l : List Nat) : Prop := ∃ free data, d.act c l = ({ c with free := free }, .ok data)

theorem quiet_effect {i : Instr} {s : State} {h : Hdr} {d : LineDef} (hl : lineOf s i = some (h, d)) (hq : d.Quiet (s.u.arrived h) d.items) :
    LineEffect i s h d (fun c u => ∃ free data, u = ({ c with free := free } : Chip).respond h.sess (.ok data)) := by
  obtain ⟨free, data, ha⟩ := hq
  exact lineEffect_ok data _ hl (fun _ => ha) (fun _ => ⟨free, data, rfl⟩)

theorem showLine_quiet (h : Hdr) (v : Verb) (sel : Selector) (args : Args) (holds : Chip → Nat → Bool) (state : Chip → Bad) (f : Chip → List Nat → List Fields)
    (c : Chip) (l : List Nat) : (showLine h v sel args holds state f).Quiet c l := ⟨c.free, f (c.viewed h.sess args) l, rfl⟩

theorem measured_quiet {d : LineDef} {c : Chip} {l : List Nat} (h : d.Quiet c l) : d.measured.Quiet c l := by
  obtain ⟨free, data, ha⟩ := h
  refine ⟨free + 512, data, ?_⟩
  unfold LineDef.measured
  dsimp only
  rw [ha]
  rfl

theorem dumpTable_quiet {h : Hdr} {args : Args} {c : Chip} {l : List Nat} (hd : c.domOn 16 = true) : (dumpTableDef h args).Quiet c l :=
  ⟨c.free, _, if_neg (by simp [hd])⟩

/-! ### Items -/

/-- A line's action answers one line for each item, which begins with the item. -/
def LineDef.Itemized (d : LineDef) (obj : String) (c : Chip) (l : List Nat) : Prop :=
  ∃ (u : Chip) (g : Nat → Fields), d.act c l = (u, .ok (l.map g)) ∧ ∀ n, (g n).take 2 = itemHead obj n

theorem itemized_effect {i : Instr} {s : State} {h : Hdr} {d : LineDef} {obj : String} (hl : lineOf s i = some (h, d))
    (hq : d.Itemized obj (s.u.arrived h) d.items) :
    LineEffect i s h d (fun _ u => ∃ data, (u.sess h.sess).answer = Answer.lines (.ok data) ∧ data.map (fun l => l.take 2) = d.items.map (itemHead obj)) := by
  obtain ⟨u, g, ha, hg⟩ := hq
  refine lineEffect_ok _ u hl (fun _ => ha) (fun _ => ⟨d.items.map g, ?_, ?_⟩)
  · obtain ⟨num, sent, store, hr⟩ := respond_sess u h.sess (.ok (d.items.map g))
    rw [hr]
  · rw [List.map_map]
    exact List.map_congr_left (fun n _ => hg n)

theorem showLine_itemized {h : Hdr} {v : Verb} {sel : Selector} {args : Args} {holds : Chip → Nat → Bool} {state : Chip → Bad} {obj : String}
    (g : Chip → Nat → Fields) (c : Chip) (l : List Nat) (hg : ∀ w n, (g w n).take 2 = itemHead obj n) :
    (showLine h v sel args holds state (fun w l => l.map (g w))).Itemized obj c l :=
  ⟨c, g (c.viewed h.sess args), rfl, hg _⟩

theorem showTile_itemized (h : Hdr) (sel : Selector) (args : Args) (c : Chip) (l : List Nat) : (showTileDef h sel args).Itemized "TILE" c l :=
  showLine_itemized _ c l (fun _ _ => rfl)
theorem showDomain_itemized (h : Hdr) (sel : Selector) (args : Args) (c : Chip) (l : List Nat) : (showDomainDef h sel args).Itemized "DOMAIN" c l :=
  ⟨c.measure, _, rfl, fun _ => rfl⟩
theorem showLane_itemized (h : Hdr) (sel : Selector) (args : Args) (c : Chip) (l : List Nat) : (showLaneDef h sel args).Itemized "LANE" c l :=
  showLine_itemized _ c l (fun _ _ => rfl)
theorem showSub_itemized (h : Hdr) (sel : Selector) (args : Args) (c : Chip) (l : List Nat) : (showSubDef h sel args).Itemized "SUB" c l := by
  unfold showSubDef
  exact showLine_itemized _ c l (fun _ _ => by dsimp only; split <;> rfl)
theorem showPub_itemized (h : Hdr) (sel : Selector) (args : Args) (c : Chip) (l : List Nat) : (showPubDef h sel args).Itemized "PUB" c l := by
  unfold showPubDef
  exact showLine_itemized _ c l (fun _ _ => by dsimp only; split <;> rfl)
theorem showKey_itemized (h : Hdr) (sel : Selector) (args : Args) (c : Chip) (l : List Nat) : (showKeyDef h sel args).Itemized "KEYSLOT" c l :=
  showLine_itemized _ c l (fun _ _ => by dsimp only; split <;> rfl)
theorem showHitch_itemized (h : Hdr) (sel : Selector) (args : Args) (c : Chip) (l : List Nat) : (showHitchDef h sel args).Itemized "HITCH" c l :=
  showLine_itemized _ c l (fun _ _ => rfl)
theorem showTrip_itemized (h : Hdr) (sel : Selector) (args : Args) (c : Chip) (l : List Nat) : (showTripDef h sel args).Itemized "TRIP" c l :=
  showLine_itemized _ c l (fun _ _ => rfl)
theorem showInput_itemized (h : Hdr) (sel : Selector) (args : Args) (c : Chip) (l : List Nat) : (showInputDef h sel args).Itemized "INPUT" c l :=
  showLine_itemized _ c l (fun _ _ => rfl)
theorem faultLine_head (c : Chip) (n : Nat) : (c.faultLine n).take 2 = itemHead "FAULT" n := by
  unfold Chip.faultLine
  dsimp only
  split <;> rfl
theorem showFault_itemized (h : Hdr) (sel : Selector) (args : Args) (c : Chip) (l : List Nat) : (showFaultDef h sel args).Itemized "FAULT" c l :=
  showLine_itemized _ c l faultLine_head

/-! ### Registers -/

/-- READ REG of one register that is no window and needs no domain answers its value. -/
theorem readReg_one {h : Hdr} {args : Args} {wins : List (Option Nat)} {v : Nat} {c : Chip} {r : RegCell} (ha : args.get? "ADDR" = some (.hex v))
    (hc : args.has "COUNT" = false) (hr : c.reg v = some r) (hk : r.kind ≠ .win) (hd : r.dom = none) (l : List Nat) :
    (readRegDef h args wins).act c l = (c.measure, .ok [[fWord "REG", ⟨"", addrVal v⟩, ⟨"", .hex 8 r.val⟩]]) := by
  have hn : args.int? "ADDR" = some v := by unfold Args.int?; rw [ha]
  unfold readRegDef LineDef.measured
  dsimp only
  rw [hn, int?_of_not_has hc]
  have hrun : (List.range ((none : Option Nat).getD 1)).map (fun i => (some v).getD 0 + 4 * i) = [v] := rfl
  rw [hrun, if_neg (by simp [hr, hd])]
  simp [Chip.readCells, hr, hk]

/-- A word of a cage's window is read by one transaction. -/
theorem reg_window (c : Chip) (cage : Fin 4) (word : Fin 64) : c.reg (0x40E000 + 256 * cage.val + 4 * word.val) = some { kind := .win, val := 0 } := by
  have hq := cage.isLt
  have hk := word.isLt
  unfold Chip.reg
  dsimp only
  have hd : (0x40E000 + 256 * cage.val + 4 * word.val) / 0x10000 = 0x40 := by omega
  rw [hd, if_neg (by decide), if_neg (by decide), if_neg (by omega), if_neg (by decide), if_neg (by decide), if_neg (by decide), if_pos rfl, if_neg (by omega),
    if_neg (by omega), if_pos (by omega)]
  exact if_pos (by omega)

theorem readWindow_act (h : Hdr) (cage : Fin 4) (word : Fin 64) (v : BitVec 32) (c : Chip) (l : List Nat) :
    (readWindowDef h cage word (some v.toNat)).act c l =
      (c.measure, .ok [[fWord "REG", ⟨"", addrVal (0x40E000 + 256 * cage.val + 4 * word.val)⟩, ⟨"", .hex 8 v.toNat⟩]]) := by
  unfold readWindowDef readRegDef LineDef.measured
  dsimp only
  have hrun : (List.range ((Args.int? [⟨"ADDR", .hex (0x40E000 + 256 * cage.val + 4 * word.val)⟩] "COUNT").getD 1)).map
      (fun i => (Args.int? [⟨"ADDR", .hex (0x40E000 + 256 * cage.val + 4 * word.val)⟩] "ADDR").getD 0 + 4 * i) = [0x40E000 + 256 * cage.val + 4 * word.val] := rfl
  rw [hrun, if_neg (by simp [reg_window])]
  have hv : v.toNat % 4294967296 = v.toNat := Nat.mod_eq_of_lt v.isLt
  simp [Chip.readCells, reg_window, hv]

/-- Settles O45: each line answers from the unit it views, and changes nothing but the count of free values. -/
theorem showLines : Obligations.ShowLines := by
  unfold Obligations.ShowLines
  refine ⟨?_, ?_, ?_, ?_⟩
  · intro s i h d hl hm
    refine quiet_effect hl ?_
    cases i
    case showUnit | showImage | showLife | showFi | showTile | showRepair | showLane | showPort | showTime | showKeyslot | showHitch
        | showPanel | showTrip | showInput | showEvent | showFault | showLog =>
      cases hl
      exact showLine_quiet _ _ _ _ _ _ _ _ _
    case showSub =>
      cases hl
      unfold showSubDef
      exact showLine_quiet _ _ _ _ _ _ _ _ _
    case showPub =>
      cases hl
      unfold showPubDef
      exact showLine_quiet _ _ _ _ _ _ _ _ _
    case showDomain =>
      cases hl
      exact measured_quiet (showLine_quiet _ _ _ _ _ _ _ _ _)
    case dumpTable =>
      cases hl
      exact dumpTable_quiet hm
    all_goals exact False.elim hm
  · intro s i h d obj hl hm
    refine itemized_effect hl ?_
    cases i
    case showTile => cases hl; cases hm; exact showTile_itemized _ _ _ _ _
    case showDomain => cases hl; cases hm; exact showDomain_itemized _ _ _ _ _
    case showLane => cases hl; cases hm; exact showLane_itemized _ _ _ _ _
    case showSub => cases hl; cases hm; exact showSub_itemized _ _ _ _ _
    case showPub => cases hl; cases hm; exact showPub_itemized _ _ _ _ _
    case showKeyslot => cases hl; cases hm; exact showKey_itemized _ _ _ _ _
    case showHitch => cases hl; cases hm; exact showHitch_itemized _ _ _ _ _
    case showTrip => cases hl; cases hm; exact showTrip_itemized _ _ _ _ _
    case showInput => cases hl; cases hm; exact showInput_itemized _ _ _ _ _
    case showFault => cases hl; cases hm; exact showFault_itemized _ _ _ _ _
    all_goals exact False.elim hm
  · intro s h args wins v r ha hc hr hk hd
    exact lineEffect_ok _ _ rfl (fun _ => readReg_one ha hc hr hk hd _) (fun _ => ⟨(s.u.arrived h).free + 512, rfl⟩)
  · intro s h cage word v
    exact lineEffect_ok _ _ rfl (fun _ => readWindow_act h cage word v _ _) (fun _ => ⟨(s.u.arrived h).free + 512, rfl⟩)

end Sys2Proof.Machine
end

section
/-!
PROOFS. What entering ARMED and leaving it keep of a function's life: its state, generation, intent and counts of periods (R116, R175, R226–R229).
-/
namespace Sys2Proof.Machine

/-- The part of an FI's running state that only its own life cycle changes. -/
structure Life.Part where
  st : FiSt
  gen : Nat
  intent : Bool
  rearm : Bool
  periods : Nat
  ropeStopped : Bool

def Fi.part (x : Fi) : Life.Part := ⟨x.st, x.gen, x.intent, x.rearm, x.periods, x.ropeStopped⟩

/-- Two units of the same settings whose FIs live alike. -/
structure Chip.SameLife (a b : Chip) : Prop where
  part : ∀ n, (b.fi n).part = (a.fi n).part
  cfg : b.cfg = a.cfg

theorem Chip.SameLife.refl (a : Chip) : a.SameLife a := ⟨fun _ => rfl, rfl⟩
theorem Chip.SameLife.trans {a b d : Chip} (h1 : a.SameLife b) (h2 : b.SameLife d) : a.SameLife d :=
  ⟨fun n => (h2.part n).trans (h1.part n), h2.cfg.trans h1.cfg⟩

theorem Chip.SameLife.of_eq {a b : Chip} (h1 : b.fis = a.fis) (h2 : b.cfg = a.cfg) : a.SameLife b :=
  ⟨fun n => congrArg (fun t : Tbl Fi => (t.get Fi.init n).part) h1, h2⟩

theorem sameLife_foldl {α : Type} {g : Chip → α → Chip} (hg : ∀ (c : Chip) x, c.SameLife (g c x)) (l : List α) (c : Chip) : c.SameLife (l.foldl g c) := by
  induction l generalizing c with
  | nil => exact .refl c
  | cons x l ih => exact (hg c x).trans (ih _)

theorem sameLife_modFi (c : Chip) (n : Nat) (g : Fi → Fi) (hg : ∀ x, (g x).part = x.part) : c.SameLife (c.modFi n g) := by
  refine ⟨fun m => ?_, rfl⟩
  by_cases hm : m = n
  · subst hm
    rw [Chip.fi_modFi, hg]
  · rw [Chip.fi_modFi_ne _ _ _ _ hm]

theorem sameLife_modCopy (c : Chip) (n k : Nat) (g : Copy → Copy) : c.SameLife (c.modCopy n k g) := sameLife_modFi c n _ (fun _ => rfl)
theorem sameLife_modCtx (c : Chip) (k : Nat) (g : Ctx → Ctx) : c.SameLife (c.modCtx k g) := .of_eq rfl rfl

theorem sameLife_fab (c : Chip) (g : Fabric → Fabric) : c.SameLife (c.fab' g) := .of_eq rfl rfl
theorem sameLife_opens (c : Chip) (n : Nat) (g : Fi → List Period) : c.SameLife (c.modFi n (fun x => { x with opens := g x })) :=
  sameLife_modFi c n _ (fun _ => rfl)

theorem sameLife_releaseCtx (c : Chip) (key : Nat) : c.SameLife (c.releaseCtx key) := by
  unfold Chip.releaseCtx
  dsimp only
  split
  · exact (((sameLife_modCtx c key _).trans (sameLife_modCopy _ _ _ _)).trans (sameLife_opens _ _ _)).trans (sameLife_fab _ _)
  · exact .refl c

theorem sameLife_releaseFrame (c : Chip) (fi k : Nat) (f : Option Nat) : c.SameLife (c.releaseFrame fi k f) := by
  unfold Chip.releaseFrame
  split
  · exact sameLife_releaseCtx _ _
  · exact .refl c

theorem sameLife_releaseStanding (c : Chip) (fi : Nat) : c.SameLife (c.releaseStanding fi) :=
  sameLife_foldl (fun c k => sameLife_releaseFrame c fi k _) _ c

theorem sameLife_closePeriods (c : Chip) (fi : Nat) : c.SameLife (c.closePeriods fi) := sameLife_modFi c fi _ (fun _ => rfl)

theorem sameLife_releasePeriod (c : Chip) (fi : Nat) (p : Period) : c.SameLife (c.releasePeriod fi p) := by
  refine Chip.SameLife.trans (sameLife_foldl (fun c k => ?_) _ c) (sameLife_closePeriods _ fi)
  split
  · exact sameLife_releaseCtx _ _
  · exact .refl c

theorem sameLife_releaseReady (c : Chip) (fi : Nat) : c.SameLife (c.releaseReady fi) := by
  unfold Chip.releaseReady
  dsimp only
  refine Chip.SameLife.trans (b := (List.range (c.nCopies fi)).foldl (fun c k => c.releaseFrame fi k (c.copy fi k).prealloc) c) ?_ ?_
  · exact sameLife_foldl (fun c k => sameLife_releaseFrame c fi k _) _ c
  · exact sameLife_foldl (fun c (p : Period) => (sameLife_releasePeriod c fi p).trans (sameLife_opens _ fi _)) _ _

theorem sameLife_openCtx (c : Chip) (fi k f : Nat) (kind : CtxKind) (p d : Option Nat) : c.SameLife (c.openCtx fi k f kind p d) := sameLife_modCtx c _ _

theorem sameLife_openStanding (c : Chip) (fi k : Nat) : c.SameLife (c.openStanding fi k) := by
  unfold Chip.openStanding
  split
  · exact (sameLife_openCtx _ _ _ _ _ _ _).trans (sameLife_modCopy _ _ _ _)
  · exact .refl c

theorem sameLife_takeFrame {c c1 : Chip} {fi k f : Nat} (h : c.takeFrame fi k = some (f, c1)) : c.SameLife c1 := by
  unfold Chip.takeFrame at h
  dsimp only at h
  split at h
  · cases h
    exact sameLife_modCopy c fi k _
  · split at h
    · cases h
    · split at h
      · cases h
        exact (sameLife_modCopy c fi k _).trans (sameLife_openCtx _ _ _ _ _ _ _)
      · cases h

theorem sameLife_preallocate (c : Chip) (fi k : Nat) : c.SameLife (c.preallocate fi k) := by
  unfold Chip.preallocate
  split
  · exact .refl c
  · split
    · rename_i h
      exact (sameLife_takeFrame h).trans (sameLife_modCopy _ _ _ _)
    · exact .refl c

theorem sameLife_fillPages (c : Chip) (fi : Nat) : c.SameLife (c.fillPages fi) := by
  unfold Chip.fillPages
  refine sameLife_foldl (fun c k => sameLife_foldl (fun c s => ?_) _ c) _ c
  split
  · exact .refl c
  · exact .of_eq rfl rfl

theorem sameLife_belayEnded (c before : Chip) (cause : String) : c.SameLife (c.belayEnded before cause) := by
  refine sameLife_foldl (fun c o => ?_) _ c
  unfold Chip.leaveBelay
  split <;> exact .of_eq rfl rfl

theorem sameLife_endTest (c : Chip) (n : Nat) (cause : Val) : c.SameLife (c.endTest n cause) := by
  unfold Chip.endTest Chip.tripOff
  split
  · split <;> exact .of_eq rfl rfl
  · exact .refl c

theorem sameLife_newState (c : Chip) (p : Nat) (b : Bool) : c.SameLife (c.newState p b) := .of_eq rfl rfl

theorem sameLife_pubArm (c : Chip) (p : Nat) : c.SameLife (c.pubArm p) := by
  unfold Chip.pubArm
  dsimp only
  split
  · exact .of_eq rfl rfl
  · exact .of_eq rfl rfl

theorem sameLife_wear (c : Chip) (area sub : Nat) : c.SameLife (c.wear area sub) := by
  unfold Chip.wear
  dsimp only
  split
  · exact .of_eq rfl rfl
  · split <;> exact .of_eq rfl rfl

/-! ### The steps of the life itself -/

theorem part_fiState (c : Chip) (n : Nat) (st : FiSt) (cause : String) : ((c.fiState n st cause).fi n).part = { (c.fi n).part with st := st } := by
  unfold Chip.fiState
  dsimp only
  split
  · rename_i h
    rw [← h]
    rfl
  · exact congrArg Fi.part (c.fi_modFi n (fun x => { x with st := st }))

theorem cfg_fiState (c : Chip) (n : Nat) (st : FiSt) (cause : String) : (c.fiState n st cause).cfg = c.cfg := by
  unfold Chip.fiState
  dsimp only
  split <;> rfl

theorem part_setIntent (c : Chip) (n : Nat) (b : Bool) : ((c.setIntent n b).fi n).part = { (c.fi n).part with intent := b } := by
  unfold Chip.setIntent
  split
  · rename_i h
    rw [← h]
    rfl
  · rw [(sameLife_wear _ 1 0).part n]
    exact congrArg Fi.part (c.fi_modFi n (fun x => { x with intent := b }))

theorem cfg_setIntent (c : Chip) (n : Nat) (b : Bool) : (c.setIntent n b).cfg = c.cfg := by
  unfold Chip.setIntent
  split
  · rfl
  · exact (sameLife_wear _ 1 0).cfg

/-- An FI's counts begin anew with its next generation. -/
def Fi.anew (x : Fi) (now credit : Nat) : Fi :=
  { x with gen := (x.gen + 1) % 8, rearm := false, ropeStopped := false, armedAt := now, periods := 0, overruns := 0, misbehave := 0, aliveFail := false,
           opens := [], pdones := 0, lastStart := now, sourceLost := false, pendGoose := none, lastId := 0, ticks := 0, deepHold := false,
           copies := x.copies.map (fun p => { p with credit := credit, standing := none, prealloc := none, lastFire := now }) }

/-- The FI in its state ARMED, before its contexts open and its outputs are freed. -/
def Chip.armed (c : Chip) (fi : Nat) (cause : String) : Chip :=
  ((((c.releaseStanding fi).releaseReady fi).modFi fi (fun x => x.anew c.clk.cycle (c.fiCfg fi).credit)).fiState fi .armed cause)

theorem armed_part (c : Chip) (fi : Nat) (cause : String) :
    ((c.armed fi cause).fi fi).part = ⟨.armed, ((c.fi fi).gen + 1) % 8, (c.fi fi).intent, false, 0, false⟩ := by
  have h := ((sameLife_releaseStanding c fi).trans (sameLife_releaseReady (c.releaseStanding fi) fi)).part fi
  have hg : (((c.releaseStanding fi).releaseReady fi).fi fi).gen = (c.fi fi).gen := congrArg Life.Part.gen h
  have hi : (((c.releaseStanding fi).releaseReady fi).fi fi).intent = (c.fi fi).intent := congrArg Life.Part.intent h
  unfold Chip.armed
  rw [part_fiState, Chip.fi_modFi, ← hg, ← hi]
  generalize ((c.releaseStanding fi).releaseReady fi).fi fi = x
  rfl

theorem armed_cfg (c : Chip) (fi : Nat) (cause : String) : (c.armed fi cause).cfg = c.cfg := by
  unfold Chip.armed
  rw [cfg_fiState, Chip.modFi_cfg]
  exact ((sameLife_releaseStanding c fi).trans (sameLife_releaseReady _ fi)).cfg

/-- Its pages are filled and its contexts open. -/
def Chip.opened (d : Chip) (fi : Nat) : Chip :=
  (List.range (d.nCopies fi)).foldl (fun c k => (c.openStanding fi k).preallocate fi k) (d.fillPages fi)
/-- Its outputs leave the cause FAULT. -/
def Chip.freed (d c : Chip) (fi : Nat) : Chip := { d with belay := { d.belay with fault := d.belay.fault.filter (fun o => !(c.outputsOf fi).contains o) } }
/-- The tests of its trips end. -/
def Chip.testsEnded (d : Chip) (fi : Nat) : Chip := (d.tripsOf fi).foldl (fun c n => c.endTest n (.sym "ARM")) d
/-- Its publishers begin anew. -/
def Chip.pubsArmed (d : Chip) (l : List OutId) : Chip :=
  l.foldl (fun c o => match o with
    | .pub p => c.pubArm p
    | _ => c) d

theorem armFi_eq (c : Chip) (fi : Nat) (cause : String) :
    c.armFi fi cause = (((((c.armed fi cause).opened fi).freed c fi).belayEnded c "STATE").testsEnded fi).pubsArmed (c.outputsOf fi) := by
  unfold Chip.armFi Chip.armed Chip.opened Chip.freed Chip.testsEnded Chip.pubsArmed Fi.anew
  rfl

theorem sameLife_opened (d : Chip) (fi : Nat) : d.SameLife (d.opened fi) :=
  (sameLife_fillPages d fi).trans (sameLife_foldl (fun c k => (sameLife_openStanding c fi k).trans (sameLife_preallocate _ fi k)) _ _)
theorem sameLife_freed (d c : Chip) (fi : Nat) : d.SameLife (d.freed c fi) := .of_eq rfl rfl
theorem sameLife_testsEnded (d : Chip) (fi : Nat) : d.SameLife (d.testsEnded fi) := sameLife_foldl (fun c n => sameLife_endTest c n _) _ _
theorem sameLife_pubsArmed (d : Chip) (l : List OutId) : d.SameLife (d.pubsArmed l) := by
  refine sameLife_foldl (fun c o => ?_) _ _
  split
  · exact sameLife_pubArm _ _
  · exact .refl c

theorem armFi_sameLife (c : Chip) (fi : Nat) (cause : String) : (c.armed fi cause).SameLife (c.armFi fi cause) := by
  rw [armFi_eq]
  exact ((((sameLife_opened _ fi).trans (sameLife_freed _ c fi)).trans (sameLife_belayEnded _ _ _)).trans (sameLife_testsEnded _ _)).trans (sameLife_pubsArmed _ _)

/-- An FI that enters ARMED is of its next generation, and counts its periods from zero. -/
theorem armFi_part (c : Chip) (fi : Nat) (cause : String) :
    ((c.armFi fi cause).fi fi).part = ⟨.armed, ((c.fi fi).gen + 1) % 8, (c.fi fi).intent, false, 0, false⟩ :=
  ((armFi_sameLife c fi cause).part fi).trans (armed_part c fi cause)
theorem armFi_cfg (c : Chip) (fi : Nat) (cause : String) : (c.armFi fi cause).cfg = c.cfg := (armFi_sameLife c fi cause).cfg.trans (armed_cfg c fi cause)

/-- An FI that drains keeps its life but for its state. -/
theorem drainFi_part (c : Chip) (fi : Nat) (cause : String) : ((c.drainFi fi cause).fi fi).part = { (c.fi fi).part with st := .draining } := by
  unfold Chip.drainFi
  rw [(sameLife_releaseReady _ fi).part fi, Chip.fi_modFi, ← part_fiState c fi .draining cause]
  rfl
theorem drainFi_cfg (c : Chip) (fi : Nat) (cause : String) : (c.drainFi fi cause).cfg = c.cfg := by
  unfold Chip.drainFi
  rw [(sameLife_releaseReady _ fi).cfg, Chip.modFi_cfg, cfg_fiState]

end Sys2Proof.Machine
end

section
/-!
PROOFS. Lines that act at once (R116–R118, R123, R145, R147, R148, R153, R158, R175, R229, R242, R458, R472, R507).
-/
namespace Sys2Proof.Machine

/-! ### One item -/

theorem eachItem_ok {f : Chip → Nat → Chip × Answer} {c u : Chip} {n : Nat} {l : List Fields} (h : f c n = (u, .ok l)) : eachItem f c [n] = (u, .ok l) := by
  unfold eachItem
  simp only [List.foldl_cons, List.foldl_nil, h, List.nil_append]

theorem eachItem_err {f : Chip → Nat → Chip × Answer} {c u : Chip} {n : Nat} {code : String} {fs : Fields} (h : f c n = (u, .err code fs)) :
    eachItem f c [n] = (u, .err code fs) := by
  unfold eachItem
  simp only [List.foldl_cons, List.foldl_nil, h]

theorem eachOrNone_ok {f : Chip → Nat → Chip × Answer} {c u : Chip} {n : Nat} {l : List Fields} (h : f c n = (u, .ok l)) : eachOrNone f c [n] = (u, .ok l) := by
  unfold eachOrNone
  rw [eachItem_ok h]

theorem eachOrNone_err {f : Chip → Nat → Chip × Answer} {c u : Chip} {n : Nat} {code : String} {fs : Fields} (h : f c n = (u, .err code fs)) :
    eachOrNone f c [n] = (c, .err code fs) := by
  unfold eachOrNone
  rw [eachItem_err h]

/-- A line on one item: what its action makes of the unit, answered. -/
theorem lineEffect_one {i : Instr} {s : State} {h : Hdr} {d : LineDef} {P : Chip → Chip → Prop} {n : Nat} {u : Chip} {a : Answer}
    (hl : lineOf s i = some (h, d)) (hi : d.items = [n]) (ha : LineTaken s h d → d.act (s.u.arrived h) [n] = (u, a))
    (H : LineTaken s h d → P (s.u.arrived h) (u.answered h a)) : LineEffect i s h d P :=
  lineEffect_of hl (fun ht => by
    have hb := ha ht
    rw [← hi] at hb
    rw [hb]
    exact H ht)

theorem respond_answer (c : Chip) (n : Nat) (a : Answer) : ((c.respond n a).sess n).answer = a.lines := by
  obtain ⟨num, sent, store, hr⟩ := respond_sess c n a
  rw [hr]
theorem respond_sels (c : Chip) (n : Nat) (a : Answer) : ((c.respond n a).sess n).sels = (c.sess n).sels := by
  obtain ⟨num, sent, store, hr⟩ := respond_sess c n a
  rw [hr]
theorem respond_waiting (c : Chip) (n : Nat) (a : Answer) : ((c.respond n a).sess n).waiting = (c.sess n).waiting := by
  obtain ⟨num, sent, store, hr⟩ := respond_sess c n a
  rw [hr]
theorem respond_events (c : Chip) (n : Nat) (a : Answer) : ((c.respond n a).sess n).events = (c.sess n).events := by
  obtain ⟨num, sent, store, hr⟩ := respond_sess c n a
  rw [hr]
theorem respond_faults (c : Chip) (n : Nat) (a : Answer) : ((c.respond n a).sess n).faults = (c.sess n).faults := by
  obtain ⟨num, sent, store, hr⟩ := respond_sess c n a
  rw [hr]

/-- The numbers a selector gives lie below its size. -/
theorem mem_sortNats {l : List Nat} {x : Nat} : x ∈ sortNats l ↔ x ∈ l := by
  have hgen : ∀ (l a : List Nat), x ∈ l.foldl insNat a ↔ x ∈ a ∨ x ∈ l := by
    intro l
    induction l with
    | nil => simp
    | cons y t ih =>
      intro a
      rw [List.foldl_cons, ih, mem_insNat, List.mem_cons]
      tauto
  exact (hgen l []).trans (by simp)

theorem Selector.members_lt {sel : Selector} {size n : Nat} (h : n ∈ sel.members size) (ho : sel.outside size = none) : n < size := by
  cases sel with
  | all => exact List.mem_range.1 h
  | items l =>
    unfold Selector.members at h
    rw [mem_sortNats, List.mem_flatMap] at h
    obtain ⟨p, hp, hm⟩ := h
    obtain ⟨i, hi, rfl⟩ := List.mem_map.1 hm
    have hi := List.mem_range.1 hi
    have hn := List.findSome?_eq_none_iff.1 ho p hp
    have h1 : ¬ p.1 < 0 := fun h => by rw [if_pos h] at hn; cases hn
    omega

/-! ### ARM, STOP and the counts of an FI -/

theorem armItem_armed {c : Chip} {n : Nat} (hr : c.armRoom n = true) (hs : (c.fi n).st = .admitted ∨ (c.fi n).st = .stopped) (hl : c.targetLive n = 0) :
    c.armItem n = ((c.setIntent n true).armFi n "ARM", .ok [((c.setIntent n true).armFi n "ARM").fiLine n false]) := by
  unfold Chip.armItem
  dsimp only
  rw [if_neg (by simp [hr])]
  rcases hs with hs | hs
  · rw [hs]
    exact if_pos hl
  · rw [hs]
    exact if_pos hl

theorem arm_line {s : State} {h : Hdr} {sel : Selector} {n : Nat} (hi : (armDef h sel).items = [n]) (hr : (s.u.arrived h).armRoom n = true)
    (hs : ((s.u.arrived h).fi n).st = .admitted ∨ ((s.u.arrived h).fi n).st = .stopped) (hl : (s.u.arrived h).targetLive n = 0) :
    LineEffect (.armFi h sel) s h (armDef h sel) (fun c u => (u.fi n).st = .armed ∧ (u.fi n).gen = ((c.fi n).gen + 1) % 8 ∧ (u.fi n).intent = true ∧
      (u.fi n).periods = 0 ∧ u.cfg = c.cfg) := by
  refine lineEffect_one rfl hi (fun _ => eachItem_ok (armItem_armed hr hs hl)) (fun _ => ?_)
  clear hr hs hl
  generalize s.u.arrived h = c
  have hp := armFi_part (c.setIntent n true) n "ARM"
  have hq := part_setIntent c n true
  have hg : ((c.setIntent n true).fi n).gen = (c.fi n).gen := congrArg Life.Part.gen hq
  have hn : ((c.setIntent n true).fi n).intent = true := congrArg Life.Part.intent hq
  rw [hg, hn] at hp
  have hc := (armFi_cfg (c.setIntent n true) n "ARM").trans (cfg_setIntent c n true)
  rw [answered_ok]
  generalize (c.setIntent n true).armFi n "ARM" = u at *
  exact ⟨congrArg Life.Part.st hp, congrArg Life.Part.gen hp, congrArg Life.Part.intent hp, congrArg Life.Part.periods hp, hc⟩

theorem arm_noRoom {s : State} {h : Hdr} {sel : Selector} {n : Nat} (hi : (armDef h sel).items = [n]) (hr : (s.u.arrived h).armRoom n = false) :
    LineEffect (.armFi h sel) s h (armDef h sel) (fun c u => u = c.respond h.sess (.err "0704" [])) := by
  refine lineEffect_one rfl hi (fun _ => eachItem_err (u := s.u.arrived h) (code := "0704") (fs := []) ?_) (fun _ => rfl)
  unfold Chip.armItem
  exact if_pos (by simp [hr])

/-- An FI that STOP finds armed or running drains, without run intent or re-arm flag. -/
theorem stopItem_drains {c : Chip} {n : Nat} (ha : (c.fi n).st.active = true) : ∃ u data, c.stopItem n = (u, .ok data) ∧
    (u.fi n).part = { (c.fi n).part with st := .draining, intent := false, rearm := false, ropeStopped := false } ∧ u.cfg = c.cfg := by
  have hq := part_setIntent c n false
  have hf := (c.setIntent n false).fi_modFi n (fun x => { x with rearm := false, ropeStopped := false })
  have hp : (((c.setIntent n false).modFi n (fun x => { x with rearm := false, ropeStopped := false })).fi n).part =
      { (c.fi n).part with intent := false, rearm := false, ropeStopped := false } := by
    rw [hf]
    exact congrArg (fun p : Life.Part => { p with rearm := false, ropeStopped := false }) hq
  have hst : (((c.setIntent n false).modFi n (fun x => { x with rearm := false, ropeStopped := false })).fi n).st.active = true := by
    rw [show (((c.setIntent n false).modFi n (fun x => { x with rearm := false, ropeStopped := false })).fi n).st = (c.fi n).st from congrArg Life.Part.st hp]
    exact ha
  refine ⟨_, _, rfl, ?_, ?_⟩
  · rw [if_pos hst, drainFi_part, hp]
  · rw [if_pos hst, drainFi_cfg, Chip.modFi_cfg, cfg_setIntent]

theorem stop_line {s : State} {h : Hdr} {sel : Selector} {n : Nat} (hi : (stopDef h sel).items = [n]) (ha : ((s.u.arrived h).fi n).st.active = true) :
    LineEffect (.stopFi h sel) s h (stopDef h sel) (fun c u => (u.fi n).st = .draining ∧ (u.fi n).intent = false ∧ (u.fi n).rearm = false ∧ u.cfg = c.cfg) := by
  obtain ⟨u, data, hu, hp, hc⟩ := stopItem_drains ha
  refine lineEffect_one rfl hi (fun _ => eachItem_ok hu) (fun _ => ?_)
  clear hu
  generalize s.u.arrived h = c at *
  exact ⟨congrArg Life.Part.st hp, congrArg Life.Part.intent hp, congrArg Life.Part.rearm hp, hc⟩

/-- The poisoned lines of an FI, marked for the scrubber. -/
def Chip.poisonMarked (c : Chip) (n : Nat) (ls : List Nat) : Chip := { c with mctl := { c.mctl with marked := c.mctl.marked.set n ls } }

theorem clearPoison_act {m : Mem} {c : Chip} {n : Nat} (h : Hdr) (sel : Selector) (hl : CM.poisonedLines (c, m) n ≠ []) :
    (clearPoisonDef m h sel).act c [n] = (c.poisonMarked n (CM.poisonedLines (c, m) n),
      .ok [itemHead "FI" n ++ [fNat "POISONED" (CM.poisonedLines (c, m) n).length]]) := by
  unfold clearPoisonDef
  dsimp only
  refine eachItem_ok ?_
  rw [if_neg (by simpa using hl)]
  rfl

theorem clearPoison_line {s : State} {h : Hdr} {sel : Selector} {n : Nat} (hi : (clearPoisonDef s.mem h sel).items = [n])
    (hl : CM.poisonedLines (s.u.arrived h, s.mem) n ≠ []) :
    LineEffect (.clearFiPoison h sel) s h (clearPoisonDef s.mem h sel) (fun c u => u.mctl.marked.find n = some (CM.poisonedLines (c, s.mem) n) ∧
      (u.sess h.sess).answer = [.data (itemHead "FI" n ++ [fNat "POISONED" (CM.poisonedLines (c, s.mem) n).length]), .ok]) := by
  refine lineEffect_one rfl hi (fun _ => clearPoison_act h sel hl) (fun _ => ?_)
  clear hl
  generalize s.u.arrived h = c
  rw [answered_ok, respond_answer]
  exact ⟨Tbl.find_set_same _ _ _, rfl⟩

theorem clearCounts_line {s : State} {h : Hdr} {sel : Selector} {n : Nat} (hi : (clearCountsDef h sel).items = [n]) :
    LineEffect (.clearFiCounts h sel) s h (clearCountsDef h sel) (fun c u =>
      (u.fi n).misbehave = 0 ∧ (∀ k, (c.copy n k).cnt ≠ Cnt.init → (u.copy n k).cnt = Cnt.init) ∧ ∀ m, m ≠ n → u.fi m = c.fi m) := by
  refine lineEffect_one rfl hi (fun _ => rfl) (fun _ => ?_)
  generalize s.u.arrived h = c
  rw [answered_ok]
  have hn := c.fi_modFi n (fun x => { x with misbehave := 0, copies := x.copies.map (fun y => { y with cnt := Cnt.init }) })
  refine ⟨congrArg Fi.misbehave hn, fun k _ => ?_, fun m hm => c.fi_modFi_ne n m (fun x => { x with misbehave := 0, copies := x.copies.map (fun y => { y with cnt := Cnt.init }) }) hm⟩
  have hk : (c.modFi n (fun x => { x with misbehave := 0, copies := x.copies.map (fun y => { y with cnt := Cnt.init }) })).copy n k =
      (((c.fi n).copies.map (fun y => { y with cnt := Cnt.init }))[k]?).getD Copy.init :=
    congrArg (fun x : Fi => (x.copies[k]?).getD Copy.init) hn
  refine (congrArg Copy.cnt hk).trans ?_
  rw [List.getElem?_map]
  cases (c.fi n).copies[k]? <;> rfl

/-! ### Command points -/

theorem args_int {args : Args} {n : String} {p : Int} (h : args.get? n = some (.int p)) : args.int? n = some p.toNat := by
  unfold Args.int?
  rw [h]

/-- The selection that SELECT makes. -/
def Chip.newSel (c : Chip) (n p v : Nat) (x : Point) : Sel := { fi := n, point := p, hitch := x.hitch, value := v, until? := c.clk.cycle + x.window }

/-- The unit with a selection made. -/
def Chip.selected (c : Chip) (s n p v : Nat) (x : Point) : Chip :=
  ((c.modHitch x.hitch (fun y => { y with holder := masterSess s })).modSess s (fun y => { y with sels := y.sels ++ [c.newSel n p v x] })).selectRecord s
    (c.newSel n p v x) "SELECT"

theorem pointSelect_free {c : Chip} {s n p v : Nat} {x : Point} (hp : c.pointOf n p = some x) (hb : (c.hitch x.hitch).broken = false)
    (hh : (c.hitch x.hitch).holder = 0) : ∃ data, c.pointSelect s p v n = (c.selected s n p v x, .ok data) := by
  unfold Chip.pointSelect
  rw [hp]
  dsimp only
  rw [if_neg (by simp [hb]), if_neg (by simp [hh])]
  exact ⟨_, rfl⟩

theorem pointSelect_held {c : Chip} {s n p v : Nat} {x : Point} (hp : c.pointOf n p = some x) (hb : (c.hitch x.hitch).broken = false)
    (hh : (c.hitch x.hitch).holder ≠ 0) : c.pointSelect s p v n = (c, .err "0407" [fMaster "HOLDER" (c.hitch x.hitch).holder]) := by
  unfold Chip.pointSelect
  rw [hp]
  dsimp only
  rw [if_neg (by simp [hb]), if_pos hh]

theorem select_line {s : State} {h : Hdr} {sel : Selector} {args : Args} {n : Nat} {p : Int} {v : Nat} {x : Point} (hi : (selectDef h sel args).items = [n])
    (ha : args.get? "POINT" = some (.int p)) (hv : (args.get? "VALUE").bind (kwIn valueNames) = some v)
    (hx : (s.u.arrived h).pointOf n p.toNat = some x) (hb : ((s.u.arrived h).hitch x.hitch).broken = false) :
    (((s.u.arrived h).hitch x.hitch).holder = 0 → LineEffect (.selectFi h sel args) s h (selectDef h sel args) (fun c u =>
      (u.hitch x.hitch).holder = masterSess h.sess ∧
      (u.sess h.sess).sels = (c.sess h.sess).sels ++ [{ fi := n, point := p.toNat, hitch := x.hitch, value := v, until? := c.clk.cycle + x.window }] ∧
      u.fis = c.fis)) ∧
    (((s.u.arrived h).hitch x.hitch).holder ≠ 0 → LineEffect (.selectFi h sel args) s h (selectDef h sel args) (fun c u =>
      u = c.respond h.sess (.err "0407" [fMaster "HOLDER" (c.hitch x.hitch).holder]))) := by
  have hact : ∀ c : Chip, (selectDef h sel args).act c [n] = eachOrNone (fun c n => c.pointSelect h.sess p.toNat v n) c [n] := by
    intro c
    unfold selectDef
    dsimp only
    rw [args_int ha, hv]
    rfl
  refine ⟨fun hh => ?_, fun hh => lineEffect_one rfl hi (fun _ => (hact _).trans (eachOrNone_err (pointSelect_held hx hb hh))) (fun _ => rfl)⟩
  obtain ⟨data, hd⟩ := pointSelect_free (s := h.sess) (v := v) hx hb hh
  refine lineEffect_one rfl hi (fun _ => (hact _).trans (eachOrNone_ok hd)) (fun _ => ?_)
  clear hx hb hh hd
  generalize s.u.arrived h = c
  rw [answered_ok, respond_sels]
  refine ⟨c.hitch_modHitch_holder x.hitch (fun y => { y with holder := masterSess h.sess }), ?_, rfl⟩
  exact congrArg Sess.sels ((c.modHitch x.hitch (fun y => { y with holder := masterSess h.sess })).sess_modSess h.sess (fun y => { y with sels := y.sels ++ [c.newSel n p.toNat v x] }))

/-- The end of a selection whose hitch nobody else waits for: it is gone, and its hitch is free. -/
theorem endSel_free {c : Chip} {s : Nat} {e : Sel} (hh : (c.hitch e.hitch).holder = masterSess s) (hq : (c.hitch e.hitch).queue = []) :
    c.endSel s e = (c.modSess s (fun x => { x with sels := x.sels.filter (· != e) })).modHitch e.hitch (fun x => { x with holder := 0 }) := by
  unfold Chip.endSel
  dsimp only
  rw [if_pos (show ((c.modSess s (fun x => { x with sels := x.sels.filter (· != e) })).hitch e.hitch).holder = masterSess s from hh)]
  unfold Chip.hitchPass
  rw [show ((c.modSess s (fun x => { x with sels := x.sels.filter (· != e) })).hitch e.hitch).queue = [] from hq]

theorem Chip.CountsOnly.hitches {a b : Chip} (h : a.CountsOnly b) : a.fab.hitches = b.fab.hitches := by
  have h' := congrArg Fabric.hitches h.fab
  exact h'
theorem Chip.CountsOnly.brokenRegions {a b : Chip} (h : a.CountsOnly b) : a.fab.brokenRegions = b.fab.brokenRegions := by
  have h' := congrArg Fabric.brokenRegions h.fab
  exact h'

/-- Two units that differ in fabric, FIs and raises, with the same hitches. -/
structure Chip.SameHitches (a b : Chip) : Prop where
  frame : FabricAlone a b
  hitches : b.fab.hitches = a.fab.hitches
  regions : b.fab.brokenRegions = a.fab.brokenRegions

theorem Chip.SameHitches.refl (a : Chip) : a.SameHitches a := ⟨rfl, rfl, rfl⟩
theorem Chip.SameHitches.trans {a b d : Chip} (h1 : a.SameHitches b) (h2 : b.SameHitches d) : a.SameHitches d :=
  ⟨h1.frame.trans h2.frame, h2.hitches.trans h1.hitches, h2.regions.trans h1.regions⟩
theorem Chip.SameHitches.hitch {a b : Chip} (h : a.SameHitches b) (n : Nat) : b.hitch n = a.hitch n := Chip.hitch_congr h.hitches h.regions n
theorem Chip.SameHitches.trev {a b : Chip} (h : a.SameHitches b) : b.trev = a.trev := by
  have h' := congrArg Chip.trev (h.frame : _ = a)
  exact h'

theorem sameHitches_send (c : Chip) (src : Nat) (t : Token) (k : Nat) (a b : Option Nat) : c.SameHitches (c.send src t k a b) := by
  have hf := c.liveCount_counts t k (· - 1)
  refine ⟨c.send_frame _ _ _ _ _, ?_, ?_⟩
  · unfold Chip.send
    dsimp only
    split
    · split
      · rfl
      · exact hf.hitches
    · exact hf.hitches
  · unfold Chip.send
    dsimp only
    split
    · split
      · rfl
      · exact hf.brokenRegions
    · exact hf.brokenRegions

theorem sameHitches_born (c : Chip) (t : Token) (k : Nat) : c.SameHitches (c.born t k) :=
  ⟨(c.born_counts t k).frame, (c.born_counts t k).hitches, (c.born_counts t k).brokenRegions⟩

theorem sameHitches_foldl {α : Type} {g : Chip → α → Chip} (hg : ∀ (c : Chip) x, c.SameHitches (g c x)) (l : List α) (c : Chip) : c.SameHitches (l.foldl g c) := by
  induction l generalizing c with
  | nil => exact .refl c
  | cons x l ih => exact (hg c x).trans (ih _)

/-- A delivery to an FI's standing contexts leaves the sessions, the hitches and the records. -/
theorem sameHitches_deliverStanding (c : Chip) (fi : Nat) (d : Deliv) (col : Nat) (b : Option Nat) : c.SameHitches (c.deliverStanding fi d col b) := by
  refine sameHitches_foldl (fun c k => ?_) _ c
  split
  · unfold Chip.deliverTo
    split
    · exact .refl c
    · exact (sameHitches_born _ _ _).trans (sameHitches_send _ _ _ _ _ _)
  · exact .refl c

/-- EXECUTE's value at the inputs bound to the point. -/
def Chip.pointValue (c : Chip) (p n v : Nat) : Chip :=
  (((c.fiCfg n).ins.filter (fun i => i.2 == .point p)).map Prod.fst).foldl
    (fun c q => c.deliverStanding n { port := q, idx := 0, op := ⟨.data, BitVec.ofNat 64 v⟩, start := false } 0 none) c

theorem executeItem_acts {c : Chip} {s p n : Nat} {e : Sel} (hb : c.pointBroken n p = false) (he : c.selOf s n p = some e) (ht : c.clk.cycle < e.until?)
    (ha : (c.fi n).st.active = true) : c.executeItem s p n = (((c.pointValue p n e.value).selectRecord s e "EXECUTE").endSel s e, .ok []) := by
  unfold Chip.executeItem
  rw [if_neg (by simp [hb]), he]
  dsimp only
  rw [if_neg (by omega), if_neg (by simp [ha])]
  rfl

theorem cancelItem_acts {c : Chip} {s p n : Nat} {e : Sel} (hb : c.pointBroken n p = false) (he : c.selOf s n p = some e) (ht : c.clk.cycle < e.until?) :
    c.cancelItem s p n = ((c.selectRecord s e "CANCEL").endSel s e, .ok []) := by
  unfold Chip.cancelItem
  rw [if_neg (by simp [hb]), he]
  exact if_neg (by omega)

/-- The session and the hitch of a selection that has ended. -/
theorem endSel_left {c : Chip} {s : Nat} {e : Sel} (hh : (c.hitch e.hitch).holder = masterSess s) (hq : (c.hitch e.hitch).queue = []) (a : Answer) :
    (((c.endSel s e).respond s a).sess s).sels = (c.sess s).sels.filter (· != e) ∧ (((c.endSel s e).respond s a).hitch e.hitch).holder = 0 ∧
    ((c.endSel s e).respond s a).fis = c.fis ∧ (((c.endSel s e).respond s a).sess s).answer = a.lines := by
  rw [endSel_free hh hq, respond_sels, respond_answer]
  refine ⟨?_, ?_, rfl, rfl⟩
  · exact congrArg Sess.sels (c.sess_modSess s (fun x => { x with sels := x.sels.filter (· != e) }))
  · exact Chip.hitch_modHitch_holder (c.modSess s (fun x => { x with sels := x.sels.filter (· != e) })) e.hitch (fun x => { x with holder := 0 })

theorem execute_line {s : State} {h : Hdr} {sel : Selector} {args : Args} {n : Nat} {p : Int} {e : Sel} (hp : args.get? "POINT" = some (.int p))
    (hb : (s.u.arrived h).pointBroken n p.toNat = false) (he : (s.u.arrived h).selOf h.sess n p.toNat = some e) (ht : (s.u.arrived h).clk.cycle < e.until?)
    (hh : ((s.u.arrived h).hitch e.hitch).holder = masterSess h.sess) (hq : ((s.u.arrived h).hitch e.hitch).queue = [])
    (hi : (executeDef h sel args).items = [n]) (ha : ((s.u.arrived h).fi n).st.active = true) :
    LineEffect (.executeFi h sel args) s h (executeDef h sel args) (fun c u =>
      (u.sess h.sess).sels = (c.sess h.sess).sels.filter (· != e) ∧ (u.hitch e.hitch).holder = 0 ∧ (u.sess h.sess).answer = [.ok]) := by
  have hact : (executeDef h sel args).act (s.u.arrived h) [n] = (_, .ok []) := eachItem_ok (f := fun c n => c.executeItem h.sess ((args.int? "POINT").getD 0) n) (by
    rw [args_int hp]
    exact executeItem_acts hb he ht ha)
  refine lineEffect_one rfl hi (fun _ => hact) (fun _ => ?_)
  clear hact hb he ht ha
  generalize s.u.arrived h = c at *
  have hk : c.SameHitches (c.pointValue p.toNat n e.value) := sameHitches_foldl (fun c q => sameHitches_deliverStanding c n _ 0 none) _ c
  have hhk := hk.hitch e.hitch
  obtain ⟨h1, h2, -, h4⟩ := endSel_left (c := (c.pointValue p.toNat n e.value).selectRecord h.sess e "EXECUTE") (s := h.sess) (e := e)
    ((congrArg Hitch.holder hhk).trans hh) ((congrArg Hitch.queue hhk).trans hq) (.ok [])
  rw [answered_ok]
  refine ⟨h1.trans ?_, h2, h4⟩
  exact congrArg (fun t : Trev => (t.sess.get Sess.init h.sess).sels.filter (· != e)) hk.trev

theorem cancel_line {s : State} {h : Hdr} {sel : Selector} {args : Args} {n : Nat} {p : Int} {e : Sel} (hp : args.get? "POINT" = some (.int p))
    (hb : (s.u.arrived h).pointBroken n p.toNat = false) (he : (s.u.arrived h).selOf h.sess n p.toNat = some e) (ht : (s.u.arrived h).clk.cycle < e.until?)
    (hh : ((s.u.arrived h).hitch e.hitch).holder = masterSess h.sess) (hq : ((s.u.arrived h).hitch e.hitch).queue = [])
    (hi : (cancelDef h sel args).items = [n]) :
    LineEffect (.cancelFi h sel args) s h (cancelDef h sel args) (fun c u =>
      (u.sess h.sess).sels = (c.sess h.sess).sels.filter (· != e) ∧ (u.hitch e.hitch).holder = 0 ∧ u.fis = c.fis ∧ (u.sess h.sess).answer = [.ok]) := by
  have hact : (cancelDef h sel args).act (s.u.arrived h) [n] = (_, .ok []) := eachItem_ok (f := fun c n => c.cancelItem h.sess ((args.int? "POINT").getD 0) n) (by
    rw [args_int hp]
    exact cancelItem_acts hb he ht)
  refine lineEffect_one rfl hi (fun _ => hact) (fun _ => ?_)
  clear hact hb he ht
  generalize s.u.arrived h = c at *
  rw [answered_ok]
  exact endSel_left (c := c.selectRecord h.sess e "CANCEL") hh hq (.ok [])

/-! ### Ports, hitches, the panel, trips -/

theorem Chip.port_modPort_ne (c : Chip) (n m : Nat) (g : PortCnt → PortCnt) (h : m ≠ n) : (c.modPort n g).port m = c.port m := by
  simp [Chip.port, Chip.modPort, Tbl.get_put_ne _ _ _ h]
theorem Chip.trip_modTrip_ne (c : Chip) (n m : Nat) (g : Trip → Trip) (h : m ≠ n) : (c.modTrip n g).trip m = c.trip m := by
  simp [Chip.trip, Chip.modTrip, Tbl.get_put_ne _ _ _ h]

theorem clearPort_line {s : State} {h : Hdr} {sel : Selector} {n : Nat} (hi : (clearPortDef h sel).items = [n]) :
    LineEffect (.clearPort h sel) s h (clearPortDef h sel) (fun c u => u.port n = PortCnt.init ∧ ∀ m, m ≠ n → u.port m = c.port m) := by
  refine lineEffect_one rfl hi (fun _ => rfl) (fun _ => ?_)
  generalize s.u.arrived h = c
  rw [answered_ok, List.foldl_cons, List.foldl_nil]
  have h1 := c.port_modPort n (fun _ => PortCnt.init)
  have h2 := fun m => c.port_modPort_ne n m (fun _ => PortCnt.init)
  split
  · exact ⟨h1, h2⟩
  · exact ⟨h1, h2⟩

/-- A hitch that a TAKE line names is one of the 256 and does not have the session queued. -/
theorem take_item {s : State} {h : Hdr} {sel : Selector} {args : Args} {n : Nat} (hi : (takeDef h sel args).items = [n]) (ht : LineTaken s h (takeDef h sel args)) :
    n < 256 ∧ ((s.u.arrived h).hitch n).holder ≠ masterSess h.sess ∧ ((s.u.arrived h).hitch n).queue.contains (masterSess h.sess) = false := by
  have hg := List.findSome?_eq_none_iff.1 ht.good
  have hcommon := hg ((s.u.arrived h).commonBad h.sess (takeDef h sel args).v (takeDef h sel args).sel) (by simp)
  have hstate := hg ((takeDef h sel args).state (s.u.arrived h) (takeDef h sel args).items) (by simp)
  rw [hi] at hstate
  have hlast := List.findSome?_eq_none_iff.1 hstate (must (!([n].any (fun n => ((s.u.arrived h).hitch n).holder == masterSess h.sess ||
    ((s.u.arrived h).hitch n).queue.contains (masterSess h.sess)))) "0407" []) (by simp)
  refine ⟨?_, ?_⟩
  · refine Selector.members_lt (sel := sel) (size := 256) (show n ∈ (takeDef h sel args).items by rw [hi]; exact List.mem_singleton.2 rfl) ?_
    have := List.findSome?_eq_none_iff.1 hcommon _ List.mem_cons_self
    cases ho : sel.outside 256 with
    | none => rfl
    | some i =>
      change (match sel.outside 256 with | some i => some ("0301", ([⟨"HITCH", .int i⟩] : Fields)) | none => none) = none at this
      rw [ho] at this
      cases this
  · unfold must at hlast
    split at hlast
    · rename_i hb
      simpa using hb
    · cases hlast

theorem takeNext_free {c : Chip} {s wait n : Nat} (hb : (c.hitch n).broken = false) (hh : (c.hitch n).holder = 0)
    (hq : (c.hitch n).queue.contains (masterSess s) = false) : c.takeNext s wait [n] [] =
      (c.modHitch n (fun x => { x with holder := masterSess s }), .ok [[fWord "HITCH", fNum n, fYes "HELD" true]]) := by
  unfold Chip.takeNext
  rw [if_neg (by simp [hb]), hitchWrite_free hh (masterSess_ne s) hq]
  exact if_pos (c.hitch_modHitch_holder n (fun x => { x with holder := masterSess s }))

theorem takeNext_held {c : Chip} {s w n : Nat} (hn : n < 256) (hb : (c.hitch n).broken = false) (hh : (c.hitch n).holder ≠ 0)
    (hm : (c.hitch n).holder ≠ masterSess s) (hq : (c.hitch n).queue = []) : c.takeNext s (w + 1) [n] [] =
      ((c.modHitch n (fun x => { x with queue := x.queue ++ [masterSess s] })).modSess s (fun x => { x with waiting := .take n (w + 1) (c.clk.cycle + (w + 1)) [] [] }),
        .wait) := by
  unfold Chip.takeNext
  rw [if_neg (by simp [hb]), hitchWrite_held hh hm (by rw [hq]; rfl) (by rw [hq]; decide) hn]
  dsimp only
  rw [if_neg (fun he => hm ((c.hitch_modHitch_holder n (fun x => { x with queue := x.queue ++ [masterSess s] })).symm.trans he)), if_neg (by omega)]
  rfl

theorem take_line (s : State) (h : Hdr) (sel : Selector) (args : Args) (n : Nat) (hi : (takeDef h sel args).items = [n])
    (hb : ((s.u.arrived h).hitch n).broken = false) :
    (((s.u.arrived h).hitch n).holder = 0 → LineEffect (.takeHitch h sel args) s h (takeDef h sel args) (fun _ u => (u.hitch n).holder = masterSess h.sess ∧
      (u.sess h.sess).answer = [.data [fWord "HITCH", fNum n, fYes "HELD" true], .ok])) ∧
    (∀ w, ((s.u.arrived h).hitch n).holder ≠ 0 → ((s.u.arrived h).hitch n).queue = [] → args.int? "WAIT" = some (w + 1) →
      LineEffect (.takeHitch h sel args) s h (takeDef h sel args) (fun c u => (u.hitch n).holder = (c.hitch n).holder ∧ (u.hitch n).queue = [masterSess h.sess] ∧
        (u.sess h.sess).waiting = .take n (w + 1) (c.clk.cycle + (w + 1)) [] [])) := by
  have hact : ∀ w, args.int? "WAIT" = some (w + 1) → (takeDef h sel args).act (s.u.arrived h) [n] = (s.u.arrived h).takeNext h.sess (w + 1) [n] [] := by
    intro w hw
    unfold takeDef
    dsimp only
    rw [hw]
    rfl
  refine ⟨fun hh => lineEffect_one rfl hi (fun ht => takeNext_free hb hh (take_item hi ht).2.2) (fun _ => ?_), fun w hh hq hw => lineEffect_one rfl hi
    (fun ht => (hact w hw).trans (takeNext_held (take_item hi ht).1 hb hh (take_item hi ht).2.1 hq)) (fun _ => ?_)⟩
  · clear hb hh hact
    generalize s.u.arrived h = c
    rw [answered_ok, respond_answer]
    exact ⟨c.hitch_modHitch_holder n (fun x => { x with holder := masterSess h.sess }), rfl⟩
  · clear hb hh hact
    generalize s.u.arrived h = c at *
    have h1 := c.hitch_modHitch_holder n (fun x => { x with queue := x.queue ++ [masterSess h.sess] })
    have h2 := c.hitch_modHitch_queue n (fun x => { x with queue := x.queue ++ [masterSess h.sess] })
    rw [hq] at h2
    refine ⟨h1, h2, (respond_waiting _ _ .wait).trans ?_⟩
    exact congrArg Sess.waiting (Chip.sess_modSess _ _ _)

/-- The records of the selections that a session held on a hitch. -/
def Chip.selsCancelled (c : Chip) (s n : Nat) : Chip :=
  ((c.sess s).sels.filter (fun e => e.hitch == n)).foldl (fun c e => c.selectRecord s e "CANCEL") c
/-- RELEASE of a hitch that nobody else waits for. -/
def Chip.released (c : Chip) (s n : Nat) : Chip :=
  ((c.selsCancelled s n).modSess s (fun x => { x with sels := x.sels.filter (fun e => e.hitch != n) })).modHitch n (fun x => { x with holder := 0 })

theorem cancels_kept (s : Nat) (l : List Sel) (c : Chip) : (l.foldl (fun c e => c.selectRecord s e "CANCEL") c).fab = c.fab ∧
    (l.foldl (fun c e => c.selectRecord s e "CANCEL") c).trev = c.trev :=
  ⟨foldl_keeps (fun c => c.fab) (g := fun (c : Chip) e => c.selectRecord s e "CANCEL") (fun _ _ => rfl) l c,
    foldl_keeps (fun c => c.trev) (g := fun (c : Chip) e => c.selectRecord s e "CANCEL") (fun _ _ => rfl) l c⟩

theorem release_act {c : Chip} {h : Hdr} {sel : Selector} {n : Nat} (hb : (c.hitch n).broken = false) (hh : (c.hitch n).holder = masterSess h.sess)
    (hq : (c.hitch n).queue = []) : (releaseDef h sel).act c [n] = (c.released h.sess n, .ok []) := by
  have hk := (cancels_kept h.sess ((c.sess h.sess).sels.filter (fun e => e.hitch == n)) c).1
  unfold releaseDef
  dsimp only
  refine eachItem_ok ?_
  rw [if_neg (by simp [hb]), if_neg (by simp [hh])]
  refine Prod.ext ?_ rfl
  unfold Chip.released Chip.selsCancelled
  dsimp only
  generalize ((c.sess h.sess).sels.filter (fun e => e.hitch == n)).foldl (fun c e => c.selectRecord h.sess e "CANCEL") c = d at *
  have hd : ((d.modSess h.sess (fun x => { x with sels := x.sels.filter (fun e => e.hitch != n) })).hitch n).queue = [] :=
    (congrArg Hitch.queue (Chip.hitch_congr (congrArg Fabric.hitches hk) (congrArg Fabric.brokenRegions hk) n)).trans hq
  unfold Chip.hitchPass
  rw [hd]

theorem release_line (s : State) (h : Hdr) (sel : Selector) (n : Nat) (hi : (releaseDef h sel).items = [n]) (hb : ((s.u.arrived h).hitch n).broken = false) :
    (((s.u.arrived h).hitch n).holder = masterSess h.sess → ((s.u.arrived h).hitch n).queue = [] →
      LineEffect (.releaseHitch h sel) s h (releaseDef h sel) (fun _ u =>
        (u.hitch n).holder = 0 ∧ (u.sess h.sess).answer = [.ok] ∧ ∀ e, e ∈ (u.sess h.sess).sels → e.hitch ≠ n)) ∧
    (((s.u.arrived h).hitch n).holder ≠ masterSess h.sess → LineEffect (.releaseHitch h sel) s h (releaseDef h sel) (fun c u =>
      u.fab = c.fab ∧ Raised c.coll u.coll 131 n ∧ (u.sess h.sess).answer = [.err "0401" []])) := by
  refine ⟨fun hh hq => lineEffect_one rfl hi (fun _ => release_act hb hh hq) (fun _ => ?_), fun hh => ?_⟩
  · clear hb hh hq
    generalize s.u.arrived h = c
    rw [answered_ok, respond_answer, respond_sels]
    refine ⟨?_, rfl, fun e he => ?_⟩
    · exact Chip.hitch_modHitch_holder _ n (fun x => { x with holder := 0 })
    · have hs : ((c.released h.sess n).sess h.sess).sels = _ := congrArg Sess.sels (Chip.sess_modSess (c.selsCancelled h.sess n) h.sess
        (fun x => { x with sels := x.sels.filter (fun e => e.hitch != n) }))
      rw [hs] at he
      simpa using (List.mem_filter.1 he).2
  · have hact : (releaseDef h sel).act (s.u.arrived h) [n] =
        ((s.u.arrived h).raise 131 n none [fNat "HITCH" n, fMaster "MASTER" (masterSess h.sess)], .err "0401" []) := by
      unfold releaseDef
      dsimp only
      refine eachItem_err ?_
      rw [if_neg (by simp [hb]), if_pos hh]
    refine lineEffect_one rfl hi (fun _ => hact) (fun _ => ?_)
    clear hact hb hh
    generalize s.u.arrived h = c
    exact ⟨rfl, raised_raise c 131 n none _, respond_answer _ _ _⟩

theorem writePanel_line {s : State} {h : Hdr} {args : Args} {r : Int} {t : List Char} (hr : args.get? "LINE" = some (.int r)) (ht : args.get? "TEXT" = some (.str t)) :
    LineEffect (.writePanel h args) s h (writePanelDef h args) (fun c u => u.line r.toNat = (t ++ List.replicate 40 ' ').take 40 ∧
      (∀ m, m ≠ r.toNat → u.line m = c.line m) ∧ u.panel.leds = c.panel.leds ∧
      Recorded c.cairn u.cairn 256 r.toNat [fNat "LINE" r.toNat, fNat "SESSION" h.sess]) := by
  have hstr : args.str? "TEXT" = some t := by unfold Args.str?; rw [ht]
  have hact : ∀ c : Chip, (writePanelDef h args).act c (writePanelDef h args).items =
      ((c.setLine r.toNat (padLine t)).record 256 r.toNat [fNat "LINE" r.toNat, fNat "SESSION" h.sess], .ok []) := by
    intro c
    unfold writePanelDef
    dsimp only
    rw [args_int hr, hstr]
    rfl
  refine lineEffect_ok _ _ rfl (fun _ => hact _) (fun _ => ?_)
  clear hact
  generalize s.u.arrived h = c
  have hrec := recorded_record (c.setLine r.toNat (padLine t)) 256 r.toNat [fNat "LINE" r.toNat, fNat "SESSION" h.sess]
  exact ⟨Tbl.get_put_same _ _ _ _, fun m hm => Tbl.get_put_ne _ _ _ hm, rfl, hrec⟩

theorem testStart_off {c : Chip} {pulse n : Nat} (hd : (c.trip n).drive = .off) (hl : (c.trip n).latched = false) :
    c.testStart pulse n = (((c.modTrip n (fun t => { t with testPulse := pulse, testEnd := c.clk.cycle + pulse })).modTrip n
      (fun t => { t with drive := .test, held := false, pulses := t.pulses + 1 })).tripRecord n true "TEST").testRecord n true .none := by
  unfold Chip.testStart
  rw [if_neg (by simp [hl]), if_neg (by simp [hd])]

theorem testTrip_act (h : Hdr) (sel : Selector) (args : Args) (c : Chip) (n : Nat) :
    (testTripDef h sel args).act c [n] = (c.testStart ((args.int? "PULSE").getD 100000000) n, .ok []) := rfl

theorem testStart_trip {c : Chip} {pulse n : Nat} (hd : (c.trip n).drive = .off) (hl : (c.trip n).latched = false) :
    (c.testStart pulse n).trip n = { c.trip n with testPulse := pulse, testEnd := c.clk.cycle + pulse, drive := .test, held := false, pulses := (c.trip n).pulses + 1 } ∧
    ∀ m, m ≠ n → (c.testStart pulse n).trip m = c.trip m := by
  have h1 := c.trip_modTrip n (fun t => { t with testPulse := pulse, testEnd := c.clk.cycle + pulse })
  have h2 := (c.modTrip n (fun t => { t with testPulse := pulse, testEnd := c.clk.cycle + pulse })).trip_modTrip n
    (fun t => { t with drive := .test, held := false, pulses := t.pulses + 1 })
  have h3 := fun m => c.trip_modTrip_ne n m (fun t => { t with testPulse := pulse, testEnd := c.clk.cycle + pulse })
  have h4 := fun m => (c.modTrip n (fun t => { t with testPulse := pulse, testEnd := c.clk.cycle + pulse })).trip_modTrip_ne n m
    (fun t => { t with drive := .test, held := false, pulses := t.pulses + 1 })
  rw [h1] at h2
  rw [testStart_off hd hl]
  exact ⟨h2, fun m hm => (h4 m hm).trans (h3 m hm)⟩

theorem testTrip_line {s : State} {h : Hdr} {sel : Selector} {args : Args} {n : Nat} (hi : (testTripDef h sel args).items = [n])
    (hd : ((s.u.arrived h).trip n).drive = .off) (hl : ((s.u.arrived h).trip n).latched = false) :
    LineEffect (.testTrip h sel args) s h (testTripDef h sel args) (fun c u => (u.trip n).drive = .test ∧
      (u.trip n).testEnd = c.clk.cycle + (args.int? "PULSE").getD 100000000 ∧ (u.trip n).pulses = (c.trip n).pulses + 1 ∧
      ∀ m, m ≠ n → u.trip m = c.trip m) := by
  refine lineEffect_one rfl hi (fun _ => testTrip_act h sel args _ n) (fun _ => ?_)
  generalize s.u.arrived h = c at *
  generalize (args.int? "PULSE").getD 100000000 = pulse
  obtain ⟨h1, h2⟩ := testStart_trip (pulse := pulse) hd hl
  rw [answered_ok]
  generalize c.testStart pulse n = d at *
  exact ⟨congrArg Trip.drive h1, congrArg Trip.testEnd h1, congrArg Trip.pulses h1, h2⟩

/-! ### Routing and faults -/

theorem faultOf_src {n : Nat} (hn : n < 1024) : faultOf (1024 + n) = some n := by
  unfold faultOf
  rw [if_pos ⟨by omega, by omega⟩, Nat.add_sub_cancel_left]

theorem notifyFault_line {s : State} {h : Hdr} {sel : Selector} {args : Args} {n : Nat} {b : Bool} (hi : (notifyFaultDef h sel args).items = [n]) (hn : n < 1024)
    (hb : args.on? "STATE" = some b) :
    LineEffect (.notifyFault h sel args) s h (notifyFaultDef h sel args) (fun c u => (u.sess h.sess).faults = (c.sess h.sess).faults.set n b ∧
      (u.sess h.sess).events = (c.sess h.sess).events ∧ u.cfg = c.cfg) := by
  have hact : ∀ c : Chip, (notifyFaultDef h sel args).act c [n] = (c.modSess h.sess (fun x => { x with faults := x.faults.set n b }), .ok []) := by
    intro c
    unfold notifyFaultDef Sess.route
    dsimp only [List.foldl_cons, List.foldl_nil]
    rw [faultOf_src hn, hb]
    rfl
  refine lineEffect_one rfl hi (fun _ => hact _) (fun _ => ?_)
  clear hact
  generalize s.u.arrived h = c
  rw [answered_ok, respond_faults, respond_events, Chip.sess_modSess]
  exact ⟨rfl, rfl, rfl⟩

theorem notifyEvent_line {s : State} {h : Hdr} {sel : Selector} {args : Args} {n : Nat} {b : Bool} (hi : (notifyEventDef h sel args).items = [n])
    (hn : faultOf n = none) (hb : args.on? "STATE" = some b) :
    LineEffect (.notifyEvent h sel args) s h (notifyEventDef h sel args) (fun c u =>
      (u.sess h.sess).events = if b then insNat (c.sess h.sess).events n else (c.sess h.sess).events.filter (· != n)) := by
  have hact : ∀ c : Chip, (notifyEventDef h sel args).act c [n] =
      (c.modSess h.sess (fun x => { x with events := if b then insNat x.events n else x.events.filter (· != n) }), .ok []) := by
    intro c
    unfold notifyEventDef Sess.route
    dsimp only [List.foldl_cons, List.foldl_nil]
    rw [hn, hb]
    rfl
  refine lineEffect_one rfl hi (fun _ => hact _) (fun _ => ?_)
  clear hact
  generalize s.u.arrived h = c
  rw [answered_ok, respond_events, Chip.sess_modSess]

/-- A fault source cleared. -/
def Chip.srcCleared (c : Chip) (n : Nat) : Chip := { c with coll := { c.coll with srcs := c.coll.srcs.set n { c.src n with count := 0, latched := false } } }

theorem clearItem_eq {c : Chip} {s n : Nat} {r : SrcRow} (hr : srcRow n = some r) : c.clearItem s n =
    (if 336 ≤ n ∧ n < 352 then (c.srcCleared n).modTrip (n - 336) (fun t => { t with latched := false }) else c.srcCleared n).record 276 n
      [fNat "SRC" n, fNat "SESSION" s] := by
  unfold Chip.clearItem reservedSrc
  rw [hr]
  rfl

theorem clearFault_line {s : State} {h : Hdr} {sel : Selector} {n : Nat} {r : SrcRow} (hi : (clearFaultDef h sel).items = [n]) (hr : srcRow n = some r) :
    LineEffect (.clearFault h sel) s h (clearFaultDef h sel) (fun c u =>
      (u.src n).count = 0 ∧ (u.src n).latched = false ∧ (∀ m, m ≠ n → u.src m = c.src m) ∧ (∀ k, n = 336 + k → k < 16 → (u.trip k).latched = false) ∧
      Recorded c.cairn u.cairn 276 n [fNat "SRC" n, fNat "SESSION" h.sess]) := by
  have hact : ∀ c : Chip, (clearFaultDef h sel).act c [n] = (c.clearItem h.sess n, .ok []) := fun _ => rfl
  refine lineEffect_one rfl hi (fun _ => (hact _).trans (by rw [clearItem_eq hr])) (fun _ => ?_)
  clear hact
  generalize s.u.arrived h = c
  rw [answered_ok]
  have h1 : (c.srcCleared n).src n = { c.src n with count := 0, latched := false } := Tbl.get_set_same _ _ _ _
  have h2 : ∀ m, m ≠ n → (c.srcCleared n).src m = c.src m := fun m hm => Tbl.get_set_ne _ _ _ hm
  split
  · have hrec := recorded_record ((c.srcCleared n).modTrip (n - 336) (fun t => { t with latched := false })) 276 n [fNat "SRC" n, fNat "SESSION" h.sess]
    refine ⟨congrArg SrcState.count h1, congrArg SrcState.latched h1, h2, fun k hk _ => ?_, hrec⟩
    have ht := (c.srcCleared n).trip_modTrip (n - 336) (fun t => { t with latched := false })
    rw [show n - 336 = k by omega] at ht
    rw [show n - 336 = k by omega]
    exact congrArg Trip.latched ht
  · rename_i hn
    have hrec := recorded_record (c.srcCleared n) 276 n [fNat "SRC" n, fNat "SESSION" h.sess]
    exact ⟨congrArg SrcState.count h1, congrArg SrcState.latched h1, h2, fun k hk hk' => absurd ⟨by omega, by omega⟩ hn, hrec⟩

/-- Settles O46: each line's action on its one item, and the answer it gets. -/
theorem actionLines : Obligations.ActionLines := by
  unfold Obligations.ActionLines
  refine ⟨fun s h sel n hi hr hs hl => arm_line hi hr hs hl, fun s h sel n => arm_noRoom, fun s h sel n => stop_line, fun s h sel n => clearPoison_line,
    fun s h sel n => clearCounts_line, fun s h sel args n p v x hi ha hv hx hb => select_line hi ha hv hx hb,
    fun s h sel args n p e hp hb he ht hh hq => ⟨execute_line hp hb he ht hh hq, cancel_line hp hb he ht hh hq⟩, fun s h sel n => clearPort_line,
    fun s h sel args n => take_line s h sel args n, fun s h sel n => release_line s h sel n, fun s h args r t => writePanel_line,
    fun s h sel args n => testTrip_line, fun s h sel args n b => notifyFault_line, ?_, fun s h sel n r => clearFault_line⟩
  refine fun s h sel args n hi hn => ⟨fun hb => ?_, fun hb => ?_⟩
  · intro ht
    obtain ⟨t, he, hm, hp, hu⟩ := notifyEvent_line hi hn hb ht
    exact ⟨t, he, hm, hp, by show n ∈ (t.u.sess h.sess).events; rw [hu]; exact mem_insNat.2 (.inl rfl)⟩
  · intro ht
    obtain ⟨t, he, hm, hp, hu⟩ := notifyEvent_line hi hn hb ht
    exact ⟨t, he, hm, hp, by show n ∉ (t.u.sess h.sess).events; rw [hu]; simp⟩

end Sys2Proof.Machine
end

section
/-!
PROOFS. Lines that act on the unit as a whole (R89, R90, R99, R106–R111, R119, R120, R138, R141, R489, R603–R607, R630–R636, R647, R787, R791–R794).
-/
namespace Sys2Proof.Machine

/-! ### Images and the life cycle -/

theorem wear_unit (c : Chip) (area sub : Nat) : (c.wear area sub).unit = c.unit := by
  unfold Chip.wear
  dsimp only
  split
  · rfl
  · split <;> rfl

theorem restart_line (s : State) (h : Hdr) (args : Args) : LineEffect (.restartUnit h args) s h (restartUnitDef h args) (fun c u =>
    u.unit.restart = some (if args.kw? "KIND" = some "COLD" then .cold else .warm) ∧ u.cfg = c.cfg ∧ u.fis = c.fis) := by
  refine lineEffect_ok [] _ rfl (fun _ => rfl) (fun _ => ?_)
  generalize s.u.arrived h = c
  refine ⟨?_, rfl, rfl⟩
  by_cases hk : args.kw? "KIND" = some "COLD"
  · rw [if_pos hk]
    exact congrArg some (if_pos (by rw [hk]; rfl))
  · rw [if_neg hk]
    exact congrArg some (if_neg (by simpa using hk))

/-- The banks that SWITCH IMAGE selects. -/
theorem switchImage_act (h : Hdr) (args : Args) (c : Chip) (l : List Nat) : ∃ u, (switchImageDef h args).act c l = (u, .ok []) ∧
    u.unit = { c.unit with nextW := if (args.kw? "KIND").getD "BOTH" = "STEWARD" then c.unit.nextW else args.kw? "BANK" == some "B", nextS := if (args.kw? "KIND").getD "BOTH" = "WARDEN" then c.unit.nextS else args.kw? "BANK" == some "B" } :=
  ⟨_, rfl, wear_unit _ 3 0⟩

theorem switchImage_line (s : State) (h : Hdr) (args : Args) : LineEffect (.switchImage h args) s h (switchImageDef h args) (fun c u =>
    (args.kw? "KIND" ≠ some "STEWARD" → u.unit.nextW = (args.kw? "BANK" == some "B")) ∧ (args.kw? "KIND" = some "STEWARD" → u.unit.nextW = c.unit.nextW) ∧
    (args.kw? "KIND" ≠ some "WARDEN" → u.unit.nextS = (args.kw? "BANK" == some "B")) ∧ (args.kw? "KIND" = some "WARDEN" → u.unit.nextS = c.unit.nextS) ∧
    u.unit.runW = c.unit.runW ∧ u.unit.runS = c.unit.runS) := by
  obtain ⟨u, ha, hu⟩ := switchImage_act h args (s.u.arrived h) (switchImageDef h args).items
  refine lineEffect_ok [] u rfl (fun _ => ha) (fun _ => ?_)
  clear ha
  generalize s.u.arrived h = c at *
  have hkind : ∀ k : String, k ≠ "BOTH" → ((args.kw? "KIND").getD "BOTH" = k ↔ args.kw? "KIND" = some k) := by
    intro k hk
    cases args.kw? "KIND" with
    | none => simpa using hk.symm
    | some v => simp
  have hS := hkind "STEWARD" (by decide)
  have hW := hkind "WARDEN" (by decide)
  rw [Chip.respond_unit, hu]
  exact ⟨fun hk => if_neg (fun he => hk (hS.1 he)), fun hk => if_pos (hS.2 hk), fun hk => if_neg (fun he => hk (hW.1 he)), fun hk => if_pos (hW.2 hk), rfl, rfl⟩

theorem acceptImage_line (s : State) (h : Hdr) : LineEffect (.acceptImageUntested h) s h (acceptImageDef h) (fun c u =>
    u.unit.accepted = (c.unit.accepted ++ c.untested).eraseDups.take 16 ∧ u.unit.camp = c.unit.camp ∧ u.cfg = c.cfg) := by
  refine lineEffect_ok [] _ rfl (fun _ => rfl) (fun _ => ?_)
  generalize s.u.arrived h = c
  have hu := foldl_keeps (g := Chip.pairRecord) (fun c => (c.unit, c.cfg)) (fun _ _ => rfl) c.untested
    (c.unit' (fun u => { u with accepted := (u.accepted ++ c.untested).eraseDups.take 16 }))
  have hw := (wear_unit (c.untested.foldl Chip.pairRecord (c.unit' (fun u => { u with accepted := (u.accepted ++ c.untested).eraseDups.take 16 }))) 3 0).trans
    (congrArg Prod.fst hu)
  have hc := (sameLife_wear (c.untested.foldl Chip.pairRecord (c.unit' (fun u => { u with accepted := (u.accepted ++ c.untested).eraseDups.take 16 }))) 3 0).cfg.trans
    (congrArg Prod.snd hu)
  have h1 := congrArg UnitSt.accepted hw
  have h2 := congrArg UnitSt.camp hw
  exact ⟨h1, h2, hc⟩

/-- The life state that MOVE LIFE writes, with its record. -/
def Chip.lifeWritten (c : Chip) (fr dest : Life) : Chip :=
  (c.record 249 0 [fSym "FROM" fr.name, fSym "TO" dest.name]).keys' (fun k =>
    { k with life := dest, toIssued := if fr = .field ∧ dest = .issued then k.toIssued + 1 else k.toIssued })

/-- What a transition destroys at once, and what it owes to the restart. -/
def Chip.lifeMoved (c : Chip) (fr dest : Life) : Chip :=
  ((((lifeRow fr dest).getD []).filter (fun s => s != "CONFIG" && s != "BANKS")).foldl Chip.lifeErase (c.lifeWritten fr dest)).keys' (fun k =>
    { k with owed := k.owed ++ ((lifeRow fr dest).getD []).filter (fun s => s == "CONFIG" || s == "BANKS") })

/-- A transition whose programming does not read back. -/
def Chip.lifeFailed (c : Chip) (fr dest : Life) : Chip :=
  ((c.lifeWritten fr dest).keys' (fun k => { k with owed := k.owed ++ (lifeRow fr dest).getD [], storeBad := true })).raise 259 0 none []

theorem moveLife_act {h : Hdr} {args : Args} {dest : String} (hd : args.kw? "TO" = some dest) (ok : Bool) (c : Chip) (l : List Nat) :
    (moveLifeDef h args ok).act c l = ((if ok then c.lifeMoved c.keys.life (lifeOf dest) else c.lifeFailed c.keys.life (lifeOf dest)).unit'
      (fun u => { u with restart := some .life }), .ok []) := by
  unfold moveLifeDef
  dsimp only
  rw [hd]
  rfl

theorem moveLife_moved {s : State} {h : Hdr} {args : Args} {dest : String} {P : Chip → Chip → Prop} (hd : args.kw? "TO" = some dest)
    (H : ∀ c : Chip, c.keys.life = (s.u.arrived h).keys.life →
      P c (((c.lifeMoved c.keys.life (lifeOf dest)).unit' (fun u => { u with restart := some .life })).respond h.sess (.ok []))) :
    LineEffect (.moveLife h args true) s h (moveLifeDef h args true) P :=
  lineEffect_ok [] _ rfl (fun _ => moveLife_act hd true _ _) (fun _ => H _ rfl)

theorem Life.in_service : ∀ {l : Life}, l ≠ .scrapped → l ≠ .return → l = .factory ∨ l = .issued ∨ l = .field
  | .factory, _, _ => .inl rfl
  | .issued, _, _ => .inr (.inl rfl)
  | .field, _, _ => .inr (.inr rfl)
  | .return, _, h => absurd rfl h
  | .scrapped, h, _ => absurd rfl h

theorem moveLife_line (s : State) (h : Hdr) (args : Args) (dest : String) (hd : args.kw? "TO" = some dest) : let fr := (s.u.arrived h).keys.life
    (fr = .factory → dest = "ISSUED" → LineEffect (.moveLife h args true) s h (moveLifeDef h args true) (fun c u =>
      u.keys.life = .issued ∧ u.keys.work = none ∧ u.keys.seals = c.keys.seals ∧ u.keys.slots = c.keys.slots ∧ u.unit.restart = some .life)) ∧
    (fr = .issued → dest = "FIELD" → LineEffect (.moveLife h args true) s h (moveLifeDef h args true) (fun c u =>
      u.keys.life = .field ∧ u.unit.accepted = [] ∧ u.keys.slots = c.keys.slots ∧ u.unit.restart = some .life)) ∧
    (fr = .field → dest = "ISSUED" → LineEffect (.moveLife h args true) s h (moveLifeDef h args true) (fun c u =>
      u.keys.life = .issued ∧ u.keys.slots = [] ∧ u.keys.kek = none ∧ u.keys.work = none ∧ u.keys.toIssued = c.keys.toIssued + 1 ∧ u.unit.restart = some .life)) ∧
    (fr ≠ .scrapped → fr ≠ .return → dest = "RETURN" → LineEffect (.moveLife h args true) s h (moveLifeDef h args true) (fun _ u =>
      u.keys.life = .return ∧ u.keys.slots = [] ∧ u.keys.kek = none ∧ u.keys.work = none ∧ "CONFIG" ∈ u.keys.owed ∧ u.unit.restart = some .life)) ∧
    (fr = .return → dest = "SCRAPPED" → LineEffect (.moveLife h args true) s h (moveLifeDef h args true) (fun _ u =>
      u.keys.life = .scrapped ∧ u.keys.kdev = none ∧ u.keys.ktr = none ∧ "BANKS" ∈ u.keys.owed ∧ u.unit.restart = some .life)) ∧
    LineEffect (.moveLife h args false) s h (moveLifeDef h args false) (fun c u =>
      u.keys.storeBad = true ∧ Raised c.coll u.coll 259 0 ∧ u.unit.restart = some .life) := by
  have hlast : ∀ (l : List String) (x : String), x ∈ l ++ [x] := fun l x => List.mem_append_right l (List.mem_singleton.2 rfl)
  refine ⟨fun hf hdest => ?_, fun hf hdest => ?_, fun hf hdest => ?_, fun h1 h2 hdest => ?_, fun hf hdest => ?_, ?_⟩
  · subst hdest
    refine moveLife_moved hd (fun c hc => ?_)
    rw [hc, hf]
    exact ⟨rfl, rfl, rfl, rfl, rfl⟩
  · subst hdest
    refine moveLife_moved hd (fun c hc => ?_)
    rw [hc, hf]
    exact ⟨rfl, rfl, rfl, rfl⟩
  · subst hdest
    refine moveLife_moved hd (fun c hc => ?_)
    rw [hc, hf]
    exact ⟨rfl, rfl, rfl, rfl, rfl, rfl⟩
  · subst hdest
    refine moveLife_moved hd (fun c hc => ?_)
    rw [hc]
    obtain hf | hf | hf := Life.in_service h1 h2
    all_goals
      rw [hf]
      exact ⟨rfl, rfl, rfl, rfl, hlast _ _, rfl⟩
  · subst hdest
    refine moveLife_moved hd (fun c hc => ?_)
    rw [hc, hf]
    exact ⟨rfl, rfl, rfl, hlast _ _, rfl⟩
  · refine lineEffect_ok [] _ rfl (fun _ => moveLife_act hd false _ _) (fun _ => ?_)
    generalize s.u.arrived h = c
    exact ⟨rfl, raised_raise c 259 0 none [], rfl⟩

/-! ### Registers -/

/-- What a write makes of a register's kind (R787, R789, R792–R794). -/
def Chip.regWritten (c : Chip) (a v : Nat) (ack : Bool) : RegKind → Chip × Answer
  | .rw => (if a = 0x1C then c.unit' (fun u => { u with regs := { u.regs with scratch := v } })
      else c.links' (fun l => { l with linkDly := l.linkDly.put 0 ((a - 0x400000) / 256) v }), .ok [])
  | .cp1 => (c.unit' (fun u => { u with latches := u.latches.set 0 v }), .ok [])
  | .cp2 => (c.inject (c.unit.latches.get 0 0) v, .ok [])
  | .wa => if ack then (c.modCage (cageOf a) (fun x => { x with written := x.written.set (v / 256 % 256) (v % 256) }), .ok [])
      else (c.advance 5000000, .err "0902" [])
  | _ => (c, .ok [])

theorem writeReg_act (h : Hdr) {a : Nat} (v : Nat) (ack : Bool) {c : Chip} {r : RegCell} (hr : c.reg a = some r) (hd : r.dom = none) (l : List Nat) :
    (writeRegDef h (regArgs a v) ack).act c l = c.regWritten a v ack r.kind := by
  have ha : (regArgs a v).int? "ADDR" = some a := rfl
  have hv : (regArgs a v).int? "VALUE" = some v := rfl
  unfold writeRegDef
  dsimp only
  rw [ha, hv]
  dsimp only [Option.getD_some]
  rw [hr]
  dsimp only
  rw [hd, if_neg Bool.false_ne_true]
  unfold Chip.regWritten
  cases r.kind <;> rfl

theorem writeScratch_line (s : State) (h : Hdr) (v : Nat) (ack : Bool) :
    LineEffect (.writeReg h [⟨"ADDR", .hex 0x1C⟩, ⟨"VALUE", .hex v⟩] ack) s h (writeRegDef h [⟨"ADDR", .hex 0x1C⟩, ⟨"VALUE", .hex v⟩] ack) (fun c u =>
      u.unit.regs.scratch = v ∧ (u.sess h.sess).answer = [.ok] ∧ u.links = c.links ∧ u.cfg = c.cfg) := by
  refine lineEffect_ok [] _ rfl (fun _ => writeReg_act h v ack (a := 0x1C) rfl rfl _) (fun _ => ?_)
  generalize s.u.arrived h = c
  exact ⟨rfl, respond_answer _ _ _, rfl, rfl⟩

theorem writeSel_line (s : State) (h : Hdr) (v : BitVec 32) : LineEffect (.faultInjSelWrite h v) s h (writeSelDef h v.toNat) (fun c u =>
    u.unit.latches.find 0 = some v.toNat ∧ u.coll = c.coll ∧ (u.sess h.sess).answer = [.ok]) := by
  refine lineEffect_ok [] _ rfl (fun _ => writeReg_act h v.toNat true (a := 0xA02000) rfl rfl _) (fun _ => ?_)
  generalize s.u.arrived h = c
  exact ⟨Tbl.find_set_same _ _ _, rfl, respond_answer _ _ _⟩

theorem Tbl.find_put_ne {α : Type} [DecidableEq α] (d x : α) (t : Tbl α) {n m : Nat} (h : m ≠ n) : (t.put d n x).find m = t.find m := by
  unfold Tbl.put
  split
  · exact Tbl.find_del_ne t h
  · exact Tbl.find_set_ne x t h

theorem Tbl.get_of_find {α : Type} {d x : α} {t : Tbl α} {n : Nat} (h : t.find n = some x) : t.get d n = x := by
  induction t with
  | nil => cases h
  | cons e t ih =>
    obtain ⟨k, v⟩ := e
    unfold Tbl.find at h
    unfold Tbl.get
    split at h
    · rename_i hk
      rw [if_pos hk]
      exact Option.some.inj h
    · rename_i hk
      rw [if_neg hk]
      exact ih h

/-- A completed pair raises the fault that its selection names, one cycle later. -/
theorem inject_effect (c : Chip) (sel tag : Nat) : Raised c.coll (c.inject sel tag).coll (sel % 1024) (sel / 65536 % 1024) ∧
    (c.inject sel tag).unit.latches = (c.unit.latches.del 0).put 0 3 sel ∧ (c.inject sel tag).clk.cycle = c.clk.cycle + 1 := by
  have h1 := Chip.advance_coll (c.unit' (fun u => { u with latches := (u.latches.del 0).put 0 3 sel })) 1
  have h2 := Chip.advance_unit (c.unit' (fun u => { u with latches := (u.latches.del 0).put 0 3 sel })) 1
  have h3 := Chip.advance_cycle (c.unit' (fun u => { u with latches := (u.latches.del 0).put 0 3 sel })) 1
  unfold Chip.inject
  dsimp only
  generalize (c.unit' (fun u => { u with latches := (u.latches.del 0).put 0 3 sel })).advance 1 = d at *
  rw [show c.coll = d.coll from h1.symm]
  exact ⟨raised_raise d _ _ _ _, congrArg UnitSt.latches h2, h3⟩

theorem writeGo_line {s : State} {h : Hdr} {v : BitVec 32} {sel : Nat} (hs : (s.u.arrived h).unit.latches.find 0 = some sel) :
    LineEffect (.faultInjGoWrite h v) s h (writeGoDef h v.toNat) (fun c u =>
      Raised c.coll u.coll (sel % 1024) (sel / 65536 % 1024) ∧ u.unit.latches.find 0 = none ∧ u.unit.latches.get 0 3 = sel ∧
      u.clk.cycle = c.clk.cycle + 1) := by
  refine lineEffect_ok [] _ rfl (fun _ => writeReg_act h v.toNat true (a := 0xA02004) rfl rfl _) (fun _ => ?_)
  generalize s.u.arrived h = c at *
  obtain ⟨h1, h2, h3⟩ := inject_effect c sel v.toNat
  have hg : (c.unit.latches.get 0 0) = sel := Tbl.get_of_find hs
  rw [hg]
  generalize c.inject sel v.toNat = d at *
  refine ⟨h1, ?_, ?_, h3⟩
  · rw [Chip.respond_unit, h2, Tbl.find_put_ne _ _ _ (by decide), Tbl.find_del_same]
  · rw [Chip.respond_unit, h2, Tbl.get_put_same]

/-- A cage's write register. -/
theorem reg_cageWrite (c : Chip) (q : Fin 4) : c.reg (0x40E400 + 4 * q.val) = some { kind := .wa, bits := 65535, val := 0 } := by
  have hq := q.isLt
  unfold Chip.reg
  dsimp only
  have hd : (0x40E400 + 4 * q.val) / 0x10000 = 0x40 := by omega
  rw [hd, if_neg (by decide), if_neg (by decide), if_neg (by omega), if_neg (by decide), if_neg (by decide), if_neg (by decide), if_pos rfl, if_neg (by omega),
    if_neg (by omega), if_pos (by omega)]
  unfold Chip.regCage
  rw [if_neg (by omega), if_pos (by omega)]

theorem cageOf_write (q : Fin 4) : cageOf (0x40E400 + 4 * q.val) = q.val := by
  unfold cageOf
  dsimp only
  rw [if_neg (by omega)]
  omega

/-- A 09xx answer: COMMAND-HARDWARE is raised, and the session gets its response. -/
theorem answered_hardware (c : Chip) (h : Hdr) {code : String} (hc : codeStep code = 9) : Raised c.coll (c.answered h (.err code [])).coll 421 h.sess ∧
    ((c.answered h (.err code [])).sess h.sess).answer = [.err code []] ∧ (c.answered h (.err code [])).links = c.links ∧
    (c.answered h (.err code [])).clk = c.clk ∧ (c.answered h (.err code [])).rep = c.rep ∧ (c.answered h (.err code [])).keys = c.keys := by
  have he : c.answered h (.err code []) = (c.raise 421 h.sess none [fSym "CODE" code]).respond h.sess (.err code []) := by
    unfold Chip.answered Chip.hardwareFault
    dsimp only
    rw [if_pos hc, if_neg (by simp)]
  rw [he]
  exact ⟨raised_raise c 421 h.sess none _, respond_answer _ _ _, rfl, rfl, rfl, rfl⟩

theorem writeCage_line (s : State) (h : Hdr) (cage : Fin 4) (v : BitVec 32) :
    LineEffect (.portCageWrWrite h cage v true) s h (writeCageDef h cage v.toNat true) (fun _ u =>
      (u.cage cage).written.find (v.toNat / 256 % 256) = some (v.toNat % 256) ∧ (u.sess h.sess).answer = [.ok]) ∧
    LineEffect (.portCageWrWrite h cage v false) s h (writeCageDef h cage v.toNat false) (fun c u =>
      u.links = c.links ∧ u.clk.cycle = c.clk.cycle + 5000000 ∧ Raised c.coll u.coll 421 h.sess ∧ (u.sess h.sess).answer = [.err "0902" []]) := by
  refine ⟨lineEffect_ok [] _ rfl (fun _ => writeReg_act h v.toNat true (reg_cageWrite _ cage) rfl _) (fun _ => ?_), lineEffect_of rfl (fun _ => ?_)⟩
  · generalize s.u.arrived h = c
    rw [cageOf_write, respond_answer]
    have hc := c.cage_modCage cage (fun x => { x with written := x.written.set (v.toNat / 256 % 256) (v.toNat % 256) })
    refine ⟨?_, rfl⟩
    refine (congrArg (fun x : Cage => x.written.find (v.toNat / 256 % 256)) hc).trans ?_
    exact Tbl.find_set_same _ _ _
  · have hact : (writeCageDef h cage v.toNat false).act (s.u.arrived h) (writeCageDef h cage v.toNat false).items = ((s.u.arrived h).advance 5000000, .err "0902" []) :=
      writeReg_act h v.toNat false (reg_cageWrite _ cage) rfl _
    rw [hact]
    generalize s.u.arrived h = c
    obtain ⟨h1, h2, h3, h4, -, -⟩ := answered_hardware (c.advance 5000000) h (code := "0902") rfl
    dsimp only
    rw [h2, h3, h4, Chip.advance_links, Chip.advance_cycle]
    rw [Chip.advance_coll] at h1
    exact ⟨rfl, rfl, h1, rfl⟩

/-! ### Tiles and the traverse -/

theorem tileRep_modTileRep (c : Chip) (t : Nat) (g : TileRep → TileRep) : (c.modTileRep t g).tileRep t = g (c.tileRep t) := Tbl.get_put_same _ _ _ _

/-- The engine's test of a tile, 23 ms from its start, before its outcome is written. -/
def Chip.tileRun (c : Chip) (t : Nat) : Chip := (c.modTileRep t (fun x => { x with st := .testing })).advance 23000000

theorem tileTested_passed (c : Chip) (t rows : Nat) (cause : SpliceCause) : ((c.tileTested t (some rows) cause).tileRep t).st = .spare ∧
    ((c.tileTested t (some rows) cause).tileRep t).passed = true ∧ (c.tileTested t (some rows) cause).clk = c.clk ∧
    t ∉ (c.tileTested t (some rows) cause).fab.marks := by
  have h := tileRep_modTileRep c t (fun y => { y with last := some c.now, passed := true, st := .spare })
  refine ⟨congrArg TileRep.st h, congrArg TileRep.passed h, rfl, fun hm => ?_⟩
  have hm : t ∈ c.fab.marks.filter (· != t) := hm
  simpa using (List.mem_filter.1 hm).2

theorem testTile_act {c : Chip} {h : Hdr} {sel : Selector} {n rows : Nat} (hd : c.domOn (clusterOf n) = true) :
    (testTileDef h sel (some rows)).act c [n] = ((c.tileRun n).tileTested n (some rows) .traverse, .ok []) := by
  unfold testTileDef
  dsimp only
  refine eachItem_ok ?_
  rw [if_neg (by simp [hd])]
  rfl

theorem testTile_off {c : Chip} {h : Hdr} {sel : Selector} {n : Nat} (r : Option Nat) (hd : c.domOn (clusterOf n) = false) :
    (testTileDef h sel r).act c [n] = (c, .err "0901" []) := by
  unfold testTileDef
  dsimp only
  refine eachItem_err ?_
  rw [if_pos (by simp [hd])]

theorem testTile_line (s : State) (h : Hdr) (sel : Selector) (n : Nat) (hi : (testTileDef h sel none).items = [n]) :
    ((s.u.arrived h).domOn (clusterOf n) = true → ∀ rows, LineEffect (.testTile h sel (some rows)) s h (testTileDef h sel (some rows)) (fun c u =>
      (u.tileRep n).st = .spare ∧ (u.tileRep n).passed = true ∧ u.clk.cycle = c.clk.cycle + 23000000 ∧ n ∉ u.fab.marks ∧
      (u.sess h.sess).answer = [.ok])) ∧
    ((s.u.arrived h).domOn (clusterOf n) = false → ∀ r, LineEffect (.testTile h sel r) s h (testTileDef h sel r) (fun c u =>
      u.rep = c.rep ∧ Raised c.coll u.coll 421 h.sess ∧ (u.sess h.sess).answer = [.err "0901" []])) := by
  refine ⟨fun hd rows => lineEffect_one rfl hi (fun _ => testTile_act hd) (fun _ => ?_), fun hd r => lineEffect_one rfl hi (fun _ => testTile_off r hd) (fun _ => ?_)⟩
  · clear hd
    generalize s.u.arrived h = c
    obtain ⟨h1, h2, h3, h4⟩ := tileTested_passed (c.tileRun n) n rows .traverse
    have hc : (c.tileRun n).clk.cycle = c.clk.cycle + 23000000 := Chip.advance_cycle (c.modTileRep n (fun x => { x with st := .testing })) 23000000
    rw [answered_ok, respond_answer, Chip.respond_clk, h3, hc]
    exact ⟨h1, h2, rfl, h4, rfl⟩
  · clear hd
    generalize s.u.arrived h = c
    obtain ⟨h1, h2, -, -, h5, -⟩ := answered_hardware c h (code := "0901") rfl
    exact ⟨h5, h1, h2⟩

/-- A request that a domain rises leaves the traverse and the sessions as they were. -/
theorem domRequest_rep (c : Chip) (n : Nat) (cause : String) : (c.domRequest n true cause).rep = c.rep := by
  have hl : ∀ v, (c.domLatch n v).rep = c.rep := by
    intro v
    unfold Chip.domLatch
    split <;> rfl
  unfold Chip.domRequest Chip.domRising
  dsimp only
  split
  · rfl
  · split
    · split
      · exact hl none
      · exact hl _
    · rename_i h
      cases h
    · exact hl _
    · exact hl _
    · exact hl _
    · exact hl _
    · exact hl _
    · exact hl _

/-- A step of the traverse on a tile that holds nothing begins with its test. -/
def Chip.stepTests (c : Chip) (cl t : Nat) (scheduled : Bool) : Chip :=
  ((c.record 200 cl [fNat "CLUSTER" cl, fNat "TILE" t, fOpt "TO" none]).modTileRep t (fun x => { x with st := .testing })).setStep cl
    { cand := t, target := none, phase := .test, since := c.clk.cycle, copied := 0, lastSwitch := 0, slots := [], scheduled := scheduled, accused := none }

theorem stepStart_empty {c : Chip} {cl t : Nat} {b : Bool} (ht : c.candidateTile cl = some t) (hs : c.slotsOn t = []) :
    c.stepStart cl b = (c.stepTests cl t b).domRequest 23 true "TRAVERSE" := by
  unfold Chip.stepStart
  rw [ht]
  dsimp only
  rw [hs]
  rfl

theorem startRepair_line (s : State) (h : Hdr) (args : Args) (cl : Int) (t : Nat) (ha : args.get? "CLUSTER" = some (.int cl))
    (hd : (s.u.arrived h).domOn cl.toNat = true) (ht : (s.u.arrived h).candidateTile cl.toNat = some t) (hs : (s.u.arrived h).slotsOn t = []) :
    LineEffect (.startRepair h args) s h (startRepairDef h args) (fun _ u => (u.tileRep t).st = .testing ∧ (u.sess h.sess).answer = [.ok] ∧
      ∃ x, u.step' cl.toNat = some x ∧ x.cand = t ∧ x.phase = .test ∧ x.scheduled = false) := by
  have hact : (startRepairDef h args).act (s.u.arrived h) (startRepairDef h args).items =
      (((s.u.arrived h).stepTests cl.toNat t false).domRequest 23 true "TRAVERSE", .ok []) := by
    unfold startRepairDef
    dsimp only
    rw [args_int ha]
    dsimp only [Option.getD_some]
    rw [if_neg (by simp [hd]), stepStart_empty ht hs]
  refine lineEffect_ok [] _ rfl (fun _ => hact) (fun _ => ?_)
  clear hact hd ht hs
  generalize s.u.arrived h = c
  have hr := domRequest_rep (c.stepTests cl.toNat t false) 23 "TRAVERSE"
  have h1 : (c.stepTests cl.toNat t false).tileRep t = _ := tileRep_modTileRep (c.record 200 cl.toNat [fNat "CLUSTER" cl.toNat, fNat "TILE" t, fOpt "TO" none]) t
    (fun x => { x with st := .testing })
  have h2 : (c.stepTests cl.toNat t false).step' cl.toNat = _ := Tbl.find_set_same _ _ _
  refine ⟨?_, respond_answer _ _ _, ?_⟩
  · refine (congrArg (fun r : Repair => (r.tiles.get (TileRep.initOf t) t).st) hr).trans ?_
    exact congrArg TileRep.st h1
  · exact ⟨_, (congrArg (fun r : Repair => r.steps.find cl.toNat) hr).trans h2, rfl, rfl, rfl⟩

/-! ### Time and keys -/

theorem disciplined_clk (c : Chip) : c.disciplined.clk =
    { c.clk with lastAdjCycle := some c.clk.cycle, lastAdj := some c.now, refHold := false, disc := .disciplined } := by
  unfold Chip.disciplined Chip.setDisc
  dsimp only
  split
  · rename_i h
    rw [← h]
  · rfl

theorem adjustTime_line (s : State) (h : Hdr) (args : Args) : LineEffect (.adjustTime h args) s h (adjustTimeDef h args) (fun c u =>
    let a : Adjust := { rate := args.signed? "RATE", jump := jumpOf args, at? := args.time? "AT" }
    (args.time? "AT" ≠ none → u.clk.pendingAdj = some a ∧ u.clk.dueNext = c.clk.dueNext) ∧
    (args.time? "AT" = none → u.clk.dueNext = c.clk.dueNext ++ [a] ∧ u.clk.pendingAdj = c.clk.pendingAdj) ∧
    u.clk.anchor = c.clk.anchor ∧ u.clk.disc = .disciplined ∧ u.clk.lastAdjCycle = some c.clk.cycle) := by
  refine lineEffect_ok [] _ rfl (fun _ => rfl) (fun _ => ?_)
  generalize s.u.arrived h = c
  dsimp only
  rw [Chip.respond_clk, disciplined_clk]
  cases args.time? "AT" with
  | none => exact ⟨fun h => absurd rfl h, fun _ => ⟨rfl, rfl⟩, rfl, rfl, rfl⟩
  | some t => exact ⟨fun _ => ⟨rfl, rfl⟩, fun h => absurd h (by simp), rfl, rfl, rfl⟩

def Chip.slotPut (c : Chip) (n : Nat) (x : Slot) : Chip := c.keys' (fun k => { k with slots := k.slots.put Slot.init n x })

theorem slot_slotPut (c : Chip) (n : Nat) (x : Slot) : (c.slotPut n x).slot n = x := Tbl.get_put_same Slot.init x c.keys.slots n
theorem slot_slotPut_ne (c : Chip) {n m : Nat} (x : Slot) (h : m ≠ n) : (c.slotPut n x).slot m = c.slot m := Tbl.get_put_ne Slot.init x c.keys.slots h

/-- A slot revoked, with its record. -/
def Chip.slotRevoked (c : Chip) (n : Nat) : Chip :=
  (c.slotPut n { c.slot n with st := .revoked, revokedAt := some c.now }).record 251 n [fNat "SLOT" n]

theorem revoke_act (h : Hdr) (sel : Selector) (c : Chip) (n : Nat) : (revokeKeyDef h sel true).act c [n] =
    (if (c.slotRevoked n).keys.work = some n ∧ (c.slotRevoked n).keys.cur.isNone then (c.slotRevoked n).zeroize true else c.slotRevoked n, .ok []) := rfl

theorem revoke_line (s : State) (h : Hdr) (sel : Selector) (n : Nat) (hi : (revokeKeyDef h sel true).items = [n]) :
    LineEffect (.revokeKeyslot h sel true) s h (revokeKeyDef h sel true) (fun c u =>
      (u.slot n).st = .revoked ∧ (∀ m, m ≠ n → u.slot m = c.slot m) ∧ (c.keys.work = some n → c.keys.cur = none → u.keys.work = none) ∧
      Recorded c.cairn u.cairn 251 n [fNat "SLOT" n]) ∧
    LineEffect (.revokeKeyslot h sel false) s h (revokeKeyDef h sel false) (fun c u =>
      u.keys = c.keys ∧ Raised c.coll u.coll 421 h.sess ∧ (u.sess h.sess).answer = [.err "0903" []]) := by
  refine ⟨lineEffect_one rfl hi (fun _ => revoke_act h sel _ n) (fun _ => ?_), lineEffect_of rfl (fun _ => ?_)⟩
  · generalize s.u.arrived h = c
    rw [answered_ok]
    have h1 : (c.slotRevoked n).slot n = { c.slot n with st := .revoked, revokedAt := some c.now } := slot_slotPut c n _
    have h2 : ∀ m, m ≠ n → (c.slotRevoked n).slot m = c.slot m := fun m hm => slot_slotPut_ne c _ hm
    have hrec : Recorded c.cairn (c.slotRevoked n).cairn 251 n [fNat "SLOT" n] := recorded_record
      (c.slotPut n { c.slot n with st := .revoked, revokedAt := some c.now }) 251 n [fNat "SLOT" n]
    split
    · exact ⟨congrArg Slot.st h1, h2, fun _ _ => rfl, hrec⟩
    · rename_i hw
      exact ⟨congrArg Slot.st h1, h2, fun hk hc => absurd ⟨hk, by rw [show (c.slotRevoked n).keys.cur = none from hc]; rfl⟩ hw, hrec⟩
  · have hact : (revokeKeyDef h sel false).act (s.u.arrived h) (revokeKeyDef h sel false).items = (s.u.arrived h, .err "0903" []) := rfl
    rw [hact]
    generalize s.u.arrived h = c
    obtain ⟨h1, h2, -, -, -, h6⟩ := answered_hardware c h (code := "0903") rfl
    exact ⟨h6, h1, h2⟩

/-- A reserved verb is refused before any other check but its form. -/
theorem reserved_line (s : State) (h : Hdr) (hr : LineReaches s h (reservedDef h)) :
    CompletesChip (.reservedVerb h) s (fun u => u = (s.u.arrived h).respond h.sess (.err "010D" [])) := by
  have hb : (reservedDef h).bad h (s.u.arrived h) = some ("010D", []) := rfl
  exact ⟨_, exec_refused rfl hr hb, rfl, rfl, rfl⟩

/-- Settles O47: each line's action, its answer, and the outcomes of the hardware that its operand names. -/
theorem unitLines : Obligations.UnitLines := by
  unfold Obligations.UnitLines
  exact ⟨restart_line, switchImage_line, acceptImage_line, moveLife_line, writeScratch_line, writeSel_line, fun s h v sel => writeGo_line, writeCage_line,
    testTile_line, startRepair_line, adjustTime_line, revoke_line, reserved_line⟩

end Sys2Proof.Machine
end

section
/-!
PROOFS. What waits for its time: a select window, an ADJUST with AT, a TAKE HITCH, a test pulse (R123, R145, R147, R604, R606, R692).
-/
namespace Sys2Proof.Machine

/-- The window of a selection whose hitch nobody else waits for has ended. -/
theorem selectExpiry_eq {c : Chip} {n fi p : Nat} {e : Sel} (he : c.selOf n fi p = some e) : c.selectExpiry n fi p = (c.advanceTo e.until?).expireSel n e := by
  unfold Chip.selectExpiry
  rw [he]

theorem selectExpiry_line {s : State} {n : Fin 16} {fi : Fin 1024} {p : Fin 256} {e : Sel} (hp : s.u.sup.powered = true) (he : s.u.selOf n fi p = some e)
    (hh : (s.u.hitch e.hitch).holder = masterSess n) (hq : (s.u.hitch e.hitch).queue = []) :
    CompletesChip (.selectExpiry n fi p) s (fun u => (u.sess n).sels = (s.u.sess n).sels.filter (· != e) ∧ (u.hitch e.hitch).holder = 0 ∧
      u.clk.cycle = max s.u.clk.cycle e.until? ∧ u.fis = s.u.fis ∧
      Recorded (s.u.advanceTo e.until?).cairn u.cairn 0x0A4 e.hitch [fNat "HITCH" e.hitch, fMaster "MASTER" (masterSess n), fSym "CAUSE" "EXPIRY"]) := by
  refine completes_onChip (exec_selectExpiry s n fi p) hp ?_
  rw [selectExpiry_eq he]
  have hs := s.u.sess_advanceTo e.until? n
  have hcyc := s.u.advanceTo_cycle e.until?
  have hfis := s.u.advanceTo_fis e.until?
  have hhit := s.u.hitch_advanceTo e.until? e.hitch
  generalize s.u.advanceTo e.until? = c at *
  rw [← hhit] at hh hq
  unfold Chip.expireSel
  rw [endSel_free (c := c.hitchEvent n e.hitch "EXPIRY") hh hq, ← hs, ← hcyc, ← hfis]
  have hrec := recorded_record c 164 e.hitch [fNat "HITCH" e.hitch, fMaster "MASTER" (masterSess n), fSym "CAUSE" "EXPIRY"]
  refine ⟨?_, ?_, rfl, rfl, hrec⟩
  · exact congrArg Sess.sels ((c.hitchEvent n e.hitch "EXPIRY").sess_modSess n (fun x => { x with sels := x.sels.filter (· != e) }))
  · exact Chip.hitch_modHitch_holder ((c.hitchEvent n e.hitch "EXPIRY").modSess n (fun x => { x with sels := x.sels.filter (· != e) })) e.hitch (fun x => { x with holder := 0 })

/-! ### ADJUST -/

/-- The unit with a rate set, and the record of a rate out of its range. -/
def Chip.rateSet (c : Chip) (total : Int) : Chip :=
  let c1 := { c with clk := c.clk.setAnchor { c.clk.anchor with rate := clampRate total } }
  if clampRate total = total then c1 else c1.record 140 0 [fSym "CAUSE" "RANGE"]

theorem Chip.rateSet_clk (c : Chip) (total : Int) : (c.rateSet total).clk = c.clk.setAnchor { c.clk.anchor with rate := clampRate total } := by
  unfold Chip.rateSet
  dsimp only
  split
  · rfl
  · rfl

/-- The unit with the anchor stepped, and the record of the step. -/
def Chip.steppedTo (c : Chip) (b : Anchor) : Chip :=
  ({ c with clk := { c.clk.setAnchor b with lastStep := some c.clk.cycle } }).record 140 1 [fSym "CAUSE" "STEP", fTime "FROM" (c.clk.anchor.sec, c.clk.anchor.ns), fTime "TO" (b.sec, b.ns)]

/-- The rate that an ADJUST asks for. -/
def Adjust.total (a : Adjust) (a0 : Anchor) : Int := a0.rate + a.rate.getD 0

theorem applyAdjust_set_eq {c : Chip} {a : Adjust} {sec ns : Nat} (hj : a.jump = some (.set sec ns)) (hs : sec < 281474976710656) : c.applyAdjust a =
    (c.rateSet (a.total c.clk.anchor)).steppedTo { (c.rateSet (a.total c.clk.anchor)).clk.anchor with sec := sec, ns := ns, sub := 0 } := by
  unfold Chip.applyAdjust Adjust.total
  rw [hj]
  dsimp only
  rw [if_pos hs]
  cases a.rate with
  | none => rw [Option.getD_none, Int.add_zero]; rfl
  | some r => rfl

/-- An ADJUST that sets the time leaves that time, and when it was set. -/
theorem applyAdjust_set {c : Chip} {a : Adjust} {sec ns : Nat} (hj : a.jump = some (.set sec ns)) (hs : sec < 281474976710656) :
    (c.applyAdjust a).clk.pendingAdj = c.clk.pendingAdj ∧ (c.applyAdjust a).clk.anchor.sec = sec ∧ (c.applyAdjust a).clk.anchor.ns = ns ∧
    (c.applyAdjust a).clk.anchor.sub = 0 ∧ (c.applyAdjust a).clk.lastStep = some (c.applyAdjust a).clk.cycle := by
  rw [applyAdjust_set_eq hj hs]
  have h := congrArg Clk.pendingAdj (c.rateSet_clk (a.total c.clk.anchor))
  exact ⟨h, rfl, rfl, rfl, rfl⟩

/-- An ADJUST of the rate alone leaves the rate word. -/
theorem applyAdjust_rate {c : Chip} {a : Adjust} {r : Int} (hr : a.rate = some r) (hj : a.jump = none) :
    (c.applyAdjust a).clk.pendingAdj = c.clk.pendingAdj ∧ (c.applyAdjust a).clk.anchor.rate = clampRate (c.clk.anchor.rate + r) := by
  have h := c.rateSet_clk (c.clk.anchor.rate + r)
  have he : c.applyAdjust a = c.rateSet (c.clk.anchor.rate + r) := by
    unfold Chip.applyAdjust
    rw [hj, hr]
    rfl
  rw [he]
  rw [h]
  exact ⟨rfl, rfl⟩

/-- The unit when a pending ADJUST is due, with the adjustment taken. -/
def Chip.adjustTaken (c : Chip) (t : Nat × Nat) : Chip := { c.advanceToTime t with clk := { (c.advanceToTime t).clk with pendingAdj := none } }

theorem adjustAtDue_eq {c : Chip} {a : Adjust} {t : Nat × Nat} (ha : c.clk.pendingAdj = some a) (ht : a.at? = some t) :
    c.adjustAtDue = (c.adjustTaken t).applyAdjust a := by
  unfold Chip.adjustAtDue
  rw [ha]
  dsimp only
  rw [ht]
  rfl

/-! ### TAKE HITCH and test pulses -/

/-- The session withdrawn from the hitch it waits for. -/
def Chip.withdrawn (c : Chip) (n h t : Nat) : Chip := (c.advanceTo t).modHitch h (fun x => { x with queue := x.queue.filter (· != masterSess n) })

theorem takeTimeout_last {c : Chip} {n h w t : Nat} {data : List Fields} (hw : (c.sess n).waiting = .take h w t [] data) : c.takeTimeout n =
    ((c.withdrawn n h t).modSess n (fun x => { x with waiting := .nothing })).respond n (.ok (data ++ [(c.withdrawn n h t).notHeld h])) := by
  unfold Chip.takeTimeout
  rw [hw]
  rfl

theorem takeTimeout_line {s : State} {n : Fin 16} {h w t : Nat} {data : List Fields} (hp : s.u.sup.powered = true)
    (hw : (s.u.sess n).waiting = .take h w t [] data) :
    CompletesChip (.takeHitchTimeout n) s (fun u => let q := (s.u.hitch h).queue.filter (· != masterSess n)
      (u.sess n).waiting = .nothing ∧ (u.hitch h).queue = q ∧ (u.hitch h).holder = (s.u.hitch h).holder ∧ u.clk.cycle = max s.u.clk.cycle t ∧
      (u.sess n).answer = Answer.lines (.ok (data ++ [[fWord "HITCH", fNum h, fYes "HELD" false, fMaster "HOLDER" (s.u.hitch h).holder,
        fNat "QUEUE" q.length]]))) := by
  refine completes_onChip (exec_takeHitchTimeout s n) hp ?_
  rw [takeTimeout_last hw]
  have hq : ((s.u.withdrawn n h t).hitch h).queue = (s.u.hitch h).queue.filter (· != masterSess n) := by
    have h1 := (s.u.advanceTo t).hitch_modHitch_queue h (fun x => { x with queue := x.queue.filter (· != masterSess n) })
    rw [s.u.hitch_advanceTo t h] at h1
    exact h1
  have hh : ((s.u.withdrawn n h t).hitch h).holder = (s.u.hitch h).holder := by
    have h1 := (s.u.advanceTo t).hitch_modHitch_holder h (fun x => { x with queue := x.queue.filter (· != masterSess n) })
    rw [s.u.hitch_advanceTo t h] at h1
    exact h1
  have hc : (s.u.withdrawn n h t).clk.cycle = max s.u.clk.cycle t := s.u.advanceTo_cycle t
  have hn : (s.u.withdrawn n h t).notHeld h = [fWord "HITCH", fNum h, fYes "HELD" false, fMaster "HOLDER" (s.u.hitch h).holder,
      fNat "QUEUE" ((s.u.hitch h).queue.filter (· != masterSess n)).length] := by
    unfold Chip.notHeld
    rw [hq, hh]
  rw [hn, respond_waiting, respond_answer, Chip.sess_modSess]
  generalize s.u.withdrawn n h t = d at *
  exact ⟨rfl, hq, hh, hc, rfl⟩

/-- A test pulse that ends. -/
theorem endTest_test {c : Chip} {n : Nat} (cause : Val) (hd : (c.trip n).drive = .test) : c.endTest n cause =
    ((c.modTrip n (fun t => { t with drive := .off, held := false })).tripRecord n false "TEST").testRecord n false cause := by
  unfold Chip.endTest Chip.tripOff
  rw [if_pos hd, if_neg (by rw [hd]; decide)]

theorem Chip.trip_advanceTo (c : Chip) (t n : Nat) : (c.advanceTo t).trip n = c.trip n := congrArg (fun p : Panel => p.trips.get Trip.init n) (c.advanceTo_panel t)

theorem testPulseEnd_line {s : State} {trip : Fin 16} (hp : s.u.sup.powered = true) (hd : (s.u.trip trip).drive = .test) :
    CompletesChip (.testPulseEnd trip) s (fun u => (u.trip trip).drive = .off ∧ u.clk.cycle = max s.u.clk.cycle (s.u.trip trip).testEnd ∧
      (∀ m, m ≠ trip.val → u.trip m = s.u.trip m) ∧ u.panel.leds = s.u.panel.leds) := by
  refine completes_onChip (exec_testPulseEnd s trip) hp ?_
  have ht := s.u.trip_advanceTo (s.u.trip trip).testEnd
  have hc := s.u.advanceTo_cycle (s.u.trip trip).testEnd
  have hl := congrArg Panel.leds (s.u.advanceTo_panel (s.u.trip trip).testEnd)
  unfold Chip.testPulseEnd
  rw [if_pos hd, endTest_test .none (by rw [ht]; exact hd)]
  generalize s.u.advanceTo (s.u.trip trip).testEnd = d at *
  have h1 := d.trip_modTrip trip (fun t => { t with drive := .off, held := false })
  have h2 := fun m => d.trip_modTrip_ne trip m (fun t => { t with drive := .off, held := false })
  exact ⟨congrArg Trip.drive h1, hc, fun m hm => (h2 m hm).trans (ht m), hl⟩

/-- Settles O49: each comes to its due cycle, and then does what it waited for. -/
theorem timedLines : Obligations.TimedLines := by
  unfold Obligations.TimedLines
  refine ⟨fun s n fi p e hp he hh hq => selectExpiry_line hp he hh hq, ?_, ?_, fun s n h w t data => takeTimeout_line, fun s trip => testPulseEnd_line⟩
  · intro s a sec ns t hp ha ht hj hs
    refine completes_onChip (exec_adjustAtDue s) hp ?_
    rw [adjustAtDue_eq ha ht]
    exact applyAdjust_set (c := s.u.adjustTaken t) hj hs
  · intro s r t hp ha
    refine completes_onChip (exec_adjustAtDue s) hp ?_
    rw [adjustAtDue_eq ha rfl]
    exact applyAdjust_rate (c := s.u.adjustTaken t) rfl rfl

end Sys2Proof.Machine
end

section
/-!
PROOFS. A runt (R509, R510): the model counts its good FCS in RXF, or its bad one in FCS, before it counts the runt.
-/
namespace Sys2Proof.Machine

/-- The unit with domain 16 ON and management port 16 up. -/
def switchState : State :=
  { State.reset with u := { Chip.reset with
      sup := { Supply.reset with powered := true, doms := [(16, { Dom.init with st := .on })] },
      links := { Links.reset with mgmt := [16] } } }

/-- A frame of no octets with a good FCS. -/
def runtFrame : Frame := { dst := 0, src := 0, vtag := none, hsr := none, prp := none, len := 0, fcs := true, payload := .ipv6nd, raw := [] }

theorem rxf_runt : ((switchState.u.frameReceive 16 runtFrame).port 16).rxf = 1 := by decide

/-- Refutes O50: its first clause has a runt change its port's RUNT counter alone, while a runt with a good FCS is counted in RXF too. -/
theorem not_switchFrames : ¬ Obligations.SwitchFrames := by
  intro h
  obtain ⟨hrunt, -⟩ := h.1 switchState 16 runtFrame rfl (by decide)
  obtain ⟨t, ht, -, -, hu⟩ := hrunt (by decide)
  rw [exec_frameReceive, onChip_powered _ _ rfl] at ht
  injection ht with ht
  subst ht
  have hrxf := congrArg (fun c : Chip => (c.port 16).rxf) hu
  exact absurd (rxf_runt.symm.trans hrxf) (by decide)

end Sys2Proof.Machine
end

section
/-!
PROOFS. The codec's own events: the end of a tag check, of timeAllowedToLive and of a retransmission interval, the building of a publication, and the
rewrite of a template (R570, R575, R582, R585–R593).
-/
namespace Sys2Proof.Machine

/-! ### The tag check -/

theorem authDone_eq {c : Chip} {w : AuthWait} {ok : Bool} {rest : List (AuthWait × Bool)} (hk : c.keys.checked = (w, ok) :: rest) (hs : (c.cfg.subs.find w.sub).isSome = true) :
    c.authDone = if ok then (c.keys' (fun k => { k with checked := rest })).sequence w.sub w.mirrored w.stamp w.msg true
      else (c.keys' (fun k => { k with checked := rest })).authFail w.sub := by
  have hn : ¬ ((c.cfg.subs.find w.sub).isNone = true) := by
    rw [← Option.isSome_eq_false_iff, hs]
    decide
  unfold Chip.authDone
  rw [hk]
  exact if_neg hn

/-- The subscription of a failed tag check, with the moment of its last fault. -/
def Chip.authCounted (c : Chip) (s : Nat) (t : Option Nat) : Chip := c.modSub s (fun x => { x with auth := x.auth + 1, authAt := t })

/-- What a failed tag check can do: count, and raise the fault. -/
theorem authFail_cases (c : Chip) (s : Nat) : c.authFail s = (c.authCounted s (some c.clk.cycle)).raise 211 s none [fNat "SUB" s] ∨
    c.authFail s = c.authCounted s (c.sub s).authAt := by
  unfold Chip.authFail
  cases ht : (c.sub s).authAt with
  | none => exact .inl rfl
  | some t =>
    by_cases h : 1000000000 + t ≤ c.clk.cycle
    · refine .inl ?_
      dsimp only
      rw [decide_eq_true h]
      rfl
    · refine .inr ?_
      dsimp only
      rw [decide_eq_false h, ← ht]
      rfl

/-- What a failed tag check leaves. -/
theorem authFail_leaves (c : Chip) (s : Nat) : ((c.authFail s).sub s).auth = (c.sub s).auth + 1 ∧ (c.authFail s).keys = c.keys ∧ (c.authFail s).fab = c.fab ∧
    (c.authFail s).fis = c.fis := by
  have h := fun t => congrArg SubSt.auth (c.sub_modSub s (fun x => { x with auth := x.auth + 1, authAt := t }))
  obtain h1 | h1 := authFail_cases c s
  · rw [h1]; exact ⟨h _, rfl, rfl, rfl⟩
  · rw [h1]; exact ⟨h _, rfl, rfl, rfl⟩

/-! ### timeAllowedToLive and retransmission -/

/-- The subscription of a message that lived too long, with the record of it. -/
def Chip.staleSub (c : Chip) (s : Nat) : Chip :=
  (c.modSub s (fun x => { x with talEnd := none, stale := true, staleCnt := x.staleCnt + 1 })).record 241 s [fNat "SUB" s]

theorem Chip.sub_staleSub (c : Chip) (s : Nat) : (c.staleSub s).sub s = { c.sub s with talEnd := none, stale := true, staleCnt := (c.sub s).staleCnt + 1 } :=
  c.sub_modSub s (fun x => { x with talEnd := none, stale := true, staleCnt := x.staleCnt + 1 })

theorem Chip.subBound_congr {a b : Chip} (h : a.cfg = b.cfg) (s : Nat) : a.subBound s = b.subBound s := by
  unfold Chip.subBound Chip.boundTo Chip.fiCfg
  rw [h]

theorem talExpiry_unbound {c : Chip} {s t : Nat} (ht : (c.sub s).talEnd = some t) (hb : c.subBound s = []) : c.talExpiry s = (c.advanceTo t).staleSub s := by
  have h : ((c.advanceTo t).staleSub s).subBound s = [] := (Chip.subBound_congr (c.advanceTo_cfg t) s).trans hb
  unfold Chip.talExpiry
  rw [ht]
  unfold Chip.staleSub at h ⊢
  dsimp only
  rw [h]
  rfl

theorem talExpiry_line {s : State} {n : Fin 4096} {t : Nat} (hp : s.u.sup.powered = true) (ht : (s.u.sub n).talEnd = some t) (hb : s.u.subBound n = []) :
    CompletesChip (.gooseTalExpiry n) s (fun u => (u.sub n).stale = true ∧ (u.sub n).talEnd = none ∧ (u.sub n).staleCnt = (s.u.sub n).staleCnt + 1 ∧
      u.clk.cycle = max s.u.clk.cycle t ∧ u.fab = s.u.fab ∧ Recorded (s.u.advanceTo t).cairn u.cairn 241 n [fNat "SUB" n]) := by
  refine completes_onChip (exec_gooseTalExpiry s n) hp ?_
  have hs : (s.u.advanceTo t).sub n = s.u.sub n := congrArg (fun k : Codec => k.subs.get SubSt.init n) (s.u.advanceTo_codec t)
  have hc := s.u.advanceTo_cycle t
  have hf := s.u.advanceTo_fab t
  rw [talExpiry_unbound ht hb]
  generalize s.u.advanceTo t = c at *
  have hrec := recorded_record c 241 n [fNat "SUB" n]
  rw [c.sub_staleSub, hs, ← hc, ← hf]
  exact ⟨rfl, rfl, rfl, rfl, rfl, hrec⟩

/-- The publisher at a retransmission: the next sqNum, and the next interval. -/
def Chip.resent (c : Chip) (p d : Nat) : Chip :=
  c.modPub p (fun x => { x with sqNum := nextNum x.sqNum, interval := min (2 * (c.pub p).interval) (c.pubCfg p).max, dueAt := some (d + min (2 * (c.pub p).interval) (c.pubCfg p).max) })

/-- The frame that a retransmission asks for. -/
def Chip.resentFrame (c : Chip) (p d : Nat) : PubFrame :=
  { values := ((c.pub p).published.getD ([], none)).1, cell := ((c.pub p).published.getD ([], none)).2, stNum := (c.pub p).stNum, sqNum := nextNum (c.pub p).sqNum,
    smpCnt := (c.pub p).smpCnt, test := (c.pub p).test, invalid := false, again := true, interval := min (2 * (c.pub p).interval) (c.pubCfg p).max, due := d }

theorem retransmit_eq {c : Chip} {p d : Nat} (hd : (c.pub p).dueAt = some d) :
    c.retransmit p = ((c.advanceTo d).resent p d).askBuild p ((c.advanceTo d).resentFrame p d) := by
  unfold Chip.retransmit
  rw [hd]
  rfl

/-- A frame asked of a publisher that builds none is the one to build. -/
theorem pub_askBuild_idle {c : Chip} {p : Nat} (f : PubFrame) (hb : (c.pub p).building = none) : (c.askBuild p f).pub p = { c.pub p with building := some f } := by
  unfold Chip.askBuild
  rw [Chip.pub_modPub, hb]

theorem Chip.pub_resent (c : Chip) (p d : Nat) : (c.resent p d).pub p = { c.pub p with sqNum := nextNum (c.pub p).sqNum, interval := min (2 * (c.pub p).interval) (c.pubCfg p).max, dueAt := some (d + min (2 * (c.pub p).interval) (c.pubCfg p).max) } :=
  c.pub_modPub p _

theorem Chip.pub_advanceTo (c : Chip) (t p : Nat) : (c.advanceTo t).pub p = c.pub p := congrArg (fun k : Codec => k.pubs.get PubSt.init p) (c.advanceTo_codec t)
theorem Chip.pubCfg_advanceTo (c : Chip) (t p : Nat) : (c.advanceTo t).pubCfg p = c.pubCfg p := congrArg (fun k : Cfg => k.pubs.get PubCfg.init p) (c.advanceTo_cfg t)

theorem retransmit_line {s : State} {p : Fin 1024} {d : Nat} (hp : s.u.sup.powered = true) (hd : (s.u.pub p).dueAt = some d) (hb : (s.u.pub p).building = none) :
    CompletesChip (.gooseRetransmit p) s (fun u => let x := s.u.pub p; let y := u.pub p
      let next := min (2 * x.interval) (s.u.pubCfg p).max
      y.stNum = x.stNum ∧ y.sqNum = nextNum x.sqNum ∧ y.interval = next ∧ y.dueAt = some (d + next) ∧ u.clk.cycle = max s.u.clk.cycle d ∧
      ∃ f, y.building = some f ∧ f.again = true ∧ f.sqNum = nextNum x.sqNum ∧ f.stNum = x.stNum) := by
  refine completes_onChip (exec_gooseRetransmit s p) hp ?_
  rw [retransmit_eq hd]
  have hc := s.u.advanceTo_cycle d
  have hx := s.u.pub_advanceTo d p
  have hq := s.u.pubCfg_advanceTo d p
  generalize s.u.advanceTo d = c at *
  have hy := pub_askBuild_idle (c := c.resent p d) (p := p) (c.resentFrame p d) (by rw [Chip.pub_resent, hx]; exact hb)
  rw [hy, Chip.pub_resent, ← hx, ← hq, ← hc]
  exact ⟨rfl, rfl, rfl, rfl, rfl, c.resentFrame p d, rfl, rfl, rfl, rfl⟩

/-! ### Building a publication -/

theorem allocCell_codec {c c' : Chip} {on : Nat → Bool} {r k : Nat} (h : c.allocCell on r = some (k, c')) : c'.codec = c.codec := by
  unfold Chip.allocCell at h
  split at h
  · generalize firstBelow 16384 _ = o at h
    cases o with
    | none => exact absurd h (by simp)
    | some n => rw [← (Prod.mk.inj (Option.some.inj h)).2]; rfl
  · exact absurd h (by simp)

theorem takeCells_codec {owner n : Nat} {c c' : Chip} {l : List Nat} (h : c.takeCells owner n = some (l, c')) : c'.codec = c.codec := by
  induction n generalizing c c' l with
  | zero =>
    injection h with h
    injection h with _ h
    rw [← h]
  | succ n ih =>
    unfold Chip.takeCells at h
    split at h
    · cases h
    next ha =>
      split at h
      · cases h
      next ht =>
        injection h with h
        injection h with _ h
        rw [← h]
        exact (ih ht).trans (allocCell_codec ha)

theorem dupPlace_codec (c : Chip) (e : SubEnt) : (c.dupPlace e).codec = c.codec := by
  unfold Chip.dupPlace
  dsimp only
  repeat' split
  all_goals rfl

theorem pairNumbers_codec (c : Chip) (src : Nat) (ports : List Nat) : (c.pairNumbers src ports).2.codec = c.codec := by
  unfold Chip.pairNumbers
  refine List.foldlRecOn (motive := fun a : Tbl Nat × Chip => a.2.codec = c.codec) _ _ rfl ?_
  intro a ha low _
  exact (dupPlace_codec _ _).trans ha

theorem queueAt_codec {c c' : Chip} {p : Nat} {e : EgFrame} (h : c.queueAt p e = some c') : c'.codec = c.codec := by
  unfold Chip.queueAt at h
  split at h
  · cases h
  · injection h with h
    rw [← h]
    rfl

/-- Sending an own frame leaves the publishers as they are. -/
theorem sendOwn_codec (c : Chip) (ingress : Nat) (ports : List Nat) (f : Frame) (prio vlan : Nat) (cells : List Nat) :
    (c.sendOwn ingress ports f prio vlan cells).2.codec = c.codec := by
  unfold Chip.sendOwn
  dsimp only
  have h1 := pairNumbers_codec c f.src (sortNats (ports ++ ports.filterMap c.partner))
  generalize c.pairNumbers f.src (sortNats (ports ++ ports.filterMap c.partner)) = r at *
  refine Eq.trans (b := (List.foldl _ _ _ : Bool × Chip).2.codec) rfl ?_
  refine List.foldlRecOn (motive := fun a : Bool × Chip => a.2.codec = c.codec) _ _ ?_ ?_
  · split
    · exact h1
    · exact h1
  · intro a ha q _
    split
    next hq => exact (queueAt_codec hq).trans ha
    · exact ha

/-- A publisher once the codec's place is its pending frame's, in whatever else the unit then differs. -/
theorem pub_modPub_next {c d : Chip} {p : Nat} (h : d.codec = (c.pubNext p).codec) (g : PubSt → PubSt) :
    (d.modPub p g).pub p = g { c.pub p with building := (c.pub p).pending, pending := none } := by
  rw [Chip.pub_modPub]
  have h1 : d.pub p = (c.pubNext p).pub p := congrArg (fun k : Codec => k.pubs.get PubSt.init p) h
  rw [h1]
  exact congrArg g (c.pub_modPub p (fun x => { x with building := x.pending, pending := none }))

/-- A built frame has left the codec's place, and is counted in one of four ways. -/
def PubSt.Left (x y : PubSt) : Prop :=
  y.building = x.pending ∧ y.pending = none ∧ (y.sent = x.sent + 1 ∨ y.noroute = x.noroute + 1 ∨ y.toobig = x.toobig + 1 ∨ y.nocell = x.nocell + 1)

theorem left_modPub {c d : Chip} {p : Nat} {g : PubSt → PubSt} (h : d.codec = (c.pubNext p).codec)
    (hg : (c.pub p).Left (g { c.pub p with building := (c.pub p).pending, pending := none })) : (c.pub p).Left ((d.modPub p g).pub p) := by
  rw [pub_modPub_next h]
  exact hg

theorem left_ite {x : PubSt} {p : Nat} {b : Prop} [Decidable b] {d1 d2 : Chip} (h1 : x.Left (d1.pub p)) (h2 : x.Left (d2.pub p)) :
    x.Left ((if b then d1 else d2).pub p) := by
  split
  · exact h1
  · exact h2

theorem pubFinish_left (c : Chip) (p : Nat) (f : PubFrame) : (c.pub p).Left ((c.pubFinish p f).pub p) := by
  unfold Chip.pubFinish
  refine left_ite ?_ (left_ite ?_ (left_ite ?_ ?_))
  · exact left_modPub rfl ⟨rfl, rfl, .inr (.inl rfl)⟩
  · exact left_modPub rfl ⟨rfl, rfl, .inr (.inl rfl)⟩
  · exact left_modPub rfl ⟨rfl, rfl, .inr (.inr (.inl rfl))⟩
  · split
    · exact left_modPub rfl ⟨rfl, rfl, .inr (.inr (.inr rfl))⟩
    next ht => exact left_modPub ((sendOwn_codec _ _ _ _ _ _ _).trans (takeCells_codec ht)) ⟨rfl, rfl, .inl rfl⟩

/-- The cycles until the codec has the capacity to build. -/
def Chip.buildWait (c : Chip) : Nat :=
  let b := min 64000 (c.codec.build + 8 * (c.clk.cycle - c.codec.buildAt))
  if b ≥ 1000 then 0 else (1000 - b + 7) / 8

/-- The capacity that a building then leaves. -/
def Chip.buildLeft (c : Chip) : Nat := min 64000 (c.codec.build + 8 * (c.clk.cycle - c.codec.buildAt)) + 8 * c.buildWait - 1000

def Chip.built (c : Chip) (b t : Nat) : Chip := c.codec' (fun k => { k with build := b, buildAt := t })

/-- The unit when the codec has taken the capacity to build. -/
def Chip.buildTurn (c : Chip) : Chip := (c.advance c.buildWait).built c.buildLeft (c.clk.cycle + c.buildWait)

theorem Chip.pub_built (c : Chip) (b t p : Nat) : (c.built b t).pub p = c.pub p := rfl

theorem Chip.pub_buildTurn (c : Chip) (p : Nat) : c.buildTurn.pub p = c.pub p :=
  ((c.advance c.buildWait).pub_built _ _ p).trans (congrArg (fun k : Codec => k.pubs.get PubSt.init p) (c.advance_codec c.buildWait))

theorem Chip.keys_built (c : Chip) (b t : Nat) : (c.built b t).keys = c.keys := rfl
theorem Chip.sw_built (c : Chip) (b t : Nat) : (c.built b t).sw = c.sw := rfl
theorem Chip.keys_buildTurn (c : Chip) : c.buildTurn.keys = c.keys := ((c.advance c.buildWait).keys_built _ _).trans (c.advance_keys c.buildWait)
theorem Chip.sw_buildTurn (c : Chip) : c.buildTurn.sw = c.sw := ((c.advance c.buildWait).sw_built _ _).trans (c.advance_sw c.buildWait)

/-- With domain 17 off, a publication ends for want of a cell. -/
theorem publishBuild_off {c : Chip} {p : Nat} {f : PubFrame} (hk : c.pubPick = some (p, f)) (hd : c.domOn 17 = false) :
    c.publishBuild = (c.pubNext p).modPub p (fun y => { y with nocell := y.nocell + 1 }) := by
  unfold Chip.publishBuild
  rw [hk]
  dsimp only
  rw [hd]
  rfl

theorem publishBuild_plain {c : Chip} {p : Nat} {f : PubFrame} (hk : c.pubPick = some (p, f)) (hd : c.domOn 17 = true) (ha : (c.pubCfg p).auth = .none) :
    c.publishBuild = c.buildTurn.pubFinish p f := by
  unfold Chip.publishBuild
  rw [hk]
  dsimp only
  rw [hd, if_neg (by decide), if_pos ha]
  rfl

theorem publishBuild_tag {c : Chip} {p : Nat} {f : PubFrame} (hk : c.pubPick = some (p, f)) (hd : c.domOn 17 = true) (ha : (c.pubCfg p).auth ≠ .none)
    (hs : c.pubSlotOk p = true) (hq : c.keys.tagQ.length < 64) :
    c.publishBuild = c.buildTurn.keys' (fun k => { k with tagQ := k.tagQ ++ [p] }) := by
  unfold Chip.publishBuild
  rw [hk]
  dsimp only
  rw [hd, if_neg (by decide), if_neg ha, hs, if_neg (by decide), if_neg (Nat.not_le.mpr hq)]
  rfl

/-- Settles O51: each event of the codec by the equation of its case. -/
theorem codecEvents : Obligations.CodecEvents := by
  unfold Obligations.CodecEvents
  refine ⟨?_, fun s n t => talExpiry_line, ?_, fun s p d => retransmit_line, ?_⟩
  · intro s w rest hp hs
    refine ⟨fun hk => ?_, fun hk => ?_⟩
    · refine completes_onChip (exec_codecAuthDone s) hp ?_
      rw [authDone_eq hk hs, if_neg (by decide)]
      obtain ⟨hauth, hkeys, hfab, hfis⟩ := authFail_leaves (s.u.keys' (fun k => { k with checked := rest })) w.sub
      exact ⟨hauth, congrArg Keys.checked hkeys, hfab, hfis⟩
    · refine completes_onChip (exec_codecAuthDone s) hp ?_
      rw [authDone_eq hk hs, if_pos rfl]
  · intro s p f hp hk
    refine ⟨fun hd => ?_, fun hd ha => ?_, fun hd ha hs hq => ?_⟩
    · refine completes_onChip (exec_publishBuild s) hp ?_
      rw [publishBuild_off hk hd, pub_modPub_next (c := s.u) rfl]
      exact ⟨rfl, rfl, rfl⟩
    · refine completes_onChip (exec_publishBuild s) hp ?_
      rw [publishBuild_plain hk hd ha]
      have hl := pubFinish_left s.u.buildTurn p f
      rw [s.u.pub_buildTurn p] at hl
      exact hl
    · refine completes_onChip (exec_publishBuild s) hp ?_
      rw [publishBuild_tag hk hd ha hs hq]
      have hkeys := congrArg Keys.tagQ s.u.keys_buildTurn
      have hpub := s.u.pub_buildTurn p
      have hsw := s.u.sw_buildTurn
      generalize s.u.buildTurn = d at *
      exact ⟨congrArg (· ++ [p]) hkeys, hpub, hsw⟩
  · intro s t hp
    refine completes_onChip (exec_templateRewrite s t) hp ?_
    exact ⟨rfl, rfl, rfl⟩

end Sys2Proof.Machine
end

section
/-!
PROOFS. The crypto engine: its grants, its turns, the idle zeroization and the timeout, and the working key register (R647, R650–R658, R662).
-/
namespace Sys2Proof.Machine

/-- A request of the steward, as it is presented. -/
def stewardReq (c : Chip) (op : EngOp) (slot : Option Nat) (octets : Nat) : EngReq :=
  { codec := false, slot := slot, op := op, left := octets, resumed := false, arrival := c.clk.cycle, use := .steward }

theorem Keys.not_busy {k : Keys} (hc : k.cur = none) (hw : k.waiters = []) (b : Bool) : k.busy b = false := by
  unfold Keys.busy
  rw [hc, hw]
  rfl

/-- A steward's request to an idle engine is granted or fails at once. -/
theorem engineRequest_idle {c : Chip} {op : EngOp} {slot : Option Nat} {octets : Nat} {ok : Bool} (hd : c.domOn 18 = true) (hc : c.keys.cur = none)
    (hw : c.keys.waiters = []) :
    c.engineRequest (some (op, slot, octets)) ok = c.engGrant (stewardReq c op (if op.keyed then slot else none) octets) false ok := by
  unfold Chip.engineRequest Chip.present'
  dsimp only
  rw [Keys.not_busy hc hw, hd, if_neg (by decide), hc, hw]
  rfl

/-- What a grant leaves. -/
def Chip.granted (c : Chip) (r : EngReq) (save : Bool) (u : Chip) : Prop :=
  u.keys.cur = some r ∧ u.keys.work = (if r.op.keyed then r.slot else none) ∧ u.keys.granted = max c.clk.cycle c.keys.resetEnd + c.switchCost r save ∧
  u.keys.turnEnd = u.keys.granted + r.turn ∧ u.coll = c.coll

/-- A request that needs no key is granted. -/
theorem engGrant_unkeyed {c : Chip} {r : EngReq} {save ok : Bool} (hr : r.op.keyed = false) : c.granted r save (c.engGrant r save ok) := by
  unfold Chip.engGrant Chip.granted
  dsimp only
  rw [hr]
  exact ⟨rfl, rfl, rfl, rfl, rfl⟩

/-- A slot that can serve a keyed request. -/
structure Chip.Serves (c : Chip) (n : Nat) : Prop where
  reg : c.keys.workBad = false
  dom : c.domOn 18 = true
  valid : (c.slot n).st = .valid
  good : (c.slot n).bad = false

/-- A keyed request whose key unwraps is granted. -/
theorem engGrant_keyed {c : Chip} {r : EngReq} {n : Nat} {save : Bool} (hr : r.op.keyed = true) (hn : r.slot = some n) (hs : c.Serves n) :
    c.granted r save (c.engGrant r save true) := by
  unfold Chip.engGrant Chip.granted
  dsimp only
  rw [hr, hn, hs.reg, hs.dom, Option.map_some, if_neg (by simp [hs.valid, hs.good]), if_neg (by simp)]
  exact ⟨rfl, rfl, rfl, rfl, rfl⟩

/-- The slot whose key does not unwrap, and the register without a key. -/
def Chip.unwrapFailed (c : Chip) (n : Nat) : Chip :=
  c.keys' (fun k => { k with cur := none, idleSince := c.clk.cycle, work := none, slots := k.slots.put Slot.init n { c.slot n with bad := true } })

theorem engGrant_failed {c : Chip} {r : EngReq} {n : Nat} {save : Bool} (hr : r.op.keyed = true) (hn : r.slot = some n) (hs : c.Serves n)
    (hw : c.keys.work ≠ some n) : c.engGrant r save false = ((c.unwrapFailed n).raise 259 n none [fNat "SLOT" n]).engFail r := by
  unfold Chip.engGrant
  dsimp only
  rw [hr, hn, hs.reg, hs.dom, Option.map_some, if_neg (by simp [hs.valid, hs.good]), if_pos (by simp [hw])]
  rfl

/-! ### The turns -/

/-- A request with more than a segment left goes on where nobody waits. -/
def Chip.nextTurn (c : Chip) (r : EngReq) : Chip := c.keys' (fun k => { k with cur := some r, granted := c.clk.cycle, turnEnd := c.clk.cycle + r.turn })

theorem segmentEnd_more {c : Chip} {r : EngReq} {ok : Bool} (hc : c.keys.cur = some r) (hw : c.keys.waiters = []) (hl : 2048 < r.left) :
    c.segmentEnd ok = (c.advanceTo c.keys.turnEnd).nextTurn { r with left := r.left - 2048, resumed := false } := by
  have hw' : (c.advanceTo c.keys.turnEnd).keys.waiters = [] := (congrArg Keys.waiters (c.advanceTo_keys _)).trans hw
  unfold Chip.segmentEnd
  rw [hc]
  dsimp only
  rw [if_pos hl, if_pos (List.isEmpty_iff.mpr hw')]
  rfl

/-- The engine goes idle where nobody waits. -/
def Chip.engIdle (c : Chip) : Chip := c.keys' (fun k => { k with cur := none, idleSince := c.clk.cycle })

theorem engNext_idle {c : Chip} {save ok : Bool} (hw : c.keys.waiters = []) : c.engNext save ok = c.engIdle := by
  unfold Chip.engNext Keys.nextWaiter
  rw [hw]
  rfl

/-- The slot of a request has been revoked. -/
def Chip.revokedFor (c : Chip) (r : EngReq) : Bool :=
  match r.slot with | some n => r.op.keyed && (c.slot n).st == .revoked | none => false

theorem segmentEnd_last {c : Chip} {r : EngReq} {ok : Bool} (hc : c.keys.cur = some r) (hw : c.keys.waiters = []) (hl : r.left ≤ 2048) (hu : r.use = .steward) :
    c.segmentEnd ok = (if c.revokedFor r then (c.advanceTo c.keys.turnEnd).zeroize true else c.advanceTo c.keys.turnEnd).engIdle := by
  have hk := c.advanceTo_keys c.keys.turnEnd
  have hw' := (congrArg Keys.waiters hk).trans hw
  have hrev : (c.advanceTo c.keys.turnEnd).revokedFor r = c.revokedFor r := by
    unfold Chip.revokedFor Chip.slot
    rw [hk]
  unfold Chip.segmentEnd
  rw [hc]
  dsimp only
  rw [if_neg (Nat.not_lt.mpr hl), ← hrev]
  unfold Chip.engDone
  rw [hu]
  generalize c.advanceTo c.keys.turnEnd = d at *
  refine Eq.trans (b := (if d.revokedFor r then d.zeroize true else d).engNext false ok) rfl (engNext_idle ?_)
  split
  · exact hw'
  · exact hw'

/-! ### Idleness and the timeout -/

theorem idleZeroize_eq {c : Chip} {n : Nat} {ok : Bool} (hc : c.keys.cur = none) (hw : c.keys.work = some n) :
    c.idleZeroize ok = (c.advanceTo (c.keys.idleSince + 1000000)).zeroize ok := by
  unfold Chip.idleZeroize
  rw [hc, hw, if_neg (by simp), Nat.add_comm]

/-- The engine's reset after a request that timed out. -/
def Chip.engReset (c : Chip) : Chip := c.keys' (fun k => { k with resetEnd := c.clk.cycle + 100000, cur := none })

/-- The unit after a request that timed out, where nobody waits. -/
def Chip.timedOut (c : Chip) : Chip := (((c.raise 261 0 none []).zeroize true).engReset).engIdle

theorem Chip.timedOut_clk (c : Chip) : c.timedOut.clk = c.clk := rfl
theorem Chip.timedOut_resetEnd (c : Chip) : c.timedOut.keys.resetEnd = c.clk.cycle + 100000 := rfl
theorem Chip.timedOut_idle (c : Chip) : c.timedOut.keys.cur = none ∧ c.timedOut.keys.work = none := ⟨rfl, rfl⟩
theorem Chip.timedOut_raised (c : Chip) : Raised c.coll c.timedOut.coll 261 0 := raised_raise c 261 0 none []

theorem engineTimeout_eq {c : Chip} {r : EngReq} {ok : Bool} (hc : c.keys.cur = some r) (hu : r.use = .steward) (hw : c.keys.waiters = []) :
    c.engineTimeout ok = (c.advanceTo (c.keys.granted + 10000)).timedOut := by
  have hw' := (congrArg Keys.waiters (c.advanceTo_keys (c.keys.granted + 10000))).trans hw
  unfold Chip.engineTimeout Chip.engFail
  rw [hc]
  dsimp only
  rw [hu, Nat.add_comm]
  generalize c.advanceTo (c.keys.granted + 10000) = d at *
  rw [Nat.add_comm 100000]
  exact engNext_idle (c := (((d.raise 261 0 none []).zeroize true).engReset)) hw'

/-! ### The obligation's clauses -/

theorem sha_line {s : State} {octets : Nat} {ok : Bool} (hp : s.u.sup.powered = true) (hd : s.u.domOn 18 = true) (hc : s.u.keys.cur = none)
    (hw : s.u.keys.waiters = []) : CompletesChip (.engineRequest (some (.sha256, none, octets)) ok) s (fun u =>
      let r : EngReq := { codec := false, slot := none, op := .sha256, left := octets, resumed := false, arrival := s.u.clk.cycle, use := .steward }
      u.keys.cur = some r ∧ u.keys.work = none ∧ u.keys.granted = max s.u.clk.cycle s.u.keys.resetEnd + 12 ∧ u.keys.turnEnd = u.keys.granted + r.turn) := by
  refine completes_onChip (exec_engineRequest s _ ok) hp ?_
  rw [engineRequest_idle hd hc hw]
  obtain ⟨hcur, hwork, hgranted, hturn, -⟩ := engGrant_unkeyed (c := s.u) (r := stewardReq s.u .sha256 none octets) (save := false) (ok := ok) rfl
  have hcost : s.u.switchCost (stewardReq s.u .sha256 none octets) false = 12 := by
    unfold Chip.switchCost stewardReq EngOp.keyed
    simp
  rw [hcost] at hgranted
  exact ⟨hcur, hwork, hgranted, hturn⟩

theorem hmac_lines {s : State} {n octets : Nat} (hp : s.u.sup.powered = true) (hc : s.u.keys.cur = none) (hw : s.u.keys.waiters = []) (hs : s.u.Serves n)
    (hn : s.u.keys.work ≠ some n) :
    CompletesChip (.engineRequest (some (.hmac, some n, octets)) true) s (fun u => u.keys.work = some n ∧ u.keys.cur ≠ none ∧ u.coll = s.u.coll) ∧
    CompletesChip (.engineRequest (some (.hmac, some n, octets)) false) s (fun u => u.keys.work = none ∧ u.keys.cur = none ∧ (u.slot n).bad = true ∧
      Raised s.u.coll u.coll 259 n) := by
  constructor
  · refine completes_onChip (exec_engineRequest s _ true) hp ?_
    rw [engineRequest_idle hs.dom hc hw]
    obtain ⟨hcur, hwork, -, -, hcoll⟩ := engGrant_keyed (c := s.u) (r := stewardReq s.u .hmac (some n) octets) (save := false) rfl rfl hs
    exact ⟨hwork, fun h => absurd (hcur.symm.trans h) (by simp), hcoll⟩
  · refine completes_onChip (exec_engineRequest s _ false) hp ?_
    rw [engineRequest_idle hs.dom hc hw]
    have h := engGrant_failed (c := s.u) (r := stewardReq s.u .hmac (some n) octets) (save := false) rfl rfl hs hn
    refine ⟨congrArg (fun c : Chip => c.keys.work) h, congrArg (fun c : Chip => c.keys.cur) h, ?_, ?_⟩
    · refine (congrArg (fun c : Chip => (c.slot n).bad) h).trans ?_
      exact congrArg Slot.bad (Tbl.get_put_same Slot.init { s.u.slot n with bad := true } s.u.keys.slots n)
    · have hr := raised_raise (s.u.unwrapFailed n) 259 n none [fNat "SLOT" n]
      exact (congrArg Chip.coll h) ▸ hr

theorem waiting_line {s : State} {r : EngReq} {op : EngOp} {octets : Nat} {ok : Bool} (hp : s.u.sup.powered = true) (hd : s.u.domOn 18 = true)
    (hc : s.u.keys.cur = some r) (hr : r.codec = true) (hw : s.u.keys.waiters = []) :
    CompletesChip (.engineRequest (some (op, none, octets)) ok) s (fun u => u.keys.cur = some r ∧ u.keys.work = s.u.keys.work ∧
      u.keys.waiters = [{ codec := false, slot := none, op := op, left := octets, resumed := false, arrival := s.u.clk.cycle, use := .steward }]) := by
  refine completes_onChip (exec_engineRequest s _ ok) hp ?_
  have hb : s.u.keys.busy false = false := by
    unfold Keys.busy
    rw [hc, hw]
    dsimp only
    rw [hr]
    rfl
  have hn : ¬ (s.u.keys.cur.isNone = true ∧ s.u.keys.waiters.isEmpty = true) := by
    rw [hc]
    exact fun h => absurd h.1 (by simp)
  unfold Chip.engineRequest Chip.present'
  dsimp only
  rw [hb, hd, if_neg (by decide), if_neg hn, ite_self]
  exact ⟨hc, rfl, congrArg (· ++ _) hw⟩

theorem segment_lines {s : State} {r : EngReq} {ok : Bool} (hp : s.u.sup.powered = true) (hc : s.u.keys.cur = some r) (hw : s.u.keys.waiters = []) :
    (2048 < r.left → CompletesChip (.engineSegmentEnd ok) s (fun u => u.keys.cur = some { r with left := r.left - 2048, resumed := false } ∧
      u.keys.granted = max s.u.clk.cycle s.u.keys.turnEnd ∧ u.keys.work = s.u.keys.work)) ∧
    (r.left ≤ 2048 → r.use = .steward → r.slot = none → CompletesChip (.engineSegmentEnd ok) s (fun u => u.keys.cur = none ∧
      u.clk.cycle = max s.u.clk.cycle s.u.keys.turnEnd ∧ u.keys.idleSince = u.clk.cycle ∧ u.keys.work = s.u.keys.work)) ∧
    (∀ n, r.left ≤ 2048 → r.use = .steward → r.slot = some n → r.op.keyed = true → (s.u.slot n).st = .revoked →
      CompletesChip (.engineSegmentEnd ok) s (fun u => u.keys.cur = none ∧ u.keys.work = none)) := by
  have hcyc := s.u.advanceTo_cycle s.u.keys.turnEnd
  have hkeys := congrArg Keys.work (s.u.advanceTo_keys s.u.keys.turnEnd)
  refine ⟨fun hl => ?_, fun hl hu hn => ?_, fun n hl hu hn hk hst => ?_⟩
  · refine completes_onChip (exec_engineSegmentEnd s ok) hp ?_
    rw [segmentEnd_more hc hw hl]
    generalize s.u.advanceTo s.u.keys.turnEnd = d at *
    exact ⟨rfl, hcyc, hkeys⟩
  · refine completes_onChip (exec_engineSegmentEnd s ok) hp ?_
    have hrev : s.u.revokedFor r = false := by unfold Chip.revokedFor; rw [hn]
    rw [segmentEnd_last hc hw hl hu, hrev]
    generalize s.u.advanceTo s.u.keys.turnEnd = d at *
    exact ⟨rfl, hcyc, rfl, hkeys⟩
  · refine completes_onChip (exec_engineSegmentEnd s ok) hp ?_
    have hrev : s.u.revokedFor r = true := by
      unfold Chip.revokedFor
      rw [hn]
      dsimp only
      rw [hk, hst]
      rfl
    rw [segmentEnd_last hc hw hl hu, hrev]
    exact ⟨rfl, rfl⟩

theorem zeroize_leaves (c : Chip) : (c.zeroize true).keys.work = none ∧ (c.zeroize true).clk = c.clk ∧ (c.zeroize true).keys.slots = c.keys.slots := ⟨rfl, rfl, rfl⟩

theorem zeroize_failed (c : Chip) : (c.zeroize false).keys.workBad = true ∧ Raised c.coll (c.zeroize false).coll 260 0 :=
  ⟨rfl, raised_raise (c.keys' (fun k => { k with workBad := true })) 260 0 none []⟩

theorem zeroize_lines {s : State} {n : Nat} (hp : s.u.sup.powered = true) (hc : s.u.keys.cur = none) (hw : s.u.keys.work = some n) :
    CompletesChip (.engineIdleZeroize true) s (fun u => u.keys.work = none ∧ u.clk.cycle = max s.u.clk.cycle (s.u.keys.idleSince + 1000000) ∧
      u.keys.slots = s.u.keys.slots) ∧
    CompletesChip (.engineIdleZeroize false) s (fun u => u.keys.workBad = true ∧ Raised s.u.coll u.coll 260 0) := by
  have hcyc := s.u.advanceTo_cycle (s.u.keys.idleSince + 1000000)
  have hkeys := congrArg Keys.slots (s.u.advanceTo_keys (s.u.keys.idleSince + 1000000))
  have hcoll := s.u.advanceTo_coll (s.u.keys.idleSince + 1000000)
  refine ⟨completes_onChip (exec_engineIdleZeroize s true) hp ?_, completes_onChip (exec_engineIdleZeroize s false) hp ?_⟩
  · obtain ⟨hwork, hclk, hslots⟩ := zeroize_leaves (s.u.advanceTo (s.u.keys.idleSince + 1000000))
    rw [idleZeroize_eq hc hw]
    exact ⟨hwork, (congrArg Clk.cycle hclk).trans hcyc, hslots.trans hkeys⟩
  · obtain ⟨hbad, hraised⟩ := zeroize_failed (s.u.advanceTo (s.u.keys.idleSince + 1000000))
    rw [idleZeroize_eq hc hw]
    exact ⟨hbad, Raised.of_eq hraised hcoll⟩

theorem timeout_line {s : State} {r : EngReq} {ok : Bool} (hp : s.u.sup.powered = true) (hc : s.u.keys.cur = some r) (hu : r.use = .steward)
    (hw : s.u.keys.waiters = []) :
    CompletesChip (.engineTimeout ok) s (fun u => u.keys.cur = none ∧ u.keys.work = none ∧ Raised s.u.coll u.coll 261 0 ∧
      u.clk.cycle = max s.u.clk.cycle (s.u.keys.granted + 10000) ∧ u.keys.resetEnd = u.clk.cycle + 100000) := by
  refine completes_onChip (exec_engineTimeout s ok) hp ?_
  have hcyc := s.u.advanceTo_cycle (s.u.keys.granted + 10000)
  have hcoll := s.u.advanceTo_coll (s.u.keys.granted + 10000)
  rw [engineTimeout_eq hc hu hw]
  generalize s.u.advanceTo (s.u.keys.granted + 10000) = d at *
  obtain ⟨hcur, hwork⟩ := d.timedOut_idle
  rw [d.timedOut_clk, d.timedOut_resetEnd]
  exact ⟨hcur, hwork, Raised.of_eq d.timedOut_raised hcoll, hcyc, rfl⟩

/-- Settles O52: the grants, the turns and the ends by the equation of their cases. -/
theorem engineTurns : Obligations.EngineTurns := by
  unfold Obligations.EngineTurns
  exact ⟨fun s octets ok hp hd hc hw => sha_line hp hd hc hw,
    fun s n octets hp hd hc hw hb hv hg hn => hmac_lines hp hc hw ⟨hb, hd, hv, hg⟩ hn,
    fun s r op octets ok hp hd hc hr hw => waiting_line hp hd hc hr hw,
    fun s r ok hp hc hw => segment_lines hp hc hw,
    fun s n hp hc hw => zeroize_lines hp hc hw,
    fun s r ok hp hc hu hw => timeout_line hp hc hu hw⟩

end Sys2Proof.Machine
end

section
/-!
PROOFS. The transitions of lanes and management links, and the reset and the interrupt of cages (R479–R483, R486–R488, R533).
-/
namespace Sys2Proof.Machine

theorem Chip.lane_advanceTo (c : Chip) (t n : Nat) : (c.advanceTo t).lane n = c.lane n := congrArg (fun l : Links => l.lanes.get Lane.init n) (c.advanceTo_links t)
theorem Chip.port_advanceTo (c : Chip) (t n : Nat) : (c.advanceTo t).port n = c.port n := congrArg (fun l : Links => l.ports.get PortCnt.init n) (c.advanceTo_links t)
theorem Chip.dom_advanceTo (c : Chip) (t n : Nat) : (c.advanceTo t).dom n = c.dom n := congrArg (fun l : Supply => l.doms.get Dom.init n) (c.advanceTo_sup t)

/-! ### A port leaves UP -/

/-- An address that a port leaving UP may keep. -/
def MacEnt.stays (p : Nat) (e : MacEnt) : Prop := e.static = true ∨ p ∉ e.ports

/-- The port's learned addresses are forgotten. -/
def Chip.forgotten (c : Chip) (p : Nat) : Chip := (c.forget (fun e => e.ports.contains p)).limitCheck

theorem forgotten_stash (c : Chip) (p : Nat) : (c.forgotten p).sw.stash = c.sw.stash.filter (fun e => !(!e.static && e.ports.contains p)) := rfl
theorem forgotten_clk (c : Chip) (p : Nat) : (c.forgotten p).clk = c.clk := rfl
theorem forgotten_coll (c : Chip) (p : Nat) : (c.forgotten p).coll = c.coll := rfl
theorem forgotten_lane (c : Chip) (p n : Nat) : (c.forgotten p).lane n = c.lane n := rfl
theorem forgotten_port (c : Chip) (p q : Nat) : (c.forgotten p).port q = c.port q := rfl

/-- The transmission in progress ends. -/
def Chip.txAborted (c : Chip) (p : Nat) : Chip :=
  (c.modPort p (fun k => { k with abort := k.abort + 1 })).sw' (fun s => { s with txUntil := s.txUntil.put 0 p c.clk.cycle })

theorem txAborted_port (c : Chip) (p q : Nat) : (c.txAborted p).port q = (c.modPort p (fun k => { k with abort := k.abort + 1 })).port q := rfl
theorem txAborted_lane (c : Chip) (p n : Nat) : (c.txAborted p).lane n = c.lane n := rfl
theorem txAborted_coll (c : Chip) (p : Nat) : (c.txAborted p).coll = c.coll := rfl
theorem txAborted_clk (c : Chip) (p : Nat) : (c.txAborted p).clk = c.clk := rfl

theorem portDown_cases (c : Chip) (p : Nat) : c.portDown p = (c.txAborted p).forgotten p ∨ c.portDown p = c.forgotten p := by
  unfold Chip.portDown
  dsimp only
  split
  · exact .inl rfl
  · exact .inr rfl

theorem portDown_stash {c : Chip} {p : Nat} {e : MacEnt} (h : e ∈ (c.portDown p).sw.stash) : e.stays p := by
  have hf : ∀ d : Chip, e ∈ (d.forgotten p).sw.stash → e.stays p := by
    intro d hd
    rw [forgotten_stash] at hd
    have h' := (List.mem_filter.mp hd).2
    unfold MacEnt.stays
    cases hs : e.static with
    | true => exact .inl rfl
    | false => exact .inr (by simpa [hs] using h')
  obtain hc | hc := portDown_cases c p
  · exact hf _ (hc ▸ h)
  · exact hf _ (hc ▸ h)

/-- A port that leaves UP keeps its count of losses. -/
theorem portDown_downs (c : Chip) (p q : Nat) : ((c.portDown p).port q).downs = (c.port q).downs := by
  obtain hc | hc := portDown_cases c p
  · rw [hc, forgotten_port, txAborted_port]
    by_cases hq : q = p
    · subst hq
      rw [Chip.port_modPort]
    · rw [Chip.port_modPort_ne _ _ _ _ hq]
  · rw [hc, forgotten_port]

theorem portDown_lane (c : Chip) (p n : Nat) : (c.portDown p).lane n = c.lane n := by
  obtain hc | hc := portDown_cases c p
  · rw [hc, forgotten_lane, txAborted_lane]
  · rw [hc, forgotten_lane]

theorem portDown_clk (c : Chip) (p : Nat) : (c.portDown p).clk = c.clk := by
  obtain hc | hc := portDown_cases c p
  · rw [hc, forgotten_clk, txAborted_clk]
  · rw [hc, forgotten_clk]

theorem portDown_coll (c : Chip) (p : Nat) : (c.portDown p).coll = c.coll := by
  obtain hc | hc := portDown_cases c p
  · rw [hc, forgotten_coll, txAborted_coll]
  · rw [hc, forgotten_coll]

/-! ### DOWN -/

/-- The lane and its port as DOWN begins. -/
def Chip.downed (c : Chip) (n t : Nat) : Chip :=
  (c.modLane n (fun y => { y with st := .down, since := t, retrying := true })).modPort n (fun k => { k with downs := k.downs + 1 })

theorem laneDown_eq (c : Chip) (n : Nat) (cause : String) : c.laneDown n cause =
    let d := (if (c.lane n).st = .up then c.portDown n else c).downed n c.clk.cycle
    if (c.lane n).retrying then d else d.laneRecord n (c.lane n).st .down cause := rfl

/-- What entry to DOWN leaves. -/
theorem laneDown_leaves (c : Chip) (n : Nat) (cause : String) :
    (c.laneDown n cause).lane n = { c.lane n with st := .down, since := c.clk.cycle, retrying := true } ∧
    ((c.laneDown n cause).port n).downs = (c.port n).downs + 1 ∧ (c.laneDown n cause).clk = c.clk ∧
    ((c.lane n).st = .up → ∀ e ∈ (c.laneDown n cause).sw.stash, e.stays n) := by
  rw [laneDown_eq]
  dsimp only
  generalize hd : (if (c.lane n).st = .up then c.portDown n else c) = d
  have hl : d.lane n = c.lane n := by
    rw [← hd]
    split
    · exact portDown_lane c n n
    · rfl
  have hp : (d.port n).downs = (c.port n).downs := by
    rw [← hd]
    split
    · exact portDown_downs c n n
    · rfl
  have hk : d.clk = c.clk := by
    rw [← hd]
    split
    · exact portDown_clk c n
    · rfl
  have hs : (c.lane n).st = .up → ∀ e ∈ d.sw.stash, e.stays n := by
    intro hu e he
    rw [← hd, if_pos hu] at he
    exact portDown_stash he
  have h1 : (d.downed n c.clk.cycle).lane n = { c.lane n with st := .down, since := c.clk.cycle, retrying := true } := by
    rw [← hl]
    exact d.lane_modLane n (fun y => { y with st := .down, since := c.clk.cycle, retrying := true })
  have h2 : ((d.downed n c.clk.cycle).port n).downs = (c.port n).downs + 1 := by
    rw [← hp]
    exact congrArg PortCnt.downs ((d.modLane n (fun y => { y with st := .down, since := c.clk.cycle, retrying := true })).port_modPort n (fun k => { k with downs := k.downs + 1 }))
  split
  · exact ⟨h1, h2, hk, hs⟩
  · exact ⟨h1, h2, hk, hs⟩

theorem laneLatched_none {c : Chip} {n : Nat} (h : (c.lane n).latched = none) : c.laneLatched n = c := by
  unfold Chip.laneLatched
  rw [h]

theorem laneDown_coll (c : Chip) (n : Nat) (cause : String) : (c.laneDown n cause).coll = c.coll := by
  have h : (if (c.lane n).st = .up then c.portDown n else c).coll = c.coll := by
    split
    · exact portDown_coll c n
    · rfl
  rw [laneDown_eq]
  dsimp only
  generalize (if (c.lane n).st = .up then c.portDown n else c) = d at *
  split
  · exact h
  · exact h

/-! ### UP -/

/-- The lane as it locks. -/
def Chip.laneLocked (c : Chip) (n : Nat) : Chip := c.modLane n (fun x => { x with st := .up, los := false })

/-- The record of the lock, and no retry any more. -/
def Chip.lockRecorded (c : Chip) (n : Nat) : Chip := (c.laneRecord n .training .up "LOCK").modLane n (fun x => { x with retrying := false })

theorem laneRecord_lane (c : Chip) (n : Nat) (a b : LaneSt) (cause : String) (m : Nat) : (c.laneRecord n a b cause).lane m = c.lane m := rfl

theorem lane_lockRecorded (c : Chip) (n : Nat) : ((c.laneLocked n).lockRecorded n).lane n = { c.lane n with st := .up, los := false, retrying := false } := by
  unfold Chip.lockRecorded
  rw [Chip.lane_modLane, laneRecord_lane]
  unfold Chip.laneLocked
  rw [Chip.lane_modLane]

theorem recorded_lockRecorded (c : Chip) (n : Nat) : Recorded c.cairn ((c.laneLocked n).lockRecorded n).cairn (120 + n) n
    [fSym "FROM" "TRAINING", fSym "TO" "UP", fSym "MODE" (c.lane n).run.mode.name, fSym "CAUSE" "LOCK"] := by
  have h := recorded_record (c.laneLocked n) (120 + n) n [fSym "FROM" "TRAINING", fSym "TO" "UP", fSym "MODE" ((c.laneLocked n).lane n).run.mode.name, fSym "CAUSE" "LOCK"]
  have hm : ((c.laneLocked n).lane n).run.mode.name = (c.lane n).run.mode.name := by
    unfold Chip.laneLocked
    rw [Chip.lane_modLane]
  unfold Chip.lockRecorded Chip.laneRecord
  rw [hm] at h ⊢
  exact h

theorem laneTrained_eq {c : Chip} {n : Nat} (hst : (c.lane n).st = .training) (hb : (c.lane n).hwBad = false) :
    c.laneTrained n = ((c.laneLocked n).lockRecorded n).laneLatched n := by
  unfold Chip.laneTrained
  exact if_pos ⟨hst, by simp [hb]⟩

/-! ### TRAINING -/

theorem laneTrain_lane (c : Chip) (n : Nat) (m : LaneCfg) (cause : String) :
    (c.laneTrain n m cause).lane n = { c.lane n with st := .training, run := m, since := c.clk.cycle } := by
  have h := c.lane_modLane n (fun x => { x with st := .training, run := m, since := c.clk.cycle })
  unfold Chip.laneTrain
  dsimp only
  split
  · exact h
  · exact h

theorem laneTrain_clk (c : Chip) (n : Nat) (m : LaneCfg) (cause : String) : (c.laneTrain n m cause).clk = c.clk := by
  unfold Chip.laneTrain
  dsimp only
  split <;> rfl

theorem laneTrain_sup (c : Chip) (n : Nat) (m : LaneCfg) (cause : String) : (c.laneTrain n m cause).sup = c.sup := by
  unfold Chip.laneTrain
  dsimp only
  split <;> rfl

/-- The lane whose receiver detects signal again. -/
def Chip.laneLit (c : Chip) (n : Nat) : Chip := c.modLane n (fun y => { y with los := false })

theorem laneLit_clk (c : Chip) (n : Nat) : (c.laneLit n).clk = c.clk := rfl

theorem laneRetry_eq {c : Chip} {n : Nat} (hst : (c.lane n).st = .down) (hb : (c.lane n).hwBad = false) (hd : c.domOn (12 + n / 4) = true) :
    c.laneRetry n = ((c.advanceTo ((c.lane n).since + 100000000)).laneLit n).laneTrain n (c.lane n).run "RETRY" := by
  rw [Nat.add_comm]
  unfold Chip.laneRetry
  exact if_pos ⟨hst, by simp [hb], hd⟩

/-! ### The stop phase -/

/-- The lane as its stop phase ends. -/
def Chip.stopEnded (c : Chip) (n : Nat) (m : LaneCfg) : Chip := c.modLane n (fun x => { x with stopEnd := none, latched := none, run := m })

theorem laneStopEnd_eq {c : Chip} {n t : Nat} (ht : (c.lane n).stopEnd = some t) (hl : (c.lane n).latched = none) :
    c.laneStopEnd n = if (c.lane n).next.mode ≠ .off ∧ c.domOn (12 + n / 4) then ((c.advanceTo t).stopEnded n (c.lane n).next).laneTrain n (c.lane n).next "COMMIT"
      else (c.advanceTo t).stopEnded n (c.lane n).next := by
  have hx := c.lane_advanceTo t n
  have hd := c.dom_advanceTo t (12 + n / 4)
  have hon : ∀ m, ((c.advanceTo t).stopEnded n m).domOn (12 + n / 4) = c.domOn (12 + n / 4) := fun m => congrArg (fun d : Dom => d.st == .on) hd
  unfold Chip.laneStopEnd
  rw [ht]
  dsimp only
  rw [hx, hl, Option.getD_none, ← hon (c.lane n).next]
  rfl

/-- A domain without a latched request waits for nothing. -/
theorem domWaiting_unlatched {c : Chip} {m : Nat} (h : (c.dom m).latched = none) : c.domWaiting [m] = c := by
  unfold Chip.domWaiting
  rw [List.foldl_cons, List.foldl_nil, h]
  cases (c.dom m).st <;> rfl

theorem stopEnded_lane (c : Chip) (n : Nat) (m : LaneCfg) : (c.stopEnded n m).lane n = { c.lane n with stopEnd := none, latched := none, run := m } :=
  c.lane_modLane n _

/-- A lane in DOWN whose hardware failed, with its fault. -/
theorem hardwareBad {c d : Chip} {n : Nat} (h : (d.lane n).st = .down) (hc : d.coll = c.coll) :
    (((d.modLane n (fun x => { x with hwBad := true })).raise (192 + n) n none [fNat "LANE" n]).lane n).st = .down ∧
    (((d.modLane n (fun x => { x with hwBad := true })).raise (192 + n) n none [fNat "LANE" n]).lane n).hwBad = true ∧
    Raised c.coll ((d.modLane n (fun x => { x with hwBad := true })).raise (192 + n) n none [fNat "LANE" n]).coll (192 + n) n := by
  have hl := d.lane_modLane n (fun x => { x with hwBad := true })
  have hr := raised_raise (d.modLane n (fun x => { x with hwBad := true })) (192 + n) n none [fNat "LANE" n]
  have he : (d.modLane n (fun x => { x with hwBad := true })).coll = c.coll := hc
  generalize d.modLane n (fun x => { x with hwBad := true }) = e at *
  exact ⟨(congrArg Lane.st hl).trans h, congrArg Lane.hwBad hl, Raised.of_eq hr he⟩

/-! ### The clauses on lanes -/

section
variable {s : State} {n : Fin 16} (hp : s.u.sup.powered = true)
include hp

theorem laneTrained_line (hst : (s.u.lane n).st = .training) (hb : (s.u.lane n).hwBad = false) (hl : (s.u.lane n).latched = none) :
    CompletesChip (.laneTrained n) s (fun u => (u.lane n).st = .up ∧ (u.lane n).los = false ∧
      Recorded s.u.cairn u.cairn (120 + n) n [fSym "FROM" "TRAINING", fSym "TO" "UP", fSym "MODE" (s.u.lane n).run.mode.name, fSym "CAUSE" "LOCK"]) := by
  refine completes_onChip (exec_laneTrained s n) hp ?_
  have hx : ((s.u.laneLocked n).lockRecorded n).lane n = { s.u.lane n with st := .up, los := false, retrying := false } := lane_lockRecorded s.u n
  rw [laneTrained_eq hst hb, laneLatched_none (by rw [hx]; exact hl), hx]
  exact ⟨rfl, rfl, recorded_lockRecorded s.u n⟩

theorem laneTimeout_line (hst : (s.u.lane n).st = .training) (hl : (s.u.lane n).latched = none) :
    CompletesChip (.laneTrainTimeout n) s (fun u => (u.lane n).st = .down ∧
      u.clk.cycle = max s.u.clk.cycle ((s.u.lane n).since + (s.u.lane n).run.mode.limit) ∧ (u.port n).downs = (s.u.port n).downs + 1) := by
  refine completes_onChip (exec_laneTrainTimeout s n) hp ?_
  unfold Chip.laneTimeout
  dsimp only
  rw [if_pos hst]
  have hx := s.u.lane_advanceTo ((s.u.lane n).since + (s.u.lane n).run.mode.limit) n
  have hq := s.u.port_advanceTo ((s.u.lane n).since + (s.u.lane n).run.mode.limit) n
  have hc := s.u.advanceTo_cycle ((s.u.lane n).since + (s.u.lane n).run.mode.limit)
  generalize s.u.advanceTo ((s.u.lane n).since + (s.u.lane n).run.mode.limit) = d at *
  obtain ⟨hlane, hdowns, hclk, -⟩ := laneDown_leaves d n "TIMEOUT"
  rw [laneLatched_none (by rw [hlane, hx]; exact hl), hlane, hdowns, hclk, hq]
  exact ⟨rfl, hc, rfl⟩

theorem laneLoss_line (los : Bool) (hst : (s.u.lane n).st = .up) : CompletesChip (.laneLoss n los) s (fun u => (u.lane n).st = .down ∧ (u.lane n).los = los ∧
      (u.port n).downs = (s.u.port n).downs + 1 ∧ ∀ e, e ∈ u.sw.stash → e.static = true ∨ n.val ∉ e.ports) := by
  refine completes_onChip (exec_laneLoss s n los) hp ?_
  unfold Chip.laneLoss
  dsimp only
  rw [if_pos hst]
  obtain ⟨hlane, hdowns, -, hstash⟩ := laneDown_leaves s.u n (if los then "LOS" else "LOCK")
  generalize s.u.laneDown n (if los then "LOS" else "LOCK") = d at *
  have h := d.lane_modLane n (fun x => { x with los := los })
  rw [h, hlane]
  exact ⟨rfl, rfl, hdowns, hstash hst⟩

theorem laneRetry_line (hst : (s.u.lane n).st = .down) (hb : (s.u.lane n).hwBad = false) (hd : s.u.domOn (12 + n / 4) = true) :
    CompletesChip (.laneRetry n) s (fun u => (u.lane n).st = .training ∧ (u.lane n).run = (s.u.lane n).run ∧
      u.clk.cycle = max s.u.clk.cycle ((s.u.lane n).since + 100000000)) := by
  refine completes_onChip (exec_laneRetry s n) hp ?_
  rw [laneRetry_eq hst hb hd]
  have hc := s.u.advanceTo_cycle ((s.u.lane n).since + 100000000)
  generalize s.u.advanceTo ((s.u.lane n).since + 100000000) = d at *
  rw [laneTrain_lane, laneTrain_clk, laneLit_clk]
  exact ⟨rfl, rfl, hc⟩

theorem stopPhaseEnd_line {t : Nat} (ht : (s.u.lane n).stopEnd = some t) (hl : (s.u.lane n).latched = none) (hw : (s.u.dom (12 + n / 4)).latched = none) :
    ((s.u.lane n).next.mode = .off → CompletesChip (.laneStopPhaseEnd n) s (fun u => (u.lane n).st = (s.u.lane n).st ∧ (u.lane n).stopEnd = none ∧
      (u.lane n).run = (s.u.lane n).next ∧ max s.u.clk.cycle t ≤ u.clk.cycle)) ∧
    ((s.u.lane n).next.mode ≠ .off → s.u.domOn (12 + n / 4) = true → CompletesChip (.laneStopPhaseEnd n) s (fun u => (u.lane n).st = .training ∧
      (u.lane n).stopEnd = none ∧ (u.lane n).run = (s.u.lane n).next)) := by
  have hx := s.u.lane_advanceTo t n
  have hdom := congrArg Dom.latched (s.u.dom_advanceTo t (12 + n / 4))
  have hc := s.u.advanceTo_cycle t
  have heq := laneStopEnd_eq ht hl
  generalize s.u.advanceTo t = d at *
  have hlane := stopEnded_lane d n (s.u.lane n).next
  have hwait : ((d.stopEnded n (s.u.lane n).next).dom (12 + n / 4)).latched = none := hdom.trans hw
  refine ⟨fun hm => ?_, fun hm hd => ?_⟩
  · refine completes_onChip (exec_laneStopPhaseEnd s n) hp ?_
    rw [heq, if_neg (fun h => h.1 hm), domWaiting_unlatched hwait, hlane, hx]
    exact ⟨rfl, rfl, rfl, hc.ge⟩
  · refine completes_onChip (exec_laneStopPhaseEnd s n) hp ?_
    have hwait' : (((d.stopEnded n (s.u.lane n).next).laneTrain n (s.u.lane n).next "COMMIT").dom (12 + n / 4)).latched = none := by
      refine Eq.trans ?_ hwait
      exact congrArg (fun l : Supply => (l.doms.get Dom.init (12 + n / 4)).latched) (laneTrain_sup _ _ _ _)
    rw [heq, if_pos ⟨hm, hd⟩, domWaiting_unlatched hwait', laneTrain_lane, hlane]
    exact ⟨rfl, rfl, rfl⟩

theorem hardwareFail_line (hst : (s.u.lane n).st ≠ .off) : CompletesChip (.laneHardwareFail n) s (fun u => (u.lane n).st = .down ∧ (u.lane n).hwBad = true ∧
    Raised s.u.coll u.coll (192 + n) n) := by
  refine completes_onChip (exec_laneHardwareFail s n) hp ?_
  unfold Chip.laneHardware
  dsimp only
  rw [if_pos n.isLt, if_neg hst]
  split
  next h => exact hardwareBad h rfl
  · exact hardwareBad (by rw [(laneDown_leaves s.u n "HARDWARE").1]) (laneDown_coll s.u n "HARDWARE")

end

/-! ### Management links and cages -/

/-- The management link is up. -/
def Chip.mgmtUp (c : Chip) (p : Nat) : Chip := c.links' (fun l => { l with mgmt := l.mgmt ++ [p] })
/-- The management link is down, and its port counts the loss. -/
def Chip.mgmtDown (c : Chip) (p : Nat) : Chip := ((c.portDown p).links' (fun l => { l with mgmt := l.mgmt.filter (· != p) })).modPort p (fun k => { k with downs := k.downs + 1 })

theorem mgmtLink_up {c : Chip} {p : Nat} (h : c.links.mgmt.contains p = false) : c.mgmtLink p true = (c.mgmtUp p).record (192 + (p - 16)) p [fSym "STATE" "UP"] := by
  unfold Chip.mgmtLink
  rw [h, if_neg (by decide)]
  rfl

theorem mgmtLink_down {c : Chip} {p : Nat} (h : c.links.mgmt.contains p = true) : c.mgmtLink p false = (c.mgmtDown p).record (192 + (p - 16)) p [fSym "STATE" "DOWN"] := by
  unfold Chip.mgmtLink
  rw [h, if_neg (by decide)]
  rfl

theorem portDown_cairn (c : Chip) (p : Nat) : (c.portDown p).cairn = c.cairn := by
  have hf : ∀ d : Chip, (d.forgotten p).cairn = d.cairn := fun _ => rfl
  have ha : (c.txAborted p).cairn = c.cairn := rfl
  obtain hc | hc := portDown_cases c p
  · rw [hc, hf, ha]
  · rw [hc, hf]

/-- What the loss of a management link leaves. -/
theorem mgmtDown_leaves (c : Chip) (p : Nat) :
    p ∉ (c.mgmtDown p).links.mgmt ∧ ((c.mgmtDown p).port p).downs = (c.port p).downs + 1 ∧ (c.mgmtDown p).cairn = c.cairn := by
  have hd := portDown_downs c p p
  have hc := portDown_cairn c p
  unfold Chip.mgmtDown
  generalize c.portDown p = d at *
  have hp := congrArg PortCnt.downs ((d.links' (fun l => { l with mgmt := l.mgmt.filter (· != p) })).port_modPort p (fun k => { k with downs := k.downs + 1 }))
  have hm : p ∉ d.links.mgmt.filter (· != p) := fun h => absurd (List.mem_filter.mp h).2 (by simp)
  refine ⟨hm, hp.trans ?_, hc⟩
  exact congrArg (· + 1) hd

theorem mgmtLink_lines {s : State} {p : Fin 2} (hp : s.u.sup.powered = true) :
    (s.u.links.mgmt.contains (16 + p.val) = false → CompletesChip (.mgmtLinkChange p true) s (fun u => (16 + p.val) ∈ u.links.mgmt ∧
      Recorded s.u.cairn u.cairn (192 + p) (16 + p) [fSym "STATE" "UP"])) ∧
    (s.u.links.mgmt.contains (16 + p.val) = true → CompletesChip (.mgmtLinkChange p false) s (fun u => (16 + p.val) ∉ u.links.mgmt ∧
      (u.port (16 + p)).downs = (s.u.port (16 + p)).downs + 1 ∧ Recorded s.u.cairn u.cairn (192 + p) (16 + p) [fSym "STATE" "DOWN"])) := by
  have hn : 192 + (16 + p.val - 16) = 192 + p.val := by omega
  refine ⟨fun h => ?_, fun h => ?_⟩
  · refine completes_onChip (exec_mgmtLinkChange s p true) hp ?_
    rw [mgmtLink_up h, hn]
    have hrec := recorded_record (s.u.mgmtUp (16 + p)) (192 + p) (16 + p) [fSym "STATE" "UP"]
    exact ⟨List.mem_append_right _ (List.mem_singleton.mpr rfl), hrec⟩
  · refine completes_onChip (exec_mgmtLinkChange s p false) hp ?_
    rw [mgmtLink_down h, hn]
    obtain ⟨hm, hd, hc⟩ := mgmtDown_leaves s.u (16 + p)
    have hrec := recorded_record (s.u.mgmtDown (16 + p)) (192 + p) (16 + p) [fSym "STATE" "DOWN"]
    generalize s.u.mgmtDown (16 + p) = d at *
    rw [hc] at hrec
    exact ⟨hm, hd, hrec⟩

/-- The cage's reset is released. -/
def Chip.resetOff (c : Chip) (q : Nat) : Chip := c.modCage q (fun x => { x with resetOut := true })

theorem resetRelease_eq {c : Chip} {q t : Nat} (ht : (c.cage q).ready = some t) (hr : (c.cage q).resetOut = false) :
    c.resetRelease q = (c.advanceTo (t + 10000000)).resetOff q := by
  rw [Nat.add_comm]
  unfold Chip.resetRelease
  rw [ht]
  exact if_neg (by simp [hr])

theorem resetOff_leaves (c : Chip) (q : Nat) : ((c.resetOff q).cage q).resetOut = true ∧ (c.resetOff q).clk = c.clk :=
  ⟨congrArg Cage.resetOut (c.cage_modCage q (fun x => { x with resetOut := true })), rfl⟩

theorem resetRelease_line {s : State} {q : Fin 4} {t : Nat} (hp : s.u.sup.powered = true) (ht : (s.u.cage q).ready = some t) (hr : (s.u.cage q).resetOut = false) :
    CompletesChip (.moduleResetRelease q) s (fun u => (u.cage q).resetOut = true ∧ u.clk.cycle = max s.u.clk.cycle (t + 10000000)) := by
  refine completes_onChip (exec_moduleResetRelease s q) hp ?_
  rw [resetRelease_eq ht hr]
  obtain ⟨hout, hclk⟩ := resetOff_leaves (s.u.advanceTo (t + 10000000)) q
  exact ⟨hout, (congrArg Clk.cycle hclk).trans (s.u.advanceTo_cycle (t + 10000000))⟩

theorem intlChange_line {s : State} {q : Fin 4} {b : Bool} (hp : s.u.sup.powered = true) (hb : (s.u.cage q).intl = !b) :
    CompletesChip (.cageIntlChange q b) s (fun u => (u.cage q).intl = b ∧
      Recorded s.u.cairn u.cairn (196 + q) q [fSym "STATE" (if b then "ASSERTED" else "RELEASED")]) := by
  refine completes_onChip (exec_cageIntlChange s q b) hp ?_
  have h := congrArg Cage.intl (s.u.cage_modCage q (fun x => { x with intl := b }))
  have hrec := recorded_record (s.u.modCage q (fun x => { x with intl := b })) (196 + q) q [fSym "STATE" (if b then "ASSERTED" else "RELEASED")]
  unfold Chip.intlChange
  rw [if_neg (by rw [hb]; simp)]
  exact ⟨h, hrec⟩

/-- Settles O53: each transition by the lemma that says what it leaves. -/
theorem laneTransitions : Obligations.LaneTransitions := by
  unfold Obligations.LaneTransitions
  refine ⟨fun s n hp => ⟨laneTrained_line hp, laneTimeout_line hp, laneLoss_line hp, laneRetry_line hp, fun t => stopPhaseEnd_line hp, hardwareFail_line hp⟩,
    fun s p => mgmtLink_lines, fun s q t => resetRelease_line, fun s q b => intlChange_line⟩

end Sys2Proof.Machine
end

section
/-!
PROOFS. The rope link: its frames and their sequence, its beacons, the choice of the transmit lane, loss, fallback and recovery (R24, R240, R492–R503, R754).
-/
namespace Sys2Proof.Machine

theorem Chip.rlane_advanceTo (c : Chip) (t n : Nat) : (c.advanceTo t).rlane n = c.rlane n :=
  congrArg (fun l : Links => l.rlanes.get RopeLane.init n) (c.advanceTo_links t)

/-! ### TOKENS frames sent -/

/-- Without queued MIRROR frames nothing follows a frame. -/
theorem mirrorDrain_none {c : Chip} (h : c.links.mirrors = []) : c.mirrorDrain = c := by
  unfold Chip.mirrorDrain
  rw [h]
  split
  · rfl
  · have hl : { c.links with mirrors := [] } = c.links := by rw [← h]
    exact congrArg (fun l => { c with links := l }) hl

/-- The framer's queue after it has taken a frame's tokens. -/
def Chip.unqueued (c : Chip) : Chip := c.links' (fun k => { k with txQueue := k.txQueue.drop 4, txFirst := c.clk.cycle })

/-- A frame of tokens has been sent with a sequence number. -/
def Chip.tokensSent (c : Chip) (l : List RopeTok) (n : Nat) : Chip :=
  ((c.unqueued.links' (fun k => { k with txSeq := k.txSeq.put 0 1 n })).ropeSend { version := 1, typ := 1, seq := n, resv := 0, body := .tokens l }).ropeCnt
    (fun k => { k with txtok := k.txtok + l.length })

/-- The next sequence number of a TYPE. -/
def Links.nextSeq (l : Links) (typ : Nat) : Nat := (l.txSeq.get 0 typ + 1) % 65536

theorem ropeClose_one {c : Chip} {t : RopeTok} (hq : c.links.txQueue = [t]) (hu : c.ropeLaneUp c.links.txLane = true) (hm : c.links.mirrors = []) :
    c.ropeClose = (c.advanceTo (c.links.txFirst + 4)).tokensSent [t] (c.links.nextSeq 1) := by
  have hl := c.advanceTo_links (c.links.txFirst + 4)
  unfold Chip.ropeClose
  rw [hq, hu, if_neg (by simp)]
  rw [← hl] at hm
  generalize c.advanceTo (c.links.txFirst + 4) = d at *
  rw [← hl]
  exact mirrorDrain_none (c := d.tokensSent [t] (d.links.nextSeq 1)) hm

theorem ropeSend_clk (c : Chip) (f : RopeFrame) : (c.ropeSend f).clk = c.clk := rfl
theorem ropeCnt_clk (c : Chip) (g : RopeCnt → RopeCnt) : (c.ropeCnt g).clk = c.clk := rfl
theorem unqueued_clk (c : Chip) : c.unqueued.clk = c.clk := rfl

theorem Chip.tokensSent_clk (c : Chip) (l : List RopeTok) (n : Nat) : (c.tokensSent l n).clk = c.clk := by
  unfold Chip.tokensSent
  rw [ropeCnt_clk, ropeSend_clk, Chip.links_prime_clk, unqueued_clk]

/-- What sending the one queued token leaves. -/
theorem tokensSent_leaves {c : Chip} {t : RopeTok} {n : Nat} (hq : c.links.txQueue = [t]) :
    (c.tokensSent [t] n).links.txQueue = [] ∧ (c.tokensSent [t] n).links.txSeq.get 0 1 = n ∧
    (c.tokensSent [t] n).links.cnt.txtok = c.links.cnt.txtok + 1 ∧ (c.tokensSent [t] n).links.lastSent = some (c.links.txLane,
      { version := 1, typ := 1, seq := n, resv := 0, body := .tokens [t] }) ∧ (c.tokensSent [t] n).clk = c.clk := by
  have hdrop : c.links.txQueue.drop 4 = [] := by rw [hq]; rfl
  have hseq := Tbl.get_put_same 0 n c.links.txSeq 1
  exact ⟨hdrop, hseq, rfl, rfl, c.tokensSent_clk [t] n⟩

theorem ropeClose_line {s : State} {t : RopeTok} (hp : s.u.sup.powered = true) (hq : s.u.links.txQueue = [t])
    (hu : s.u.ropeLaneUp s.u.links.txLane = true) (hm : s.u.links.mirrors = []) :
    CompletesChip .ropeFrameClose s (fun u => let n := (s.u.links.txSeq.get 0 1 + 1) % 65536
      u.links.txQueue = [] ∧ u.links.txSeq.get 0 1 = n ∧ u.links.cnt.txtok = s.u.links.cnt.txtok + 1 ∧
      u.links.lastSent = some (s.u.links.txLane, { version := 1, typ := 1, seq := n, resv := 0, body := .tokens [t] }) ∧
      u.clk.cycle = max s.u.clk.cycle (s.u.links.txFirst + 4)) := by
  refine completes_onChip (exec_ropeFrameClose s) hp ?_
  have hl := s.u.advanceTo_links (s.u.links.txFirst + 4)
  have hc := s.u.advanceTo_cycle (s.u.links.txFirst + 4)
  rw [ropeClose_one hq hu hm]
  generalize s.u.advanceTo (s.u.links.txFirst + 4) = d at *
  obtain ⟨h1, h2, h3, h4, h5⟩ := tokensSent_leaves (c := d) (t := t) (n := s.u.links.nextSeq 1) (by rw [hl]; exact hq)
  rw [hl] at h3 h4
  exact ⟨h1, h2, h3, h4, (congrArg Clk.cycle h5).trans hc⟩

/-! ### Frames received -/

/-- A rope frame counted at its lane's port. -/
def Chip.ropeCounted (c : Chip) (lane : Nat) (f : RopeFrame) : Chip := c.modPort lane (fun k => { k with rxf := k.rxf + 1, rxo := k.rxo + f.len })

theorem ropeReceive_version {c : Chip} {lane : Nat} {f : RopeFrame} (hu : c.ropeLaneUp lane = true) (hv : f.version ≠ 1) :
    c.ropeReceive lane f = (c.ropeCounted lane f).ropeCnt (fun k => { k with badver := k.badver + 1 }) := by
  unfold Chip.ropeReceive
  rw [hu, if_neg (by decide)]
  exact if_pos hv

theorem ropeReceive_tokens {c : Chip} {lane : Nat} {f : RopeFrame} {l : List RopeTok} (hu : c.ropeLaneUp lane = true) (hv : f.version = 1) (hr : f.resv = 0)
    (ht : f.typ = 1) (hb : f.body = .tokens l) : c.ropeReceive lane f =
    let r := (c.ropeCounted lane f).ropeAccept 1 f.seq
    if r.1 then l.foldl Chip.ropeEntry r.2 else r.2.ropeStale := by
  unfold Chip.ropeReceive
  rw [hu, if_neg (by decide)]
  dsimp only
  rw [if_neg (by simp [hv]), if_neg (by simp [hr]), ht, hb]
  rfl

/-- The distance of a sequence number from the last one. -/
def seqAhead (seq last : Nat) : Nat := (65536 + seq - last) % 65536

theorem ropeAccept_stale {c : Chip} {typ seq last : Nat} (hl : c.links.rxSeq.find typ = some last) (hd : seqAhead seq last = 0 ∨ 32767 < seqAhead seq last) :
    c.ropeAccept typ seq = (false, c) := by
  unfold Chip.ropeAccept
  rw [hl]
  exact if_neg (by unfold seqAhead at hd; omega)

/-- A frame of a TYPE is accepted, with what was lost before it. -/
def Chip.accepted (c : Chip) (typ seq lost : Nat) : Chip := (c.links' (fun l => { l with rxSeq := l.rxSeq.set typ seq })).ropeCnt (fun k => { k with lost := k.lost + lost })

theorem ropeAccept_ahead {c : Chip} {typ seq last : Nat} (hl : c.links.rxSeq.find typ = some last) (h1 : 1 ≤ seqAhead seq last) (h2 : seqAhead seq last ≤ 32767) :
    c.ropeAccept typ seq = (true, c.accepted typ seq (seqAhead seq last - 1)) := by
  unfold Chip.ropeAccept
  rw [hl]
  exact if_pos ⟨h1, h2⟩

theorem ropeReceive_lines {s : State} {l : Fin 2} {f : RopeFrame} (hp : s.u.sup.powered = true) (hu : s.u.ropeLaneUp (14 + l) = true) :
    (f.version ≠ 1 → CompletesChip (.ropeFrameReceive l f) s (fun u => u.links.cnt = { s.u.links.cnt with badver := s.u.links.cnt.badver + 1 } ∧
      u.fab = s.u.fab ∧ u.links.rxSeq = s.u.links.rxSeq)) ∧
    (∀ ts last, f.version = 1 → f.resv = 0 → f.typ = 1 → f.body = .tokens ts → s.u.links.rxSeq.find 1 = some last →
      (seqAhead f.seq last = 0 ∨ 32767 < seqAhead f.seq last → CompletesChip (.ropeFrameReceive l f) s (fun u =>
        u.links.cnt = { s.u.links.cnt with stale := s.u.links.cnt.stale + 1 } ∧ u.fab = s.u.fab ∧ u.fis = s.u.fis ∧ u.links.rxSeq = s.u.links.rxSeq)) ∧
      (1 ≤ seqAhead f.seq last → seqAhead f.seq last ≤ 32767 → ts = [] → CompletesChip (.ropeFrameReceive l f) s (fun u =>
        u.links.rxSeq.find 1 = some f.seq ∧ u.links.cnt = { s.u.links.cnt with lost := s.u.links.cnt.lost + (seqAhead f.seq last - 1) }))) := by
  refine ⟨fun hv => ?_, fun ts last hv hr ht hb hl => ⟨fun hd => ?_, fun h1 h2 hts => ?_⟩⟩
  · refine completes_onChip (exec_ropeFrameReceive s l f) hp ?_
    rw [ropeReceive_version hu hv]
    exact ⟨rfl, rfl, rfl⟩
  · refine completes_onChip (exec_ropeFrameReceive s l f) hp ?_
    rw [ropeReceive_tokens hu hv hr ht hb, ropeAccept_stale (c := s.u.ropeCounted (14 + l) f) hl hd]
    exact ⟨rfl, rfl, rfl, rfl⟩
  · refine completes_onChip (exec_ropeFrameReceive s l f) hp ?_
    rw [ropeReceive_tokens hu hv hr ht hb, ropeAccept_ahead (c := s.u.ropeCounted (14 + l) f) hl h1 h2, hts]
    exact ⟨Tbl.find_set_same f.seq s.u.links.rxSeq 1, rfl⟩

/-! ### Beacons sent -/

/-- The beacon's frame for a lane. -/
def Chip.beaconFrame (c : Chip) (n l : Nat) : RopeFrame := { version := 1, typ := 3, seq := n, resv := 0, body := .beacon (c.beaconBody l) }

/-- The beacon goes out on a lane that is UP. -/
def Chip.beaconOn (c : Chip) (n l : Nat) : Chip :=
  if c.ropeLaneUp l then (c.links' (fun k => { k with lastBeacon := k.lastBeacon.set l (c.beaconFrame n l) })).modPort l (fun k => { k with txf := k.txf + 1, txo := k.txo + (c.beaconFrame n l).len })
  else c

/-- The moment and the number of the beacon. -/
def Chip.beaconBegun (c : Chip) (n : Nat) : Chip := c.links' (fun k => { k with txSeq := k.txSeq.put 0 3 n, beaconAt := some c.clk.cycle })

/-- The unit when the next beacon is due. -/
def Chip.beaconDue (c : Chip) : Chip := match c.links.beaconAt with | some t => c.advanceTo (10000 + t) | none => c

theorem beaconDue_keeps (c : Chip) : c.beaconDue.links = c.links ∧ c.beaconDue.unit = c.unit ∧ c.beaconDue.sup = c.sup := by
  unfold Chip.beaconDue
  split
  · exact ⟨Chip.advanceTo_links _ _, Chip.advanceTo_unit _ _, Chip.advanceTo_sup _ _⟩
  · exact ⟨rfl, rfl, rfl⟩

theorem beaconSend_eq {c : Chip} (hr : c.roped = true) :
    c.beaconSend = ((c.beaconDue.beaconBegun (c.beaconDue.links.nextSeq 3)).beaconOn (c.beaconDue.links.nextSeq 3) 14).beaconOn (c.beaconDue.links.nextSeq 3) 15 := by
  unfold Chip.beaconSend
  rw [hr]
  rfl

/-- What a beacon on one lane leaves. -/
structure Chip.Beaconed (c u : Chip) (l : Nat) : Prop where
  seqs : u.links.txSeq = c.links.txSeq
  due : u.links.beaconAt = c.links.beaconAt
  clk : u.clk = c.clk
  unit : u.unit = c.unit
  up : ∀ m, u.ropeLaneUp m = c.ropeLaneUp m
  others : ∀ m, m ≠ l → u.links.lastBeacon.find m = c.links.lastBeacon.find m

theorem beaconOn_beaconed (c : Chip) (n l : Nat) : c.Beaconed (c.beaconOn n l) l := by
  unfold Chip.beaconOn
  split
  · exact ⟨rfl, rfl, rfl, rfl, fun _ => rfl, fun m hm => Tbl.find_set_ne (c.beaconFrame n l) c.links.lastBeacon hm⟩
  · exact ⟨rfl, rfl, rfl, rfl, fun _ => rfl, fun _ _ => rfl⟩

theorem beaconOn_sent {c : Chip} {n l : Nat} (h : c.ropeLaneUp l = true) : (c.beaconOn n l).links.lastBeacon.find l = some (c.beaconFrame n l) := by
  unfold Chip.beaconOn
  rw [if_pos h]
  exact Tbl.find_set_same (c.beaconFrame n l) c.links.lastBeacon l

theorem beaconSend_line {s : State} (hp : s.u.sup.powered = true) (hr : s.u.roped = true) :
    CompletesChip .beaconSend s (fun u => let n := (s.u.links.txSeq.get 0 3 + 1) % 65536
    u.links.txSeq.get 0 3 = n ∧ u.links.beaconAt = some u.clk.cycle ∧
    ∀ l, (l = 14 ∨ l = 15) → s.u.ropeLaneUp l = true → ∃ b, u.links.lastBeacon.find l = some { version := 1, typ := 3, seq := n, resv := 0, body := .beacon b } ∧
      b.serial = s.u.unit.serial) := by
  refine completes_onChip (exec_beaconSend s) hp ?_
  rw [beaconSend_eq hr]
  obtain ⟨hl, hu, hs⟩ := beaconDue_keeps s.u
  rw [hl]
  have hup : ∀ m, (s.u.beaconDue.beaconBegun (s.u.links.nextSeq 3)).ropeLaneUp m = s.u.ropeLaneUp m := by
    intro m
    unfold Chip.ropeLaneUp Chip.domOn Chip.dom Chip.ropeLane Chip.lane
    rw [← hl, ← hs]
    rfl
  have hseq : (s.u.beaconDue.beaconBegun (s.u.links.nextSeq 3)).links.txSeq.get 0 3 = s.u.links.nextSeq 3 := Tbl.get_put_same 0 (s.u.links.nextSeq 3) s.u.beaconDue.links.txSeq 3
  have hdue : (s.u.beaconDue.beaconBegun (s.u.links.nextSeq 3)).links.beaconAt = some (s.u.beaconDue.beaconBegun (s.u.links.nextSeq 3)).clk.cycle := rfl
  have hunit : (s.u.beaconDue.beaconBegun (s.u.links.nextSeq 3)).unit = s.u.unit := hu
  generalize s.u.beaconDue.beaconBegun (s.u.links.nextSeq 3) = d at *
  have hn : (s.u.links.txSeq.get 0 3 + 1) % 65536 = s.u.links.nextSeq 3 := rfl
  dsimp only
  rw [hn]
  generalize s.u.links.nextSeq 3 = n at *
  have h1 := beaconOn_beaconed d n 14
  have h2 := beaconOn_beaconed (d.beaconOn n 14) n 15
  refine ⟨by rw [h2.seqs, h1.seqs, hseq], by rw [h2.due, h1.due, h2.clk, h1.clk, hdue], fun l hlane hlu => ?_⟩
  obtain rfl | rfl := hlane
  · exact ⟨_, (h2.others 14 (by decide)).trans (beaconOn_sent ((hup 14).trans hlu)), congrArg UnitSt.serial hunit⟩
  · exact ⟨_, beaconOn_sent ((h1.up 15).trans ((hup 15).trans hlu)), congrArg UnitSt.serial (h1.unit.trans hunit)⟩

/-! ### Beacons received -/

/-- What a lane keeps of a beacon. -/
def Beacon.keptBy (b : Beacon) (now run seq : Nat) (rx : Nat × Nat) (x : RopeLane) : RopeLane :=
  { x with rxAt := some now, runFrom := run, peerSeq := seq, peerTx := b.tx, rxTime := rx, echoSeq := b.echoSeq, echoValid := b.echoValid, downNoted := false }

/-- The lane's entry and the sequence number after a beacon. -/
def Chip.beaconKept (c : Chip) (lane seq : Nat) (g : RopeLane → RopeLane) : Chip := (c.links' (fun l => { l with rxSeq := l.rxSeq.set 3 seq })).modRlane lane g

/-- The offset that an echo on the transmit lane gives. -/
def Chip.echoed (c : Chip) (valid : Prop) [Decidable valid] (o : Int × Int) : Chip := if valid then c.links' (fun l => { l with offset := some o }) else c

/-- The peer that sent the beacon, and the record of another one. -/
def Chip.peerKnown (c : Chip) (b : Beacon) (other : Bool) : Chip :=
  let d := c.links' (fun l => { l with peer := some b, peerSerial := some b.serial })
  if other then d.record 138 0 [⟨"SERIAL", .str (String.ofList b.serial)⟩] else d

theorem echoed_keeps (c : Chip) (v : Prop) [Decidable v] (o : Int × Int) :
    (c.echoed v o).links.rlanes = c.links.rlanes ∧ (c.echoed v o).links.rxSeq = c.links.rxSeq ∧ (c.echoed v o).links.ropeUp = c.links.ropeUp := by
  unfold Chip.echoed
  split
  · exact ⟨rfl, rfl, rfl⟩
  · exact ⟨rfl, rfl, rfl⟩

theorem peerKnown_links (c : Chip) (b : Beacon) (other : Bool) :
    (c.peerKnown b other).links = { c.links with peer := some b, peerSerial := some b.serial } := by
  unfold Chip.peerKnown
  dsimp only
  split
  · rfl
  · rfl

theorem ropeAccept_first {c : Chip} {typ seq : Nat} (h : c.links.rxSeq.find typ = none) :
    c.ropeAccept typ seq = (true, c.links' (fun l => { l with rxSeq := l.rxSeq.set typ seq })) := by
  unfold Chip.ropeAccept
  rw [h]

/-- The cycle from which a lane's beacons have come without a gap. -/
def Chip.runSince (c : Chip) (lane : Nat) : Nat :=
  match (c.rlane lane).rxAt with | some t => if c.clk.cycle ≤ 15000 + t then (c.rlane lane).runFrom else c.clk.cycle | none => c.clk.cycle

/-- The offset and the delay that a beacon's echo gives. -/
def Beacon.offset (b : Beacon) (rx : Nat × Nat) : Int × Int :=
  (halfNs ((nsOf b.echoRx - nsOf b.echoTx) - (nsOf rx - nsOf b.tx)), halfNs ((nsOf b.echoRx - nsOf b.echoTx) + (nsOf rx - nsOf b.tx)))

/-- Another unit than the last one sent the beacon. -/
def Chip.otherPeer (c : Chip) (b : Beacon) : Bool := match c.links.peerSerial with | some s => s != b.serial | none => false

/-- The unit with a first beacon and all that it tells. -/
def Chip.beaconHeard (c : Chip) (lane seq : Nat) (b : Beacon) : Chip :=
  (((c.beaconKept lane seq (b.keptBy c.clk.cycle (c.runSince lane) seq (c.timeShift (-58)))).echoed (b.echoValid ∧ lane = c.links.txLane)
    (b.offset (c.timeShift (-58)))).peerKnown b (c.otherPeer b))

theorem beaconReceive_first {c : Chip} {lane seq : Nat} {b : Beacon} (hu : c.ropeLaneUp lane = true) (hf : c.links.rxSeq.find 3 = none) :
    c.beaconReceive lane seq b = if !(c.beaconHeard lane seq b).links.ropeUp && decide (100000 + c.runSince lane ≤ c.clk.cycle) then (c.beaconHeard lane seq b).ropeUp
      else c.beaconHeard lane seq b := by
  unfold Chip.beaconReceive
  rw [hu, if_neg (by decide), hf, ropeAccept_first hf]
  rfl

/-- What a first beacon leaves. -/
theorem beaconHeard_leaves (c : Chip) (lane seq : Nat) (b : Beacon) :
    (∃ run rx, (c.beaconHeard lane seq b).rlane lane = b.keptBy c.clk.cycle run seq rx (c.rlane lane)) ∧ (c.beaconHeard lane seq b).links.peer = some b ∧
    (c.beaconHeard lane seq b).links.peerSerial = some b.serial ∧ (c.beaconHeard lane seq b).links.rxSeq.find 3 = some seq ∧
    (c.beaconHeard lane seq b).links.ropeUp = c.links.ropeUp := by
  have hr := (c.links' (fun l => { l with rxSeq := l.rxSeq.set 3 seq })).rlane_modRlane lane (b.keptBy c.clk.cycle (c.runSince lane) seq (c.timeShift (-58)))
  obtain ⟨hrl, hrx, hup⟩ := echoed_keeps (c.beaconKept lane seq (b.keptBy c.clk.cycle (c.runSince lane) seq (c.timeShift (-58)))) (b.echoValid ∧ lane = c.links.txLane)
    (b.offset (c.timeShift (-58)))
  unfold Chip.beaconHeard Chip.rlane
  rw [peerKnown_links]
  refine ⟨⟨c.runSince lane, c.timeShift (-58), ?_⟩, rfl, rfl, ?_, hup⟩
  · dsimp only
    rw [hrl]
    exact hr
  · dsimp only
    rw [hrx]
    exact Tbl.find_set_same seq c.links.rxSeq 3

theorem beaconReceive_line {s : State} {l : Fin 2} {seq : Fin 65536} {b : Beacon} (hp : s.u.sup.powered = true) (hu : s.u.ropeLaneUp (14 + l) = true)
    (hf : s.u.links.rxSeq.find 3 = none) (hup : s.u.links.ropeUp = true) :
    CompletesChip (.beaconReceive l seq b) s (fun u => (u.rlane (14 + l)).rxAt = some s.u.clk.cycle ∧
      (u.rlane (14 + l)).peerSeq = seq ∧ u.links.peer = some b ∧ u.links.peerSerial = some b.serial ∧ u.links.rxSeq.find 3 = some seq.val ∧
      u.links.ropeUp = true) := by
  refine completes_onChip (exec_beaconReceive s l seq b) hp ?_
  obtain ⟨⟨run, rx, hr⟩, hpeer, hserial, hseq, hkept⟩ := beaconHeard_leaves s.u (14 + l) seq b
  rw [beaconReceive_first hu hf]
  generalize s.u.beaconHeard (14 + l) seq b = d at *
  rw [hup] at hkept
  rw [hkept, if_neg (by simp), hr]
  exact ⟨rfl, rfl, hpeer, hserial, hseq, hkept⟩

/-! ### The transmit lane and the loss of the link -/

theorem ropeSwitch_line {s : State} {cause : String} (hp : s.u.sup.powered = true) (ha : s.u.ropeIll s.u.links.txLane = some cause)
    (hb : s.u.ropeIll (29 - s.u.links.txLane) = none) (hm : s.u.links.mirrors = []) :
    CompletesChip .ropeLaneSwitch s (fun u => u.links.txLane = 29 - s.u.links.txLane ∧ u.links.cnt.switch = s.u.links.cnt.switch + 1 ∧
      Recorded s.u.cairn u.cairn 137 0 [fNat "FROM" s.u.links.txLane, fNat "TO" (29 - s.u.links.txLane), fSym "CAUSE" cause]) := by
  refine completes_onChip (exec_ropeLaneSwitch s) hp ?_
  unfold Chip.ropeSwitch
  dsimp only
  rw [ha, hb]
  dsimp only
  generalize 29 - s.u.links.txLane = b
  have hrec := recorded_record ((s.u.links' (fun l => { l with txLane := b })).ropeCnt (fun k => { k with switch := k.switch + 1 })) 137 0
    [fNat "FROM" s.u.links.txLane, fNat "TO" b, fSym "CAUSE" cause]
  rw [mirrorDrain_none (by exact hm)]
  exact ⟨rfl, rfl, hrec⟩

/-- The link is LOST. -/
def Chip.linkLost (c : Chip) : Chip := (c.links' (fun l => { l with ropeUp := false })).record 136 0 [fSym "STATE" "LOST", fSym "CAUSE" "NOBEACON"]

theorem ropeLost_eq {c : Chip} (h : c.links.ropeUp = true) : c.ropeLost = (c.advanceTo (c.lastBeaconRx + 30000)).linkLost := by
  rw [Nat.add_comm]
  unfold Chip.ropeLost
  exact if_neg (by simp [h])

theorem linkLost_leaves (c : Chip) : c.linkLost.links.ropeUp = false ∧ c.linkLost.clk = c.clk ∧
    Recorded c.cairn c.linkLost.cairn 136 0 [fSym "STATE" "LOST", fSym "CAUSE" "NOBEACON"] :=
  ⟨rfl, rfl, recorded_record (c.links' (fun l => { l with ropeUp := false })) 136 0 [fSym "STATE" "LOST", fSym "CAUSE" "NOBEACON"]⟩

theorem ropeLost_line {s : State} (hp : s.u.sup.powered = true) (h : s.u.links.ropeUp = true) :
    CompletesChip .ropeLinkLost s (fun u => let due := s.u.lastBeaconRx + 30000
      u.links.ropeUp = false ∧ u.clk.cycle = max s.u.clk.cycle due ∧
      Recorded (s.u.advanceTo due).cairn u.cairn 136 0 [fSym "STATE" "LOST", fSym "CAUSE" "NOBEACON"]) := by
  refine completes_onChip (exec_ropeLinkLost s) hp ?_
  obtain ⟨hup, hclk, hrec⟩ := linkLost_leaves (s.u.advanceTo (s.u.lastBeaconRx + 30000))
  rw [ropeLost_eq h]
  exact ⟨hup, (congrArg Clk.cycle hclk).trans (s.u.advanceTo_cycle (s.u.lastBeaconRx + 30000)), hrec⟩

/-- The standby lane is noted to be down. -/
def Chip.standbyNoted (c : Chip) (n : Nat) : Chip :=
  (c.modRlane n (fun x => { x with downNoted := true })).record 207 n [⟨"LINK", .pair "ROPE" n⟩, fSym "ACTION" "STANDBYDOWN"]

theorem standbyDown_eq {c : Chip} (hr : c.roped = true) (hi : (c.ropeIll (29 - c.links.txLane)).isSome = true)
    (hn : (c.rlane (29 - c.links.txLane)).downNoted = false) :
    c.standbyDown = (c.advanceTo (60000020000 + (c.rlane (29 - c.links.txLane)).rxAt.getD 0)).standbyNoted (29 - c.links.txLane) := by
  have hs : (c.ropeIll (29 - c.links.txLane)).isNone = false := by
    rw [← Option.not_isSome, hi]
    rfl
  unfold Chip.standbyDown
  dsimp only
  rw [hr, hs, hn]
  exact if_neg (by decide)

theorem standbyNoted_leaves (c : Chip) (n : Nat) : ((c.standbyNoted n).rlane n).downNoted = true ∧ (c.standbyNoted n).clk = c.clk ∧
    (c.standbyNoted n).links.txLane = c.links.txLane ∧ Recorded c.cairn (c.standbyNoted n).cairn 207 n [⟨"LINK", .pair "ROPE" n⟩, fSym "ACTION" "STANDBYDOWN"] := by
  have h := congrArg RopeLane.downNoted (c.rlane_modRlane n (fun x => { x with downNoted := true }))
  have hrec := recorded_record (c.modRlane n (fun x => { x with downNoted := true })) 207 n [⟨"LINK", .pair "ROPE" n⟩, fSym "ACTION" "STANDBYDOWN"]
  exact ⟨h, rfl, rfl, hrec⟩

theorem standbyDown_line {s : State} {n : Nat} (hp : s.u.sup.powered = true) (hr : s.u.roped = true) (hn : n = 29 - s.u.links.txLane)
    (hi : (s.u.ropeIll n).isSome = true) (hd : (s.u.rlane n).downNoted = false) :
    CompletesChip .ropeStandbyDown s (fun u => let due := 60000020000 + (s.u.rlane n).rxAt.getD 0
      (u.rlane n).downNoted = true ∧ u.clk.cycle = max s.u.clk.cycle due ∧ u.links.txLane = s.u.links.txLane ∧
      Recorded (s.u.advanceTo due).cairn u.cairn 207 n [⟨"LINK", .pair "ROPE" n⟩, fSym "ACTION" "STANDBYDOWN"]) := by
  refine completes_onChip (exec_ropeStandbyDown s) hp ?_
  subst hn
  rw [standbyDown_eq hr hi hd]
  obtain ⟨h1, h2, h3, h4⟩ := standbyNoted_leaves (s.u.advanceTo (60000020000 + (s.u.rlane (29 - s.u.links.txLane)).rxAt.getD 0)) (29 - s.u.links.txLane)
  have hc := s.u.advanceTo_cycle (60000020000 + (s.u.rlane (29 - s.u.links.txLane)).rxAt.getD 0)
  have hl := congrArg Links.txLane (s.u.advanceTo_links (60000020000 + (s.u.rlane (29 - s.u.links.txLane)).rxAt.getD 0))
  exact ⟨h1, (congrArg Clk.cycle h2).trans hc, h3.trans hl, h4⟩

/-! ### Fallback and recovery of roped FIs -/

theorem Fi.of_part {x : Fi} {p : Life.Part} (h : x.part = p) : x.st = p.st ∧ x.gen = p.gen ∧ x.ropeStopped = p.ropeStopped := by
  subst h
  exact ⟨rfl, rfl, rfl⟩

theorem ropeFallback_lines {s : State} {fi : Fin 1024} (hp : s.u.sup.powered = true) (hr : (s.u.fiCfg fi).rope = true) (hu : s.u.links.ropeUp = false)
    (ha : (s.u.fi fi).st.active = true) (hb : (s.u.fi fi).fallenBack = false) :
    ((s.u.fiCfg fi).fallback = .loc → CompletesChip (.ropeFallback fi) s (fun u => (u.fi fi).fallenBack = true ∧ (u.fi fi).fallbackVal = 1 ∧
      (u.fi fi).st = (s.u.fi fi).st ∧ Recorded s.u.cairn u.cairn 162 fi [fFi fi])) ∧
    ((s.u.fiCfg fi).fallback = .stop → CompletesChip (.ropeFallback fi) s (fun u => (u.fi fi).st = .draining ∧ (u.fi fi).ropeStopped = true)) := by
  have hc : (s.u.fiCfg fi).rope ∧ ¬ s.u.links.ropeUp ∧ (s.u.fi fi).st.active ∧ ¬ (s.u.fi fi).fallenBack := ⟨hr, by simp [hu], ha, by simp [hb]⟩
  refine ⟨fun hf => ?_, fun hf => ?_⟩
  · refine completes_onChip (exec_ropeFallback s fi) hp ?_
    have hx := (s.u.record 162 fi [fFi fi]).fi_modFi fi (fun x => { x with fallenBack := true, fallbackVal := 1 })
    have hrec := recorded_record s.u 162 fi [fFi fi]
    unfold Chip.ropeFallback
    dsimp only
    rw [if_pos hc, hf]
    dsimp only
    rw [hx]
    exact ⟨rfl, rfl, rfl, hrec⟩
  · refine completes_onChip (exec_ropeFallback s fi) hp ?_
    have hx := congrArg Fi.ropeStopped ((s.u.record 162 fi [fFi fi]).fi_modFi fi (fun x => { x with ropeStopped := true }))
    unfold Chip.ropeFallback
    dsimp only
    rw [if_pos hc, hf]
    dsimp only
    generalize (s.u.record 162 fi [fFi fi]).modFi fi (fun x => { x with ropeStopped := true }) = d at *
    obtain ⟨hst, -, hstopped⟩ := Fi.of_part (drainFi_part d fi "ROPE")
    exact ⟨hst, hstopped.trans hx⟩

theorem ropeRecovery_lines {s : State} {fi : Fin 1024} (hp : s.u.sup.powered = true) (hu : s.u.links.ropeUp = true) (hs : (s.u.fi fi).ropeStopped = true)
    (hi : (s.u.fi fi).intent = true) :
    ((s.u.fi fi).st = .draining → CompletesChip (.ropeRecoveryArm fi) s (fun u => (u.fi fi).rearm = true ∧ (u.fi fi).st = .draining)) ∧
    ((s.u.fi fi).st = .stopped → s.u.targetLive fi = 0 → CompletesChip (.ropeRecoveryArm fi) s (fun u => (u.fi fi).st = .armed ∧
      (u.fi fi).gen = ((s.u.fi fi).gen + 1) % 8 ∧ (u.fi fi).ropeStopped = false)) := by
  have hf : (s.u.advanceToTime s.u.nextMs).fi fi = s.u.fi fi := congrArg (fun t : Tbl Fi => t.get Fi.init fi) (s.u.advanceToTime_fis s.u.nextMs)
  refine ⟨fun hst => ?_, fun hst hl => ?_⟩
  · refine completes_onChip (exec_ropeRecoveryArm s fi) hp ?_
    unfold Chip.ropeRecovery
    dsimp only
    rw [if_pos ⟨hu, hs, hi, .inr hst⟩, if_neg (fun h => absurd (hst.symm.trans h.1) (by decide))]
    generalize s.u.advanceToTime s.u.nextMs = d at *
    rw [Chip.fi_modFi, hf]
    exact ⟨rfl, hst⟩
  · refine completes_onChip (exec_ropeRecoveryArm s fi) hp ?_
    have hl' : (s.u.advanceToTime s.u.nextMs).targetLive fi = 0 := by
      unfold Chip.targetLive
      rw [hf]
      exact hl
    unfold Chip.ropeRecovery
    dsimp only
    rw [if_pos ⟨hu, hs, hi, .inl hst⟩, if_pos ⟨hst, hl'⟩]
    generalize s.u.advanceToTime s.u.nextMs = d at *
    obtain ⟨harmed, hgen, hstopped⟩ := Fi.of_part (armFi_part d fi "ROPE")
    rw [hf] at hgen
    exact ⟨harmed, hgen, hstopped⟩

/-- Settles O54: each event of the link by the lemma that says what it leaves. -/
theorem ropeLink : Obligations.RopeLink := by
  unfold Obligations.RopeLink
  exact ⟨fun s t => ropeClose_line, fun s l f hp hu _ => ropeReceive_lines hp hu, fun s => beaconSend_line, fun s l seq b => beaconReceive_line,
    fun s cause => ropeSwitch_line, fun s => ropeLost_line, fun s fi => ropeFallback_lines, fun s hp hr hi hd => standbyDown_line hp hr rfl hi hd,
    fun s fi => ropeRecovery_lines⟩

end Sys2Proof.Machine
end

section
/-!
PROOFS. The events of the clock, of the anchor's copies and of the time inputs (R596–R598, R602, R609–R613, R618–R622).
-/
namespace Sys2Proof.Machine

/-! ### What leaves all but the clock alone -/

theorem ClockAlone.refl (c : Chip) : ClockAlone c c := rfl

theorem ClockAlone.trans {a b d : Chip} (h1 : ClockAlone a b) (h2 : ClockAlone b d) : ClockAlone a d := by
  cases a; cases b; cases d
  simp only [ClockAlone, Chip.mk.injEq] at *
  grind

theorem clockAlone_clk (c : Chip) (k : Clk) : ClockAlone c { c with clk := k } := rfl
theorem clockAlone_record (c : Chip) (id n : Nat) (d : Fields) : ClockAlone c (c.record id n d) := rfl
theorem clockAlone_raise (c : Chip) (src n : Nat) (fi : Option Nat) (d : Fields) : ClockAlone c (c.raise src n fi d) := rfl

theorem Chip.SameButClock.clockAlone {a b : Chip} (h : a.SameButClock b) : ClockAlone b a := by
  unfold ClockAlone
  unfold Chip.SameButClock at h
  rw [← h]

theorem clockAlone_advanceTo (c : Chip) (t : Nat) : ClockAlone c (c.advanceTo t) := (c.advanceTo_frame t).clockAlone
theorem clockAlone_advanceToTime (c : Chip) (t : Nat × Nat) : ClockAlone c (c.advanceToTime t) := (c.advanceToTime_frame t).clockAlone

theorem clockAlone_setDisc (c : Chip) (d : Disc) : ClockAlone c (c.setDisc d) := by
  unfold Chip.setDisc
  dsimp only
  split <;> rfl

/-! ### What passing time keeps of the clock -/

/-- What only the clock's own events change. -/
structure Clk.Inputs where
  disc : Disc
  irig : InState
  pps : InState
  unsettled : Bool

def Clk.inputs (k : Clk) : Clk.Inputs := ⟨k.disc, k.irig, k.pps, k.unsettled⟩

theorem Clk.of_inputs {k : Clk} {x : Clk.Inputs} (h : k.inputs = x) : k.disc = x.disc ∧ k.irig = x.irig ∧ k.pps = x.pps ∧ k.unsettled = x.unsettled := by
  subst h
  exact ⟨rfl, rfl, rfl, rfl⟩

theorem applyAdjust_inputs (c : Chip) (a : Adjust) : (c.applyAdjust a).clk.inputs = c.clk.inputs := by
  unfold Chip.applyAdjust Chip.record
  cases a.jump with
  | none => dsimp only; (repeat' split) <;> rfl
  | some j =>
    cases j with
    | set s n => dsimp only; (repeat' split) <;> rfl
    | step neg ds dn => dsimp only; (repeat' split) <;> rfl

theorem passCycles_inputs (c : Chip) (n : Nat) : (c.passCycles n).clk.inputs = c.clk.inputs := rfl

theorem advance_inputs (c : Chip) (n : Nat) : (c.advance n).clk.inputs = c.clk.inputs := by
  cases n with
  | zero => rfl
  | succ n =>
    unfold Chip.advance
    dsimp only
    rw [passCycles_inputs, foldl_keeps (g := Chip.applyAdjust) (fun c => c.clk.inputs) applyAdjust_inputs]
    rfl

theorem advanceTo_inputs (c : Chip) (t : Nat) : (c.advanceTo t).clk.inputs = c.clk.inputs := advance_inputs c _

/-- Without an ADJUST to come, passing time records nothing and steps nothing. -/
theorem advance_quiet {c : Chip} (h : c.clk.dueNext = []) (n : Nat) : (c.advance n).cairn = c.cairn ∧ (c.advance n).clk.lastStep = c.clk.lastStep := by
  cases n with
  | zero => exact ⟨rfl, rfl⟩
  | succ n =>
    have hd : (c.passCycles 1).clk.dueNext = [] := h
    unfold Chip.advance
    dsimp only
    rw [hd]
    exact ⟨rfl, rfl⟩

/-! ### The reference -/

/-- The unit as its external reference goes. -/
def Chip.extGone (c : Chip) (n : Nat) : Chip :=
  { c with clk := { c.clk with extValid := false }, unit := { c.unit with regs := { c.unit.regs with extLosses := c.unit.regs.extLosses + n } } }

/-- The core clock on the internal reference, settling until a cycle. -/
def Chip.onInt (c : Chip) (e : Nat) : Chip := { c with clk := { c.clk with refIn := .int25, unsettled := true, unsettledEnd := e, refHold := true } }

/-- The state of the discipline after a change of the reference. -/
def Chip.refDisc (c : Chip) : Chip := if c.clk.disc = .undisciplined then c else c.setDisc .holdover

/-- The cycle until which a changed reference settles. -/
def Clk.settlesAt (k : Clk) : Nat := if k.unsettled then max k.unsettledEnd (10000000 + k.cycle) else 10000000 + k.cycle

theorem Clk.le_settlesAt (k : Clk) : 10000000 + k.cycle ≤ k.settlesAt := by
  unfold Clk.settlesAt
  split
  · exact Nat.le_max_right _ _
  · exact Nat.le_refl _

/-- The fault and the record of the loss. -/
def Chip.extLost (c : Chip) : Chip := (c.raise 256 0 none [fSym "SRC" "EXT10"]).record 141 0 [fSym "SRC" "EXT10", fSym "STATE" "ABSENT"]

theorem ext10Loss_used {c : Chip} (h : c.clk.refIn = .ext10) : c.ext10Loss = (((c.extGone 1).onInt c.clk.settlesAt).refDisc).extLost := by
  unfold Chip.ext10Loss
  rw [if_pos h]
  dsimp only
  rw [if_pos h]
  unfold Chip.changeRef
  dsimp only
  rw [if_neg (by rw [h]; decide)]
  rfl

theorem ext10Loss_unused {c : Chip} (h : c.clk.refIn = .int25) : c.ext10Loss = { c with clk := { c.clk with extValid := false } } := by
  have hn : ¬ c.clk.refIn = .ext10 := by rw [h]; decide
  unfold Chip.ext10Loss
  rw [if_neg hn]
  dsimp only
  rw [if_neg hn]
  rfl

/-- What the change of the discipline's state leaves. -/
theorem setDisc_clk (c : Chip) (d : Disc) : (c.setDisc d).clk = { c.clk with disc := d } := by
  unfold Chip.setDisc
  dsimp only
  split
  next h => rw [← h]
  · rfl

theorem setDisc_coll (c : Chip) (d : Disc) : (c.setDisc d).coll = c.coll := by
  unfold Chip.setDisc
  dsimp only
  split <;> rfl

theorem refDisc_leaves (c : Chip) : c.refDisc.clk = { c.clk with disc := if c.clk.disc = .undisciplined then .undisciplined else .holdover } ∧
    c.refDisc.coll = c.coll ∧ ClockAlone c c.refDisc := by
  unfold Chip.refDisc
  split
  next h => exact ⟨by rw [← h], rfl, .refl c⟩
  · exact ⟨setDisc_clk c _, setDisc_coll c _, clockAlone_setDisc c _⟩

theorem ClockAlone.parts {c u : Chip} (h : ClockAlone c u) : u.fab = c.fab ∧ u.cfg = c.cfg ∧ u.panel = c.panel := by
  unfold ClockAlone at h
  rw [← h]
  exact ⟨rfl, rfl, rfl⟩

theorem ext10Loss_line {s : State} (hp : s.u.sup.powered = true) (hr : s.u.clk.refIn = .ext10) :
    CompletesChip .ext10Loss s (fun u => u.clk.refIn = .int25 ∧ u.clk.extValid = false ∧ u.clk.unsettled = true ∧
      10000000 + s.u.clk.cycle ≤ u.clk.unsettledEnd ∧ u.clk.disc = (if s.u.clk.disc = .undisciplined then .undisciplined else .holdover) ∧
      Raised s.u.coll u.coll 256 0 ∧ u.clk.anchor = s.u.clk.anchor ∧ u.fab = s.u.fab ∧ u.cfg = s.u.cfg ∧ u.panel = s.u.panel) := by
  refine completes_onChip (exec_ext10Loss s) hp ?_
  rw [ext10Loss_used hr]
  have hle := s.u.clk.le_settlesAt
  generalize s.u.clk.settlesAt = e at *
  obtain ⟨hclk, hcoll, halone⟩ := refDisc_leaves ((s.u.extGone 1).onInt e)
  obtain ⟨hfab, hcfg, hpanel⟩ := halone.parts
  generalize ((s.u.extGone 1).onInt e).refDisc = d at *
  have hraised := raised_raise d 256 0 none [fSym "SRC" "EXT10"]
  rw [show d.extLost.clk = d.clk from rfl, hclk]
  exact ⟨rfl, rfl, rfl, hle, rfl, Raised.of_eq hraised hcoll, rfl, hfab, hcfg, hpanel⟩

/-! ### The anchor's copies -/

/-- The unit with the voted anchor in its three copies. -/
def Chip.voted (c : Chip) (v : Anchor) : Chip := { c with clk := c.clk.setAnchor v }

/-- What a vote that finds a majority does: `n` copies differed. -/
theorem anchorVote_majority {c : Chip} {x0 x1 x2 : Option Anchor} {v : Anchor} {n : Nat}
    (h : (x0.getD c.clk.anchor = x1.getD c.clk.anchor1 ∨ x0.getD c.clk.anchor = x2.getD c.clk.anchor2) ∧ v = x0.getD c.clk.anchor ∧
        (n = if x0.getD c.clk.anchor = x1.getD c.clk.anchor1 ∧ x1.getD c.clk.anchor1 = x2.getD c.clk.anchor2 then 0 else 1) ∨
      (x0.getD c.clk.anchor ≠ x1.getD c.clk.anchor1 ∧ x1.getD c.clk.anchor1 = x2.getD c.clk.anchor2 ∧ v = x1.getD c.clk.anchor1 ∧ n = 1)) :
    (n = 0 ∧ c.anchorVote x0 x1 x2 = c.voted v) ∨ (n = 1 ∧ c.anchorVote x0 x1 x2 = (c.voted v).raise 257 0 none []) := by
  unfold Chip.anchorVote
  dsimp only
  generalize x0.getD c.clk.anchor = a at *
  generalize x1.getD c.clk.anchor1 = b at *
  generalize x2.getD c.clk.anchor2 = d at *
  obtain ⟨hab, rfl, hn⟩ | ⟨hab, hbd, rfl, hn⟩ := h
  · by_cases hall : v = b ∧ b = d
    · rw [if_pos hall] at hn
      exact .inl ⟨hn, if_pos hall⟩
    · rw [if_neg hall] at hn
      rw [if_neg hall, if_pos hab]
      exact .inr ⟨hn, rfl⟩
  · rw [if_neg (fun h => hab h.1), if_neg (fun h => h.elim hab (fun had => hab (had.trans hbd.symm))), if_pos hbd]
    exact .inr ⟨hn, rfl⟩

theorem anchorVote_none {c : Chip} {x0 x1 x2 : Option Anchor} (h1 : x0.getD c.clk.anchor ≠ x1.getD c.clk.anchor1)
    (h2 : x0.getD c.clk.anchor ≠ x2.getD c.clk.anchor2) (h3 : x1.getD c.clk.anchor1 ≠ x2.getD c.clk.anchor2) :
    c.anchorVote x0 x1 x2 = ((c.voted (x0.getD c.clk.anchor)).setDisc .undisciplined).raise 258 0 none [] := by
  unfold Chip.anchorVote
  dsimp only
  rw [if_neg (fun h => h1 h.1), if_neg (fun h => h.elim h1 h2), if_neg h3]
  rfl

theorem anchorVote_lines {s : State} {x0 x1 x2 : Option Anchor} (hp : s.u.sup.powered = true) :
    let a := x0.getD s.u.clk.anchor; let b := x1.getD s.u.clk.anchor1; let d := x2.getD s.u.clk.anchor2
    (∀ v n, (a = b ∨ a = d) ∧ v = a ∧ (n = if a = b ∧ b = d then 0 else 1) ∨ (a ≠ b ∧ b = d ∧ v = b ∧ n = 1) →
      CompletesChip (.anchorVoteFault x0 x1 x2) s (fun u => u.clk = s.u.clk.setAnchor v ∧ ClockAlone s.u u ∧ u.cairn = s.u.cairn ∧
        (n = 0 → u.coll = s.u.coll) ∧ (n = 1 → Raised s.u.coll u.coll 257 0))) ∧
    (a ≠ b → a ≠ d → b ≠ d → CompletesChip (.anchorVoteFault x0 x1 x2) s (fun u => u.clk.disc = .undisciplined ∧ ClockAlone s.u u ∧
      Raised s.u.coll u.coll 258 0 ∧ u.clk.anchor = u.clk.anchor1 ∧ u.clk.anchor1 = u.clk.anchor2)) := by
  refine ⟨fun v n h => ?_, fun h1 h2 h3 => ?_⟩
  · refine completes_onChip (exec_anchorVoteFault s x0 x1 x2) hp ?_
    obtain ⟨hn, hv⟩ | ⟨hn, hv⟩ := anchorVote_majority h
    · rw [hv]
      exact ⟨rfl, rfl, rfl, fun _ => rfl, fun h1 => absurd (hn.symm.trans h1) (by decide)⟩
    · rw [hv]
      exact ⟨rfl, rfl, rfl, fun h0 => absurd (hn.symm.trans h0) (by decide), fun _ => raised_raise (s.u.voted v) 257 0 none []⟩
  · refine completes_onChip (exec_anchorVoteFault s x0 x1 x2) hp ?_
    rw [anchorVote_none h1 h2 h3]
    have hclk := setDisc_clk (s.u.voted (x0.getD s.u.clk.anchor)) .undisciplined
    have hcoll := setDisc_coll (s.u.voted (x0.getD s.u.clk.anchor)) .undisciplined
    have halone := ClockAlone.trans (clockAlone_clk s.u (s.u.clk.setAnchor (x0.getD s.u.clk.anchor))) (clockAlone_setDisc (s.u.voted (x0.getD s.u.clk.anchor)) .undisciplined)
    generalize (s.u.voted (x0.getD s.u.clk.anchor)).setDisc .undisciplined = d at *
    have hraised := raised_raise d 258 0 none []
    rw [show (d.raise 258 0 none []).clk = d.clk from rfl, hclk]
    exact ⟨rfl, halone.trans (clockAlone_raise d 258 0 none []), Raised.of_eq hraised hcoll, rfl, rfl⟩

/-! ### The ends of DISCIPLINED, HOLDOVER, STEPPED and the warm-up -/

/-- What a change of the discipline's state at a due cycle leaves. -/
theorem setDisc_due {c : Chip} {t : Nat} {d : Disc} (h : c.clk.disc ≠ d) :
    ClockAlone c ((c.advanceTo t).setDisc d) ∧ ((c.advanceTo t).setDisc d).coll = c.coll ∧ ((c.advanceTo t).setDisc d).clk.disc = d ∧
    ((c.advanceTo t).setDisc d).clk.cycle = max c.clk.cycle t ∧
    Recorded (c.advanceTo t).cairn ((c.advanceTo t).setDisc d).cairn 139 0 [fSym "FROM" c.clk.disc.name, fSym "TO" d.name] := by
  have ha := (clockAlone_advanceTo c t).trans (clockAlone_setDisc (c.advanceTo t) d)
  have hcoll := c.advanceTo_coll t
  have hcyc := c.advanceTo_cycle t
  obtain ⟨hdisc, -, -, -⟩ := Clk.of_inputs (advanceTo_inputs c t)
  generalize c.advanceTo t = e at *
  have hrec := recorded_record { e with clk := { e.clk with disc := d } } 139 0 [fSym "FROM" e.clk.disc.name, fSym "TO" d.name]
  have hd : e.clk.disc = c.clk.disc := hdisc
  refine ⟨ha, (setDisc_coll e d).trans hcoll, by rw [setDisc_clk], by rw [setDisc_clk]; exact hcyc, ?_⟩
  unfold Chip.setDisc
  rw [if_neg (by rw [hd]; exact h), ← hd]
  exact hrec

theorem holdover_lines {s : State} {t : Nat} (hp : s.u.sup.powered = true) (ht : s.u.clk.lastAdjCycle = some t) :
    let h := s.u.cfg.time.holdover
    (s.u.clk.disc = .disciplined → CompletesChip .holdoverEntry s (fun u => ClockAlone s.u u ∧ u.coll = s.u.coll ∧
      u.clk.disc = (if h ≤ 4000000000 then .undisciplined else .holdover) ∧ u.clk.cycle = max s.u.clk.cycle (t + min 4000000000 h + 1) ∧
      Recorded (s.u.advanceTo (t + min 4000000000 h + 1)).cairn u.cairn 139 0 [fSym "FROM" "DISCIPLINED", fSym "TO" u.clk.disc.name])) ∧
    (s.u.clk.disc = .holdover → CompletesChip .undisciplinedEntry s (fun u => ClockAlone s.u u ∧ u.coll = s.u.coll ∧ u.clk.disc = .undisciplined ∧
      u.clk.cycle = max s.u.clk.cycle (t + h + 1) ∧
      Recorded (s.u.advanceTo (t + h + 1)).cairn u.cairn 139 0 [fSym "FROM" "HOLDOVER", fSym "TO" "UNDISCIPLINED"])) := by
  have hlast : s.u.lastAdjAt = t := by unfold Chip.lastAdjAt; rw [ht]; rfl
  refine ⟨fun hd => ?_, fun hd => ?_⟩
  · refine completes_onChip (exec_holdoverEntry s) hp ?_
    have heq : s.u.holdoverEntry = (s.u.advanceTo (t + min 4000000000 s.u.cfg.time.holdover + 1)).setDisc
        (if s.u.cfg.time.holdover ≤ 4000000000 then .undisciplined else .holdover) := by
      unfold Chip.holdoverEntry
      rw [if_pos hd, hlast]
      rfl
    have hne : s.u.clk.disc ≠ (if s.u.cfg.time.holdover ≤ 4000000000 then Disc.undisciplined else .holdover) := by
      rw [hd]
      split <;> decide
    obtain ⟨h1, h2, h3, h4, h5⟩ := setDisc_due (t := t + min 4000000000 s.u.cfg.time.holdover + 1) hne
    rw [heq]
    rw [hd] at h5
    refine ⟨h1, h2, h3, h4, ?_⟩
    rw [h3]
    exact h5
  · refine completes_onChip (exec_undisciplinedEntry s) hp ?_
    have heq : s.u.undisciplinedEntry = (s.u.advanceTo (t + s.u.cfg.time.holdover + 1)).setDisc .undisciplined := by
      unfold Chip.undisciplinedEntry
      rw [if_pos hd, hlast]
    obtain ⟨h1, h2, h3, h4, h5⟩ := setDisc_due (c := s.u) (t := t + s.u.cfg.time.holdover + 1) (d := .undisciplined) (by rw [hd]; decide)
    rw [heq]
    rw [hd] at h5
    exact ⟨h1, h2, h3, h4, h5⟩

theorem steppedExpiry_line {s : State} {x : Nat} (hp : s.u.sup.powered = true) (hx : s.u.clk.lastStep = some x) (hd : s.u.clk.dueNext = []) :
    CompletesChip .steppedExpiry s (fun u =>
      ClockAlone s.u u ∧ u.cairn = s.u.cairn ∧ u.coll = s.u.coll ∧ u.clk.stepped = false ∧ u.clk.cycle = max s.u.clk.cycle (1000000001 + x)) := by
  refine completes_onChip (exec_steppedExpiry s) hp ?_
  obtain ⟨hcairn, hstep⟩ : (s.u.advanceTo (1000000001 + x)).cairn = s.u.cairn ∧ (s.u.advanceTo (1000000001 + x)).clk.lastStep = s.u.clk.lastStep := advance_quiet hd _
  have ha := clockAlone_advanceTo s.u (1000000001 + x)
  have hcoll := s.u.advanceTo_coll (1000000001 + x)
  have hcyc := s.u.advanceTo_cycle (1000000001 + x)
  unfold Chip.steppedExpiry
  rw [hx]
  dsimp only
  rw [if_pos (hstep.trans hx)]
  generalize s.u.advanceTo (1000000001 + x) = d at *
  exact ⟨ha.trans (clockAlone_clk d _), hcairn, hcoll, rfl, hcyc⟩

theorem warmupEnd_line {s : State} (hp : s.u.sup.powered = true) (hu : s.u.clk.unsettled = true) :
    CompletesChip .warmupEnd s (fun u => ClockAlone s.u u ∧ u.coll = s.u.coll ∧
      u.clk.unsettled = false ∧ u.clk.cycle = max s.u.clk.cycle s.u.clk.unsettledEnd ∧ u.clk.disc = s.u.clk.disc) := by
  refine completes_onChip (exec_warmupEnd s) hp ?_
  have ha := clockAlone_advanceTo s.u s.u.clk.unsettledEnd
  have hcoll := s.u.advanceTo_coll s.u.clk.unsettledEnd
  have hcyc := s.u.advanceTo_cycle s.u.clk.unsettledEnd
  obtain ⟨hdisc, -, -, -⟩ := Clk.of_inputs (advanceTo_inputs s.u s.u.clk.unsettledEnd)
  unfold Chip.warmupEnd
  rw [if_pos hu]
  generalize s.u.advanceTo s.u.clk.unsettledEnd = d at *
  exact ⟨ha.trans (clockAlone_clk d _), hcoll, rfl, hcyc, hdisc⟩

/-! ### Leaps -/

/-- The UTC offset after a leap. -/
def TimeCfg.leapt (k : TimeCfg) : Int := if k.leap = .insert then k.utcOffset + 1 else k.utcOffset - 1

/-- The settings of time after a leap, and its record. -/
def Chip.leapTaken (c : Chip) (off : Int) : Chip :=
  ({ c with cfg := { c.cfg with time := { c.cfg.time with utcOffset := off, leap := .none } } }).record 140 2 [fSym "CAUSE" "LEAP", ⟨"UTCOFFSET", .int off⟩]

theorem leapDue_eq {c : Chip} {t : Nat × Nat} (hl : c.cfg.time.leap ≠ .none) (ht : c.cfg.time.leapAt = some t) :
    c.leapDue = (c.advanceToTime t).leapTaken c.cfg.time.leapt := by
  unfold Chip.leapDue TimeCfg.leapt
  rw [ht]
  cases h : c.cfg.time.leap with
  | none => exact absurd h hl
  | insert => rfl
  | delete => rfl

/-- What a leap leaves. -/
theorem leapTaken_leaves {c d : Chip} {off : Int} (h : ClockAlone c d) (hc : d.cfg = c.cfg) :
    (d.leapTaken off).cfg = { c.cfg with time := { c.cfg.time with utcOffset := off, leap := .none } } ∧
    ClockAlone { c with cfg := (d.leapTaken off).cfg } (d.leapTaken off) := by
  have hcfg : (d.leapTaken off).cfg = { c.cfg with time := { c.cfg.time with utcOffset := off, leap := .none } } := by
    rw [← hc]
    rfl
  refine ⟨hcfg, ?_⟩
  unfold ClockAlone at h ⊢
  exact congrArg (fun x : Chip => { x with cfg := (d.leapTaken off).cfg }) h

theorem leapDue_line {s : State} {t : Nat × Nat} (hp : s.u.sup.powered = true) (hl : s.u.cfg.time.leap ≠ .none) (ht : s.u.cfg.time.leapAt = some t) :
    CompletesChip .leapDue s (fun u => u.cfg = { s.u.cfg with time := { s.u.cfg.time with utcOffset := s.u.cfg.time.leapt, leap := .none } } ∧
      ClockAlone { s.u with cfg := u.cfg } u ∧ u.coll = s.u.coll ∧
      Recorded (s.u.advanceToTime t).cairn u.cairn 140 2 [fSym "CAUSE" "LEAP", ⟨"UTCOFFSET", .int s.u.cfg.time.leapt⟩]) := by
  refine completes_onChip (exec_leapDue s) hp ?_
  have hcoll := s.u.advanceToTime_coll t
  obtain ⟨hcfg, halone⟩ := leapTaken_leaves (off := s.u.cfg.time.leapt) (clockAlone_advanceToTime s.u t) (s.u.advanceToTime_cfg t)
  rw [leapDue_eq hl ht]
  generalize s.u.advanceToTime t = d at *
  generalize s.u.cfg.time.leapt = off at *
  have hrec := recorded_record { d with cfg := { d.cfg with time := { d.cfg.time with utcOffset := off, leap := .none } } } 140 2 [fSym "CAUSE" "LEAP", ⟨"UTCOFFSET", .int off⟩]
  exact ⟨hcfg, halone, hcoll, hrec⟩

/-! ### IRIG-B and 1PPS -/

/-- A valid IRIG-B frame is captured. -/
def Chip.irigTaken (c : Chip) (fmt : Nat) (k : Capture) : Chip :=
  { c with clk := { c.clk with captures := (k :: c.clk.captures).take 1024, irig := .present, irigLast := c.clk.cycle, irigSeq := (c.clk.irigSeq + 1) % 65536 },
           unit := { c.unit with regs := { c.unit.regs with irig := (fmt % 8, (c.unit.regs.irig.2 + 1) % 65536) } } }

/-- The capture of a valid IRIG-B frame. -/
def Chip.irigCapture (c : Chip) (fmt back : Nat) (fields : Fields) : Capture :=
  { src := "IRIG", port := 0, seq := c.clk.irigSeq, stamp := c.stampBefore (back + 35), fields := ⟨"FMT", .sym ("B00" ++ toString fmt)⟩ :: fields }

theorem irigFrame_valid {c : Chip} {fmt back : Nat} {fields : Fields} (hi : c.cfg.time.irig = true) : c.irigFrame true fmt back fields =
    if c.clk.irig = .absent ∨ c.clk.irig = .invalid then (c.irigTaken fmt (c.irigCapture fmt back fields)).record 141 1 [fSym "SRC" "IRIG", fSym "STATE" "PRESENT"]
    else c.irigTaken fmt (c.irigCapture fmt back fields) := by
  unfold Chip.irigFrame
  rw [hi]
  rfl

/-- What the capture leaves. -/
theorem irigTaken_leaves (c : Chip) (fmt : Nat) (k : Capture) : (c.irigTaken fmt k).clk.irig = .present ∧ (c.irigTaken fmt k).clk.irigLast = c.clk.cycle ∧
    (c.irigTaken fmt k).clk.irigSeq = (c.clk.irigSeq + 1) % 65536 ∧ (c.irigTaken fmt k).clk.anchor = c.clk.anchor ∧ (c.irigTaken fmt k).coll = c.coll ∧
    (c.irigTaken fmt k).clk.captures = (k :: c.clk.captures).take 1024 := ⟨rfl, rfl, rfl, rfl, rfl, rfl⟩

theorem irigFrame_valid_line {s : State} {fmt : Fin 8} {back : Nat} {fields : Fields} (hp : s.u.sup.powered = true) (hi : s.u.cfg.time.irig = true) :
    CompletesChip (.irigFrame true fmt back fields) s (fun u => u.clk.irig = .present ∧
      u.clk.irigLast = s.u.clk.cycle ∧ u.clk.irigSeq = (s.u.clk.irigSeq + 1) % 65536 ∧ u.clk.anchor = s.u.clk.anchor ∧ u.coll = s.u.coll ∧
      (∃ k, u.clk.captures = (k :: s.u.clk.captures).take 1024 ∧ k.src = "IRIG" ∧ k.seq = s.u.clk.irigSeq ∧ k.stamp = s.u.stampBefore (back + 35)) ∧
      (s.u.clk.irig = .present ∨ s.u.clk.irig = .unknown → u.cairn = s.u.cairn) ∧
      (s.u.clk.irig = .absent ∨ s.u.clk.irig = .invalid → Recorded s.u.cairn u.cairn 141 1 [fSym "SRC" "IRIG", fSym "STATE" "PRESENT"])) := by
  refine completes_onChip (exec_irigFrame s true fmt back fields) hp ?_
  rw [irigFrame_valid hi]
  obtain ⟨h1, h2, h3, h4, h5, h6⟩ := irigTaken_leaves s.u fmt (s.u.irigCapture fmt back fields)
  have hcairn : (s.u.irigTaken fmt (s.u.irigCapture fmt back fields)).cairn = s.u.cairn := rfl
  have hrec := recorded_record (s.u.irigTaken fmt (s.u.irigCapture fmt back fields)) 141 1 [fSym "SRC" "IRIG", fSym "STATE" "PRESENT"]
  generalize s.u.irigTaken fmt (s.u.irigCapture fmt back fields) = d at *
  rw [hcairn] at hrec
  split
  next h => exact ⟨h1, h2, h3, h4, h5, ⟨_, h6, rfl, rfl, rfl⟩, fun h' => absurd h (by rcases h' with h' | h' <;> rw [h'] <;> decide), fun _ => hrec⟩
  next h => exact ⟨h1, h2, h3, h4, h5, ⟨_, h6, rfl, rfl, rfl⟩, fun _ => hcairn, fun h' => absurd h' h⟩

/-- The input with a bad frame counted. -/
def Chip.irigBadCounted (c : Chip) : Chip := { c with clk := { c.clk with irigBad := sat32 c.clk.irigBad } }

theorem irigFrame_bad {c : Chip} {fmt back : Nat} {fields : Fields} (hi : c.cfg.time.irig = true) : c.irigFrame false fmt back fields =
    if c.clk.irig = .present then ({ c.irigBadCounted with clk := { c.irigBadCounted.clk with irig := .invalid } }).record 141 1 [fSym "SRC" "IRIG", fSym "STATE" "INVALID"]
    else c.irigBadCounted := by
  unfold Chip.irigFrame
  rw [hi]
  rfl

theorem irigFrame_bad_line {s : State} {fmt : Fin 8} {back : Nat} {fields : Fields} (hp : s.u.sup.powered = true) (hi : s.u.cfg.time.irig = true) :
    CompletesChip (.irigFrame false fmt back fields) s (fun u => ClockAlone s.u u ∧
      u.clk.irigBad = sat32 s.u.clk.irigBad ∧ u.clk.captures = s.u.clk.captures ∧ u.coll = s.u.coll ∧
      (s.u.clk.irig ≠ .present → u.clk.irig = s.u.clk.irig ∧ u.cairn = s.u.cairn) ∧
      (s.u.clk.irig = .present → u.clk.irig = .invalid ∧ Recorded s.u.cairn u.cairn 141 1 [fSym "SRC" "IRIG", fSym "STATE" "INVALID"])) := by
  refine completes_onChip (exec_irigFrame s false fmt back fields) hp ?_
  rw [irigFrame_bad hi]
  have hrec := recorded_record { s.u.irigBadCounted with clk := { s.u.irigBadCounted.clk with irig := .invalid } } 141 1 [fSym "SRC" "IRIG", fSym "STATE" "INVALID"]
  split
  next h => exact ⟨rfl, rfl, rfl, rfl, fun h' => absurd h h', fun _ => ⟨rfl, hrec⟩⟩
  next h => exact ⟨rfl, rfl, rfl, rfl, fun _ => ⟨rfl, rfl⟩, fun h' => absurd h' h⟩

/-- A 1PPS edge is captured. -/
def Chip.ppsTaken (c : Chip) (k : Capture) : Chip :=
  { c with clk := { c.clk with captures := (k :: c.clk.captures).take 1024, pps := .present, ppsLast := c.clk.cycle, ppsSeen := true, ppsSeq := (c.clk.ppsSeq + 1) % 65536 } }

def Chip.ppsCapture (c : Chip) : Capture := { src := "PPS", port := 0, seq := c.clk.ppsSeq, stamp := c.stampBefore 35, fields := [] }

theorem ppsEdge_glitch {c : Chip} (hi : c.cfg.time.pps = true) (h : c.clk.ppsSeen = true ∧ c.clk.cycle < 900000000 + c.clk.ppsLast) :
    c.ppsEdge = { c with clk := { c.clk with ppsGlitch := sat32 c.clk.ppsGlitch } } := by
  unfold Chip.ppsEdge
  rw [hi, if_neg (by decide)]
  exact if_pos h

theorem ppsEdge_taken {c : Chip} (hi : c.cfg.time.pps = true) (h : ¬ (c.clk.ppsSeen = true ∧ c.clk.cycle < 900000000 + c.clk.ppsLast)) :
    c.ppsEdge = if c.clk.pps = .absent then (c.ppsTaken c.ppsCapture).record 141 2 [fSym "SRC" "PPS", fSym "STATE" "PRESENT"] else c.ppsTaken c.ppsCapture := by
  unfold Chip.ppsEdge
  rw [hi, if_neg (by decide)]
  exact if_neg h

theorem ppsEdge_lines {s : State} (hp : s.u.sup.powered = true) :
    (s.u.cfg.time.pps = false → CompletesChip .ppsEdge s (fun u => u = s.u)) ∧
    (s.u.cfg.time.pps = true → s.u.clk.ppsSeen = true → s.u.clk.cycle < 900000000 + s.u.clk.ppsLast →
      CompletesChip .ppsEdge s (fun u => u = { s.u with clk := { s.u.clk with ppsGlitch := sat32 s.u.clk.ppsGlitch } })) ∧
    (s.u.cfg.time.pps = true → s.u.clk.ppsSeen = false ∨ 900000000 + s.u.clk.ppsLast ≤ s.u.clk.cycle → CompletesChip .ppsEdge s (fun u =>
      ClockAlone s.u u ∧ u.coll = s.u.coll ∧ u.clk.pps = .present ∧ u.clk.ppsLast = s.u.clk.cycle ∧ u.clk.ppsSeq = (s.u.clk.ppsSeq + 1) % 65536 ∧
      u.clk.ppsGlitch = s.u.clk.ppsGlitch ∧ ∃ k, u.clk.captures = (k :: s.u.clk.captures).take 1024 ∧ k.src = "PPS" ∧ k.stamp = s.u.stampBefore 35)) := by
  refine ⟨fun hi => ?_, fun hi hs hc => ?_, fun hi h => ?_⟩
  · refine completes_onChip (exec_ppsEdge s) hp ?_
    unfold Chip.ppsEdge
    rw [hi]
    rfl
  · refine completes_onChip (exec_ppsEdge s) hp ?_
    exact ppsEdge_glitch hi ⟨hs, hc⟩
  · refine completes_onChip (exec_ppsEdge s) hp ?_
    have hn : ¬ (s.u.clk.ppsSeen = true ∧ s.u.clk.cycle < 900000000 + s.u.clk.ppsLast) := by
      rintro ⟨h1, h2⟩
      rcases h with h | h
      · exact absurd (h1.symm.trans h) (by decide)
      · exact Nat.not_lt.mpr h h2
    rw [ppsEdge_taken hi hn]
    split
    · exact ⟨rfl, rfl, rfl, rfl, rfl, rfl, s.u.ppsCapture, rfl, rfl, rfl⟩
    · exact ⟨rfl, rfl, rfl, rfl, rfl, rfl, s.u.ppsCapture, rfl, rfl, rfl⟩

/-! ### Inputs without a frame or an edge -/

/-- IRIG-B is found absent, 1PPS is found absent. -/
def Chip.irigAbsent (c : Chip) : Chip := ({ c with clk := { c.clk with irig := .absent } }).record 141 1 [fSym "SRC" "IRIG", fSym "STATE" "ABSENT"]
def Chip.ppsAbsent (c : Chip) : Chip := ({ c with clk := { c.clk with pps := .absent } }).record 141 2 [fSym "SRC" "PPS", fSym "STATE" "ABSENT"]

theorem irigAbsent_due (c : Chip) (t : Nat) : ClockAlone c (c.advanceTo t).irigAbsent ∧ (c.advanceTo t).irigAbsent.coll = c.coll ∧
    (c.advanceTo t).irigAbsent.clk.irig = .absent ∧ (c.advanceTo t).irigAbsent.clk.pps = c.clk.pps ∧
    (c.advanceTo t).irigAbsent.clk.cycle = max c.clk.cycle t ∧
    Recorded (c.advanceTo t).cairn (c.advanceTo t).irigAbsent.cairn 141 1 [fSym "SRC" "IRIG", fSym "STATE" "ABSENT"] := by
  have ha := clockAlone_advanceTo c t
  have hcoll := c.advanceTo_coll t
  have hcyc := c.advanceTo_cycle t
  obtain ⟨-, -, hpps, -⟩ := Clk.of_inputs (advanceTo_inputs c t)
  generalize c.advanceTo t = d at *
  have hrec := recorded_record { d with clk := { d.clk with irig := .absent } } 141 1 [fSym "SRC" "IRIG", fSym "STATE" "ABSENT"]
  exact ⟨ha.trans rfl, hcoll, rfl, hpps, hcyc, hrec⟩

theorem ppsAbsent_due (c : Chip) (t : Nat) : ClockAlone c (c.advanceTo t).ppsAbsent ∧ (c.advanceTo t).ppsAbsent.coll = c.coll ∧
    (c.advanceTo t).ppsAbsent.clk.pps = .absent ∧ (c.advanceTo t).ppsAbsent.clk.irig = c.clk.irig ∧
    (c.advanceTo t).ppsAbsent.clk.cycle = max c.clk.cycle t ∧
    Recorded (c.advanceTo t).cairn (c.advanceTo t).ppsAbsent.cairn 141 2 [fSym "SRC" "PPS", fSym "STATE" "ABSENT"] := by
  have ha := clockAlone_advanceTo c t
  have hcoll := c.advanceTo_coll t
  have hcyc := c.advanceTo_cycle t
  obtain ⟨-, hirig, -, -⟩ := Clk.of_inputs (advanceTo_inputs c t)
  generalize c.advanceTo t = d at *
  have hrec := recorded_record { d with clk := { d.clk with pps := .absent } } 141 2 [fSym "SRC" "PPS", fSym "STATE" "ABSENT"]
  exact ⟨ha.trans rfl, hcoll, rfl, hirig, hcyc, hrec⟩

theorem timeInputAbsent_irig {c : Chip} (hi : c.cfg.time.irig = true) (ha : c.clk.irig ≠ .absent) :
    c.timeInputAbsent true = (c.advanceTo (3000000000 + c.clk.irigLast)).irigAbsent := by
  unfold Chip.timeInputAbsent
  rw [if_pos rfl, if_pos ⟨hi, ha⟩]
  rfl

theorem timeInputAbsent_pps {c : Chip} (hi : c.cfg.time.pps = true) (ha : c.clk.pps ≠ .absent) :
    c.timeInputAbsent false = (c.advanceTo (2000000000 + c.clk.ppsLast)).ppsAbsent := by
  unfold Chip.timeInputAbsent
  rw [if_neg (by decide), if_pos ⟨hi, ha⟩]
  rfl

theorem timeInputAbsent_lines {s : State} (hp : s.u.sup.powered = true) :
    (s.u.cfg.time.irig = true → s.u.clk.irig ≠ .absent → CompletesChip (.timeInputAbsent true) s (fun u => ClockAlone s.u u ∧ u.coll = s.u.coll ∧
      u.clk.irig = .absent ∧ u.clk.pps = s.u.clk.pps ∧ u.clk.cycle = max s.u.clk.cycle (3000000000 + s.u.clk.irigLast) ∧
      Recorded (s.u.advanceTo (3000000000 + s.u.clk.irigLast)).cairn u.cairn 141 1 [fSym "SRC" "IRIG", fSym "STATE" "ABSENT"])) ∧
    (s.u.cfg.time.pps = true → s.u.clk.pps ≠ .absent → CompletesChip (.timeInputAbsent false) s (fun u => ClockAlone s.u u ∧ u.coll = s.u.coll ∧
      u.clk.pps = .absent ∧ u.clk.irig = s.u.clk.irig ∧ u.clk.cycle = max s.u.clk.cycle (2000000000 + s.u.clk.ppsLast) ∧
      Recorded (s.u.advanceTo (2000000000 + s.u.clk.ppsLast)).cairn u.cairn 141 2 [fSym "SRC" "PPS", fSym "STATE" "ABSENT"])) := by
  refine ⟨fun hi ha => ?_, fun hi ha => ?_⟩
  · refine completes_onChip (exec_timeInputAbsent s true) hp ?_
    rw [timeInputAbsent_irig hi ha]
    exact irigAbsent_due s.u _
  · refine completes_onChip (exec_timeInputAbsent s false) hp ?_
    rw [timeInputAbsent_pps hi ha]
    exact ppsAbsent_due s.u _

/-- Settles O55: each event of the clock by the equation of its case. -/
theorem timeEvents : Obligations.TimeEvents := by
  unfold Obligations.TimeEvents
  refine ⟨fun s hp => ⟨ext10Loss_line hp, fun hr => ?_⟩, fun s x0 x1 x2 => anchorVote_lines, fun s t hp ht => holdover_lines hp ht, fun s x => steppedExpiry_line,
    fun s => warmupEnd_line, fun s t hp hl ht => leapDue_line hp hl ht, fun s valid fmt back fields hp => ⟨fun hi => ?_, ?_, ?_⟩, fun s => ppsEdge_lines,
    fun s => timeInputAbsent_lines⟩
  · refine completes_onChip (exec_ext10Loss s) hp ?_
    exact ext10Loss_unused hr
  · refine completes_onChip (exec_irigFrame s valid fmt back fields) hp ?_
    unfold Chip.irigFrame
    rw [hi]
    rfl
  · rintro hi rfl
    exact irigFrame_valid_line hp hi
  · rintro hi rfl
    exact irigFrame_bad_line hp hi

end Sys2Proof.Machine
end

section
/-!
PROOFS. Keys, touch channels, presence inputs, the front panel board and physical presence (R637, R671–R684).
-/
namespace Sys2Proof.Machine

/-! ### What leaves all but the panel alone -/

theorem PanelAlone.trans {a b d : Chip} (h1 : PanelAlone a b) (h2 : PanelAlone b d) : PanelAlone a d := by
  cases a; cases b; cases d
  simp only [PanelAlone, Chip.mk.injEq] at *
  grind

theorem ClockAlone.panelAlone {c u : Chip} (h : ClockAlone c u) : PanelAlone c u := by
  unfold PanelAlone
  unfold ClockAlone at h
  rw [← h]

theorem panelAlone_modPanel (c : Chip) (g : Panel → Panel) : PanelAlone c (c.modPanel g) := rfl
theorem panelAlone_advanceTo (c : Chip) (t : Nat) : PanelAlone c (c.advanceTo t) := (clockAlone_advanceTo c t).panelAlone

theorem recorded_recordBefore (c : Chip) (n id inst : Nat) (d : Fields) : Recorded c.cairn (c.recordBefore n id inst d).cairn id inst d := ⟨_, rfl, rfl, rfl, rfl⟩

theorem Chip.key_advanceTo (c : Chip) (t k : Nat) : (c.advanceTo t).key k = c.key k := congrArg (fun p : Panel => p.keys.get Key.init k) (c.advanceTo_panel t)
theorem Chip.touch_advanceTo (c : Chip) (t k : Nat) : (c.advanceTo t).touch k = c.touch k := congrArg (fun p : Panel => p.touch.get Touch.init k) (c.advanceTo_panel t)

theorem boundTo_congr {a b : Chip} (h : a.cfg = b.cfg) (x : Source) : a.boundTo x = b.boundTo x := by
  unfold Chip.boundTo
  rw [h]

/-! ### A change of a source to which no FI is bound -/

theorem panelTakers_unbound {c : Chip} {x : Source} (h : c.boundTo x = []) : c.panelTakers x = [] := by
  unfold Chip.panelTakers
  rw [h]
  split <;> rfl

/-- The record of a change of a key, of a touch channel. -/
def Chip.keyRecord (c : Chip) (k back : Nat) (st : String) (cause : Option String) : Chip :=
  c.recordBefore back k k [fSym "STATE" st, fYes "DELIVERED" false, fCause cause]
def Chip.touchRecord (c : Chip) (k back : Nat) (st : String) (cause : Option String) : Chip :=
  c.recordBefore back (64 + k) k [fSym "STATE" st, fYes "DELIVERED" false, fCause cause]

theorem keyEvent_unbound {c : Chip} {k : Nat} (h : c.boundTo (.key k) = []) (back : Nat) (st : String) (cause : Option String) (w : Option Word) :
    c.keyEvent k back st cause w = c.keyRecord k back st cause := by
  unfold Chip.keyEvent Chip.deliverPanel
  rw [panelTakers_unbound h]
  cases w <;> rfl

theorem touchEvent_unbound {c : Chip} {k : Nat} (h : c.boundTo (.touch k) = []) (back : Nat) (st : String) (cause : Option String) (w : Option Word) :
    c.touchEvent k back st cause w = c.touchRecord k back st cause := by
  unfold Chip.touchEvent Chip.deliverPanel
  rw [panelTakers_unbound h]
  cases w <;> rfl

/-! ### Physical presence -/

/-- Physical presence begins. -/
def Chip.presenceBegun (c : Chip) : Chip :=
  (c.modPanel (fun p => { p with presence := some (120000000000 + c.clk.cycle) })).record 248 0 [fSym "STATE" "ACTIVE"]

theorem presenceActive_eq {c : Chip} (h : c.presenceHeld = true) (hh : c.panel.presHeld = false) (hn : c.panel.presence = none) :
    c.presenceActive = (c.advanceTo (3000000000 + max (c.pres 6).since (max (c.key 62).since (c.key 63).since))).presenceBegun := by
  unfold Chip.presenceActive
  rw [hh, hn]
  exact if_pos ⟨h, by decide, rfl⟩

/-- What the beginning of physical presence at a due cycle leaves. -/
theorem presenceBegun_due (c : Chip) (t : Nat) : PanelAlone c (c.advanceTo t).presenceBegun ∧ (c.advanceTo t).presenceBegun.coll = c.coll ∧
    (c.advanceTo t).presenceBegun.panel = { c.panel with presence := some (120000000000 + (c.advanceTo t).presenceBegun.clk.cycle) } ∧
    (c.advanceTo t).presenceBegun.clk.cycle = max c.clk.cycle t ∧ Recorded (c.advanceTo t).cairn (c.advanceTo t).presenceBegun.cairn 248 0 [fSym "STATE" "ACTIVE"] := by
  have ha := panelAlone_advanceTo c t
  have hcoll := c.advanceTo_coll t
  have hcyc := c.advanceTo_cycle t
  have hpanel := c.advanceTo_panel t
  generalize c.advanceTo t = d at *
  have hrec := recorded_record (d.modPanel (fun p => { p with presence := some (120000000000 + d.clk.cycle) })) 248 0 [fSym "STATE" "ACTIVE"]
  rw [← hpanel]
  exact ⟨ha.trans rfl, hcoll, rfl, hcyc, hrec⟩

/-- Physical presence ends. -/
def Chip.presenceEnded (c : Chip) (cause : String) : Chip :=
  (c.modPanel (fun p => { p with presence := none, presHeld := true })).record 248 0 [fSym "STATE" "ENDED", fSym "CAUSE" cause]

theorem presenceEnd_eq {c : Chip} {t : Nat} (h : c.panel.presence = some t) (cause : String) : c.presenceEnd cause = c.presenceEnded cause := by
  unfold Chip.presenceEnd
  rw [h]
  rfl

theorem presenceTimeout_eq {c : Chip} {t : Nat} (h : c.panel.presence = some t) : c.presenceTimeout = (c.advanceTo t).presenceEnded "TIME" := by
  have h' := (congrArg Panel.presence (c.advanceTo_panel t)).trans h
  unfold Chip.presenceTimeout
  rw [h]
  exact presenceEnd_eq h' "TIME"

theorem presenceEnded_due (c : Chip) (t : Nat) (cause : String) : PanelAlone c ((c.advanceTo t).presenceEnded cause) ∧
    ((c.advanceTo t).presenceEnded cause).coll = c.coll ∧ ((c.advanceTo t).presenceEnded cause).panel = { c.panel with presence := none, presHeld := true } ∧
    ((c.advanceTo t).presenceEnded cause).clk.cycle = max c.clk.cycle t ∧
    Recorded (c.advanceTo t).cairn ((c.advanceTo t).presenceEnded cause).cairn 248 0 [fSym "STATE" "ENDED", fSym "CAUSE" cause] := by
  have ha := panelAlone_advanceTo c t
  have hcoll := c.advanceTo_coll t
  have hcyc := c.advanceTo_cycle t
  have hpanel := c.advanceTo_panel t
  generalize c.advanceTo t = d at *
  have hrec := recorded_record (d.modPanel (fun p => { p with presence := none, presHeld := true })) 248 0 [fSym "STATE" "ENDED", fSym "CAUSE" cause]
  rw [← hpanel]
  exact ⟨ha.trans rfl, hcoll, rfl, hcyc, hrec⟩

theorem presence_lines {s : State} (hp : s.u.sup.powered = true) :
    (s.u.presenceHeld = true → s.u.panel.presHeld = false → s.u.panel.presence = none → CompletesChip .presenceActive s (fun u =>
      let due := 3000000000 + max (s.u.pres 6).since (max (s.u.key 62).since (s.u.key 63).since)
      PanelAlone s.u u ∧ u.coll = s.u.coll ∧ u.panel = { s.u.panel with presence := some (120000000000 + u.clk.cycle) } ∧
      u.clk.cycle = max s.u.clk.cycle due ∧ Recorded (s.u.advanceTo due).cairn u.cairn 248 0 [fSym "STATE" "ACTIVE"])) ∧
    (∀ t, s.u.panel.presence = some t → CompletesChip .presenceEnd s (fun u => PanelAlone s.u u ∧ u.coll = s.u.coll ∧
      u.panel = { s.u.panel with presence := none, presHeld := true } ∧ u.clk.cycle = max s.u.clk.cycle t ∧
      Recorded (s.u.advanceTo t).cairn u.cairn 248 0 [fSym "STATE" "ENDED", fSym "CAUSE" "TIME"])) := by
  refine ⟨fun h hh hn => ?_, fun t ht => ?_⟩
  · refine completes_onChip (exec_presenceActive s) hp ?_
    rw [presenceActive_eq h hh hn]
    exact presenceBegun_due s.u _
  · refine completes_onChip (exec_presenceEnd s) hp ?_
    rw [presenceTimeout_eq ht]
    exact presenceEnded_due s.u t "TIME"

/-! ### Keys -/

/-- What of the hold on presence a reading of the keys leaves. -/
def Chip.heldOn (c : Chip) : Bool := if !(c.key 62).raw && !(c.key 63).raw then false else c.panel.presHeld

theorem presenceRearm_eq (c : Chip) : c.presenceRearm = c.modPanel (fun p => { p with presHeld := c.heldOn }) := by
  unfold Chip.presenceRearm Chip.heldOn
  split
  · rfl
  · rfl

/-- The contact of a key is read. -/
def Chip.keyRead (c : Chip) (k : Nat) (down : Bool) : Chip := (c.modKey k (fun x => { x with raw := down })).presenceRearm

/-- What reading a contact leaves. -/
theorem keyRead_leaves (c : Chip) (k : Nat) (down : Bool) : PanelAlone c (c.keyRead k down) ∧ (c.keyRead k down).cairn = c.cairn ∧
    (c.keyRead k down).coll = c.coll ∧ (c.keyRead k down).clk = c.clk ∧ (c.keyRead k down).cfg = c.cfg ∧ (c.keyRead k down).key k = { c.key k with raw := down } := by
  have hk := c.key_modKey k (fun x => { x with raw := down })
  unfold Chip.keyRead
  rw [presenceRearm_eq]
  exact ⟨rfl, rfl, rfl, rfl, rfl, hk⟩

theorem keyChange_unscanned {c : Chip} {k : Nat} {down : Bool} (h : c.scanning = false) : c.keyChange k down = c.keyRead k down := by
  unfold Chip.keyChange
  rw [h]
  rfl

theorem keyChange_accepted {c : Chip} {k : Nat} {down : Bool} (h : c.scanning = true) (hs : (c.key k).stuck = false) (hd : (c.key k).pressed = !down) :
    c.keyChange k down = ((c.keyRead k down).modKey k (fun x => { x with pressed := down, since := c.clk.cycle - c.debounceCycles })).keyEvent k c.debounceCycles
      (if down then "PRESSED" else "RELEASED") none (some (if down then 1 else 0)) := by
  unfold Chip.keyChange
  rw [h, if_neg (by decide)]
  dsimp only
  rw [hs, if_neg (by decide), if_neg (by rw [hd]; simp)]
  rfl

theorem keyChange_unstuck {c : Chip} {k : Nat} (h : c.scanning = true) (hs : (c.key k).stuck = true) :
    c.keyChange k false = ((c.keyRead k false).modKey k (fun x => { x with stuck := false, pressed := false, since := c.clk.cycle })).keyRecord k c.debounceCycles
      "RELEASED" (some "UNSTUCK") := by
  unfold Chip.keyChange
  rw [h, if_neg (by decide)]
  dsimp only
  rw [hs, if_pos rfl, if_neg (by decide)]
  rfl

theorem keyStuck_eq {c : Chip} {k : Nat} (h : c.scanning = true) (hs : (c.key k).stuck = false) (hd : (c.key k).pressed = true) (hb : c.boundTo (.key k) = []) :
    c.keyStuck k = ((((c.advanceTo (120000000000 + (c.key k).since)).modKey k (fun x => { x with stuck := true })).keyRecord k 0 "STUCK" none).raise 369 k none [fNat "KEY" k]) := by
  have hb' : ((c.advanceTo (120000000000 + (c.key k).since)).modKey k (fun x => { x with stuck := true })).boundTo (.key k) = [] :=
    (boundTo_congr (c.advanceTo_cfg _) (.key k)).trans hb
  unfold Chip.keyStuck
  dsimp only
  rw [hs, hd, h, if_pos (by decide), keyEvent_unbound hb']

/-- A change recorded for a key. -/
theorem keyRecord_leaves {c d : Chip} {k back : Nat} {st : String} {cause : Option String} (g : Key → Key) (ha : PanelAlone c d) (hcairn : d.cairn = c.cairn) :
    PanelAlone c ((d.modKey k g).keyRecord k back st cause) ∧ ((d.modKey k g).keyRecord k back st cause).coll = d.coll ∧
    ((d.modKey k g).keyRecord k back st cause).clk = d.clk ∧ ((d.modKey k g).keyRecord k back st cause).key k = g (d.key k) ∧
    Recorded c.cairn ((d.modKey k g).keyRecord k back st cause).cairn k k [fSym "STATE" st, fYes "DELIVERED" false, fCause cause] := by
  have hrec := recorded_recordBefore (d.modKey k g) back k k [fSym "STATE" st, fYes "DELIVERED" false, fCause cause]
  have hk := d.key_modKey k g
  rw [← hcairn]
  exact ⟨ha.trans rfl, rfl, rfl, hk, hrec⟩

theorem key_lines {s : State} {k : Fin 64} {down : Bool} (hp : s.u.sup.powered = true) :
    (s.u.scanning = false → CompletesChip (.keyChange k down) s (fun u => PanelAlone s.u u ∧ u.cairn = s.u.cairn ∧ u.coll = s.u.coll ∧ u.clk = s.u.clk ∧
      u.key k = { s.u.key k with raw := down })) ∧
    (s.u.scanning = true → (s.u.key k).stuck = false → (s.u.key k).pressed = !down → s.u.boundTo (.key k) = [] → CompletesChip (.keyChange k down) s (fun u =>
      PanelAlone s.u u ∧ u.coll = s.u.coll ∧ u.clk = s.u.clk ∧
      u.key k = { raw := down, pressed := down, since := s.u.clk.cycle - s.u.debounceCycles, stuck := false } ∧
      Recorded s.u.cairn u.cairn k k [fSym "STATE" (if down then "PRESSED" else "RELEASED"), fYes "DELIVERED" false, fCause none])) ∧
    (s.u.scanning = true → (s.u.key k).stuck = true → down = false → CompletesChip (.keyChange k down) s (fun u => PanelAlone s.u u ∧ u.coll = s.u.coll ∧
      (u.key k).stuck = false ∧ (u.key k).pressed = false ∧
      Recorded s.u.cairn u.cairn k k [fSym "STATE" "RELEASED", fYes "DELIVERED" false, fCause (some "UNSTUCK")])) ∧
    (s.u.scanning = true → (s.u.key k).stuck = false → (s.u.key k).pressed = true → s.u.boundTo (.key k) = [] → CompletesChip (.keyStuck k) s (fun u =>
      PanelAlone s.u u ∧ u.key k = { s.u.key k with stuck := true } ∧ Raised s.u.coll u.coll 369 k ∧
      u.clk.cycle = max s.u.clk.cycle (120000000000 + (s.u.key k).since))) := by
  obtain ⟨ha, hcairn, hcoll, hclk, hcfg, hkey⟩ := keyRead_leaves s.u k down
  refine ⟨fun h => ?_, fun h hs hd hb => ?_, fun h hs hd => ?_, fun h hs hd hb => ?_⟩
  · refine completes_onChip (exec_keyChange s k down) hp ?_
    rw [keyChange_unscanned h]
    exact ⟨ha, hcairn, hcoll, hclk, hkey⟩
  · refine completes_onChip (exec_keyChange s k down) hp ?_
    rw [keyChange_accepted h hs hd]
    generalize s.u.keyRead k down = d at *
    rw [keyEvent_unbound ((boundTo_congr (a := d.modKey k (fun x => { x with pressed := down, since := s.u.clk.cycle - s.u.debounceCycles })) hcfg (.key k)).trans hb)]
    obtain ⟨h1, h2, h3, h4, h5⟩ := keyRecord_leaves (k := k) (back := s.u.debounceCycles) (st := if down then "PRESSED" else "RELEASED") (cause := none)
      (fun x => { x with pressed := down, since := s.u.clk.cycle - s.u.debounceCycles }) ha hcairn
    refine ⟨h1, h2.trans hcoll, h3.trans hclk, ?_, h5⟩
    rw [h4, hkey, hs]
  · subst hd
    refine completes_onChip (exec_keyChange s k false) hp ?_
    rw [keyChange_unstuck h hs]
    generalize s.u.keyRead k false = d at *
    obtain ⟨h1, h2, h3, h4, h5⟩ := keyRecord_leaves (k := k) (back := s.u.debounceCycles) (st := "RELEASED") (cause := some "UNSTUCK")
      (fun x => { x with stuck := false, pressed := false, since := s.u.clk.cycle }) ha hcairn
    rw [h4]
    exact ⟨h1, h2.trans hcoll, rfl, rfl, h5⟩
  · refine completes_onChip (exec_keyStuck s k) hp ?_
    rw [keyStuck_eq h hs hd hb]
    have ha' := panelAlone_advanceTo s.u (120000000000 + (s.u.key k).since)
    have hcoll' := s.u.advanceTo_coll (120000000000 + (s.u.key k).since)
    have hcyc := s.u.advanceTo_cycle (120000000000 + (s.u.key k).since)
    have hk := s.u.key_advanceTo (120000000000 + (s.u.key k).since) k
    generalize s.u.advanceTo (120000000000 + (s.u.key k).since) = d at *
    obtain ⟨h1, h2, h3, h4, -⟩ := keyRecord_leaves (c := d) (k := k) (back := 0) (st := "STUCK") (cause := none) (fun x => { x with stuck := true }) rfl rfl
    generalize (d.modKey k (fun x => { x with stuck := true })).keyRecord k 0 "STUCK" none = e at *
    have hr := raised_raise e 369 k none [fNat "KEY" k]
    refine ⟨(ha'.trans h1).trans rfl, ?_, Raised.of_eq hr (h2.trans hcoll'), ?_⟩
    · exact h4.trans (by rw [hk])
    · exact (congrArg Clk.cycle h3).trans hcyc

/-! ### Touch channels -/

/-- A touch channel changes with its record. -/
def Chip.touchMoved (c : Chip) (k back : Nat) (st : String) (cause : Option String) (g : Touch → Touch) : Chip := (c.modTouch k g).touchRecord k back st cause

theorem touchMoved_leaves (c : Chip) (k back : Nat) (st : String) (cause : Option String) (g : Touch → Touch) :
    PanelAlone c (c.touchMoved k back st cause g) ∧ (c.touchMoved k back st cause g).coll = c.coll ∧ (c.touchMoved k back st cause g).clk = c.clk ∧
    (c.touchMoved k back st cause g).touch k = g (c.touch k) :=
  ⟨rfl, rfl, rfl, c.touch_modTouch k g⟩

/-- The count of a sound channel is read. -/
theorem touchChange_sound {c : Chip} {k n : Nat} (hs : c.scanning = true) (hb : c.boundTo (.touch k) = []) (hn : n ≤ 4095) (hx : (c.touch k).bad = false) :
    PanelAlone c (c.touchChange k n) ∧ (c.touchChange k n).coll = c.coll ∧ (c.touchChange k n).clk = c.clk ∧ ∃ t, (c.touchChange k n).touch k =
      { c.touch k with count := n, touched := touchLevel (c.touchCfg k) (c.touch k).base n (c.touch k).touched, since := t } := by
  have h1 := c.touch_modTouch k (fun x => { x with count := n })
  unfold Chip.touchChange
  rw [Nat.min_eq_left hn, hs, if_neg (by decide)]
  dsimp only
  rw [hx, if_neg (by decide)]
  split
  next hon =>
    refine ⟨rfl, rfl, rfl, (c.touch k).since, ?_⟩
    rw [hon]
    exact h1.trans (by rw [hx])
  next hon =>
    generalize touchLevel (c.touchCfg k) (c.touch k).base n (c.touch k).touched = on
    rw [touchEvent_unbound (c := (c.modTouch k (fun x => { x with count := n })).modTouch k (fun x => { x with touched := on, since := c.clk.cycle - c.debounceCycles })) hb]
    obtain ⟨ha, hcoll, hclk, ht⟩ := touchMoved_leaves (c.modTouch k (fun x => { x with count := n })) k c.debounceCycles (if on then "TOUCHED" else "RELEASED") none
      (fun x => { x with touched := on, since := c.clk.cycle - c.debounceCycles })
    refine ⟨PanelAlone.trans (b := c.modTouch k (fun x => { x with count := n })) rfl ha, hcoll, hclk, c.clk.cycle - c.debounceCycles, ?_⟩
    rw [h1] at ht
    exact ht.trans (by rw [hx])

theorem touchChange_bad {c : Chip} {k n : Nat} (hs : c.scanning = true) (hn : n ≤ 4095) (hx : (c.touch k).bad = true) (h0 : n ≠ 0) (h1 : n ≠ 4095) :
    c.touchChange k n = c.modTouch k (fun x => { x with bad := false, base := n, count := n, touched := false, since := c.clk.cycle }) := by
  unfold Chip.touchChange
  rw [Nat.min_eq_left hn, hs, if_neg (by decide)]
  dsimp only
  rw [hx, if_pos rfl, if_neg (by simp [h0, h1])]

/-- The baseline moved toward the count. -/
def Touch.drifted (x : Touch) : Touch := { x with base := if x.base < x.count then x.base + 1 else if x.count < x.base then x.base - 1 else x.base }

theorem touchDrift_eq {c : Chip} {k : Nat} (hs : c.scanning = true) (hd : (c.touchCfg k).drift = true) (hx : (c.touch k).bad = false) (ht : (c.touch k).touched = false) :
    c.touchDrift k = c.modTouch k Touch.drifted := by
  unfold Chip.touchDrift
  dsimp only
  rw [hs, hd, hx, ht, if_pos (by decide)]
  rfl

theorem touchRecal_eq {c : Chip} {k : Nat} (hs : c.scanning = true) (hb : c.boundTo (.touch k) = []) (ht : (c.touch k).touched = true) :
    c.touchRecal k = (c.advanceTo (60000000000 + (c.touch k).since)).touchMoved k 0 "RELEASED" (some "RECAL")
      (fun x => { x with touched := false, base := x.count, since := c.clk.cycle }) := by
  have hcfg := c.advanceTo_cfg (60000000000 + (c.touch k).since)
  unfold Chip.touchRecal
  dsimp only
  rw [hs, ht, if_pos (by decide)]
  generalize c.advanceTo (60000000000 + (c.touch k).since) = d at *
  exact touchEvent_unbound ((boundTo_congr (a := d.modTouch k (fun x => { x with touched := false, base := x.count, since := c.clk.cycle })) hcfg (.touch k)).trans hb) _ _ _ _

theorem touchFault_eq {c : Chip} {k : Nat} {high : Bool} (hs : c.scanning = true) (hb : c.boundTo (.touch k) = []) (hx : (c.touch k).bad = false) :
    c.touchFault k high = (c.touchMoved k 0 "FAULT" none (fun x => { x with bad := true, touched := false, count := if high then 4095 else 0 })).raise 369 (64 + k) none
      [fNat "TOUCH" k] := by
  unfold Chip.touchFault
  dsimp only
  rw [hs, hx, if_pos (by decide), touchEvent_unbound (c := c.modTouch k (fun x => { x with bad := true, touched := false, count := if high then 4095 else 0 })) hb]
  rfl

section
variable {s : State} {k : Fin 8} (hp : s.u.sup.powered = true) (hs : s.u.scanning = true)
include hp hs

theorem touchChange_line {n : Fin 4096} (hb : s.u.boundTo (.touch k) = []) (hx : (s.u.touch k).bad = false) :
    CompletesChip (.touchChange k n) s (fun u => PanelAlone s.u u ∧ u.coll = s.u.coll ∧ u.clk = s.u.clk ∧
      (u.touch k).count = n ∧ (u.touch k).base = (s.u.touch k).base ∧ (u.touch k).bad = false ∧
      ((s.u.touch k).base + (s.u.touchCfg k).threshold ≤ n.val → (u.touch k).touched = true) ∧
      (n.val < (s.u.touch k).base + (s.u.touchCfg k).threshold / 2 → n.val < (s.u.touch k).base + (s.u.touchCfg k).threshold → (u.touch k).touched = false) ∧
      ((s.u.touch k).base + (s.u.touchCfg k).threshold / 2 ≤ n.val → n.val < (s.u.touch k).base + (s.u.touchCfg k).threshold →
        (u.touch k).touched = (s.u.touch k).touched)) := by
  refine completes_onChip (exec_touchChange s k n) hp ?_
  obtain ⟨ha, hcoll, hclk, t, ht⟩ := touchChange_sound hs hb (Nat.le_of_lt_succ n.isLt) hx
  rw [ht]
  refine ⟨ha, hcoll, hclk, rfl, rfl, hx, fun h => ?_, fun h1 h2 => ?_, fun h1 h2 => ?_⟩
  · exact if_pos h
  · exact (if_neg (Nat.not_le.mpr h2)).trans (if_pos h1)
  · exact (if_neg (Nat.not_le.mpr h2)).trans (if_neg (Nat.not_lt.mpr h1))

theorem touchRecovered_line {n : Fin 4096} (hx : (s.u.touch k).bad = true) (h0 : n.val ≠ 0) (h1 : n.val ≠ 4095) :
    CompletesChip (.touchChange k n) s (fun u => PanelAlone s.u u ∧ u.cairn = s.u.cairn ∧
      u.touch k = { count := n, base := n, touched := false, since := s.u.clk.cycle, bad := false }) := by
  refine completes_onChip (exec_touchChange s k n) hp ?_
  rw [touchChange_bad hs (Nat.le_of_lt_succ n.isLt) hx h0 h1]
  have h := s.u.touch_modTouch k (fun x => { x with bad := false, base := n, count := n, touched := false, since := s.u.clk.cycle })
  exact ⟨rfl, rfl, h⟩

theorem touchDrift_line (hx : (s.u.touch k).bad = false) (ht : (s.u.touch k).touched = false) (hd : (s.u.touchCfg k).drift = true) :
    CompletesChip (.touchDrift k) s (fun u => PanelAlone s.u u ∧
      u.cairn = s.u.cairn ∧ ((s.u.touch k).base < (s.u.touch k).count → (u.touch k).base = (s.u.touch k).base + 1) ∧
      ((s.u.touch k).count < (s.u.touch k).base → (u.touch k).base = (s.u.touch k).base - 1) ∧
      ((s.u.touch k).base = (s.u.touch k).count → u.touch k = s.u.touch k)) := by
  refine completes_onChip (exec_touchDrift s k) hp ?_
  rw [touchDrift_eq hs hd hx ht, Chip.touch_modTouch]
  refine ⟨rfl, rfl, fun h => if_pos h, fun h => (if_neg (Nat.not_lt.mpr h.le)).trans (if_pos h), fun h => ?_⟩
  unfold Touch.drifted
  rw [if_neg (by omega), if_neg (by omega)]

theorem touchRecal_line (hb : s.u.boundTo (.touch k) = []) (ht : (s.u.touch k).touched = true) :
    CompletesChip (.touchRecal k) s (fun u => PanelAlone s.u u ∧ u.coll = s.u.coll ∧ (u.touch k).touched = false ∧
      (u.touch k).base = (s.u.touch k).count ∧ u.clk.cycle = max s.u.clk.cycle (60000000000 + (s.u.touch k).since)) := by
  refine completes_onChip (exec_touchRecal s k) hp ?_
  rw [touchRecal_eq hs hb ht]
  have ha := panelAlone_advanceTo s.u (60000000000 + (s.u.touch k).since)
  have hcoll := s.u.advanceTo_coll (60000000000 + (s.u.touch k).since)
  have hcyc := s.u.advanceTo_cycle (60000000000 + (s.u.touch k).since)
  have hx := s.u.touch_advanceTo (60000000000 + (s.u.touch k).since) k
  generalize s.u.advanceTo (60000000000 + (s.u.touch k).since) = d at *
  obtain ⟨h1, h2, h3, h4⟩ := touchMoved_leaves d k 0 "RELEASED" (some "RECAL") (fun x => { x with touched := false, base := x.count, since := s.u.clk.cycle })
  rw [h4, hx]
  exact ⟨ha.trans h1, h2.trans hcoll, rfl, rfl, (congrArg Clk.cycle h3).trans hcyc⟩

theorem touchFault_line {high : Bool} (hb : s.u.boundTo (.touch k) = []) (hx : (s.u.touch k).bad = false) :
    CompletesChip (.touchFault k high) s (fun u => PanelAlone s.u u ∧ (u.touch k).bad = true ∧ (u.touch k).touched = false ∧
      Raised s.u.coll u.coll 369 (64 + k.val)) := by
  refine completes_onChip (exec_touchFault s k high) hp ?_
  rw [touchFault_eq hs hb hx]
  obtain ⟨h1, h2, -, h4⟩ := touchMoved_leaves s.u k 0 "FAULT" none (fun x => { x with bad := true, touched := false, count := if high then 4095 else 0 })
  generalize s.u.touchMoved k 0 "FAULT" none (fun x => { x with bad := true, touched := false, count := if high then 4095 else 0 }) = d at *
  have hr := raised_raise d 369 (64 + k) none [fNat "TOUCH" k]
  exact ⟨h1.trans rfl, congrArg Touch.bad h4, congrArg Touch.touched h4, Raised.of_eq hr h2⟩

end

/-! ### Presence inputs -/

/-- An input takes a reading, with its record. -/
def Chip.presSet (c : Chip) (i : Nat) (a f : Bool) (n : String) : Chip :=
  (c.modPres i (fun _ => { active := a, fault := f, since := c.clk.cycle - c.debounceCycles })).recordBefore c.debounceCycles (72 + i) i [fSym "STATE" n]

theorem presSet_leaves (c : Chip) (i : Nat) (a f : Bool) (n : String) :
    PanelAlone c (c.presSet i a f n) ∧ (c.presSet i a f n).coll = c.coll ∧ (c.presSet i a f n).pres i = ⟨a, f, c.clk.cycle - c.debounceCycles⟩ ∧
    (c.presSet i a f n).panel.presence = c.panel.presence ∧ (c.presSet i a f n).sup = c.sup ∧ Recorded c.cairn (c.presSet i a f n).cairn (72 + i) i [fSym "STATE" n] := by
  have hp := c.pres_modPres i (fun _ => { active := a, fault := f, since := c.clk.cycle - c.debounceCycles })
  have hrec := recorded_recordBefore (c.modPres i (fun _ => { active := a, fault := f, since := c.clk.cycle - c.debounceCycles })) c.debounceCycles (72 + i) i [fSym "STATE" n]
  exact ⟨rfl, rfl, hp, rfl, rfl, hrec⟩

theorem presRead_active {c : Chip} {i : Nat} (h : (c.pres i).active = false ∨ (c.pres i).fault = true) :
    c.presRead i .active = (!(c.pres i).active, c.presSet i true false "ACTIVE") := by
  unfold Chip.presRead
  exact if_neg (by rcases h with h | h <;> simp [h])

theorem presRead_inactive {c : Chip} {i : Nat} (h : (c.pres i).active = true) :
    c.presRead i .inactive = (true, c.presSet i false false "INACTIVE") := by
  unfold Chip.presRead
  dsimp only
  rw [h]
  exact if_neg (by simp)

theorem presRead_fault {c : Chip} {i : Nat} (hs : supervised i = true) (h : (c.pres i).fault = false) :
    c.presRead i .fault = (false, (c.presSet i (c.pres i).active true "FAULT").raise 369 (72 + i) none [fNat "PRESENCE" i]) := by
  unfold Chip.presRead
  exact if_pos ⟨hs, by simp [h]⟩

/-- What a reading acts on. -/
def Chip.presActs (c : Chip) (i : Nat) : Chip :=
  let now := (c.pres i).active
  if i < 4 then c.testFlags
  else if i = 4 then (if now then c else c.endSession 1 "USB")
  else if i = 5 then (if now then c.boardReturn else c.boardGone)
  else if i = 6 then (if now then c else c.presenceEnd "DOOR")
  else if i ≤ 10 then c.cageCheck (i - 7)
  else c

/-- Where the input is read, its reading acts when it has moved. -/
theorem presenceInput_read {c : Chip} {i : Nat} {r : PresRead} (h : ¬ ((i < 4 ∨ i = 5 ∨ i = 6 ∨ 11 ≤ i) ∧ c.domOn 21 = false)) :
    c.presenceInput i r = if (c.presRead i r).1 then (c.presRead i r).2.presActs i else (c.presRead i r).2 := by
  unfold Chip.presenceInput
  rw [if_neg h]
  dsimp only
  cases (c.presRead i r).1 with
  | true => rfl
  | false => rfl

theorem presenceInput_on {c : Chip} {i : Nat} {r : PresRead} (h : c.domOn 21 = true) :
    c.presenceInput i r = if (c.presRead i r).1 then (c.presRead i r).2.presActs i else (c.presRead i r).2 :=
  presenceInput_read (fun hn => absurd (h.symm.trans hn.2) (by decide))

theorem presActs_high {c : Chip} {i : Nat} (h : 11 ≤ i) : c.presActs i = c := by
  unfold Chip.presActs
  dsimp only
  rw [if_neg (by omega), if_neg (by omega), if_neg (by omega), if_neg (by omega), if_neg (by omega)]

theorem presActs_door {c : Chip} (h : (c.pres 6).active = false) : c.presActs 6 = c.presenceEnd "DOOR" := by
  unfold Chip.presActs
  rw [h]
  rfl

theorem presActs_board {c : Chip} : c.presActs 5 = if (c.pres 5).active then c.boardReturn else c.boardGone := rfl

/-- The door opens while physical presence is active. -/
theorem doorOpened_leaves {c : Chip} {t : Nat} (hd : c.domOn 21 = true) (hx : (c.pres 6).active = true) (ht : c.panel.presence = some t) :
    PanelAlone c (c.presenceInput 6 .inactive) ∧ (c.presenceInput 6 .inactive).coll = c.coll ∧
    (c.presenceInput 6 .inactive).pres 6 = ⟨false, false, c.clk.cycle - c.debounceCycles⟩ ∧ (c.presenceInput 6 .inactive).panel.presence = none ∧
    (c.presenceInput 6 .inactive).panel.presHeld = true := by
  obtain ⟨h1, h2, h3, h4, -, -⟩ := presSet_leaves c 6 false false "INACTIVE"
  rw [presenceInput_on hd, presRead_inactive hx, if_pos rfl]
  dsimp only
  generalize c.presSet 6 false false "INACTIVE" = d at *
  rw [presActs_door (by rw [h3]), presenceEnd_eq (h4.trans ht) "DOOR"]
  exact ⟨h1.trans rfl, h2, h3, rfl, rfl⟩

theorem presenceInput_lines {s : State} {i : Fin 16} {r : PresRead} (hp : s.u.sup.powered = true) :
    let x := s.u.pres i; let read := fun a f => (⟨a, f, s.u.clk.cycle - s.u.debounceCycles⟩ : Pres)
    (s.u.domOn 21 = true → 11 ≤ i.val → r = .active → x.active = false ∨ x.fault = true → CompletesChip (.presenceInputChange i r) s (fun u => PanelAlone s.u u ∧
      u.coll = s.u.coll ∧ u.pres i = read true false ∧ Recorded s.u.cairn u.cairn (72 + i.val) i [fSym "STATE" "ACTIVE"])) ∧
    (s.u.domOn 21 = true → supervised i = true → r = .fault → x.fault = false → CompletesChip (.presenceInputChange i r) s (fun u => PanelAlone s.u u ∧
      u.pres i = read x.active true ∧ Raised s.u.coll u.coll 369 (72 + i.val) ∧ Recorded s.u.cairn u.cairn (72 + i.val) i [fSym "STATE" "FAULT"])) ∧
    (∀ t, s.u.domOn 21 = true → i = 6 → r = .inactive → x.active = true → s.u.panel.presence = some t →
      CompletesChip (.presenceInputChange i r) s (fun u => PanelAlone s.u u ∧ u.coll = s.u.coll ∧ u.pres i = read false false ∧
        u.panel.presence = none ∧ u.panel.presHeld = true)) ∧
    (r = .between → (s.u.domOn 21 = true ∨ ¬ (i.val < 4 ∨ i = 5 ∨ i = 6 ∨ 11 ≤ i.val)) → CompletesChip (.presenceInputChange i r) s (fun u => u = s.u)) := by
  refine ⟨fun hd hi hr hx => ?_, fun hd hi hr hx => ?_, fun t hd hi hr hx ht => ?_, fun hr hd => ?_⟩
  · subst hr
    refine completes_onChip (exec_presenceInputChange s i .active) hp ?_
    rw [presenceInput_on hd, presRead_active hx]
    dsimp only
    rw [presActs_high hi, ite_self]
    obtain ⟨h1, h2, h3, -, -, h6⟩ := presSet_leaves s.u i true false "ACTIVE"
    exact ⟨h1, h2, h3, h6⟩
  · subst hr
    refine completes_onChip (exec_presenceInputChange s i .fault) hp ?_
    rw [presenceInput_on hd, presRead_fault hi hx]
    obtain ⟨h1, h2, h3, -, -, h6⟩ := presSet_leaves s.u i (s.u.pres i).active true "FAULT"
    dsimp only
    generalize s.u.presSet i (s.u.pres i).active true "FAULT" = d at *
    have hraised := raised_raise d 369 (72 + i) none [fNat "PRESENCE" i]
    exact ⟨h1.trans rfl, h3, Raised.of_eq hraised h2, h6⟩
  · subst hr hi
    exact completes_onChip (exec_presenceInputChange s 6 .inactive) hp (doorOpened_leaves hd hx ht)
  · subst hr
    refine completes_onChip (exec_presenceInputChange s i .between) hp ?_
    rw [presenceInput_read ?_]
    · rfl
    · rintro ⟨hi, hoff⟩
      rcases hd with hd | hd
      · exact absurd (hd.symm.trans hoff) (by decide)
      · refine hd ?_
        rcases hi with hi | hi | hi | hi
        · exact .inl hi
        · exact .inr (.inl (Fin.ext hi))
        · exact .inr (.inr (.inl (Fin.ext hi)))
        · exact .inr (.inr (.inr hi))

/-! ### The front panel board -/

theorem Chip.key_modKey_ne (c : Chip) (n m : Nat) (g : Key → Key) (h : m ≠ n) : (c.modKey n g).key m = c.key m := Tbl.get_put_ne Key.init (g (c.key n)) c.panel.keys h
theorem Chip.touch_modTouch_ne (c : Chip) (n m : Nat) (g : Touch → Touch) (h : m ≠ n) : (c.modTouch n g).touch m = c.touch m :=
  Tbl.get_put_ne Touch.init (g (c.touch n)) c.panel.touch h

/-- Two units that differ at most in their keys and touch channels. -/
structure Chip.SameButKeys (c d : Chip) : Prop where
  alone : PanelAlone c d
  clk : d.clk = c.clk
  cairn : d.cairn = c.cairn
  coll : d.coll = c.coll
  sup : d.sup = c.sup
  pres : d.panel.pres = c.panel.pres

theorem Chip.SameButKeys.refl (c : Chip) : c.SameButKeys c := ⟨rfl, rfl, rfl, rfl, rfl, rfl⟩
theorem Chip.SameButKeys.trans {a b d : Chip} (h1 : a.SameButKeys b) (h2 : b.SameButKeys d) : a.SameButKeys d :=
  ⟨h1.alone.trans h2.alone, h2.clk.trans h1.clk, h2.cairn.trans h1.cairn, h2.coll.trans h1.coll, h2.sup.trans h1.sup, h2.pres.trans h1.pres⟩

theorem sameButKeys_modKey (c : Chip) (k : Nat) (g : Key → Key) : c.SameButKeys (c.modKey k g) := ⟨rfl, rfl, rfl, rfl, rfl, rfl⟩
theorem sameButKeys_modTouch (c : Chip) (k : Nat) (g : Touch → Touch) : c.SameButKeys (c.modTouch k g) := ⟨rfl, rfl, rfl, rfl, rfl, rfl⟩

/-- No key is pressed and no channel touched. -/
structure Chip.Untouched (c : Chip) : Prop where
  keys : ∀ k, (c.key k).pressed = false
  touch : ∀ k, (c.touch k).touched = false

theorem boardGone_untouched {c : Chip} (h : c.Untouched) : ∃ d, c.boardGone = d.raise 368 0 none [] ∧ c.SameButKeys d := by
  unfold Chip.boardGone
  refine ⟨_, rfl, ?_⟩
  have hkeys : c.SameButKeys ((List.range 64).foldl (fun c k => if (c.key k).pressed ∧ ¬ (c.key k).stuck
      then (c.modKey k (fun x => { x with pressed := false })).keyEvent k 0 "RELEASED" (some "BOARD") (some 0)
      else c.modKey k (fun x => { x with pressed := false, stuck := false })) c) ∧
      Chip.Untouched ((List.range 64).foldl (fun c k => if (c.key k).pressed ∧ ¬ (c.key k).stuck
      then (c.modKey k (fun x => { x with pressed := false })).keyEvent k 0 "RELEASED" (some "BOARD") (some 0)
      else c.modKey k (fun x => { x with pressed := false, stuck := false })) c) := by
    refine List.foldlRecOn (motive := fun d => c.SameButKeys d ∧ d.Untouched) _ _ ⟨.refl c, h⟩ ?_
    rintro d ⟨hd, hu⟩ k -
    rw [if_neg (fun hk => absurd ((hu.keys k).symm.trans hk.1) (by decide))]
    refine ⟨hd.trans (sameButKeys_modKey d k _), fun m => ?_, hu.touch⟩
    by_cases hm : m = k
    · rw [hm, Chip.key_modKey]
    · rw [Chip.key_modKey_ne _ _ _ _ hm]
      exact hu.keys m
  generalize (List.range 64).foldl _ c = d at *
  refine hkeys.1.trans (List.foldlRecOn (motive := fun e => d.SameButKeys e ∧ e.Untouched) _ _ ⟨.refl d, hkeys.2⟩ ?_).1
  rintro e ⟨he, hu⟩ k -
  rw [if_neg (fun hk => absurd ((hu.touch k).symm.trans hk) (by decide))]
  exact ⟨he, hu⟩

theorem board_congr {c d : Chip} (hs : d.sup = c.sup) (b : Bool) (hp : (d.pres 5).active = b) : d.scanning = (c.domOn 21 && b) := by
  unfold Chip.scanning Chip.board Chip.domOn Chip.dom
  rw [hs, hp]

theorem boardRemove_line {s : State} (hp : s.u.sup.powered = true) (hd : s.u.domOn 21 = true) (ha : (s.u.pres 5).active = true) (hu : s.u.Untouched) :
    CompletesChip .boardRemove s (fun u => PanelAlone s.u u ∧ (u.pres 5).active = false ∧ u.scanning = false ∧ Raised s.u.coll u.coll 368 0 ∧
      Recorded s.u.cairn u.cairn 77 5 [fSym "STATE" "INACTIVE"]) := by
  refine completes_onChip (exec_boardRemove s) hp ?_
  obtain ⟨h1, h2, h3, -, h5, h6⟩ := presSet_leaves s.u 5 false false "INACTIVE"
  have hun : (s.u.presSet 5 false false "INACTIVE").Untouched := ⟨hu.keys, hu.touch⟩
  rw [presenceInput_on hd, presRead_inactive ha, if_pos rfl]
  dsimp only
  generalize s.u.presSet 5 false false "INACTIVE" = d at *
  have hoff : (d.pres 5).active = false := congrArg Pres.active h3
  obtain ⟨e, he, hsame⟩ := boardGone_untouched hun
  rw [presActs_board, hoff, if_neg (by decide), he]
  have hpres : (e.pres 5).active = false := (congrArg (fun t : Tbl Pres => (t.get Pres.init 5).active) hsame.pres).trans hoff
  have hraised := raised_raise e 368 0 none []
  have hscan : e.scanning = false := (board_congr (hsame.sup.trans h5) false hpres).trans (Bool.and_false _)
  rw [← hsame.cairn] at h6
  exact ⟨(h1.trans hsame.alone).trans rfl, hpres, hscan, Raised.of_eq hraised (hsame.coll.trans h2), h6⟩

/-- A key, a touch channel as scanning resumes. -/
def Key.rescanned (x : Key) (now : Nat) : Key := { x with pressed := x.raw, stuck := false, since := now }
def Touch.rescanned (x : Touch) (now : Nat) : Touch := { x with touched := false, bad := false, base := x.count, since := now }

/-- The first `n` keys scanned anew. -/
def Chip.keysScanned (c : Chip) (n : Nat) : Chip := (List.range n).foldl (fun c k => c.modKey k (fun x => x.rescanned c.clk.cycle)) c
def Chip.touchScanned (c : Chip) (n : Nat) : Chip := (List.range n).foldl (fun c k => c.modTouch k (fun x => x.rescanned c.clk.cycle)) c

theorem keysScanned_succ (c : Chip) (n : Nat) :
    c.keysScanned (n + 1) = (c.keysScanned n).modKey n (fun x => x.rescanned (c.keysScanned n).clk.cycle) := by
  unfold Chip.keysScanned
  rw [List.range_succ, List.foldl_append]
  rfl

theorem touchScanned_succ (c : Chip) (n : Nat) :
    c.touchScanned (n + 1) = (c.touchScanned n).modTouch n (fun x => x.rescanned (c.touchScanned n).clk.cycle) := by
  unfold Chip.touchScanned
  rw [List.range_succ, List.foldl_append]
  rfl

theorem keysScanned_leaves (c : Chip) (n : Nat) : c.SameButKeys (c.keysScanned n) ∧ (c.keysScanned n).panel.touch = c.panel.touch ∧
    (∀ k < n, (c.keysScanned n).key k = (c.key k).rescanned c.clk.cycle) ∧ (∀ k, n ≤ k → (c.keysScanned n).key k = c.key k) := by
  induction n with
  | zero => exact ⟨.refl c, rfl, fun k hk => absurd hk (Nat.not_lt_zero k), fun _ _ => rfl⟩
  | succ n ih =>
    obtain ⟨hs, ht, hlt, hge⟩ := ih
    rw [keysScanned_succ]
    refine ⟨hs.trans (sameButKeys_modKey _ n _), ht, fun k hk => ?_, fun k hk => ?_⟩
    · obtain rfl | hne := Nat.eq_or_lt_of_le (Nat.le_of_lt_succ hk)
      · rw [Chip.key_modKey, hge k (Nat.le_refl k), hs.clk]
      · rw [Chip.key_modKey_ne _ _ _ _ (Nat.ne_of_lt hne), hlt k hne]
    · rw [Chip.key_modKey_ne _ _ _ _ (by omega), hge k (by omega)]

theorem touchScanned_leaves (c : Chip) (n : Nat) : c.SameButKeys (c.touchScanned n) ∧ (c.touchScanned n).panel.keys = c.panel.keys ∧
    (∀ k < n, (c.touchScanned n).touch k = (c.touch k).rescanned c.clk.cycle) ∧ (∀ k, n ≤ k → (c.touchScanned n).touch k = c.touch k) := by
  induction n with
  | zero => exact ⟨.refl c, rfl, fun k hk => absurd hk (Nat.not_lt_zero k), fun _ _ => rfl⟩
  | succ n ih =>
    obtain ⟨hs, ht, hlt, hge⟩ := ih
    rw [touchScanned_succ]
    refine ⟨hs.trans (sameButKeys_modTouch _ n _), ht, fun k hk => ?_, fun k hk => ?_⟩
    · obtain rfl | hne := Nat.eq_or_lt_of_le (Nat.le_of_lt_succ hk)
      · rw [Chip.touch_modTouch, hge k (Nat.le_refl k), hs.clk]
      · rw [Chip.touch_modTouch_ne _ _ _ _ (Nat.ne_of_lt hne), hlt k hne]
    · rw [Chip.touch_modTouch_ne _ _ _ _ (by omega), hge k (by omega)]

theorem boardReturn_on {c : Chip} (h : c.domOn 21 = true) : c.boardReturn = (c.keysScanned 64).touchScanned 8 := by
  unfold Chip.boardReturn
  rw [h]
  rfl

theorem boardReturn_line {s : State} (hp : s.u.sup.powered = true) (hd : s.u.domOn 21 = true) (ha : (s.u.pres 5).active = false) :
    CompletesChip .boardReturn s (fun u => PanelAlone s.u u ∧ u.coll = s.u.coll ∧ u.scanning = true ∧
      (∀ k < 64, (u.key k).pressed = (s.u.key k).raw ∧ (u.key k).stuck = false) ∧
      (∀ k < 8, (u.touch k).base = (s.u.touch k).count ∧ (u.touch k).touched = false)) := by
  refine completes_onChip (exec_boardReturn s) hp ?_
  obtain ⟨h1, h2, h3, -, h5, -⟩ := presSet_leaves s.u 5 true false "ACTIVE"
  have hkey : ∀ k, (s.u.presSet 5 true false "ACTIVE").key k = s.u.key k := fun _ => rfl
  have htouch : ∀ k, (s.u.presSet 5 true false "ACTIVE").touch k = s.u.touch k := fun _ => rfl
  rw [presenceInput_on hd, presRead_active (.inl ha), ha]
  generalize s.u.presSet 5 true false "ACTIVE" = d at *
  have hon : d.domOn 21 = true := (congrArg (fun u : Supply => (u.doms.get Dom.init 21).st == .on) h5).trans hd
  have hpres : (d.pres 5).active = true := congrArg Pres.active h3
  dsimp only
  rw [Bool.not_false, if_pos rfl, presActs_board, hpres, if_pos rfl, boardReturn_on hon]
  obtain ⟨hs1, ht1, hk1, -⟩ := keysScanned_leaves d 64
  obtain ⟨hs2, hk2, ht2, -⟩ := touchScanned_leaves (d.keysScanned 64) 8
  have hs := hs1.trans hs2
  have hscan : ((d.keysScanned 64).touchScanned 8).scanning = (s.u.domOn 21 && true) :=
    board_congr (hs.sup.trans h5) true ((congrArg (fun t : Tbl Pres => (t.get Pres.init 5).active) hs.pres).trans hpres)
  refine ⟨h1.trans hs.alone, hs.coll.trans h2, hscan.trans (by rw [hd]; rfl), fun k hk => ?_, fun k hk => ?_⟩
  · have hx : ((d.keysScanned 64).touchScanned 8).key k = (s.u.key k).rescanned d.clk.cycle :=
      (congrArg (fun t : Tbl Key => t.get Key.init k) hk2).trans ((hk1 k hk).trans (by rw [hkey]))
    rw [hx]
    exact ⟨rfl, rfl⟩
  · have hx : (d.keysScanned 64).touch k = s.u.touch k := (congrArg (fun t : Tbl Touch => t.get Touch.init k) ht1).trans (htouch k)
    rw [ht2 k hk, hx]
    exact ⟨rfl, rfl⟩

/-- Settles O56: each event of the panel by the equation of its case. -/
theorem panelEvents : Obligations.PanelEvents := by
  unfold Obligations.PanelEvents
  exact ⟨fun s => presence_lines, fun s k down => key_lines,
    fun s k hp hs hb => ⟨fun n => touchChange_line hp hs hb, fun n => touchRecovered_line hp hs, touchDrift_line hp hs, touchRecal_line hp hs hb,
      fun high => touchFault_line hp hs hb⟩,
    fun s i r => presenceInput_lines, fun s hp hd _ => ⟨fun ha hk ht => boardRemove_line hp hd ha ⟨hk, ht⟩, boardReturn_line hp hd⟩⟩

end Sys2Proof.Machine
end

section
/-!
PROOFS. Binary inputs and trip outputs (R689–R693, R696–R698).
-/
namespace Sys2Proof.Machine

/-! ### Binary inputs -/

theorem deliverSource_unbound {c : Chip} {x : Source} (h : c.boundTo x = []) (w : Word) : c.deliverSource x w = c := by
  unfold Chip.deliverSource
  rw [h]
  rfl

theorem delivers_unbound {c : Chip} {x : Source} (h : c.boundTo x = []) : c.delivers x = false := by
  unfold Chip.delivers Chip.fisOn
  rw [h]
  rfl

/-- The accepted changes of the last second, with the present one. -/
def Chip.inputWindow (c : Chip) (n : Nat) : List Nat := (c.binIn n).accepted.filter (fun t => decide (c.clk.cycle < 1000000000 + t)) ++ [c.clk.cycle]

/-- An input after a change of its filtered level. -/
def BinIn.moved (x : BinIn) (high : Bool) (raw : Nat) (win : List Nat) : BinIn :=
  { x with raw := high, filt := high, lastRaw := raw, accepted := win, changes := sat32 x.changes }

/-- The unit after a change of an input's filtered level, before its report. -/
def Chip.inputMoved (c : Chip) (n : Nat) (high : Bool) : Chip :=
  c.modBin n (fun x => x.moved high (c.clk.cycle - (c.inputCfg n).filter) (c.inputWindow n))

/-- The record of an input, stamped by its filter's time back. -/
def Chip.inputRecord (c : Chip) (n back : Nat) (st : Fld) : Chip := c.recordBefore back (88 + n) n [st, fYes "DELIVERED" false, ⟨"CAUSE", .none⟩]

theorem inputChange_same {c : Chip} {n : Nat} {high : Bool} (h : (c.binIn n).filt = high) :
    c.inputChange n high = c.modBin n (fun x => if x.raw = high then x else { x with raw := high, lastRaw := c.clk.cycle }) := by
  unfold Chip.inputChange
  exact if_pos h

theorem inputChange_blocked {c : Chip} {n : Nat} {high : Bool} (h : (c.binIn n).filt = !high) (hb : (c.binIn n).blocked = true) :
    c.inputChange n high = c.inputMoved n high := by
  unfold Chip.inputChange
  dsimp only
  rw [if_neg (by rw [h]; simp), if_pos hb]
  rfl

theorem inputChange_chatter {c : Chip} {n : Nat} {high : Bool} (h : (c.binIn n).filt = !high) (hb : (c.binIn n).blocked = false)
    (hw : 30 < (c.inputWindow n).length) : c.inputChange n high =
    ((c.inputMoved n high).modBin n (fun x => { x with blocked := true })).inputRecord n ((c.inputCfg n).filter + 8000) (fSym "STATE" "CHATTER") := by
  unfold Chip.inputChange
  dsimp only
  rw [if_neg (by rw [h]; simp), if_neg (by rw [hb]; simp)]
  exact if_pos hw

theorem inputChange_accepted {c : Chip} {n : Nat} {high : Bool} (h : (c.binIn n).filt = !high) (hb : (c.binIn n).blocked = false)
    (hw : (c.inputWindow n).length ≤ 30) (hu : c.boundTo (.input n) = []) : c.inputChange n high =
    ((c.inputMoved n high).modBin n (fun x => { x with delivered := high != (c.inputCfg n).invert })).inputRecord n ((c.inputCfg n).filter + 8000)
      (fActive (high != (c.inputCfg n).invert)) := by
  have hu1 : (c.inputMoved n high).boundTo (.input n) = [] := hu
  have hu2 : ((c.inputMoved n high).modBin n (fun x => { x with delivered := high != (c.inputCfg n).invert })).boundTo (.input n) = [] := hu
  have hd := delivers_unbound hu1
  have he := deliverSource_unbound hu2 (if (high != (c.inputCfg n).invert) = true then 1 else 0)
  unfold Chip.inputChange
  dsimp only
  rw [if_neg (by rw [h]; simp), if_neg (by rw [hb]; simp)]
  unfold Chip.inputMoved Chip.inputWindow BinIn.moved at *
  rw [if_neg (Nat.not_lt.mpr hw), hd, he]
  rfl

/-- What the report of a moved input leaves. -/
theorem inputReported_leaves (c : Chip) (n back : Nat) (high : Bool) (st : Fld) (g : BinIn → BinIn) :
    PanelAlone c (((c.inputMoved n high).modBin n g).inputRecord n back st) ∧ (((c.inputMoved n high).modBin n g).inputRecord n back st).coll = c.coll ∧
    (((c.inputMoved n high).modBin n g).inputRecord n back st).binIn n =
      g ((c.binIn n).moved high (c.clk.cycle - (c.inputCfg n).filter) (c.inputWindow n)) ∧
    Recorded c.cairn (((c.inputMoved n high).modBin n g).inputRecord n back st).cairn (88 + n) n [st, fYes "DELIVERED" false, ⟨"CAUSE", .none⟩] := by
  have hrec := recorded_recordBefore ((c.inputMoved n high).modBin n g) back (88 + n) n [st, fYes "DELIVERED" false, ⟨"CAUSE", .none⟩]
  have hb : ((c.inputMoved n high).modBin n g).binIn n = g ((c.binIn n).moved high (c.clk.cycle - (c.inputCfg n).filter) (c.inputWindow n)) := by
    rw [Chip.binIn_modBin]
    unfold Chip.inputMoved
    rw [Chip.binIn_modBin]
  exact ⟨rfl, rfl, hb, hrec⟩

theorem inputChange_lines {s : State} {n : Fin 16} {high : Bool} (hp : s.u.sup.powered = true) (hu : s.u.boundTo (.input n) = []) :
    ((s.u.binIn n).filt = high → CompletesChip (.binaryInputChange n high) s (fun u => PanelAlone s.u u ∧ u.cairn = s.u.cairn ∧ u.coll = s.u.coll ∧
      (u.binIn n).raw = high ∧ (u.binIn n).filt = high ∧ (u.binIn n).changes = (s.u.binIn n).changes)) ∧
    ((s.u.binIn n).filt = !high → (s.u.binIn n).blocked = false → (s.u.inputWindow n).length ≤ 30 → CompletesChip (.binaryInputChange n high) s (fun u =>
      PanelAlone s.u u ∧ u.coll = s.u.coll ∧
      u.binIn n = { raw := high, filt := high, delivered := high != (s.u.inputCfg n).invert, accepted := s.u.inputWindow n, changes := sat32 (s.u.binIn n).changes,
                    blocked := false, lastRaw := s.u.clk.cycle - (s.u.inputCfg n).filter } ∧
      Recorded s.u.cairn u.cairn (88 + n.val) n [fActive (high != (s.u.inputCfg n).invert), fYes "DELIVERED" false, ⟨"CAUSE", .none⟩])) ∧
    ((s.u.binIn n).filt = !high → (s.u.binIn n).blocked = false → 30 < (s.u.inputWindow n).length → CompletesChip (.binaryInputChange n high) s (fun u =>
      PanelAlone s.u u ∧ u.coll = s.u.coll ∧ (u.binIn n).blocked = true ∧ (u.binIn n).delivered = (s.u.binIn n).delivered ∧
      Recorded s.u.cairn u.cairn (88 + n.val) n [fSym "STATE" "CHATTER", fYes "DELIVERED" false, ⟨"CAUSE", .none⟩])) ∧
    ((s.u.binIn n).filt = !high → (s.u.binIn n).blocked = true → CompletesChip (.binaryInputChange n high) s (fun u => PanelAlone s.u u ∧
      u.cairn = s.u.cairn ∧ (u.binIn n).filt = high ∧ (u.binIn n).blocked = true ∧ (u.binIn n).changes = sat32 (s.u.binIn n).changes ∧
      (u.binIn n).delivered = (s.u.binIn n).delivered)) := by
  refine ⟨fun h => ?_, fun h hb hw => ?_, fun h hb hw => ?_, fun h hb => ?_⟩
  · refine completes_onChip (exec_binaryInputChange s n high) hp ?_
    rw [inputChange_same h]
    refine ⟨rfl, rfl, rfl, ?_⟩
    rw [Chip.binIn_modBin]
    split
    next hr => exact ⟨hr, h, rfl⟩
    next => exact ⟨rfl, h, rfl⟩
  · refine completes_onChip (exec_binaryInputChange s n high) hp ?_
    rw [inputChange_accepted h hb hw hu]
    obtain ⟨h1, h2, h3, h4⟩ := inputReported_leaves s.u n ((s.u.inputCfg n).filter + 8000) high (fActive (high != (s.u.inputCfg n).invert))
      (fun x => { x with delivered := high != (s.u.inputCfg n).invert })
    refine ⟨h1, h2, h3.trans ?_, h4⟩
    unfold BinIn.moved
    rw [hb]
  · refine completes_onChip (exec_binaryInputChange s n high) hp ?_
    rw [inputChange_chatter h hb hw]
    obtain ⟨h1, h2, h3, h4⟩ := inputReported_leaves s.u n ((s.u.inputCfg n).filter + 8000) high (fSym "STATE" "CHATTER") (fun x => { x with blocked := true })
    rw [h3]
    exact ⟨h1, h2, rfl, rfl, h4⟩
  · refine completes_onChip (exec_binaryInputChange s n high) hp ?_
    rw [inputChange_blocked h hb]
    have hx : (s.u.inputMoved n high).binIn n = (s.u.binIn n).moved high (s.u.clk.cycle - (s.u.inputCfg n).filter) (s.u.inputWindow n) := by
      unfold Chip.inputMoved
      rw [Chip.binIn_modBin]
    rw [hx]
    exact ⟨rfl, rfl, rfl, hb, rfl, rfl⟩

theorem Chip.binIn_advanceTo (c : Chip) (t n : Nat) : (c.advanceTo t).binIn n = c.binIn n := congrArg (fun p : Panel => p.inputs.get BinIn.init n) (c.advanceTo_panel t)
theorem Chip.inputState_congr {c d : Chip} (n : Nat) (hp : d.panel = c.panel) (hc : d.cfg = c.cfg) : d.inputState n = c.inputState n := by
  unfold Chip.inputState Chip.binIn Chip.inputCfg
  rw [hp, hc]

/-- An input's block ends with its present state. -/
def BinIn.unblocked (x : BinIn) (st : Bool) : BinIn := { x with blocked := false, accepted := [], delivered := st }

/-- A block ends: the state is delivered where it differs from the one delivered last. -/
def Chip.unblockedAt (c : Chip) (n : Nat) (old : Bool) : Chip :=
  let st := c.inputState n
  let c1 := c.modBin n (fun x => { x with blocked := false, accepted := [] })
  if st = old then c1.record (88 + n) n [fActive st, fYes "DELIVERED" false, fSym "CAUSE" "UNBLOCK"]
  else ((c1.modBin n (fun x => { x with delivered := st })).deliverSource (.input n) (if st then 1 else 0)).record (88 + n) n
    [fActive st, fYes "DELIVERED" true, fSym "CAUSE" "UNBLOCK"]

theorem inputUnblock_eq {c : Chip} {n : Nat} (h : (c.binIn n).blocked = true) :
    c.inputUnblock n = (c.advanceTo (10000000000 + (c.binIn n).lastRaw)).unblockedAt n (c.binIn n).delivered := by
  unfold Chip.inputUnblock
  exact if_neg (by rw [h]; decide)

theorem unblockedAt_leaves {c : Chip} {n : Nat} (hu : c.boundTo (.input n) = []) :
    PanelAlone c (c.unblockedAt n (c.binIn n).delivered) ∧ (c.unblockedAt n (c.binIn n).delivered).coll = c.coll ∧
    (c.unblockedAt n (c.binIn n).delivered).clk = c.clk ∧ (c.unblockedAt n (c.binIn n).delivered).binIn n = (c.binIn n).unblocked (c.inputState n) := by
  have h1 := c.binIn_modBin n (fun x => { x with blocked := false, accepted := [] })
  unfold Chip.unblockedAt
  dsimp only
  split
  next h =>
    refine ⟨rfl, rfl, rfl, h1.trans ?_⟩
    unfold BinIn.unblocked
    rw [h]
  next =>
    have h2 := (c.modBin n (fun x => { x with blocked := false, accepted := [] })).binIn_modBin n (fun x => { x with delivered := c.inputState n })
    rw [h1] at h2
    rw [deliverSource_unbound (show ((c.modBin n (fun x => { x with blocked := false, accepted := [] })).modBin n
      (fun x => { x with delivered := c.inputState n })).boundTo (.input n) = [] from hu)]
    exact ⟨rfl, rfl, rfl, h2⟩

theorem inputUnblock_line {s : State} {n : Fin 16} (hp : s.u.sup.powered = true) (hu : s.u.boundTo (.input n) = []) (hb : (s.u.binIn n).blocked = true) :
    CompletesChip (.inputUnblock n) s (fun u => PanelAlone s.u u ∧ u.coll = s.u.coll ∧ (u.binIn n).blocked = false ∧ (u.binIn n).accepted = [] ∧
      (u.binIn n).filt = (s.u.binIn n).filt ∧ (u.binIn n).delivered = ((s.u.binIn n).filt != (s.u.inputCfg n).invert) ∧
      u.clk.cycle = max s.u.clk.cycle (10000000000 + (s.u.binIn n).lastRaw)) := by
  refine completes_onChip (exec_inputUnblock s n) hp ?_
  rw [inputUnblock_eq hb]
  have ha := panelAlone_advanceTo s.u (10000000000 + (s.u.binIn n).lastRaw)
  have hcoll := s.u.advanceTo_coll (10000000000 + (s.u.binIn n).lastRaw)
  have hcyc := s.u.advanceTo_cycle (10000000000 + (s.u.binIn n).lastRaw)
  have hbin := s.u.binIn_advanceTo (10000000000 + (s.u.binIn n).lastRaw) n
  have hst := Chip.inputState_congr n (s.u.advanceTo_panel (10000000000 + (s.u.binIn n).lastRaw)) (s.u.advanceTo_cfg _)
  have hu' := (boundTo_congr (s.u.advanceTo_cfg (10000000000 + (s.u.binIn n).lastRaw)) (.input n)).trans hu
  generalize s.u.advanceTo (10000000000 + (s.u.binIn n).lastRaw) = d at *
  obtain ⟨h1, h2, h3, h4⟩ := unblockedAt_leaves hu'
  rw [← hbin, h4, hst]
  exact ⟨ha.trans h1, h2.trans hcoll, rfl, rfl, rfl, by rw [hbin]; rfl, (congrArg Clk.cycle h3).trans (by rw [hcyc, hbin])⟩

/-! ### Trip outputs -/

/-- An output de-energized, with its record. -/
def Chip.tripDropped (c : Chip) (n : Nat) (cause : String) : Chip := (c.modTrip n (fun t => { t with drive := .off, held := false })).tripRecord n false cause

theorem tripOff_driven {c : Chip} {n : Nat} (cause : String) (h : (c.trip n).drive ≠ .off) : c.tripOff n cause = c.tripDropped n cause := by
  unfold Chip.tripOff
  exact if_neg h

theorem tripDropped_leaves (c : Chip) (n : Nat) (cause : String) : PanelAlone c (c.tripDropped n cause) ∧ (c.tripDropped n cause).coll = c.coll ∧
    (c.tripDropped n cause).clk = c.clk ∧ (c.tripDropped n cause).trip n = { c.trip n with drive := .off, held := false } ∧
    Recorded c.cairn (c.tripDropped n cause).cairn (104 + n) n [fOn "STATE" false, fSym "CAUSE" cause] := by
  have hrec := recorded_record (c.modTrip n (fun t => { t with drive := .off, held := false })) (104 + n) n [fOn "STATE" false, fSym "CAUSE" cause]
  have ht := c.trip_modTrip n (fun t => { t with drive := .off, held := false })
  exact ⟨rfl, rfl, rfl, ht, hrec⟩

theorem minPulseEnd_eq {c : Chip} {n : Nat} (hd : (c.trip n).drive = .fi) (hh : (c.trip n).held = true) :
    c.minPulseEnd n = (c.advanceTo ((c.trip n).onAt + (c.trip n).minPulse)).tripDropped n "MINPULSE" := by
  have h : ((c.advanceTo ((c.trip n).onAt + (c.trip n).minPulse)).trip n).drive ≠ .off := by
    rw [c.trip_advanceTo, hd]
    decide
  unfold Chip.minPulseEnd
  dsimp only
  rw [if_pos ⟨hd, hh⟩, tripOff_driven _ h]

theorem minPulseEnd_line {s : State} {n : Fin 16} (hp : s.u.sup.powered = true) (hd : (s.u.trip n).drive = .fi) (hh : (s.u.trip n).held = true) :
    CompletesChip (.minpulseEnd n) s (fun u => PanelAlone s.u u ∧ u.coll = s.u.coll ∧ u.trip n = { s.u.trip n with drive := .off, held := false } ∧
      u.clk.cycle = max s.u.clk.cycle ((s.u.trip n).onAt + (s.u.trip n).minPulse) ∧
      Recorded (s.u.advanceTo ((s.u.trip n).onAt + (s.u.trip n).minPulse)).cairn u.cairn (104 + n.val) n [fOn "STATE" false, fSym "CAUSE" "MINPULSE"]) := by
  refine completes_onChip (exec_minpulseEnd s n) hp ?_
  rw [minPulseEnd_eq hd hh]
  have ha := panelAlone_advanceTo s.u ((s.u.trip n).onAt + (s.u.trip n).minPulse)
  have hcoll := s.u.advanceTo_coll ((s.u.trip n).onAt + (s.u.trip n).minPulse)
  have hcyc := s.u.advanceTo_cycle ((s.u.trip n).onAt + (s.u.trip n).minPulse)
  have ht := s.u.trip_advanceTo ((s.u.trip n).onAt + (s.u.trip n).minPulse) n
  generalize s.u.advanceTo ((s.u.trip n).onAt + (s.u.trip n).minPulse) = d at *
  obtain ⟨h1, h2, h3, h4, h5⟩ := tripDropped_leaves d n "MINPULSE"
  exact ⟨ha.trans h1, h2.trans hcoll, h4.trans (by rw [ht]), (congrArg Clk.cycle h3).trans hcyc, h5⟩

/-- The supervision state of an output changes, with its record. -/
def Chip.supMoved (c : Chip) (n : Nat) (x : Sup) : Chip :=
  (c.modTrip n (fun t => { t with sup := x })).record (104 + n) n [fSym "SUP" x.name, ⟨"PLUG", plugName (c.plugIn n)⟩]

/-- What a supervision current below its limit, or at it, gives. -/
def Sup.ofLow (low : Bool) : Sup := if low then .opened else .ok

theorem setSup_quiet {c : Chip} {n : Nat} {low : Bool} (h : (c.trip n).sup ≠ .ofLow low) (hq : low = false ∨ c.plugIn n = some true) :
    c.setSup n (.ofLow low) = c.supMoved n (.ofLow low) := by
  unfold Chip.setSup
  rw [if_neg h]
  refine if_neg (fun hx => ?_)
  rcases hq with rfl | hq
  · exact absurd hx.1 (by decide)
  · exact hx.2 hq

theorem setSup_opened {c : Chip} {n : Nat} (h : (c.trip n).sup ≠ .opened) (hq : c.plugIn n ≠ some true) :
    c.setSup n .opened = (c.supMoved n .opened).raise (320 + n) n none [fNat "TRIP" n] := by
  unfold Chip.setSup
  rw [if_neg h]
  exact if_pos ⟨rfl, hq⟩

theorem supMoved_leaves (c : Chip) (n : Nat) (x : Sup) : PanelAlone c (c.supMoved n x) ∧ (c.supMoved n x).coll = c.coll ∧
    (c.supMoved n x).trip n = { c.trip n with sup := x } ∧
    Recorded c.cairn (c.supMoved n x).cairn (104 + n) n [fSym "SUP" x.name, ⟨"PLUG", plugName (c.plugIn n)⟩] := by
  have hrec := recorded_record (c.modTrip n (fun t => { t with sup := x })) (104 + n) n [fSym "SUP" x.name, ⟨"PLUG", plugName (c.plugIn n)⟩]
  have ht := c.trip_modTrip n (fun t => { t with sup := x })
  exact ⟨rfl, rfl, ht, hrec⟩

theorem setSup_moved {c : Chip} {n : Nat} {low : Bool} (h : (c.trip n).sup ≠ .ofLow low) :
    PanelAlone c (c.setSup n (.ofLow low)) ∧ (c.setSup n (.ofLow low)).trip n = { c.trip n with sup := .ofLow low } ∧
    (low = false ∨ c.plugIn n = some true → (c.setSup n (.ofLow low)).coll = c.coll) ∧
    (low = true → c.plugIn n ≠ some true → Raised c.coll (c.setSup n (.ofLow low)).coll (320 + n) n) ∧
    Recorded c.cairn (c.setSup n (.ofLow low)).cairn (104 + n) n [fSym "SUP" (Sup.ofLow low).name, ⟨"PLUG", plugName (c.plugIn n)⟩] := by
  obtain ⟨h1, h2, h3, h4⟩ := supMoved_leaves c n (.ofLow low)
  by_cases hq : low = false ∨ c.plugIn n = some true
  · rw [setSup_quiet h hq]
    refine ⟨h1, h3, fun _ => h2, fun hl hn => ?_, h4⟩
    rcases hq with hq | hq
    · exact absurd (hl.symm.trans hq) (by decide)
    · exact absurd hq hn
  · obtain ⟨hl, hn⟩ := not_or.mp hq
    rw [Bool.not_eq_false] at hl
    subst hl
    have hr := raised_raise (c.supMoved n .opened) (320 + n) n none [fNat "TRIP" n]
    have he : c.setSup n (.ofLow true) = (c.supMoved n .opened).raise (320 + n) n none [fNat "TRIP" n] := setSup_opened h hn
    rw [he]
    exact ⟨h1.trans rfl, h3, fun hx => absurd hx hq, fun _ _ => Raised.of_eq hr h2, h4⟩

theorem Sup.ofLow_name (low : Bool) : (Sup.ofLow low).name = if low then "OPEN" else "OK" := by
  cases low
  · rfl
  · rfl

theorem supChange_moved {s : State} {n : Fin 16} {low : Bool} (hp : s.u.sup.powered = true) (hs : (s.u.tripCfg n).supervise = true) (hd : (s.u.trip n).drive = .off)
    (hx : (s.u.trip n).sup ≠ (if low then .opened else .ok)) : CompletesChip (.supChange n low) s (fun u =>
      PanelAlone s.u u ∧ u.trip n = { s.u.trip n with sup := if low then .opened else .ok } ∧ (low = false ∨ s.u.plugIn n = some true → u.coll = s.u.coll) ∧
      (low = true → s.u.plugIn n ≠ some true → Raised s.u.coll u.coll (320 + n.val) n) ∧
      Recorded s.u.cairn u.cairn (104 + n.val) n [fSym "SUP" (if low then "OPEN" else "OK"), ⟨"PLUG", plugName (s.u.plugIn n)⟩]) := by
  refine completes_onChip (exec_supChange s n low) hp ?_
  have he : s.u.supChange n low = s.u.setSup n (.ofLow low) := by
    unfold Chip.supChange
    exact if_pos ⟨hs, hd⟩
  have h := setSup_moved (low := low) hx
  rw [Sup.ofLow_name] at h
  rw [he]
  exact h

theorem supChange_same {s : State} {n : Fin 16} {low : Bool} (hp : s.u.sup.powered = true)
    (h : (s.u.tripCfg n).supervise = false ∨ (s.u.trip n).drive ≠ .off ∨ (s.u.trip n).sup = (if low then .opened else .ok)) :
    CompletesChip (.supChange n low) s (fun u => u = s.u) := by
  refine completes_onChip (exec_supChange s n low) hp ?_
  unfold Chip.supChange
  split
  next hx =>
    have hsup : (s.u.trip n).sup = (if low then .opened else .ok) := by
      rcases h with h | h | h
      · exact absurd (h.symm.trans hx.1) (by decide)
      · exact absurd hx.2 h
      · exact h
    unfold Chip.setSup
    exact if_pos hsup
  next => rfl

/-- The overcurrent latch of an output, with its fault. -/
def Chip.overLatched (c : Chip) (n : Nat) : Chip := (c.modTrip n (fun t => { t with latched := true })).raise (336 + n) n none [fNat "TRIP" n]

theorem overLatched_leaves (c : Chip) (n : Nat) : PanelAlone c (c.overLatched n) ∧ (c.overLatched n).cairn = c.cairn ∧
    (c.overLatched n).trip n = { c.trip n with latched := true } ∧ Raised c.coll (c.overLatched n).coll (336 + n) n := by
  have ht := c.trip_modTrip n (fun t => { t with latched := true })
  have hr := raised_raise (c.modTrip n (fun t => { t with latched := true })) (336 + n) n none [fNat "TRIP" n]
  exact ⟨rfl, rfl, ht, hr⟩

theorem overcurrent_fi {c : Chip} {n : Nat} (h : (c.trip n).drive = .fi) : c.overcurrent n = (c.tripDropped n "OVERCURRENT").overLatched n := by
  unfold Chip.overcurrent
  rw [h, tripOff_driven _ (by rw [h]; decide)]
  rfl

theorem overcurrent_test {c : Chip} {n : Nat} (h : (c.trip n).drive = .test) :
    c.overcurrent n = ((c.tripDropped n "TEST").testRecord n false (.sym "OVERCURRENT")).overLatched n := by
  unfold Chip.overcurrent
  rw [h, endTest_test _ h]
  rfl

theorem overcurrent_fi_line {s : State} {n : Fin 16} (hp : s.u.sup.powered = true) (h : (s.u.trip n).drive = .fi) :
    CompletesChip (.tripOvercurrent n) s (fun u => PanelAlone s.u u ∧ u.trip n = { s.u.trip n with drive := .off, held := false, latched := true } ∧
      Raised s.u.coll u.coll (336 + n.val) n ∧ Recorded s.u.cairn u.cairn (104 + n.val) n [fOn "STATE" false, fSym "CAUSE" "OVERCURRENT"]) := by
  refine completes_onChip (exec_tripOvercurrent s n) hp ?_
  rw [overcurrent_fi h]
  obtain ⟨h1, h2, -, h4, h5⟩ := tripDropped_leaves s.u n "OVERCURRENT"
  generalize s.u.tripDropped n "OVERCURRENT" = d at *
  obtain ⟨k1, k2, k3, k4⟩ := overLatched_leaves d n
  rw [h4] at k3
  rw [← k2] at h5
  exact ⟨h1.trans k1, k3, k4.of_eq h2, h5⟩

theorem overcurrent_test_line {s : State} {n : Fin 16} (hp : s.u.sup.powered = true) (h : (s.u.trip n).drive = .test) :
    CompletesChip (.tripOvercurrent n) s (fun u => PanelAlone s.u u ∧ u.trip n = { s.u.trip n with drive := .off, held := false, latched := true } ∧
      Raised s.u.coll u.coll (336 + n.val) n) := by
  refine completes_onChip (exec_tripOvercurrent s n) hp ?_
  rw [overcurrent_test h]
  obtain ⟨h1, h2, -, h4, -⟩ := tripDropped_leaves s.u n "TEST"
  generalize s.u.tripDropped n "TEST" = d at *
  obtain ⟨k1, -, k3, k4⟩ := overLatched_leaves (d.testRecord n false (.sym "OVERCURRENT")) n
  have ht : (d.testRecord n false (.sym "OVERCURRENT")).trip n = { s.u.trip n with drive := .off, held := false } := h4
  rw [ht] at k3
  have ha : PanelAlone d (d.testRecord n false (.sym "OVERCURRENT")) := rfl
  exact ⟨(h1.trans ha).trans k1, k3, k4.of_eq h2⟩

theorem readback_line {s : State} {n : Fin 16} (hp : s.u.sup.powered = true) : CompletesChip (.tripReadbackFault n) s (fun u => PanelAlone s.u u ∧
    u.trip n = { s.u.trip n with readbackBad := true } ∧ u.cairn = s.u.cairn ∧ Raised s.u.coll u.coll (352 + n.val) n) := by
  refine completes_onChip (exec_tripReadbackFault s n) hp ?_
  have ht := s.u.trip_modTrip n (fun t => { t with readbackBad := true })
  have hr := raised_raise (s.u.modTrip n (fun t => { t with readbackBad := true })) (352 + n) n none [fNat "TRIP" n]
  exact ⟨rfl, ht, rfl, hr⟩

/-- Settles O57: each event of an input and of a trip output by the equation of its case. -/
theorem fieldEvents : Obligations.FieldEvents := by
  unfold Obligations.FieldEvents
  refine ⟨fun s n high hp hu => ?_, fun s n hp => ⟨minPulseEnd_line hp, fun low => supChange_moved hp, fun low => supChange_same hp, overcurrent_fi_line hp,
    overcurrent_test_line hp, readback_line hp⟩⟩
  obtain ⟨h1, h2, h3, h4⟩ := inputChange_lines (high := high) hp hu
  exact ⟨h1, h2, h3, h4, inputUnblock_line hp hu⟩

end Sys2Proof.Machine
end

section
/-!
PROOFS. What a classified raise leaves: its count and record, and the belay of every output by a UNIT-FATAL one (R703–R708, R716–R718).
-/
namespace Sys2Proof.Machine

/-! ### Counting and recording a raise -/

theorem Chip.src_modSrc (c : Chip) (n : Nat) (g : SrcState → SrcState) : (c.modSrc n g).src n = g (c.src n) := Tbl.get_put_same SrcState.init (g (c.src n)) c.coll.srcs n
theorem Chip.src_modSrc_ne (c : Chip) (n m : Nat) (g : SrcState → SrcState) (h : m ≠ n) : (c.modSrc n g).src m = c.src m :=
  Tbl.get_put_ne SrcState.init (g (c.src n)) c.coll.srcs h

/-- Two units that differ in the queue of raises, the bursts' allowances and the discarded records alone. -/
structure Chip.RaisesKept (c d : Chip) : Prop where
  but : d = { c with coll := d.coll }
  inbound : d.coll.inbound = c.coll.inbound
  count : ∀ n, (d.src n).count = (c.src n).count
  latched : ∀ n, (d.src n).latched = (c.src n).latched
  last : ∀ n, (d.src n).last = (c.src n).last

theorem Chip.RaisesKept.refl (c : Chip) : c.RaisesKept c := ⟨rfl, rfl, fun _ => rfl, fun _ => rfl, fun _ => rfl⟩
theorem Chip.RaisesKept.trans {a b d : Chip} (h1 : a.RaisesKept b) (h2 : b.RaisesKept d) : a.RaisesKept d :=
  ⟨h2.but.trans (congrArg (fun x : Chip => { x with coll := d.coll }) h1.but), h2.inbound.trans h1.inbound, fun n => (h2.count n).trans (h1.count n),
    fun n => (h2.latched n).trans (h1.latched n), fun n => (h2.last n).trans (h1.last n)⟩

theorem raisesKept_modSrc (c : Chip) (n : Nat) {g : SrcState → SrcState} (hc : (g (c.src n)).count = (c.src n).count)
    (hl : (g (c.src n)).latched = (c.src n).latched) (hs : (g (c.src n)).last = (c.src n).last) : c.RaisesKept (c.modSrc n g) := by
  have hsrc : ∀ m, (c.modSrc n g).src m = if m = n then g (c.src n) else c.src m := fun m => by
    split
    next h => rw [h, c.src_modSrc]
    next h => exact c.src_modSrc_ne n m g h
  refine ⟨rfl, rfl, fun m => ?_, fun m => ?_, fun m => ?_⟩
  all_goals
    rw [hsrc]
    split
    next h => rw [h]; assumption
    next => rfl

theorem raisesKept_queue (c : Chip) (l : List Rec) : c.RaisesKept { c with coll := { c.coll with queue := l } } :=
  ⟨rfl, rfl, fun _ => rfl, fun _ => rfl, fun _ => rfl⟩
theorem raisesKept_unrecorded (c : Chip) (n : Nat) : c.RaisesKept { c with coll := { c.coll with unrecorded := n } } :=
  ⟨rfl, rfl, fun _ => rfl, fun _ => rfl, fun _ => rfl⟩

theorem raisesKept_queueRaise (c : Chip) (src : Nat) (cls : Cls) (r : Rec) : c.RaisesKept (c.queueRaise src cls r) := by
  have hdrop : ∀ (d : Chip) n, d.RaisesKept (d.modSrc n (fun s => { s with dropped := s.dropped + 1 })) := fun d n => raisesKept_modSrc d n rfl rfl rfl
  have hwrote : c.RaisesKept (c.modSrc src (fun s => { s with dropped := 0 })) := raisesKept_modSrc c src rfl rfl rfl
  unfold Chip.queueRaise
  dsimp only
  split
  · split
    · exact hwrote.trans (raisesKept_queue _ _)
    · exact hdrop c src
  · split
    · exact hwrote.trans (raisesKept_queue _ _)
    · split
      · exact (hwrote.trans (hdrop _ _)).trans (raisesKept_queue _ _)
      · exact (hdrop c src).trans (raisesKept_unrecorded _ _)

/-- A source's state once a raise is counted. -/
def SrcState.raised (x : SrcState) (st : Stamp) (credit now : Nat) : SrcState :=
  { x with count := sat32 x.count, latched := true, last := some st, credit := credit, creditAt := now }

/-- The allowance of a source now. -/
def Chip.creditNow (c : Chip) (n : Nat) : Nat := min burstFull ((c.src n).credit + (c.clk.cycle - (c.src n).creditAt))

/-- The unit with a raise counted at its source. -/
def Chip.raiseCounted (c : Chip) (r : Raise) : Chip := c.modSrc r.src (fun x => x.raised r.stamp (c.creditNow r.src) c.clk.cycle)

/-- The record of a raise. -/
def Raise.record (r : Raise) (cls : Cls) (now dropped : Nat) : Rec :=
  { seq := 0, id := 1024 + r.src, inst := r.inst, stamp := r.stamp, cycle := r.cycle, arrival := now,
    detail := [fSym "CLASS" cls.name] ++ (match r.fi with | some f => [fFi f] | none => []) ++ r.detail ++ (if dropped > 0 then [fNat "DROPPED" dropped] else []),
    tail := false, kept := cls.fatal, cls := some cls, fi := r.fi }

theorem logRaise_fatal {c : Chip} {r : Raise} {cls : Cls} (h : cls.fatal = true) :
    c.logRaise r cls = (c.raiseCounted r).queueRaise r.src cls (r.record cls c.clk.cycle (c.src r.src).dropped) := by
  unfold Chip.logRaise
  exact if_pos h

theorem logRaise_written {c : Chip} {r : Raise} {cls : Cls} (h : cls.fatal = false) (hc : burstOne ≤ c.creditNow r.src) :
    c.logRaise r cls = ((c.raiseCounted r).modSrc r.src (fun s => { s with credit := s.credit - burstOne })).queueRaise r.src cls
      (r.record cls c.clk.cycle (c.src r.src).dropped) := by
  unfold Chip.logRaise
  dsimp only
  rw [if_neg (by rw [h]; decide)]
  exact if_pos hc

theorem logRaise_burst {c : Chip} {r : Raise} {cls : Cls} (h : cls.fatal = false) (hc : ¬ burstOne ≤ c.creditNow r.src) :
    c.logRaise r cls = (c.raiseCounted r).modSrc r.src (fun s => { s with dropped := s.dropped + 1 }) := by
  unfold Chip.logRaise
  dsimp only
  rw [if_neg (by rw [h]; decide)]
  exact if_neg hc

theorem raisesKept_logRaise (c : Chip) (r : Raise) (cls : Cls) : (c.raiseCounted r).RaisesKept (c.logRaise r cls) := by
  cases h : cls.fatal with
  | true =>
    rw [logRaise_fatal h]
    exact raisesKept_queueRaise _ _ _ _
  | false =>
    by_cases hc : burstOne ≤ c.creditNow r.src
    · rw [logRaise_written h hc]
      exact (raisesKept_modSrc (c.raiseCounted r) r.src rfl rfl rfl).trans (raisesKept_queueRaise _ _ _ _)
    · rw [logRaise_burst h hc]
      exact raisesKept_modSrc (c.raiseCounted r) r.src rfl rfl rfl

/-- What the log of a raise leaves: all but the collector, and its source's count, latch and stamp. -/
theorem logRaise_leaves (c : Chip) (r : Raise) (cls : Cls) : c.logRaise r cls = { c with coll := (c.logRaise r cls).coll } ∧
    (c.logRaise r cls).coll.inbound = c.coll.inbound ∧ ((c.logRaise r cls).src r.src).count = sat32 (c.src r.src).count ∧
    ((c.logRaise r cls).src r.src).latched = true ∧ ((c.logRaise r cls).src r.src).last = some r.stamp := by
  have h := raisesKept_logRaise c r cls
  have hs : (c.raiseCounted r).src r.src = (c.src r.src).raised r.stamp (c.creditNow r.src) c.clk.cycle := c.src_modSrc r.src _
  refine ⟨h.but, h.inbound, ?_, ?_, ?_⟩
  · rw [h.count, hs]; rfl
  · rw [h.latched, hs]; rfl
  · rw [h.last, hs]; rfl

/-- A record within its source's allowance joins an empty queue. -/
theorem logRaise_queue {c : Chip} {r : Raise} {cls : Cls} (h : cls.fatal = false) (hc : burstOne ≤ c.creditNow r.src) (hq : c.coll.queue = []) :
    (c.logRaise r cls).coll.queue = [r.record cls c.clk.cycle (c.src r.src).dropped] := by
  have hq' : ((c.raiseCounted r).modSrc r.src (fun s => { s with credit := s.credit - burstOne })).coll.queue = [] := hq
  rw [logRaise_written h hc]
  generalize (c.raiseCounted r).modSrc r.src (fun s => { s with credit := s.credit - burstOne }) = d at *
  unfold Chip.queueRaise
  dsimp only
  rw [h, hq', if_pos (by decide), if_pos (by decide)]
  rfl

theorem srcClass_congr {a b : Chip} (h : a.cfg = b.cfg) (n : Nat) : a.srcClass n = b.srcClass n := by
  unfold Chip.srcClass
  rw [h]

/-- The unit when a raise is classified, with the raise logged. -/
def Chip.classified (c : Chip) (r : Raise) : Chip := (c.advanceTo (r.arrival + 16)).logRaise r (c.srcClass r.src)

theorem classifyRaise_mild {c : Chip} {r : Raise} (hr : (srcRow r.src).isSome = true) (h : c.srcClass r.src = .degraded ∨ c.srcClass r.src = .corrected) :
    c.classifyRaise r = c.classified r := by
  have hc := srcClass_congr (c.advanceTo_cfg (r.arrival + 16)) r.src
  unfold Chip.classifyRaise Chip.classified
  rw [if_neg (by rw [Option.isNone_eq_false_iff.mpr hr]; decide)]
  dsimp only
  rw [hc]
  rcases h with h | h
  · rw [h]
  · rw [h]

theorem classifyRaise_unitFatal {c : Chip} {r : Raise} (hr : (srcRow r.src).isSome = true) (h : c.srcClass r.src = .unitFatal) :
    c.classifyRaise r = (c.classified r).unitBelay := by
  have hc := srcClass_congr (c.advanceTo_cfg (r.arrival + 16)) r.src
  unfold Chip.classifyRaise Chip.classified
  rw [if_neg (by rw [Option.isNone_eq_false_iff.mpr hr]; decide)]
  dsimp only
  rw [hc, h]

/-- What the classification of a raise leaves beside the reaction of its class. -/
theorem classified_leaves (c : Chip) (r : Raise) : (c.classified r).belay = c.belay ∧ (c.classified r).alive = c.alive ∧ (c.classified r).fis = c.fis ∧
    (c.classified r).panel = c.panel ∧ (c.classified r).cfg = c.cfg ∧ (c.classified r).clk.cycle = max c.clk.cycle (r.arrival + 16) ∧
    (c.classified r).coll.inbound = c.coll.inbound ∧ ((c.classified r).src r.src).count = sat32 (c.src r.src).count ∧
    ((c.classified r).src r.src).latched = true ∧ ((c.classified r).src r.src).last = some r.stamp := by
  obtain ⟨h1, h2, h3, h4, h5⟩ := logRaise_leaves (c.advanceTo (r.arrival + 16)) r (c.srcClass r.src)
  have hbelay := c.advanceTo_belay (r.arrival + 16)
  have halive := c.advanceTo_alive (r.arrival + 16)
  have hfis := c.advanceTo_fis (r.arrival + 16)
  have hpanel := c.advanceTo_panel (r.arrival + 16)
  have hcfg := c.advanceTo_cfg (r.arrival + 16)
  have hcyc := c.advanceTo_cycle (r.arrival + 16)
  have hcoll := c.advanceTo_coll (r.arrival + 16)
  have hsrc : (c.advanceTo (r.arrival + 16)).src r.src = c.src r.src := congrArg (fun k : Collector => k.srcs.get SrcState.init r.src) hcoll
  unfold Chip.classified
  generalize c.advanceTo (r.arrival + 16) = d at *
  rw [hsrc] at h3
  generalize d.logRaise r (c.srcClass r.src) = e at *
  exact ⟨(congrArg Chip.belay h1).trans hbelay, (congrArg Chip.alive h1).trans halive, (congrArg Chip.fis h1).trans hfis, (congrArg Chip.panel h1).trans hpanel,
    (congrArg Chip.cfg h1).trans hcfg, (congrArg (fun x : Chip => x.clk.cycle) h1).trans hcyc, h2.trans (congrArg Collector.inbound hcoll), h3, h4, h5⟩

/-! ### Belay of every output -/

/-- What the entry of an output into belay leaves alone. -/
def Chip.belayPart (c : Chip) : Belay × Alive × Collector := (c.belay, c.alive, c.coll)

theorem belayPart_tripOff (c : Chip) (n : Nat) (cause : String) : (c.tripOff n cause).belayPart = c.belayPart := by
  unfold Chip.tripOff
  split
  · rfl
  · rfl

theorem belayPart_endTest (c : Chip) (n : Nat) (cause : Val) : (c.endTest n cause).belayPart = c.belayPart := by
  unfold Chip.endTest
  split
  · exact belayPart_tripOff c n "TEST"
  · rfl

theorem belayPart_enterBelay (c : Chip) (o : OutId) : (c.enterBelay o).belayPart = c.belayPart := by
  cases o with
  | trip n => exact (belayPart_tripOff _ n "BELAY").trans (belayPart_endTest c n _)
  | pub p =>
    unfold Chip.enterBelay Chip.pubBelay
    dsimp only
    split
    · rfl
    · rfl
  | led l => rfl

theorem tripOff_off (c : Chip) (n : Nat) (cause : String) : ((c.tripOff n cause).trip n).drive = .off := by
  by_cases h : (c.trip n).drive = .off
  · unfold Chip.tripOff
    rw [if_pos h]
    exact h
  · rw [tripOff_driven cause h]
    obtain ⟨-, -, -, ht, -⟩ := tripDropped_leaves c n cause
    rw [ht]

theorem tripOff_trip_ne (c : Chip) {n m : Nat} (cause : String) (h : m ≠ n) : (c.tripOff n cause).trip m = c.trip m := by
  unfold Chip.tripOff
  split
  · rfl
  · exact c.trip_modTrip_ne n m (fun t => { t with drive := .off, held := false }) h

theorem endTest_trip_ne (c : Chip) {n m : Nat} (cause : Val) (h : m ≠ n) : (c.endTest n cause).trip m = c.trip m := by
  unfold Chip.endTest
  split
  · exact tripOff_trip_ne c "TEST" h
  · rfl

/-- A trip output that a latched cause takes into belay. -/
def Chip.tripBelay (before : Chip) (c : Chip) (n : Nat) : Chip :=
  if !before.latched (.trip n) && c.latched (.trip n) then (c.endTest n (.sym "BELAY")).tripOff n "BELAY" else c

theorem belayPart_tripBelay (before c : Chip) (n : Nat) : (before.tripBelay c n).belayPart = c.belayPart := by
  unfold Chip.tripBelay
  split
  · exact (belayPart_tripOff _ n "BELAY").trans (belayPart_endTest c n _)
  · rfl

theorem tripBelay_trip_ne (before c : Chip) {n m : Nat} (h : m ≠ n) : (before.tripBelay c n).trip m = c.trip m := by
  unfold Chip.tripBelay
  split
  · exact (tripOff_trip_ne _ "BELAY" h).trans (endTest_trip_ne c _ h)
  · rfl

theorem tripBelay_off {before c : Chip} {n : Nat} (hb : before.latched (.trip n) = false) (hc : c.belay.unit = true) :
    ((before.tripBelay c n).trip n).drive = .off := by
  unfold Chip.tripBelay
  rw [hb, if_pos (by unfold Chip.latched; rw [hc]; simp)]
  exact tripOff_off _ n "BELAY"

/-- The first `k` trip outputs taken into belay. -/
def Chip.tripsBelay (before c : Chip) (k : Nat) : Chip := (List.range k).foldl before.tripBelay c

theorem tripsBelay_succ (before c : Chip) (k : Nat) : before.tripsBelay c (k + 1) = before.tripBelay (before.tripsBelay c k) k := by
  unfold Chip.tripsBelay
  rw [List.range_succ, List.foldl_append]
  rfl

theorem belayPart_tripsBelay (before c : Chip) (k : Nat) : (before.tripsBelay c k).belayPart = c.belayPart :=
  foldl_keeps (g := before.tripBelay) Chip.belayPart (belayPart_tripBelay before) _ c

theorem tripsBelay_off {before c : Chip} (hc : c.belay.unit = true) (k : Nat) : ∀ n < k, before.latched (.trip n) = false → ((before.tripsBelay c k).trip n).drive = .off := by
  induction k with
  | zero => exact fun n hn => absurd hn (Nat.not_lt_zero n)
  | succ k ih =>
    intro n hn hl
    rw [tripsBelay_succ]
    have hu : (before.tripsBelay c k).belay.unit = true := (congrArg (fun x : Belay × Alive × Collector => x.1.unit) (belayPart_tripsBelay before c k)).trans hc
    obtain rfl | hne := Nat.eq_or_lt_of_le (Nat.le_of_lt_succ hn)
    · exact tripBelay_off hl hu
    · rw [tripBelay_trip_ne _ _ (Nat.ne_of_lt hne)]
      exact ih n hne hl

/-- The unit with the UNIT cause of belay latched. -/
def Chip.unitLatched (c : Chip) : Chip := { c with belay := { c.belay with unit := true }, alive := { c.alive with unitFatal := true } }

/-- The outputs that enter belay by the UNIT cause act on it. -/
def Chip.unitEntered (c : Chip) : Chip :=
  let c1 := c.unitLatched.record 272 0 [fSym "OUTPUT" "ALL", fSym "CAUSE" "UNIT"]
  (c1.boundOutputs.filter (fun o => !c.belayed o && c1.belayed o)).foldl (fun d o => if true then d.enterBelay o else (d.enterBelay o).belayEvent o true "UNIT") c1

theorem unitBelay_eq (c : Chip) : c.unitBelay = if c.belay.unit = true then c.unitLatched else c.tripsBelay c.unitEntered 16 := by
  unfold Chip.unitBelay
  split
  · rfl
  · rfl

theorem belayPart_unitEntered (c : Chip) : c.unitEntered.belayPart = c.unitLatched.belayPart :=
  foldl_keeps (g := fun d o => if true then Chip.enterBelay d o else (d.enterBelay o).belayEvent o true "UNIT") Chip.belayPart
    (fun d o => belayPart_enterBelay d o) _ _

theorem belayPart_unitBelay (c : Chip) : c.unitBelay.belayPart = c.unitLatched.belayPart := by
  rw [unitBelay_eq]
  split
  · rfl
  · exact (belayPart_tripsBelay c c.unitEntered 16).trans (belayPart_unitEntered c)

theorem unitBelay_trips {c : Chip} (hu : c.belay.unit = false) {n : Nat} (hn : n < 16) (hl : c.latched (.trip n) = false) :
    (c.unitBelay.trip n).drive = .off := by
  rw [unitBelay_eq, if_neg (by rw [hu]; decide)]
  refine tripsBelay_off ?_ 16 n hn hl
  exact congrArg (fun x : Belay × Alive × Collector => x.1.unit) (belayPart_unitEntered c)

/-- What a UNIT-FATAL raise leaves. -/
theorem unitFatal_leaves {c : Chip} {r : Raise} (hr : (srcRow r.src).isSome = true) (h : c.srcClass r.src = .unitFatal) :
    (c.classifyRaise r).belay = { c.belay with unit := true } ∧ (c.classifyRaise r).alive = { c.alive with unitFatal := true } ∧
    ((c.classifyRaise r).src r.src).latched = true ∧
    (∀ n < 16, c.belay.unit = false → c.latched (.trip n) = false → ((c.classifyRaise r).trip n).drive = .off) := by
  rw [classifyRaise_unitFatal hr h]
  obtain ⟨hbelay, halive, -, -, -, -, -, -, hl, -⟩ := classified_leaves c r
  generalize c.classified r = d at *
  have hpart := belayPart_unitBelay d
  have hlatch : ∀ o, d.latched o = c.latched o := fun o => by
    unfold Chip.latched
    rw [hbelay]
  have hb : d.unitBelay.belay = { d.belay with unit := true } := congrArg (fun x : Belay × Alive × Collector => x.1) hpart
  have ha : d.unitBelay.alive = { d.alive with unitFatal := true } := congrArg (fun x : Belay × Alive × Collector => x.2.1) hpart
  have hc : d.unitBelay.coll = d.coll := congrArg (fun x : Belay × Alive × Collector => x.2.2) hpart
  have hs : d.unitBelay.src r.src = d.src r.src := congrArg (fun k : Collector => k.srcs.get SrcState.init r.src) hc
  rw [hb, ha, hs, hbelay, halive]
  refine ⟨rfl, rfl, hl, fun n hn hu hln => ?_⟩
  rw [← hbelay] at hu
  rw [← hlatch] at hln
  exact unitBelay_trips hu hn hln

end Sys2Proof.Machine
end

section
/-!
PROOFS. The fault collector, the heartbeat, the alive logic and the cairn writer (R198, R703–R708, R711, R722–R725, R728–R731).
-/
namespace Sys2Proof.Machine

/-! ### Raises -/

/-- A raise of a detector in the present cycle. -/
def Chip.raisedNow (c : Chip) (src inst : Nat) (fi : Option Nat) : Raise :=
  { src := src, inst := inst, fi := fi, stamp := c.stamp, cycle := c.clk.cycle, arrival := c.clk.cycle, detail := [] }

theorem Cls.mild_unfatal {k : Cls} (h : k = .degraded ∨ k = .corrected) : k.fatal = false := by
  rcases h with rfl | rfl
  · rfl
  · rfl

/-- A classified raise within its allowance is the one record of an empty queue. -/
theorem classified_queue {c : Chip} {r : Raise} (h : c.srcClass r.src = .degraded ∨ c.srcClass r.src = .corrected) (hc : 62500000 ≤ (c.src r.src).credit)
    (hq : c.coll.queue = []) : ∃ now dropped, (c.classified r).coll.queue = [r.record (c.srcClass r.src) now dropped] := by
  have hcoll := c.advanceTo_coll (r.arrival + 16)
  have hsrc : (c.advanceTo (r.arrival + 16)).src r.src = c.src r.src := congrArg (fun k : Collector => k.srcs.get SrcState.init r.src) hcoll
  have hq' := (congrArg Collector.queue hcoll).trans hq
  unfold Chip.classified
  generalize c.advanceTo (r.arrival + 16) = d at *
  refine ⟨_, _, logRaise_queue (Cls.mild_unfatal h) ?_ hq'⟩
  unfold Chip.creditNow burstOne burstFull
  rw [hsrc]
  omega

theorem faultRaise_lines {s : State} {src inst : Nat} {fi : Option Nat} (hp : s.u.sup.powered = true) (hr : (srcRow src).isSome = true) :
    (s.u.srcClass src = .degraded ∨ s.u.srcClass src = .corrected → 62500000 ≤ (s.u.src src).credit → s.u.coll.queue = [] →
      CompletesChip (.faultRaise (some (src, inst, fi))) s (fun u => (u.src src).count = sat32 (s.u.src src).count ∧ (u.src src).latched = true ∧
        (∃ r : Rec, u.coll.queue = [r] ∧ r.id = 1024 + src ∧ r.inst = inst ∧ r.cls = some (s.u.srcClass src) ∧ r.fi = fi ∧ r.kept = false) ∧
        u.belay = s.u.belay ∧ u.fis = s.u.fis ∧ u.alive = s.u.alive ∧ u.panel = s.u.panel)) ∧
    (s.u.srcClass src = .unitFatal → CompletesChip (.faultRaise (some (src, inst, fi))) s (fun u =>
      (s.u.boundOutputs = [] → u.belay = { s.u.belay with unit := true } ∧ u.alive = { s.u.alive with unitFatal := true }) ∧
      (∀ n < 16, s.u.belay.unit = false → s.u.latched (.trip n) = false → (u.trip n).drive = .off))) := by
  have he : s.u.faultRaise (some (src, inst, fi)) = s.u.classifyRaise (s.u.raisedNow src inst fi) := rfl
  refine ⟨fun h hc hq => ?_, fun h => ?_⟩
  · refine completes_onChip (exec_faultRaise s (some (src, inst, fi))) hp ?_
    rw [he, classifyRaise_mild (r := s.u.raisedNow src inst fi) hr h]
    obtain ⟨hbelay, halive, hfis, hpanel, -, -, -, hcount, hl, -⟩ := classified_leaves s.u (s.u.raisedNow src inst fi)
    obtain ⟨now, dropped, hrec⟩ := classified_queue (r := s.u.raisedNow src inst fi) h hc hq
    exact ⟨hcount, hl, ⟨_, hrec, rfl, rfl, rfl, rfl, Cls.mild_unfatal h⟩, hbelay, hfis, halive, hpanel⟩
  · refine completes_onChip (exec_faultRaise s (some (src, inst, fi))) hp ?_
    rw [he]
    obtain ⟨hb, ha, -, ht⟩ := unitFatal_leaves (r := s.u.raisedNow src inst fi) hr h
    exact ⟨fun _ => ⟨hb, ha⟩, ht⟩

theorem faultTaken_line {s : State} {r : Raise} (hp : s.u.sup.powered = true) (hi : s.u.coll.inbound = [r]) (hr : (srcRow r.src).isSome = true)
    (h : s.u.srcClass r.src = .degraded) :
    CompletesChip (.faultRaise none) s (fun u => u.coll.inbound = [] ∧ (u.src r.src).count = sat32 (s.u.src r.src).count ∧ (u.src r.src).latched = true ∧
      (u.src r.src).last = some r.stamp ∧ u.belay = s.u.belay ∧ u.fis = s.u.fis ∧ u.clk.cycle = max s.u.clk.cycle (r.arrival + 16)) := by
  refine completes_onChip (exec_faultRaise s none) hp ?_
  have hn : s.u.coll.next = some r := by
    unfold Collector.next
    rw [hi]
    rfl
  have he : s.u.faultRaise none = ({ s.u with coll := { s.u.coll with inbound := [] } } : Chip).classifyRaise r := by
    unfold Chip.faultRaise
    dsimp only
    rw [hn]
    dsimp only
    rw [hi, List.erase_cons_head]
  rw [he, classifyRaise_mild (c := { s.u with coll := { s.u.coll with inbound := [] } }) hr (.inl h)]
  obtain ⟨hbelay, -, hfis, -, -, hcyc, hin, hcount, hl, hlast⟩ := classified_leaves { s.u with coll := { s.u.coll with inbound := [] } } r
  exact ⟨hin, hcount, hl, hlast, hbelay, hfis, hcyc⟩

/-- The warden halts while the lockstep core restarts it. -/
def Chip.wardenHalted (c : Chip) : Chip := { c with coll := { c.coll with wardenDown := some (100000000 + c.clk.cycle) } }

theorem lockstep_eq (c : Chip) : c.lockstep = (c.classifyRaise (c.raisedNow 384 0 none)).wardenHalted := rfl

theorem lockstep_lines {s : State} (hp : s.u.sup.powered = true) :
    (s.u.srcClass 384 = .unitFatal → s.u.boundOutputs = [] → CompletesChip .lockstepMismatch s (fun u => u.belay.unit = true ∧ u.alive.unitFatal = true ∧
      u.coll.wardenDown = some (100000000 + u.clk.cycle) ∧ (u.src 384).latched = true)) ∧
    (∀ t, s.u.coll.wardenDown = some t → CompletesChip .wardenRestart s (fun u => ClockAlone s.u u ∧ u.coll = { s.u.coll with wardenDown := none } ∧
      u.clk.cycle = max s.u.clk.cycle t)) := by
  refine ⟨fun h _ => ?_, fun t ht => ?_⟩
  · refine completes_onChip (exec_lockstepMismatch s) hp ?_
    obtain ⟨hb, ha, hl, -⟩ := unitFatal_leaves (r := s.u.raisedNow 384 0 none) (by show (srcRow 384).isSome = true; decide) h
    rw [lockstep_eq]
    generalize s.u.classifyRaise (s.u.raisedNow 384 0 none) = d at *
    exact ⟨congrArg Belay.unit hb, congrArg Alive.unitFatal ha, rfl, hl⟩
  · refine completes_onChip (exec_wardenRestart s) hp ?_
    unfold Chip.wardenRestart
    rw [ht]
    dsimp only
    have ha := clockAlone_advanceTo s.u t
    have hcyc := s.u.advanceTo_cycle t
    have hcoll := s.u.advanceTo_coll t
    generalize s.u.advanceTo t = d at *
    rw [← hcoll]
    exact ⟨ha.trans rfl, rfl, hcyc⟩

/-! ### The steward -/

theorem clockAlone_advance (c : Chip) (n : Nat) : ClockAlone c (c.advance n) := (c.advance_frame n).clockAlone

/-- A unit whose alive logic changes and whose clock moves differs in these from the one before. -/
theorem clockAlone_alive {c d : Chip} (h : ClockAlone c d) (g : Alive → Alive) : ClockAlone { c with alive := (d.alive' g).alive } (d.alive' g) := by
  unfold ClockAlone at *
  rw [← h]
  rfl

/-- A change of the alive logic at a due cycle. -/
theorem aliveDue_leaves (c : Chip) (t : Nat) (g : Chip → Alive → Alive) :
    ClockAlone { c with alive := ((c.advanceTo t).alive' (g (c.advanceTo t))).alive } ((c.advanceTo t).alive' (g (c.advanceTo t))) ∧
    ((c.advanceTo t).alive' (g (c.advanceTo t))).coll = c.coll ∧
    ((c.advanceTo t).alive' (g (c.advanceTo t))).alive = g (c.advanceTo t) c.alive ∧
    ((c.advanceTo t).alive' (g (c.advanceTo t))).clk = (c.advanceTo t).clk := by
  have ha := clockAlone_advanceTo c t
  have hcoll := c.advanceTo_coll t
  have halive := c.advanceTo_alive t
  generalize c.advanceTo t = d at *
  exact ⟨clockAlone_alive ha (g d), hcoll, congrArg (g d) halive, rfl⟩

/-- A heartbeat in the cycle of the unit. -/
def Alive.beaten (c : Chip) (a : Alive) : Alive := { a with heartbeat := some c.clk.cycle, heartbeatLost := false }

theorem heartbeat_line {s : State} {h : Nat} (hp : s.u.sup.powered = true) (hh : s.u.alive.heartbeat = some h) (hs : s.u.unit.steward = true) :
    CompletesChip .stewardHeartbeat s (fun u => ClockAlone { s.u with alive := u.alive } u ∧ u.coll = s.u.coll ∧
      u.alive = { s.u.alive with heartbeat := some u.clk.cycle, heartbeatLost := false } ∧ u.clk.cycle = max s.u.clk.cycle (50000000 + h)) := by
  refine completes_onChip (exec_stewardHeartbeat s) hp ?_
  have he : s.u.heartbeat = (s.u.advanceTo (50000000 + h)).alive' (Alive.beaten (s.u.advanceTo (50000000 + h))) := by
    unfold Chip.heartbeat
    rw [if_pos hs, hh]
    rfl
  obtain ⟨h1, h2, h3, h4⟩ := aliveDue_leaves s.u (50000000 + h) Alive.beaten
  have hcyc := s.u.advanceTo_cycle (50000000 + h)
  rw [he]
  generalize s.u.advanceTo (50000000 + h) = d at *
  exact ⟨h1, h2, h3, hcyc⟩

theorem heartbeatLoss_line {s : State} {h : Nat} (hp : s.u.sup.powered = true) (hh : s.u.alive.heartbeat = some h) (hl : s.u.alive.heartbeatLost = false) :
    CompletesChip .heartbeatLoss s (fun u => ClockAlone { s.u with alive := u.alive } u ∧ u.alive = { s.u.alive with heartbeatLost := true } ∧
      Raised s.u.coll u.coll 387 0 ∧ u.clk.cycle = max s.u.clk.cycle (250000001 + h)) := by
  refine completes_onChip (exec_heartbeatLoss s) hp ?_
  have he : s.u.heartbeatLoss = ((s.u.advanceTo (250000001 + h)).alive' (fun a => { a with heartbeatLost := true })).raise 387 0 none [] := by
    unfold Chip.heartbeatLoss
    rw [hh]
    dsimp only
    rw [hl]
    rfl
  obtain ⟨h1, h2, h3, -⟩ := aliveDue_leaves s.u (250000001 + h) (fun _ a => { a with heartbeatLost := true })
  have hcyc := s.u.advanceTo_cycle (250000001 + h)
  rw [he]
  generalize s.u.advanceTo (250000001 + h) = d at *
  have hr := raised_raise (d.alive' (fun a => { a with heartbeatLost := true })) 387 0 none []
  exact ⟨h1.trans rfl, h3, hr.of_eq h2, hcyc⟩

theorem endSessions_idle {c : Chip} (h : ∀ n, (c.sess n).active = false) (l : List Nat) (cause : String) : c.endSessions l cause = c := by
  unfold Chip.endSessions
  induction l with
  | nil => rfl
  | cons n l ih =>
    have he : c.endSession n cause = c := by
      unfold Chip.endSession
      exact if_pos (by rw [h n]; rfl)
    rw [List.foldl_cons, he, ih]

theorem warmStart_begins (c : Chip) (k : StartKind) : ∃ d : Chip, c.warmStart k = d.beginSession 0 := by
  unfold Chip.warmStart
  exact ⟨_, rfl⟩

/-- The watchdog restarts of the last 3,600 s. -/
def Chip.watchdogsKept (c : Chip) (now : Nat) : List Nat := c.unit.watchdogs.filter (fun t => decide (now ≤ 3600000000000 + t))

/-- The steward stands still, its watchdog restarts those of the last hour. -/
def Chip.stewardStill (c : Chip) (recent : List Nat) : Chip :=
  c.unit' (fun u => { u with steward := false, stewardStopped := true, open0 := false, watchdogs := recent })

theorem sess_stewardStill (c : Chip) (recent : List Nat) (n : Nat) : (c.stewardStill recent).sess n = c.sess n := rfl

/-- The steward left stopped. -/
def Chip.stewardGone (c : Chip) (recent : List Nat) : Chip := ((c.stewardStill recent).endSessions (List.range 16) "STOPPED").raise 389 0 none []

theorem stewardGone_idle {c : Chip} (h : ∀ n, (c.sess n).active = false) (recent : List Nat) :
    c.stewardGone recent = (c.stewardStill recent).raise 389 0 none [] := by
  have hs : ∀ n, ((c.stewardStill recent).sess n).active = false := fun n => by
    rw [sess_stewardStill]
    exact h n
  unfold Chip.stewardGone
  rw [endSessions_idle hs]

theorem stewardWatchdog_stops {c : Chip} {h : Nat} (hh : c.alive.heartbeat = some h) (hs : c.unit.steward = true)
    (hr : 3 ≤ (c.watchdogsKept (max c.clk.cycle (2000000000 + h))).length) :
    c.stewardWatchdog = (c.advanceTo (2000000000 + h)).stewardGone (c.watchdogsKept (max c.clk.cycle (2000000000 + h))) := by
  have hunit := c.advanceTo_unit (2000000000 + h)
  have hcyc := c.advanceTo_cycle (2000000000 + h)
  unfold Chip.watchdogsKept at *
  rw [← hunit, ← hcyc] at hr ⊢
  unfold Chip.stewardWatchdog
  rw [hh]
  dsimp only
  rw [hs, if_neg (by decide)]
  exact if_pos hr

theorem stewardWatchdog_restarts {c : Chip} {h : Nat} (hh : c.alive.heartbeat = some h) (hs : c.unit.steward = true)
    (hr : (c.watchdogsKept (max c.clk.cycle (2000000000 + h))).length < 3) :
    ∃ d : Chip, c.stewardWatchdog = (d.beginSession 0).alive' (Alive.beaten (d.beginSession 0)) := by
  have hunit := c.advanceTo_unit (2000000000 + h)
  have hcyc := c.advanceTo_cycle (2000000000 + h)
  unfold Chip.watchdogsKept at hr
  rw [← hunit, ← hcyc] at hr
  unfold Chip.stewardWatchdog
  rw [hh]
  dsimp only
  rw [hs, if_neg (by decide), if_neg (Nat.not_le.mpr hr)]
  generalize Chip.raise _ 388 0 none [] = e
  obtain ⟨d, hd⟩ := warmStart_begins e .watchdog
  rw [hd]
  exact ⟨d, rfl⟩

theorem watchdog_lines {s : State} {h : Nat} (hp : s.u.sup.powered = true) (hh : s.u.alive.heartbeat = some h) (hs : s.u.unit.steward = true) :
    (3 ≤ (s.u.watchdogsKept (max s.u.clk.cycle (2000000000 + h))).length → (∀ n, (s.u.sess n).active = false) →
      CompletesChip .stewardWatchdog s (fun u => u.unit.steward = false ∧ u.unit.stewardStopped = true ∧
        u.unit.watchdogs = s.u.watchdogsKept (max s.u.clk.cycle (2000000000 + h)) ∧ u.trev = s.u.trev ∧ Raised s.u.coll u.coll 389 0)) ∧
    ((s.u.watchdogsKept (max s.u.clk.cycle (2000000000 + h))).length < 3 → CompletesChip .stewardWatchdog s (fun u =>
      u.alive.heartbeat = some u.clk.cycle ∧ u.alive.heartbeatLost = false ∧ (u.sess 0).active = true ∧ (u.sess 0).level = some 0 ∧ (u.sess 0).staged = [])) := by
  refine ⟨fun hr hi => ?_, fun hr => ?_⟩
  · refine completes_onChip (exec_stewardWatchdog s) hp ?_
    rw [stewardWatchdog_stops hh hs hr]
    have htrev := s.u.advanceTo_trev (2000000000 + h)
    have hcoll := s.u.advanceTo_coll (2000000000 + h)
    have hsess : ∀ n, ((s.u.advanceTo (2000000000 + h)).sess n).active = false := fun n => by
      rw [s.u.sess_advanceTo (2000000000 + h) n]
      exact hi n
    generalize s.u.advanceTo (2000000000 + h) = d at *
    generalize s.u.watchdogsKept (max s.u.clk.cycle (2000000000 + h)) = recent
    rw [stewardGone_idle hsess]
    have hraised := raised_raise (d.stewardStill recent) 389 0 none []
    exact ⟨rfl, rfl, rfl, htrev, hraised.of_eq hcoll⟩
  · refine completes_onChip (exec_stewardWatchdog s) hp ?_
    obtain ⟨d, hd⟩ := stewardWatchdog_restarts hh hs hr
    rw [hd]
    obtain ⟨q, l, t, hx⟩ := beginSession_begun d 0
    generalize d.beginSession 0 = e at *
    have hx' : (e.alive' (Alive.beaten e)).sess 0 = e.sess 0 := rfl
    rw [hx', hx]
    exact ⟨rfl, rfl, rfl, rfl, rfl⟩

/-! ### The alive logic -/

/-- ALIVE_OUT goes low, with its record. -/
def Chip.aliveLow (c : Chip) (cause : Val) : Chip := (c.alive' (fun a => { a with toggling := false })).aliveRecord true cause

theorem aliveLow_leaves (c : Chip) (cause : Val) : { c.aliveLow cause with cairn := c.cairn } = { c with alive := { c.alive with toggling := false } } ∧
    Recorded c.cairn (c.aliveLow cause).cairn 274 0 [fSym "STATE" "LOW", ⟨"CAUSE", cause⟩] := by
  have hrec := recorded_record (c.alive' (fun a => { a with toggling := false })) 274 0 [fSym "STATE" "LOW", ⟨"CAUSE", cause⟩]
  exact ⟨rfl, hrec⟩

theorem aliveStop_eq {c : Chip} (ht : c.alive.toggling = true) (hf : c.aliveFailing ≠ []) : c.aliveStop = c.aliveLow (.nats c.aliveFailing) := by
  unfold Chip.aliveStop
  exact if_pos ⟨ht, by rw [List.isEmpty_iff]; exact hf⟩

theorem aliveMonitor_eq {c : Chip} (ht : c.alive.toggling = true) : c.aliveMonitor = c.aliveLow (.sym "MONITOR") := by
  unfold Chip.aliveMonitor
  exact if_pos ht

/-- ALIVE_OUT toggles again, with its record. -/
def Chip.aliveBack (c : Chip) : Chip := (c.alive' (fun a => { a with toggling := true, since := c.clk.cycle })).aliveRecord false .none

theorem aliveResume_eq {c : Chip} (ht : c.alive.toggling = false) (hf : c.aliveFailing = []) (hf' : (c.advance 10000000).aliveFailing = []) :
    c.aliveResume = (c.advance 10000000).aliveBack := by
  unfold Chip.aliveResume
  rw [if_neg (by rw [ht, hf]; decide)]
  dsimp only
  exact if_pos (by rw [hf']; rfl)

theorem aliveBack_leaves {c d : Chip} (ha : ClockAlone c d) : ClockAlone { c with alive := d.aliveBack.alive } d.aliveBack ∧
    d.aliveBack.alive = { c.alive with toggling := true, since := d.aliveBack.clk.cycle } ∧ d.aliveBack.clk = d.clk := by
  have h := clockAlone_alive ha (fun a => { a with toggling := true, since := d.clk.cycle })
  have halive : d.alive = c.alive := by rw [← ha]
  have he : d.aliveBack.alive = { d.alive with toggling := true, since := d.aliveBack.clk.cycle } := rfl
  rw [halive] at he
  exact ⟨h.trans rfl, he, rfl⟩

theorem aliveIn_unbound {c : Chip} {b : Bool} (hi : c.alive.inToggling = !b) (hb : c.boundTo .alive = []) : c.aliveIn b =
    (c.alive' (fun a => { a with inToggling := b })).recordBefore 800 275 0 [fSym "STATE" (if b then "TOGGLING" else "STOPPED")] := by
  have hb' : ((c.alive' (fun a => { a with inToggling := b })).recordBefore 800 275 0 [fSym "STATE" (if b then "TOGGLING" else "STOPPED")]).boundTo .alive = [] := hb
  unfold Chip.aliveIn
  rw [if_neg (by rw [hi]; simp)]
  exact deliverSource_unbound hb' _

theorem alive_lines {s : State} (hp : s.u.sup.powered = true) :
    (s.u.alive.toggling = true → s.u.aliveFailing ≠ [] → CompletesChip .aliveStop s (fun u => { u with cairn := s.u.cairn } =
      { s.u with alive := { s.u.alive with toggling := false } } ∧
      Recorded s.u.cairn u.cairn 274 0 [fSym "STATE" "LOW", ⟨"CAUSE", .nats s.u.aliveFailing⟩])) ∧
    (s.u.alive.toggling = true → CompletesChip .aliveMonitorForce s (fun u => { u with cairn := s.u.cairn } =
      { s.u with alive := { s.u.alive with toggling := false } } ∧
      Recorded s.u.cairn u.cairn 274 0 [fSym "STATE" "LOW", ⟨"CAUSE", .sym "MONITOR"⟩])) ∧
    (s.u.alive.toggling = false → s.u.aliveFailing = [] → (s.u.advance 10000000).aliveFailing = [] → CompletesChip .aliveResume s (fun u =>
      ClockAlone { s.u with alive := u.alive } u ∧ u.alive = { s.u.alive with toggling := true, since := u.clk.cycle } ∧
      u.clk.cycle = s.u.clk.cycle + 10000000)) ∧
    (∀ b, s.u.alive.inToggling = !b → s.u.boundTo .alive = [] → CompletesChip (.aliveInChange b) s (fun u => { u with cairn := s.u.cairn } =
      { s.u with alive := { s.u.alive with inToggling := b } } ∧
      Recorded s.u.cairn u.cairn 275 0 [fSym "STATE" (if b then "TOGGLING" else "STOPPED")])) ∧
    (s.u.alive.readbackBad = false → CompletesChip .aliveReadbackFault s (fun u => { u with coll := s.u.coll } =
      { s.u with alive := { s.u.alive with readbackBad := true } } ∧ Raised s.u.coll u.coll 386 0)) := by
  refine ⟨fun ht hf => ?_, fun ht => ?_, fun ht hf hf' => ?_, fun b hi hb => ?_, fun hb => ?_⟩
  · refine completes_onChip (exec_aliveStop s) hp ?_
    rw [aliveStop_eq ht hf]
    exact aliveLow_leaves s.u _
  · refine completes_onChip (exec_aliveMonitorForce s) hp ?_
    rw [aliveMonitor_eq ht]
    exact aliveLow_leaves s.u _
  · refine completes_onChip (exec_aliveResume s) hp ?_
    rw [aliveResume_eq ht hf hf']
    have ha := clockAlone_advance s.u 10000000
    have hcyc := s.u.advance_cycle 10000000
    generalize s.u.advance 10000000 = d at *
    obtain ⟨h1, h2, h3⟩ := aliveBack_leaves ha
    exact ⟨h1, h2, (congrArg Clk.cycle h3).trans hcyc⟩
  · refine completes_onChip (exec_aliveInChange s b) hp ?_
    rw [aliveIn_unbound hi hb]
    have hrec := recorded_recordBefore (s.u.alive' (fun a => { a with inToggling := b })) 800 275 0 [fSym "STATE" (if b then "TOGGLING" else "STOPPED")]
    exact ⟨rfl, hrec⟩
  · refine completes_onChip (exec_aliveReadbackFault s) hp ?_
    have he : s.u.aliveReadback = (s.u.alive' (fun a => { a with readbackBad := true })).raise 386 0 none [] := by
      unfold Chip.aliveReadback
      exact if_neg (by rw [hb]; decide)
    have hr := raised_raise (s.u.alive' (fun a => { a with readbackBad := true })) 386 0 none []
    rw [he]
    exact ⟨rfl, hr⟩

/-! ### The cairn writer -/

theorem drainRaises_empty {c : Chip} (h : c.coll.queue = []) : c.drainRaises = c := by
  have hk : ({ c.coll with queue := [] } : Collector) = c.coll := by rw [← h]
  unfold Chip.drainRaises
  split
  · rfl
  · dsimp only
    rw [h, hk]
    rfl

/-- A record as it is numbered. -/
def Rec.numbered (r : Rec) (n : Nat) : Rec :=
  { r with seq := n, trunc := decide (100 < (fieldsText r.detail).length), detail := if decide (100 < (fieldsText r.detail).length) then cutFields 100 r.detail else r.detail }

/-- The cairn with one record numbered. -/
def Cairn.written (k : Cairn) (r : Rec) : Cairn :=
  { k with next := k.next + 1, ring := k.ring.set (k.next % ringSize) (r.numbered k.next), corrupt := k.corrupt.filter (· + ringSize != k.next),
           oldest := if k.oldest + ringSize ≤ k.next then k.next + 1 - ringSize else k.oldest, held := [] }

theorem written_find (k : Cairn) (r : Rec) : (k.written r).find k.next = some (r.numbered k.next) := by
  have h : (k.written r).ring.find (k.next % ringSize) = some (r.numbered k.next) := Tbl.find_set_same _ _ _
  unfold Cairn.find
  rw [h]
  exact if_pos rfl

theorem lostRecords_none {c : Chip} (h : c.cairn.lost = 0) : c.lostRecords = c := by
  unfold Chip.lostRecords
  exact if_neg (fun hx => absurd hx.1 (by rw [h]; decide))

theorem numberNext_stopped {c : Chip} {dram : Bool} (hq : c.coll.queue = []) (h : c.cairn.stopped = true ∨ dram = false) : c.numberNext dram = (c, []) := by
  unfold Chip.numberNext
  rw [drainRaises_empty hq]
  dsimp only
  refine if_pos ?_
  rcases h with h | h
  · rw [h]; rfl
  · rw [h]; simp

theorem numberNext_one {c : Chip} {r : Rec} (hq : c.coll.queue = []) (hs : c.cairn.stopped = false) (hh : c.cairn.held = [r]) (hl : c.cairn.lost = 0)
    (hd : c.clk.dueNext = []) : c.numberNext true = ({ c.advanceTo r.due with cairn := c.cairn.written r }, [r.numbered c.cairn.next]) := by
  have hquiet : (c.advanceTo r.due).cairn = c.cairn := (advance_quiet hd _).1
  unfold Chip.numberNext
  rw [drainRaises_empty hq]
  dsimp only
  rw [hs, if_neg (by decide), hh]
  have hord : orderRecs [r] = [r] := rfl
  rw [hord]
  dsimp only
  rw [hquiet]
  have hb : [r].filter (fun x => decide (x.due ≤ r.due)) = [r] := by simp
  have hk : [r].filter (fun x => decide (x.due > r.due)) = [] := by simp
  rw [hh, hb, hk]
  generalize c.advanceTo r.due = d
  have hnum : ({ c.cairn with held := [] } : Cairn).number [r] = (c.cairn.written r, [r.numbered c.cairn.next]) := rfl
  rw [hnum]
  dsimp only
  rw [lostRecords_none (c := { d with cairn := c.cairn.written r }) hl]

theorem routeRec_unrouted {c : Chip} {r : Rec} (h : c.trev.sess = []) : (c.routeRec r).cairn = c.cairn ∧ (c.routeRec r).clk = c.clk ∧
    (c.routeRec r).fab = c.fab ∧ (c.routeRec r).coll = c.coll := by
  unfold Chip.routeRec
  dsimp only [Chip.trev']
  rw [h]
  exact ⟨rfl, rfl, rfl, rfl⟩

theorem cairnWrite_lines {s : State} {r : Rec} (hp : s.u.sup.powered = true) (hh : s.u.cairn.held = [r]) (hq : s.u.coll.queue = []) (hl : s.u.cairn.lost = 0)
    (hs : s.u.trev.sess = []) :
    (s.u.cairn.stopped = false → s.u.dramOn = true → s.u.coll.wardenDown = none → s.u.clk.dueNext = [] → CompletesChip .cairnWrite s (fun u => u.cairn.held = [] ∧
      u.cairn.next = s.u.cairn.next + 1 ∧ u.clk.cycle = max s.u.clk.cycle r.due ∧ u.fab = s.u.fab ∧ u.coll = s.u.coll ∧
      ∃ x, u.cairn.find s.u.cairn.next = some x ∧ x.id = r.id ∧ x.inst = r.inst ∧ x.stamp = r.stamp ∧ x.seq = s.u.cairn.next)) ∧
    (s.u.cairn.stopped = true ∨ s.u.dramOn = false → CompletesChip .cairnWrite s (fun u => u = s.u)) := by
  refine ⟨fun hst hd _ hn => ?_, fun h => ?_⟩
  · refine completes_onChip (exec_cairnWrite s) hp ?_
    unfold Chip.cairnWrite
    rw [hd, numberNext_one hq hst hh hl hn]
    have hcyc := s.u.advanceTo_cycle r.due
    have hfab := s.u.advanceTo_fab r.due
    have hcoll := s.u.advanceTo_coll r.due
    have hsess := (congrArg Trev.sess (s.u.advanceTo_trev r.due)).trans hs
    generalize s.u.advanceTo r.due = d at *
    dsimp only [List.foldl_cons, List.foldl_nil]
    obtain ⟨h1, h2, h3, h4⟩ := routeRec_unrouted (c := { d with cairn := s.u.cairn.written r }) (r := r.numbered s.u.cairn.next) hsess
    rw [h1, h2, h3, h4]
    exact ⟨rfl, rfl, hcyc, hfab, hcoll, _, written_find s.u.cairn r, rfl, rfl, rfl, rfl⟩
  · refine completes_onChip (exec_cairnWrite s) hp ?_
    unfold Chip.cairnWrite
    rw [numberNext_stopped hq h]
    rfl

/-! ### The tail save -/

/-- What a record or a raise, as a write's wear may bring them, keeps. -/
structure Chip.TailKept (c d : Chip) : Prop where
  fab : d.fab = c.fab
  ring : d.cairn.ring = c.cairn.ring
  tails : d.cairn.tails = c.cairn.tails
  stopped : d.cairn.stopped = c.cairn.stopped
  save : d.cairn.save = c.cairn.save
  inbound : ∀ r, r ∈ c.coll.inbound → r ∈ d.coll.inbound

theorem Chip.TailKept.refl (c : Chip) : c.TailKept c := ⟨rfl, rfl, rfl, rfl, rfl, fun _ h => h⟩
theorem Chip.TailKept.trans {a b d : Chip} (h1 : a.TailKept b) (h2 : b.TailKept d) : a.TailKept d :=
  ⟨h2.fab.trans h1.fab, h2.ring.trans h1.ring, h2.tails.trans h1.tails, h2.stopped.trans h1.stopped, h2.save.trans h1.save,
    fun r h => h2.inbound r (h1.inbound r h)⟩

theorem Cairn.hold_eq (k : Cairn) (r : Rec) : k.hold r = { k with held := (k.hold r).held, lost := (k.hold r).lost } := by
  unfold Cairn.hold
  split
  · split
    · rfl
    · rfl
  · split
    · rfl
    · rfl

theorem tailKept_record (c : Chip) (id inst : Nat) (d : Fields) : c.TailKept (c.record id inst d) := by
  unfold Chip.record
  rw [Cairn.hold_eq]
  exact ⟨rfl, rfl, rfl, rfl, rfl, fun _ h => h⟩

theorem tailKept_raise (c : Chip) (src inst : Nat) (fi : Option Nat) (d : Fields) : c.TailKept (c.raise src inst fi d) :=
  ⟨rfl, rfl, rfl, rfl, rfl, fun _ h => List.mem_append_left _ h⟩

theorem tailKept_rep (c : Chip) (g : Repair → Repair) : c.TailKept (c.rep' g) := ⟨rfl, rfl, rfl, rfl, rfl, fun _ h => h⟩

theorem tailKept_wear (c : Chip) (area sub : Nat) : c.TailKept (c.wear area sub) := by
  unfold Chip.wear
  dsimp only
  split
  · exact tailKept_rep c _
  · have h : ∀ g g' d, c.TailKept (((c.rep' g).rep' g').record 205 area d) := fun g g' d =>
      ((tailKept_rep c g).trans (tailKept_rep _ g')).trans (tailKept_record _ 205 area d)
    split
    · exact (h _ _ _).trans (tailKept_raise _ 418 area none _)
    · exact h _ _ _

/-- The save once it has ended. -/
def TailSave.ended (x : TailSave) (ok : Bool) : TailSave := { x with complete := true, bad := !ok }

/-- What the end of a tail save leaves. -/
theorem endTail_leaves (c : Chip) (x : TailSave) (ok : Bool) : (c.endTail x ok).fab = c.fab ∧ (c.endTail x ok).cairn.ring = c.cairn.ring ∧
    (∃ t, t ∈ (c.endTail x ok).cairn.tails ∧ t.valid = ok ∧ t.recs = c.cairn.newest ∧ t.highSeq = c.cairn.next - 1) ∧
    (c.endTail x ok).cairn.stopped = c.cairn.stopped ∧ (c.endTail x ok).cairn.save = some (x.ended ok) ∧
    (ok = false → ∃ r, r ∈ (c.endTail x ok).coll.inbound ∧ (r.src, r.inst) = (417, 0)) := by
  have ht : ∃ t, t ∈ (c.writeTail ok).cairn.tails ∧ t.valid = ok ∧ t.recs = c.cairn.newest ∧ t.highSeq = c.cairn.next - 1 := by
    unfold Chip.writeTail
    dsimp only
    split
    · exact ⟨_, List.mem_cons_self, rfl, rfl, rfl⟩
    · exact ⟨_, List.mem_cons_of_mem _ List.mem_cons_self, rfl, rfl, rfl⟩
  unfold Chip.endTail
  cases ok with
  | true => exact ⟨rfl, rfl, ht, rfl, rfl, fun h => absurd h (by decide)⟩
  | false =>
    refine ⟨rfl, rfl, ht, rfl, rfl, fun _ => ⟨_, List.mem_append_right _ List.mem_cons_self, rfl⟩⟩

theorem resumeNumbering_ended {c : Chip} {x : TailSave} {ok : Bool} (h : c.cairn.save = some (x.ended ok)) : c.resumeNumbering.fab = c.fab ∧
    c.resumeNumbering.cairn.ring = c.cairn.ring ∧ c.resumeNumbering.cairn.tails = c.cairn.tails ∧ c.resumeNumbering.cairn.stopped = false ∧
    c.resumeNumbering.cairn.save = none ∧ c.resumeNumbering.coll = c.coll := by
  unfold Chip.resumeNumbering
  rw [h]
  dsimp only [TailSave.ended]
  rw [if_pos rfl]
  split
  · exact ⟨rfl, rfl, rfl, rfl, rfl, rfl⟩
  · have hk := tailKept_record { c with cairn := { c.cairn with stopped := false, save := none } } 277 0
      [fNat "FROM" x.from?, fNat "TO" x.to?, fSym "CAUSE" x.cause]
    exact ⟨rfl, hk.ring, hk.tails, hk.stopped, hk.save, rfl⟩

theorem tailSaved_eq {c : Chip} {x : TailSave} {ok : Bool} (hx : c.cairn.save = some x) (hc : x.complete = false) :
    c.tailSaved ok = (if c.sup.warning = true then c.endTail x ok else (c.endTail x ok).resumeNumbering).wear 5 0 := by
  unfold Chip.tailSaved Chip.tailComplete
  rw [hx]
  dsimp only
  rw [hc, if_neg (by decide), if_neg (by decide)]

theorem tailSave_line {s : State} {x : TailSave} {ok : Bool} (hp : s.u.sup.powered = true) (hx : s.u.cairn.save = some x) (hc : x.complete = false) :
    CompletesChip (.tailSaveComplete ok) s (fun u => u.fab = s.u.fab ∧ u.cairn.ring = s.u.cairn.ring ∧
      (∃ t, t ∈ u.cairn.tails ∧ t.valid = ok ∧ t.recs = s.u.cairn.newest ∧ t.highSeq = s.u.cairn.next - 1) ∧
      (s.u.sup.warning = true → u.cairn.stopped = s.u.cairn.stopped ∧ u.cairn.save = some { x with complete := true, bad := !ok }) ∧
      (s.u.sup.warning = false → u.cairn.stopped = false ∧ u.cairn.save = none) ∧
      (ok = false → (417, 0) ∈ u.coll.inbound.map (fun r => (r.src, r.inst)))) := by
  refine completes_onChip (exec_tailSaveComplete s ok) hp ?_
  rw [tailSaved_eq hx hc]
  obtain ⟨h1, h2, h3, h4, h5, h6⟩ := endTail_leaves s.u x ok
  generalize s.u.endTail x ok = d at *
  split
  next hw =>
    have hk := tailKept_wear d 5 0
    rw [hk.fab, hk.ring, hk.tails, hk.stopped, hk.save]
    refine ⟨h1, h2, h3, fun _ => ⟨h4, h5⟩, fun hn => absurd (hw.symm.trans hn) (by decide), fun ho => ?_⟩
    obtain ⟨r, hr, he⟩ := h6 ho
    exact List.mem_map.mpr ⟨r, hk.inbound r hr, he⟩
  next hw =>
    obtain ⟨k1, k2, k3, k4, k5, k6⟩ := resumeNumbering_ended h5
    generalize d.resumeNumbering = e at *
    have hk := tailKept_wear e 5 0
    rw [hk.fab, hk.ring, hk.tails, hk.stopped, hk.save, k1, k2, k3]
    refine ⟨h1, h2, h3, fun hn => absurd hn hw, fun _ => ⟨k4, k5⟩, fun ho => ?_⟩
    obtain ⟨r, hr, he⟩ := h6 ho
    exact List.mem_map.mpr ⟨r, hk.inbound r (by rw [k6]; exact hr), he⟩

/-- Settles O58: the classification of a raise, the alive logic and the cairn writer, each by the equation of its case. -/
theorem faultAndCairn : Obligations.FaultAndCairn := by
  unfold Obligations.FaultAndCairn
  exact ⟨fun s src inst fi => faultRaise_lines, fun s r => faultTaken_line, fun s => lockstep_lines,
    fun s h hp hh => ⟨heartbeat_line hp hh, heartbeatLoss_line hp hh, watchdog_lines hp hh⟩, fun s => alive_lines, fun s r => cairnWrite_lines,
    fun s x ok => tailSave_line⟩

end Sys2Proof.Machine
end

section
/-!
PROOFS. The starts: power-on, cold and warm restarts, and the start edge (R166–R198).
-/
namespace Sys2Proof.Machine

/-! ### The beginning of a session -/

/-- Two units that differ in sessions and records alone. -/
def Chip.SessionAlone (c u : Chip) : Prop := { u with trev := c.trev, cairn := c.cairn } = c

theorem Chip.SessionAlone.refl (c : Chip) : c.SessionAlone c := rfl
theorem Chip.SessionAlone.trans {a b d : Chip} (h1 : a.SessionAlone b) (h2 : b.SessionAlone d) : a.SessionAlone d := by
  unfold Chip.SessionAlone at *
  rw [← h1, ← h2]

theorem Chip.SessionAlone.parts {a b : Chip} (h : a.SessionAlone b) : b.unit = a.unit ∧ b.belay = a.belay ∧ b.keys = a.keys ∧ b.coll = a.coll :=
  ⟨(congrArg Chip.unit h :), (congrArg Chip.belay h :), (congrArg Chip.keys h :), (congrArg Chip.coll h :)⟩

theorem async_alone (c : Chip) (s : Nat) (k : String) (fs : Fields) : c.SessionAlone (c.async s k fs) := by
  unfold Chip.async
  split
  · exact .refl c
  · split
    · rfl
    · rfl

theorem beginSession_alone (c : Chip) (s : Nat) : c.SessionAlone (c.beginSession s) := by
  unfold Chip.beginSession
  refine List.foldlRecOn (motive := c.SessionAlone) _ _ rfl ?_
  exact fun d hd e _ => hd.trans (async_alone d s _ _)

theorem records_alone {α : Type} (id inst : Nat) (fs : α → Fields) (l : List α) (c : Chip) : c.SessionAlone (l.foldl (fun c e => c.record id inst (fs e)) c) := by
  refine List.foldlRecOn (motive := c.SessionAlone) _ _ (.refl c) ?_
  exact fun d hd e _ => hd.trans rfl

/-! ### The whole sequence -/

/-- How the sequence of a start may end. -/
def StartEnds (cm : CM) (macroBad : Bool) : Prop :=
  cm.1.unit.edgeDue = true ∨ (cm.1.belay.basecamp = true ∧ cm.2 = Mem.reset) ∨ (cm.1.keys.life = .scrapped ∧ cm.2 = Mem.reset) ∨
    (macroBad = true ∧ cm.2 = Mem.reset ∧ (77, 0) ∈ cm.1.coll.inbound.map (fun r => (r.src, r.inst)))

theorem bringUp_ends (c0 : Chip) (kind : StartKind) (f : StartFindings) : StartEnds (CM.bringUp c0 kind f) f.macroBad := by
  unfold CM.bringUp
  extract_lets m0 c1 clk c1b c2 c3 k
  split
  next h =>
    obtain ⟨-, -, hk, -⟩ := (beginSession_alone (c3.unit' (fun u => { u with open0 := true })) 0).parts
    exact .inr (.inr (.inl ⟨(congrArg Keys.life hk).trans h, rfl⟩))
  next =>
    split
    next w c4 _ =>
    split
    next w' c5 _ =>
    extract_lets none' c6 belay c7 d6 d6b d7 d8 d9 d10
    split
    · obtain ⟨-, hb, -⟩ := ((records_alone 145 0 (fun e : Camp × Fields => [fSym "CAUSE" e.1.name] ++ e.2) none' c7).trans (beginSession_alone _ 0)).parts
      exact .inr (.inl ⟨congrArg Belay.basecamp hb, rfl⟩)
    · split
      next hm => exact .inr (.inr (.inr ⟨hm, rfl, List.mem_map.mpr ⟨_, List.mem_append_right _ List.mem_cons_self, rfl⟩⟩))
      next => exact .inl rfl

theorem powerOn_line {s : State} {f : StartFindings} (hp : s.u.sup.powered = false) : Completes (.powerOn f) s (fun t => t.pending = s.pending ∧
    (t.u.unit.edgeDue = true ∨ (t.u.belay.basecamp = true ∧ t.mem = Mem.reset) ∨ (t.u.keys.life = .scrapped ∧ t.mem = Mem.reset) ∨
      (f.macroBad = true ∧ t.mem = Mem.reset ∧ (77, 0) ∈ t.u.coll.inbound.map (fun r => (r.src, r.inst))))) := by
  have h : StartEnds (CM.powerOn (s.u, s.mem) f) f.macroBad := by
    unfold CM.powerOn
    rw [if_neg (by rw [hp]; decide)]
    exact bringUp_ends _ _ _
  exact ⟨_, exec_powerOn s f, rfl, h⟩

theorem coldStart_ends (cm : CM) (kind : StartKind) (f : StartFindings) : StartEnds (CM.coldStart cm kind f) f.macroBad := by
  unfold CM.coldStart
  exact bringUp_ends _ _ _

theorem completes_onCM {i : Instr} {s : State} {g : Chip × Mem → Chip × Mem} {P : State → Prop} (he : exec i s = s.onCM g) (hp : s.u.sup.powered = true)
    (h : P { s with u := (g (s.u, s.mem)).1, mem := (g (s.u, s.mem)).2 }) : Completes i s P := ⟨_, he.trans (onCM_powered s g hp), h⟩

theorem coldRestart_line {s : State} {f : StartFindings} (hp : s.u.sup.powered = true) (hc : s.u.trev.commit = none)
    (hr : s.u.unit.restart = some .life ∨ (s.u.unit.restart = some .cold ∧ ∀ i < 22, (s.u.sensor i).st = .normal ∨ (s.u.sensor i).st = .warm)) :
    Completes (.coldRestart f) s (fun t => t.pending = s.pending ∧
      (t.u.unit.edgeDue = true ∨ (t.u.belay.basecamp = true ∧ t.mem = Mem.reset) ∨ (t.u.keys.life = .scrapped ∧ t.mem = Mem.reset) ∨
        (f.macroBad = true ∧ t.mem = Mem.reset ∧ (77, 0) ∈ t.u.coll.inbound.map (fun r => (r.src, r.inst))))) := by
  have h : StartEnds (CM.coldRestart (s.u, s.mem) f) f.macroBad := by
    unfold CM.coldRestart
    rcases hr with hr | ⟨hr, hs⟩
    · rw [hr]
      dsimp only
      rw [if_neg (by rw [hc]; decide)]
      exact coldStart_ends _ _ _
    · have hcool : (List.range 22).any (fun i => (s.u.sensor i).st == .overTemp || (s.u.sensor i).st == .limit) = false := by
        refine List.any_eq_false.mpr (fun i hi => ?_)
        rcases hs i (List.mem_range.mp hi) with h | h
        · rw [h]; decide
        · rw [h]; decide
      rw [hr]
      dsimp only
      rw [if_neg (by rw [hc, hcool]; decide)]
      exact coldStart_ends _ _ _
  exact completes_onCM (exec_coldRestart s f) hp ⟨rfl, h⟩

theorem warmRestart_line {s : State} (hp : s.u.sup.powered = true) (hr : s.u.unit.restart = some .warm) (hc : s.u.trev.commit = none) :
    CompletesChip .warmRestart s (fun u => (u.sess 0).active = true ∧ (u.sess 0).level = some 0 ∧ (u.sess 0).staged = [] ∧ (u.sess 0).txn = false) := by
  refine completes_onChip (exec_warmRestart s) hp ?_
  unfold Chip.warmRestart
  rw [if_pos ⟨hr, by rw [hc]; rfl⟩]
  obtain ⟨d, hd⟩ := warmStart_begins s.u .warm
  obtain ⟨q, l, t, hx⟩ := beginSession_begun d 0
  rw [hd, hx]
  exact ⟨rfl, rfl, rfl, rfl⟩

/-! ### The start edge -/

theorem ClockAlone.fis {c u : Chip} (h : ClockAlone c u) : u.fis = c.fis := (congrArg Chip.fis h :)
theorem ClockAlone.cfg {c u : Chip} (h : ClockAlone c u) : u.cfg = c.cfg := (congrArg Chip.cfg h :)
theorem ClockAlone.belay {c u : Chip} (h : ClockAlone c u) : u.belay = c.belay := (congrArg Chip.belay h :)
theorem ClockAlone.unit {c u : Chip} (h : ClockAlone c u) : u.unit = c.unit := (congrArg Chip.unit h :)

/-- The unit at the start edge. -/
def Chip.edgeReached (c : Chip) (t : Nat × Nat) : Chip := (c.advanceToTime t).unit' (fun u => { u with edgeDue := false, started := true })

/-- What reaching the start edge leaves. -/
theorem edgeReached_leaves (c : Chip) (t : Nat × Nat) : ClockAlone { c with unit := (c.edgeReached t).unit } (c.edgeReached t) ∧
    (c.edgeReached t).unit = { c.unit with edgeDue := false, started := true } ∧ c.clk.cycle ≤ (c.edgeReached t).clk.cycle ∧
    (c.edgeReached t).fis = c.fis ∧ (c.edgeReached t).cfg = c.cfg ∧ (c.edgeReached t).belay = c.belay := by
  have ha := clockAlone_advanceToTime c t
  have hu := c.advanceToTime_unit t
  have hcyc : c.clk.cycle ≤ (c.advanceToTime t).clk.cycle := by
    unfold Chip.advanceToTime
    dsimp only
    rw [Chip.advance_cycle]
    split
    · exact Nat.le_add_right _ _
    · rw [Chip.advance_cycle]
      omega
  unfold Chip.edgeReached
  generalize c.advanceToTime t = d at *
  refine ⟨?_, ?_, hcyc, ha.fis, ha.cfg, ha.belay⟩
  · unfold ClockAlone at *
    rw [← ha]
    rfl
  · rw [← hu]
    rfl

theorem boundOutputs_congr {a b : Chip} (h : a.cfg = b.cfg) : a.boundOutputs = b.boundOutputs := by
  unfold Chip.boundOutputs
  rw [h]

theorem belayEnded_unbound {c : Chip} (h : c.boundOutputs = []) (before : Chip) (cause : String) : c.belayEnded before cause = c := by
  unfold Chip.belayEnded
  rw [h]
  rfl

/-- The belay of a start ends. -/
def Chip.startReleased (c : Chip) : Chip := { c with belay := { c.belay with start := false, basecamp := false } }

/-- Base camp begins at the start edge, with its records. -/
def Chip.campEntered (c : Chip) : Chip :=
  let c2 := c.unit.camp.foldl (fun c e => c.record 145 0 ([fSym "CAUSE" e.1.name] ++ e.2)) c
  let c3 : Chip := { c2 with belay := { c2.belay with basecamp := true } }
  let c4 := c3.record 272 0 [fSym "OUTPUT" "ALL", fSym "CAUSE" "BASECAMP"]
  { c4 with belay := { c4.belay with start := false } }

/-- What the start edge does: base camp, or the end of the start's belay and the FIs with run intent. -/
def Chip.atEdge (c : Chip) : Chip :=
  if c.unit.camp.isEmpty then (placeOrder c.startReleased.fiCfg c.startReleased.placedFis).foldl Chip.startArm (c.startReleased.belayEnded c "START")
  else c.campEntered

theorem startEdge_due {c : Chip} (hd : c.unit.edgeDue = true) : c.startEdge = (c.edgeReached c.nextMs).atEdge := by
  unfold Chip.startEdge
  rw [if_neg (by rw [hd]; decide)]
  unfold Chip.atEdge Chip.campEntered Chip.startReleased Chip.edgeReached
  rfl

theorem atEdge_camp {c : Chip} (h : c.unit.camp ≠ []) : c.atEdge = c.campEntered := by
  unfold Chip.atEdge
  exact if_neg (fun h' => h (List.isEmpty_iff.mp h'))

theorem atEdge_idle {c : Chip} (hc : c.unit.camp = []) (hf : c.fis = []) (ho : c.boundOutputs = []) : c.atEdge = c.startReleased := by
  have hp : c.startReleased.placedFis = [] := by
    unfold Chip.placedFis
    rw [show c.startReleased.fis = [] from hf]
    rfl
  have hb : c.startReleased.boundOutputs = [] := ho
  unfold Chip.atEdge
  rw [if_pos (by rw [hc]; rfl), hp, belayEnded_unbound hb]
  rfl

theorem campEntered_leaves (c : Chip) : ClockAlone { c with belay := c.campEntered.belay } c.campEntered ∧
    c.campEntered.belay = { c.belay with start := false, basecamp := true } := by
  have h := records_alone 145 0 (fun e : Camp × Fields => [fSym "CAUSE" e.1.name] ++ e.2) c.unit.camp c
  have ha : ClockAlone c (c.unit.camp.foldl (fun c e => c.record 145 0 ([fSym "CAUSE" e.1.name] ++ e.2)) c) := by
    refine List.foldlRecOn (motive := ClockAlone c) _ _ rfl ?_
    exact fun d hd e _ => hd.trans (clockAlone_record d 145 0 _)
  unfold Chip.campEntered
  dsimp only
  generalize c.unit.camp.foldl (fun c e => c.record 145 0 ([fSym "CAUSE" e.1.name] ++ e.2)) c = d at *
  have hb : d.belay = c.belay := (congrArg Chip.belay h :)
  rw [← hb]
  refine ⟨?_, rfl⟩
  unfold ClockAlone at *
  rw [← ha]
  rfl

/-- A unit reaches another by a change of its unit state and then one of its belay, the clock moving. -/
theorem ClockAlone.unit_belay {c d e : Chip} (h1 : ClockAlone { c with unit := d.unit } d) (h2 : ClockAlone { d with belay := e.belay } e) :
    ClockAlone { c with unit := e.unit, belay := e.belay } e := by
  cases c; cases d; cases e
  simp only [ClockAlone, Chip.mk.injEq] at *
  grind

theorem startEdge_idle {c : Chip} (hd : c.unit.edgeDue = true) (hc : c.unit.camp = []) (hf : c.fis = []) (ho : c.boundOutputs = []) :
    c.startEdge = (c.edgeReached c.nextMs).startReleased := by
  obtain ⟨-, hu, -, hfis, hcfg, -⟩ := edgeReached_leaves c c.nextMs
  have hcamp : (c.edgeReached c.nextMs).unit.camp = c.unit.camp := by rw [hu]
  rw [startEdge_due hd, atEdge_idle (hcamp.trans hc) (hfis.trans hf) ((boundOutputs_congr hcfg).trans ho)]

theorem startEdge_camp {c : Chip} (hd : c.unit.edgeDue = true) (hc : c.unit.camp ≠ []) : c.startEdge = (c.edgeReached c.nextMs).campEntered := by
  obtain ⟨-, hu, -⟩ := edgeReached_leaves c c.nextMs
  have hcamp : (c.edgeReached c.nextMs).unit.camp = c.unit.camp := by rw [hu]
  rw [startEdge_due hd, atEdge_camp (fun h => hc (hcamp.symm.trans h))]

theorem startReleased_leaves (c : Chip) (t : Nat × Nat) : ((c.edgeReached t).startReleased).unit = { c.unit with edgeDue := false, started := true } ∧
    ((c.edgeReached t).startReleased).belay = { c.belay with start := false, basecamp := false } ∧
    ClockAlone { c with unit := ((c.edgeReached t).startReleased).unit, belay := ((c.edgeReached t).startReleased).belay } ((c.edgeReached t).startReleased) ∧
    c.clk.cycle ≤ ((c.edgeReached t).startReleased).clk.cycle := by
  obtain ⟨ha, hu, hcyc, -, -, hbelay⟩ := edgeReached_leaves c t
  generalize c.edgeReached t = d at *
  have hr : ClockAlone { d with belay := d.startReleased.belay } d.startReleased := rfl
  refine ⟨hu, ?_, ha.unit_belay hr, hcyc⟩
  rw [← hbelay]
  rfl

theorem edgeCamp_leaves (c : Chip) (t : Nat × Nat) : ((c.edgeReached t).campEntered).unit = { c.unit with edgeDue := false, started := true } ∧
    ((c.edgeReached t).campEntered).belay = { c.belay with start := false, basecamp := true } ∧ ((c.edgeReached t).campEntered).fis = c.fis ∧
    ClockAlone { c with unit := ((c.edgeReached t).campEntered).unit, belay := ((c.edgeReached t).campEntered).belay } ((c.edgeReached t).campEntered) := by
  obtain ⟨ha, hu, -, hfis, -, hbelay⟩ := edgeReached_leaves c t
  generalize c.edgeReached t = d at *
  obtain ⟨h1, h2⟩ := campEntered_leaves d
  generalize d.campEntered = e at *
  have hfis' : e.fis = d.fis := h1.fis
  have hunit' : e.unit = d.unit := h1.unit
  exact ⟨hunit'.trans hu, h2.trans (by rw [hbelay]), hfis'.trans hfis, ha.unit_belay h1⟩

theorem startEdge_lines {s : State} (hp : s.u.sup.powered = true) (hd : s.u.unit.edgeDue = true) :
    (s.u.unit.camp = [] → s.u.fis = [] → s.u.boundOutputs = [] → CompletesChip .startEdge s (fun u => u.unit = { s.u.unit with edgeDue := false, started := true } ∧
      u.belay = { s.u.belay with start := false, basecamp := false } ∧ ClockAlone { s.u with unit := u.unit, belay := u.belay } u ∧
      s.u.clk.cycle ≤ u.clk.cycle)) ∧
    (s.u.unit.camp ≠ [] → CompletesChip .startEdge s (fun u => u.unit = { s.u.unit with edgeDue := false, started := true } ∧
      u.belay = { s.u.belay with start := false, basecamp := true } ∧ u.fis = s.u.fis ∧ ClockAlone { s.u with unit := u.unit, belay := u.belay } u)) := by
  refine ⟨fun hc hf ho => ?_, fun hc => ?_⟩
  · refine completes_onChip (exec_startEdge s) hp ?_
    rw [startEdge_idle hd hc hf ho]
    exact startReleased_leaves s.u s.u.nextMs
  · refine completes_onChip (exec_startEdge s) hp ?_
    rw [startEdge_camp hd hc]
    exact edgeCamp_leaves s.u s.u.nextMs

end Sys2Proof.Machine
end

section
/-!
PROOFS. The supply's warning, its end, the shutdown and a dip (R763–R766).
-/
namespace Sys2Proof.Machine

/-! ### What the flush of the cairn keeps -/

/-- What numbering records and sending their lines keeps. -/
structure Chip.FlushKept (c d : Chip) : Prop where
  sup : d.sup = c.sup
  fis : d.fis = c.fis
  cfg : d.cfg = c.cfg
  rep : d.rep = c.rep
  srcs : d.coll.srcs = c.coll.srcs

theorem Chip.FlushKept.refl (c : Chip) : c.FlushKept c := ⟨rfl, rfl, rfl, rfl, rfl⟩
theorem Chip.FlushKept.trans {a b d : Chip} (h1 : a.FlushKept b) (h2 : b.FlushKept d) : a.FlushKept d :=
  ⟨h2.sup.trans h1.sup, h2.fis.trans h1.fis, h2.cfg.trans h1.cfg, h2.rep.trans h1.rep, h2.srcs.trans h1.srcs⟩

theorem flushKept_advanceTo (c : Chip) (t : Nat) : c.FlushKept (c.advanceTo t) :=
  ⟨c.advanceTo_sup t, c.advanceTo_fis t, c.advanceTo_cfg t, c.advanceTo_rep t, congrArg Collector.srcs (c.advanceTo_coll t)⟩

theorem Chip.SessionAlone.flushKept {c d : Chip} (h : c.SessionAlone d) : c.FlushKept d :=
  ⟨(congrArg Chip.sup h :), (congrArg Chip.fis h :), (congrArg Chip.cfg h :), (congrArg Chip.rep h :), (congrArg (fun x : Chip => x.coll.srcs) h :)⟩

theorem flushKept_drainRaises (c : Chip) : c.FlushKept c.drainRaises := by
  unfold Chip.drainRaises
  split
  · exact .refl c
  · exact ⟨rfl, rfl, rfl, rfl, rfl⟩

theorem lostRecords_alone (c : Chip) : c.SessionAlone c.lostRecords := by
  unfold Chip.lostRecords
  split
  · rfl
  · exact .refl c

theorem flushKept_numberNext (c : Chip) (dram : Bool) : c.FlushKept (c.numberNext dram).1 := by
  have h := flushKept_drainRaises c
  unfold Chip.numberNext
  dsimp only
  generalize c.drainRaises = d at *
  split
  · exact h
  · split
    · exact h.trans (lostRecords_alone d).flushKept
    next r _ _ =>
      have ha := flushKept_advanceTo d r.due
      generalize d.advanceTo r.due = e at *
      generalize Cairn.number _ _ = k
      have hk : e.SessionAlone { e with cairn := k.1 } := rfl
      exact (h.trans ha).trans (hk.trans (lostRecords_alone { e with cairn := k.1 })).flushKept

theorem routeRec_alone (c : Chip) (r : Rec) : c.SessionAlone (c.routeRec r) := by
  unfold Chip.routeRec
  refine List.foldlRecOn (motive := c.SessionAlone) _ _ rfl ?_
  intro d hd s _
  split
  · exact hd.trans (async_alone d s _ _)
  · exact hd

theorem flushKept_cairnWrite (c : Chip) : c.FlushKept c.cairnWrite := by
  have h := flushKept_numberNext c c.dramOn
  unfold Chip.cairnWrite
  generalize c.numberNext c.dramOn = x at *
  obtain ⟨d, recs⟩ := x
  refine List.foldlRecOn (motive := c.FlushKept) _ _ h ?_
  exact fun e he r _ => he.trans (routeRec_alone e r).flushKept

theorem flushKept_numberAll (n : Nat) (c : Chip) : c.FlushKept (c.numberAll n) := by
  induction n generalizing c with
  | zero => exact .refl c
  | succ n ih =>
    have h := flushKept_cairnWrite c
    unfold Chip.numberAll
    dsimp only
    generalize c.cairnWrite = d at *
    split
    · exact h
    · exact h.trans (ih d)

theorem flushKept_flushCairn (c : Chip) : c.FlushKept c.flushCairn := flushKept_numberAll _ c

/-! ### The warning -/

theorem domRequest_off {c : Chip} {n : Nat} {cause : String} (h : (c.dom n).st = .off) : c.domRequest n false cause = c.domLatch n none := by
  unfold Chip.domRequest
  dsimp only
  rw [if_neg (fun hx => absurd hx.2 (by decide)), h]

/-- What a change of a domain's latch leaves alone. -/
theorem domLatch_leaves (c : Chip) (n : Nat) (v : Option Bool) : (c.domLatch n v).sup = { c.sup with doms := (c.domLatch n v).sup.doms } ∧
    (c.domLatch n v).fis = c.fis ∧ (c.domLatch n v).cfg = c.cfg ∧ (c.domLatch n v).coll = c.coll ∧ (c.domLatch n v).cairn.save = c.cairn.save := by
  unfold Chip.domLatch
  split
  · exact ⟨rfl, rfl, rfl, rfl, rfl⟩
  · exact ⟨rfl, rfl, rfl, rfl, (tailKept_record c 233 n [fNat "DOMAIN" n, ⟨"LATCHED", latchName v⟩]).save⟩

/-- The warning noted, with its record. -/
def Chip.warned (c : Chip) : Chip := (c.sup' (fun s => { s with warning := true, warnAt := c.clk.cycle })).record 143 0 [fSym "STATE" "FAILING"]

/-- The unit as the warning saves its tail. -/
def Chip.tailBegun (c : Chip) : Chip := if c.cairn.save.isSome then c else c.beginTail "SUPPLY"

theorem tailBegun_leaves (c : Chip) : c.FlushKept c.tailBegun ∧ c.tailBegun.cairn.save ≠ none := by
  unfold Chip.tailBegun
  split
  next h => exact ⟨.refl c, fun hn => absurd h (by rw [hn]; decide)⟩
  next => exact ⟨⟨rfl, rfl, rfl, rfl, rfl⟩, fun h => absurd h (Option.some_ne_none _)⟩

theorem supplyWarning_eq {c : Chip} (h : c.sup.warning = false) (hc : c.warned.srcClass 392 = .degraded)
    (hs : (c.warned.classified (c.warned.raisedNow 392 0 none)).flushCairn.tailBegun.rep.steps = []) :
    c.supplyWarning = (c.warned.classified (c.warned.raisedNow 392 0 none)).flushCairn.tailBegun.domRequest 23 false "SUPPLY" := by
  have he : c.supplyWarning = ((c.warned.classifyRaise (c.warned.raisedNow 392 0 none)).flushCairn.tailBegun.rep.steps.keys.foldl (fun c cl => c.stepAbandon cl "SUPPLY")
      (c.warned.classifyRaise (c.warned.raisedNow 392 0 none)).flushCairn.tailBegun).domRequest 23 false "SUPPLY" := by
    unfold Chip.supplyWarning
    rw [if_neg (by rw [h]; decide)]
    unfold Chip.tailBegun Chip.warned Chip.raisedNow
    rfl
  rw [he, classifyRaise_mild (r := c.warned.raisedNow 392 0 none) (show (srcRow 392).isSome = true by decide) (.inl hc), hs]
  rfl

theorem classified_sup (c : Chip) (r : Raise) : (c.classified r).sup = c.sup ∧ (c.classified r).rep = c.rep := by
  obtain ⟨h, -⟩ := logRaise_leaves (c.advanceTo (r.arrival + 16)) r (c.srcClass r.src)
  have hsup := c.advanceTo_sup (r.arrival + 16)
  have hrep := c.advanceTo_rep (r.arrival + 16)
  unfold Chip.classified
  generalize c.advanceTo (r.arrival + 16) = d at *
  generalize d.logRaise r (c.srcClass r.src) = e at *
  exact ⟨(congrArg Chip.sup h).trans hsup, (congrArg Chip.rep h).trans hrep⟩

theorem supplyWarning_line {s : State} (hp : s.u.sup.powered = true) (hw : s.u.sup.warning = false) (hc : s.u.srcClass 392 = .degraded)
    (hs : s.u.rep.steps = []) (hd : (s.u.dom 23).st = .off) :
    CompletesChip .supplyWarning s (fun u => u.sup.warning = true ∧ u.sup.warnAt = s.u.clk.cycle ∧ u.cairn.save ≠ none ∧
      (u.src 392).latched = true ∧ u.fis = s.u.fis ∧ u.cfg = s.u.cfg) := by
  refine completes_onChip (exec_supplyWarning s) hp ?_
  obtain ⟨-, -, hfis, -, hcfg, -, -, -, hl, -⟩ := classified_leaves s.u.warned (s.u.warned.raisedNow 392 0 none)
  obtain ⟨hsup, hrep⟩ := classified_sup s.u.warned (s.u.warned.raisedNow 392 0 none)
  have heq := supplyWarning_eq (c := s.u) hw hc
  have hl' : ((s.u.warned.classified (s.u.warned.raisedNow 392 0 none)).src 392).latched = true := hl
  generalize s.u.warned.classified (s.u.warned.raisedNow 392 0 none) = d at *
  obtain ⟨hk, hsave⟩ := tailBegun_leaves d.flushCairn
  have hkept := (flushKept_flushCairn d).trans hk
  generalize d.flushCairn.tailBegun = e at *
  have hsup' := hkept.sup.trans hsup
  have hst : (e.dom 23).st = .off := (congrArg (fun x : Supply => (x.doms.get Dom.init 23).st) hsup').trans hd
  obtain ⟨k1, k2, k3, k4, k5⟩ := domLatch_leaves e 23 none
  rw [heq ((congrArg Repair.steps (hkept.rep.trans hrep)).trans hs), domRequest_off hst]
  have hsrc : ((e.domLatch 23 none).src 392) = d.src 392 :=
    congrArg (fun t : Tbl SrcState => t.get SrcState.init 392) ((congrArg Collector.srcs k4).trans hkept.srcs)
  generalize e.domLatch 23 none = u at *
  refine ⟨?_, ?_, ?_, ?_, k2.trans (hkept.fis.trans hfis), k3.trans (hkept.cfg.trans hcfg)⟩
  · rw [k1, hsup']; rfl
  · rw [k1, hsup']; rfl
  · rw [k5]; exact hsave
  · rw [hsrc]; exact hl'

/-! ### Shutdown -/

theorem wear_keys (c : Chip) (area sub : Nat) : (c.wear area sub).keys = c.keys ∧ (c.wear area sub).cfg = c.cfg := by
  unfold Chip.wear
  dsimp only
  split
  · exact ⟨rfl, rfl⟩
  · split
    · exact ⟨rfl, rfl⟩
    · exact ⟨rfl, rfl⟩

theorem endTail_keys (c : Chip) (x : TailSave) (ok : Bool) : (c.endTail x ok).keys = c.keys ∧ (c.endTail x ok).cfg = c.cfg := by
  unfold Chip.endTail
  cases ok with
  | true => exact ⟨rfl, rfl⟩
  | false => exact ⟨rfl, rfl⟩

/-- The unit once a tail save under way has ended. -/
def Chip.saveEnded (c : Chip) : Chip :=
  match c.cairn.save with
  | some s => if s.complete then c else (c.endTail s true).wear 5 0
  | none => c

theorem saveEnded_keys (c : Chip) : c.saveEnded.keys = c.keys ∧ c.saveEnded.cfg = c.cfg := by
  unfold Chip.saveEnded
  split
  next x _ =>
    split
    · exact ⟨rfl, rfl⟩
    · obtain ⟨h1, h2⟩ := endTail_keys c x true
      obtain ⟨h3, h4⟩ := wear_keys (c.endTail x true) 5 0
      exact ⟨h3.trans h1, h4.trans h2⟩
  next => exact ⟨rfl, rfl⟩

/-- An output whose driver is off. -/
def Trip.released (t : Trip) : Trip := { t with drive := .off, held := false }

theorem Tbl.get_released (t : Tbl Trip) (n : Nat) : (Tbl.get Trip.init (t.map (fun e => (e.1, e.2.released))) n).drive = .off := by
  induction t with
  | nil => rfl
  | cons e t ih =>
    obtain ⟨k, v⟩ := e
    by_cases h : n = k
    · simp [Tbl.get, h, Trip.released]
    · simpa [Tbl.get, h] using ih

/-- The outputs as the supply goes. -/
def Chip.supplyGone (c : Chip) : Chip :=
  let c1 := c.modPanel (fun p => { p with trips := p.trips.map (fun e => (e.1, e.2.released)) })
  let c2 : Chip := { c1 with alive := { c1.alive with toggling := false } }
  c2.sup' (fun s => { s with powered := false, shutdown := true, warning := false, doms := [] })

theorem shutdown_eq {c : Chip} (h : c.sup.warning = true) : c.shutdown = c.saveEnded.supplyGone := by
  unfold Chip.shutdown
  rw [if_neg (by rw [h]; decide)]
  unfold Chip.saveEnded Chip.supplyGone Trip.released
  rfl

theorem shutdown_line {s : State} (hp : s.u.sup.powered = true) (hw : s.u.sup.warning = true) :
    CompletesChip .shutdown s (fun u => u.sup.powered = false ∧ u.sup.doms = [] ∧ u.alive.toggling = false ∧ (∀ n, (u.trip n).drive = .off) ∧
      u.keys = s.u.keys ∧ u.cfg = s.u.cfg) := by
  refine completes_onChip (exec_shutdown s) hp ?_
  rw [shutdown_eq hw]
  obtain ⟨hk, hc⟩ := saveEnded_keys s.u
  generalize s.u.saveEnded = d at *
  exact ⟨rfl, rfl, rfl, fun n => Tbl.get_released d.panel.trips n, hk, hc⟩

/-! ### The end of a warning, and a dip -/

theorem resumeNumbering_none {c : Chip} (h : c.cairn.save = none) : c.resumeNumbering = { c with cairn := { c.cairn with stopped := false } } := by
  unfold Chip.resumeNumbering
  rw [h]

theorem supplyRestored_line {s : State} {ms : Nat} (hp : s.u.sup.powered = true) (hw : s.u.sup.warning = true) (hs : s.u.cairn.save = none) :
    CompletesChip (.supplyRestored ms) s (fun u => u.sup = { s.u.sup with warning := false } ∧ { u with sup := s.u.sup, cairn := s.u.cairn } = s.u ∧
      ∃ k, Recorded s.u.cairn k 143 0 [fSym "STATE" "RESTORED", fNat "LENGTH" ms] ∧ u.cairn = { k with stopped := false }) := by
  refine completes_onChip (exec_supplyRestored s ms) hp ?_
  have hsave := (tailKept_record (s.u.sup' (fun x => { x with warning := false })) 143 0 [fSym "STATE" "RESTORED", fNat "LENGTH" ms]).save.trans hs
  have he : s.u.supplyRestored ms = ((s.u.sup' (fun x => { x with warning := false })).record 143 0 [fSym "STATE" "RESTORED", fNat "LENGTH" ms]).resumeNumbering := by
    unfold Chip.supplyRestored
    exact if_neg (by rw [hw]; decide)
  have hrec := recorded_record (s.u.sup' (fun x => { x with warning := false })) 143 0 [fSym "STATE" "RESTORED", fNat "LENGTH" ms]
  rw [he, resumeNumbering_none hsave]
  exact ⟨rfl, rfl, _, hrec, rfl⟩

theorem supplyDip_line {s : State} {ms : Nat} (hp : s.u.sup.powered = true) (hw : s.u.sup.warning = false) (hm : ms ≠ 0) :
    CompletesChip (.supplyDip ms) s (fun u => { u with cairn := s.u.cairn } = s.u ∧ Recorded s.u.cairn u.cairn 143 0 [fSym "STATE" "DIP", fNat "LENGTH" ms]) := by
  refine completes_onChip (exec_supplyDip s ms) hp ?_
  have he : s.u.supplyDip ms = s.u.record 143 0 [fSym "STATE" "DIP", fNat "LENGTH" ms] := by
    unfold Chip.supplyDip
    exact if_neg (by rw [hw]; simp [hm])
  rw [he]
  exact ⟨rfl, recorded_record s.u 143 0 _⟩

end Sys2Proof.Machine
end

section
/-!
PROOFS. The power domains: a rise and a fall that end, a fault and its retry (R769–R777).
-/
namespace Sys2Proof.Machine

/-! ### Changes of a domain -/

/-- Two units that differ in the supply and the records alone. -/
def Chip.SupplyAlone (c u : Chip) : Prop := { u with sup := c.sup, cairn := c.cairn } = c

theorem Chip.SupplyAlone.trans {a b d : Chip} (h1 : a.SupplyAlone b) (h2 : b.SupplyAlone d) : a.SupplyAlone d := by
  unfold Chip.SupplyAlone at *
  rw [← h1, ← h2]

theorem Chip.SupplyAlone.parts {a b : Chip} (h : a.SupplyAlone b) : b.coll = a.coll ∧ b.fab = a.fab ∧ b.fis = a.fis ∧ b.clk = a.clk :=
  ⟨(congrArg Chip.coll h :), (congrArg Chip.fab h :), (congrArg Chip.fis h :), (congrArg Chip.clk h :)⟩

theorem Chip.dom_modDom_ne (c : Chip) (n m : Nat) (g : Dom → Dom) (h : m ≠ n) : (c.modDom n g).dom m = c.dom m :=
  Tbl.get_put_ne Dom.init (g (c.dom n)) c.sup.doms h

theorem supplyAlone_modDom (c : Chip) (n : Nat) (g : Dom → Dom) : c.SupplyAlone (c.modDom n g) := rfl

/-- What a domain's change of state leaves. -/
theorem domMove_leaves (c : Chip) (n : Nat) (x : DomSt) (cause : String) : c.SupplyAlone (c.domMove n x cause) ∧
    (c.domMove n x cause).dom n = { c.dom n with st := x, since := c.clk.cycle, cause := cause } ∧ (∀ m, m ≠ n → (c.domMove n x cause).dom m = c.dom m) ∧
    Recorded c.cairn (c.domMove n x cause).cairn 232 n [fNat "DOMAIN" n, fSym "FROM" (c.dom n).st.name, fSym "TO" x.name, fSym "CAUSE" cause] := by
  have hrec := recorded_record c 232 n [fNat "DOMAIN" n, fSym "FROM" (c.dom n).st.name, fSym "TO" x.name, fSym "CAUSE" cause]
  have hd := (c.record 232 n [fNat "DOMAIN" n, fSym "FROM" (c.dom n).st.name, fSym "TO" x.name, fSym "CAUSE" cause]).dom_modDom n
    (fun d => { d with st := x, since := c.clk.cycle, cause := cause })
  have hm := fun m => (c.record 232 n [fNat "DOMAIN" n, fSym "FROM" (c.dom n).st.name, fSym "TO" x.name, fSym "CAUSE" cause]).dom_modDom_ne n m
    (fun d => { d with st := x, since := c.clk.cycle, cause := cause })
  exact ⟨rfl, hd, hm, hrec⟩

/-- What clearing a domain's latch leaves. -/
theorem domLatch_cleared (c : Chip) (n : Nat) : c.SupplyAlone (c.domLatch n none) ∧ (c.domLatch n none).dom n = { c.dom n with latched := none } ∧
    (∀ m, m ≠ n → (c.domLatch n none).dom m = c.dom m) := by
  unfold Chip.domLatch
  split
  next h =>
    refine ⟨rfl, ?_, fun _ _ => rfl⟩
    rw [← h]
  next =>
    have hd := (c.record 233 n [fNat "DOMAIN" n, ⟨"LATCHED", latchName none⟩]).dom_modDom n (fun d => { d with latched := none })
    have hm := fun m => (c.record 233 n [fNat "DOMAIN" n, ⟨"LATCHED", latchName none⟩]).dom_modDom_ne n m (fun d => { d with latched := none })
    exact ⟨rfl, hd, hm⟩

theorem domWaiting_none {c : Chip} {l : List Nat} (h : ∀ m, m ∈ l → (c.dom m).latched = none) : c.domWaiting l = c := by
  induction l with
  | nil => rfl
  | cons m l ih =>
    have he : c.domWaiting (m :: l) = (c.domWaiting [m]).domWaiting l := rfl
    rw [he, domWaiting_unlatched (h m List.mem_cons_self)]
    exact ih (fun k hk => h k (List.mem_cons_of_mem m hk))

/-- After a change of one domain none of a list waits, where none waited before. -/
theorem domMove_waiting {c : Chip} {n : Nat} {l : List Nat} (x : DomSt) (cause : String) (hn : (c.dom n).latched = none) (h : ∀ m, m ∈ l → (c.dom m).latched = none) :
    (c.domMove n x cause).domWaiting ([n] ++ l) = c.domMove n x cause := by
  obtain ⟨-, hd, hm, -⟩ := domMove_leaves c n x cause
  refine domWaiting_none (fun m hmem => ?_)
  by_cases he : m = n
  · rw [he, hd]
    exact hn
  · rw [hm m he]
    rcases List.mem_append.mp hmem with h1 | h1
    · exact absurd (List.mem_singleton.mp h1) he
    · exact h m h1

/-! ### The end of a rise and of a fall -/

/-- Domains whose rise restores nothing. -/
theorem domArrive_plain {n : Fin 24} (h : n.val < 12 ∨ n = 18 ∨ n = 22 ∨ n = 23) (c : Chip) (m : Mem) : c.domArrive n = c ∧ m.domArrive n = m := by
  have hn : n.val ≠ 19 ∧ n.val ≠ 20 ∧ n.val ≠ 16 ∧ n.val ≠ 17 ∧ n.val ≠ 21 ∧ ¬ (12 ≤ n.val ∧ n.val < 16) := by
    rcases h with h | rfl | rfl | rfl
    · omega
    · decide
    · decide
    · decide
  obtain ⟨h19, h20, h16, h17, h21, hq⟩ := hn
  refine ⟨?_, ?_⟩
  · unfold Chip.domArrive
    rw [if_neg hq]
    split
    next h => exact absurd h h16
    next h => exact absurd h h17
    next h => exact absurd h h21
    next => rfl
  · unfold Mem.domArrive
    rw [if_neg (fun h => h19 h.1), if_neg (fun h => h20 h.1)]

theorem riseDone_eq {cm : CM} {n : Fin 24} (hs : (cm.1.dom n).st = .rising) (hl : (cm.1.dom n).latched = none)
    (hu : ∀ m, m ∈ domUsers n → (cm.1.dom m).latched = none) (hn : n.val < 12 ∨ n = 18 ∨ n = 22 ∨ n = 23) (hc : cm.1.trev.commit = none) :
    CM.roseTo cm n = (cm.1.domMove n .on (cm.1.dom n).cause, cm.2) := by
  obtain ⟨ha, hm⟩ := domArrive_plain hn (cm.1.domMove n .on (cm.1.dom n).cause) cm.2
  have hw := domMove_waiting .on (cm.1.dom n).cause hl hu
  have hr : CM.riseDone cm n = (cm.1.domMove n .on (cm.1.dom n).cause, cm.2) := by
    unfold CM.riseDone
    dsimp only
    rw [if_neg (fun h => h hs), ha, hw, hm]
  have hcommit : (cm.1.domMove n .on (cm.1.dom n).cause).trev.commit = none := hc
  unfold CM.roseTo
  rw [hr]
  dsimp only
  unfold Chip.commitApplied
  rw [hcommit]

theorem completesChip_onCM {i : Instr} {s : State} {g : Chip × Mem → Chip × Mem} {P : Chip → Prop} {u : Chip} (he : exec i s = s.onCM g)
    (hp : s.u.sup.powered = true) (hg : g (s.u, s.mem) = (u, s.mem)) (h : P u) : CompletesChip i s P := by
  refine completes_onCM he hp ?_
  rw [hg]
  exact ⟨rfl, rfl, h⟩

theorem domainRise_line {s : State} {n : Fin 24} (hp : s.u.sup.powered = true) (hs : (s.u.dom n).st = .rising) (hl : (s.u.dom n).latched = none)
    (hu : ∀ m, m ∈ domUsers n → (s.u.dom m).latched = none) (hn : n.val < 12 ∨ n = 18 ∨ n = 22 ∨ n = 23) (hc : s.u.trev.commit = none) :
    CompletesChip (.domainRiseDone n) s (fun u => u.dom n = { s.u.dom n with st := .on, since := s.u.clk.cycle } ∧ (∀ m, m ≠ n.val → u.dom m = s.u.dom m) ∧
      { u with sup := s.u.sup, cairn := s.u.cairn } = s.u ∧ Recorded s.u.cairn u.cairn 232 n
        [fNat "DOMAIN" n, fSym "FROM" "RISING", fSym "TO" "ON", fSym "CAUSE" (s.u.dom n).cause]) := by
  refine completesChip_onCM (exec_domainRiseDone s n) hp (riseDone_eq (cm := (s.u, s.mem)) hs hl hu hn hc) ?_
  obtain ⟨h1, h2, h3, h4⟩ := domMove_leaves s.u n .on (s.u.dom n).cause
  rw [hs] at h4
  exact ⟨h2, h3, h1, h4⟩

theorem domainFall_line {s : State} {n : Fin 24} (hp : s.u.sup.powered = true) (hs : (s.u.dom n).st = .falling) (hl : (s.u.dom n).latched = none)
    (hu : ∀ m, m ∈ domNeeds n → (s.u.dom m).latched = none) : CompletesChip (.domainFallDone n) s (fun u =>
      u.dom n = { s.u.dom n with st := .off, since := s.u.clk.cycle } ∧ (∀ m, m ≠ n.val → u.dom m = s.u.dom m) ∧
      { u with sup := s.u.sup, cairn := s.u.cairn } = s.u ∧ Recorded s.u.cairn u.cairn 232 n
        [fNat "DOMAIN" n, fSym "FROM" "FALLING", fSym "TO" "OFF", fSym "CAUSE" (s.u.dom n).cause]) := by
  refine completes_onChip (exec_domainFallDone s n) hp ?_
  have he : s.u.fallDone n = s.u.domMove n .off (s.u.dom n).cause := by
    unfold Chip.fallDone
    rw [if_neg (fun h => h hs), domMove_waiting .off (s.u.dom n).cause hl hu]
  obtain ⟨h1, h2, h3, h4⟩ := domMove_leaves s.u n .off (s.u.dom n).cause
  rw [hs] at h4
  rw [he]
  exact ⟨h2, h3, h1, h4⟩

/-! ### A fault and its retry -/

/-- The time of the one further attempt. -/
def Dom.nextTry (d : Dom) (now : Nat) : Option Nat := if d.retried then none else some (1000000000 + now)

/-- A domain forced to fall. -/
def Chip.domForced (c : Chip) (n : Nat) (cause : String) : Chip := ((c.domLatch n none).modDom n (fun d => { d with forced := true })).domMove n .falling cause

theorem domForce_rising {c : Chip} {n : Nat} {cause : String} (h : (c.dom n).st = .rising) : c.domForce n cause = c.domForced n cause := by
  have hoff : c.domOn n = false := by
    unfold Chip.domOn
    rw [h]
    rfl
  unfold Chip.domForce
  rw [hoff, h]
  rfl

theorem domForced_leaves (c : Chip) (n : Nat) (cause : String) : c.SupplyAlone (c.domForced n cause) ∧ ((c.domForced n cause).dom n).st = .falling ∧
    ((c.domForced n cause).dom n).forced = true ∧ ((c.domForced n cause).dom n).latched = none ∧
    ((c.domForced n cause).dom n).retried = (c.dom n).retried := by
  obtain ⟨h1, h2, -⟩ := domLatch_cleared c n
  unfold Chip.domForced
  generalize c.domLatch n none = d at *
  have hd := d.dom_modDom n (fun d => { d with forced := true })
  have ha := supplyAlone_modDom d n (fun d => { d with forced := true })
  generalize d.modDom n (fun d => { d with forced := true }) = e at *
  obtain ⟨k1, k2, -⟩ := domMove_leaves e n .falling cause
  rw [k2, hd, h2]
  exact ⟨(h1.trans ha).trans k1, rfl, rfl, rfl, rfl⟩

theorem domLost_plain {n : Nat} (h : 12 ≤ n) (h19 : n ≠ 19) (h20 : n ≠ 20) (h23 : n ≠ 23) (cm : CM) : CM.domLost cm n = cm := by
  unfold CM.domLost
  dsimp only
  rw [if_neg (by omega), if_neg (by omega), if_neg h19, if_neg h20, if_neg h23]

/-- A rising domain that faults. -/
def Chip.domFaulted (c : Chip) (n : Nat) : Chip :=
  ((c.raise (393 + n) n none [fNat "DOMAIN" n]).domForced n "FAULT").modDom n (fun d => { d with retryAt := d.nextTry c.clk.cycle })

theorem domainFault_eq {cm : CM} {n : Nat} (hs : (cm.1.dom n).st = .rising) (h : 12 ≤ n) (h19 : n ≠ 19) (h20 : n ≠ 20) (h23 : n ≠ 23) :
    CM.domainFault cm n = (cm.1.domFaulted n, cm.2) := by
  have hf : (cm.1.raise (393 + n) n none [fNat "DOMAIN" n]).domForce n "FAULT" = (cm.1.raise (393 + n) n none [fNat "DOMAIN" n]).domForced n "FAULT" := domForce_rising hs
  unfold CM.domainFault
  dsimp only
  rw [if_neg (fun hx => hx.1 hs), hf, domLost_plain h h19 h20 h23]
  rfl

theorem domFaulted_leaves (c : Chip) (n : Nat) : ((c.domFaulted n).dom n).st = .falling ∧ ((c.domFaulted n).dom n).forced = true ∧
    ((c.domFaulted n).dom n).latched = none ∧ ((c.domFaulted n).dom n).retryAt = (c.dom n).nextTry c.clk.cycle ∧
    Raised c.coll (c.domFaulted n).coll (393 + n) n ∧ (c.domFaulted n).fab = c.fab ∧ (c.domFaulted n).fis = c.fis := by
  have hr := raised_raise c (393 + n) n none [fNat "DOMAIN" n]
  obtain ⟨h1, h2, h3, h4, h5⟩ := domForced_leaves (c.raise (393 + n) n none [fNat "DOMAIN" n]) n "FAULT"
  obtain ⟨hcoll, hfab, hfis, -⟩ := h1.parts
  unfold Chip.domFaulted
  generalize (c.raise (393 + n) n none [fNat "DOMAIN" n]).domForced n "FAULT" = d at *
  have hd := d.dom_modDom n (fun d => { d with retryAt := d.nextTry c.clk.cycle })
  have hcoll' : (d.modDom n (fun d => { d with retryAt := d.nextTry c.clk.cycle })).coll = d.coll := rfl
  rw [hd, hcoll', hcoll]
  refine ⟨h2, h3, h4, ?_, hr, hfab, hfis⟩
  unfold Dom.nextTry
  rw [h5]
  rfl

theorem domainFault_line {s : State} {n : Fin 24} (hp : s.u.sup.powered = true) (hs : (s.u.dom n).st = .rising)
    (hn : 12 ≤ n.val ∧ n.val < 19 ∨ n = 21 ∨ n = 22) : CompletesChip (.domainFault n) s (fun u => (u.dom n).st = .falling ∧
      (u.dom n).forced = true ∧ (u.dom n).latched = none ∧ (u.dom n).retryAt = (if (s.u.dom n).retried then none else some (1000000000 + s.u.clk.cycle)) ∧
      Raised s.u.coll u.coll (393 + n.val) n ∧ u.fab = s.u.fab ∧ u.fis = s.u.fis) := by
  have h : 12 ≤ n.val ∧ n.val ≠ 19 ∧ n.val ≠ 20 ∧ n.val ≠ 23 := by
    rcases hn with hn | rfl | rfl
    · omega
    · decide
    · decide
  obtain ⟨h12, h19, h20, h23⟩ := h
  exact completesChip_onCM (exec_domainFault s n) hp (domainFault_eq (cm := (s.u, s.mem)) hs h12 h19 h20 h23) (domFaulted_leaves s.u n)

theorem canRise_congr {a b : Chip} (h : ∀ m, (a.dom m).st = (b.dom m).st) (n : Nat) : a.canRise n = b.canRise n := by
  have hd : a.domOn = b.domOn := funext (fun m => by
    unfold Chip.domOn
    rw [h m])
  unfold Chip.canRise
  rw [hd]

/-- A domain whose forced OFF ends for its retry. -/
def Chip.retryFreed (c : Chip) (n : Nat) : Chip := c.modDom n (fun d => { d with retryAt := none, retried := true, forced := false })

theorem domRequest_rises {c : Chip} {n : Nat} {cause : String} (hf : (c.dom n).forced = false) (hs : (c.dom n).st = .off) (hr : c.canRise n = true) :
    c.domRequest n true cause = (c.domLatch n none).domMove n .rising cause := by
  unfold Chip.domRequest
  dsimp only
  rw [if_neg (fun hx => absurd (hf.symm.trans hx.1) (by decide)), hs]
  exact if_pos hr

theorem domainRetry_line {s : State} {n : Fin 24} {t : Nat} (hp : s.u.sup.powered = true) (ht : (s.u.dom n).retryAt = some t) (hs : (s.u.dom n).st = .off)
    (hr : s.u.canRise n = true) : CompletesChip (.domainRetry n) s (fun u => (u.dom n).st = .rising ∧
      (u.dom n).retryAt = none ∧ (u.dom n).retried = true ∧ (u.dom n).forced = false ∧ u.clk.cycle = max s.u.clk.cycle t ∧
      (∀ m, m ≠ n.val → u.dom m = s.u.dom m)) := by
  refine completes_onChip (exec_domainRetry s n) hp ?_
  have he : s.u.domainRetry n = ((s.u.advanceTo t).retryFreed n).domRequest n true "FAULT" := by
    unfold Chip.domainRetry
    rw [ht]
    rfl
  have hcyc := s.u.advanceTo_cycle t
  have hdom := fun m => s.u.dom_advanceTo t m
  rw [he]
  generalize s.u.advanceTo t = d at *
  have hd : (d.retryFreed n).dom n = { s.u.dom n with retryAt := none, retried := true, forced := false } := by
    rw [← hdom n]
    exact d.dom_modDom n _
  have hne : ∀ m, m ≠ n.val → (d.retryFreed n).dom m = s.u.dom m := fun m hm => (d.dom_modDom_ne n m _ hm).trans (hdom m)
  have hclk : (d.retryFreed n).clk = d.clk := rfl
  generalize d.retryFreed n = e at *
  have hst : ∀ m, (e.dom m).st = (s.u.dom m).st := fun m => by
    by_cases hm : m = n.val
    · rw [hm, hd]
    · rw [hne m hm]
  rw [domRequest_rises (by rw [hd]) ((hst n).trans hs) ((canRise_congr hst n).trans hr)]
  obtain ⟨k1, k2, k3⟩ := domLatch_cleared e n
  obtain ⟨-, -, -, kclk⟩ := k1.parts
  generalize e.domLatch n none = f at *
  obtain ⟨l1, l2, l3, -⟩ := domMove_leaves f n .rising "FAULT"
  obtain ⟨-, -, -, lclk⟩ := l1.parts
  rw [l2, k2, hd]
  exact ⟨rfl, rfl, rfl, rfl, ((congrArg Clk.cycle ((lclk.trans kclk).trans hclk))).trans hcyc, fun m hm => (l3 m hm).trans ((k3 m hm).trans (hne m hm))⟩

end Sys2Proof.Machine
end

section
/-!
PROOFS. The temperature sensors, the throttle and the governor (R434–R441, R778–R781).
-/
namespace Sys2Proof.Machine

/-! ### The governor -/

/-- Two units that differ in the governor and the records alone, the capacity and the window's time kept. -/
structure Chip.GovernKept (c d : Chip) : Prop where
  but : { d with mctl := c.mctl, cairn := c.cairn } = c
  cap : d.mctl.cap = c.mctl.cap
  refillAt : d.mctl.refillAt = c.mctl.refillAt

theorem Chip.GovernKept.parts {c d : Chip} (h : c.GovernKept d) : d.sup = c.sup ∧ d.coll = c.coll ∧ d.clk = c.clk ∧ d.fis = c.fis ∧ d.cfg = c.cfg ∧ d.rep = c.rep :=
  ⟨(congrArg Chip.sup h.but :), (congrArg Chip.coll h.but :), (congrArg Chip.clk h.but :), (congrArg Chip.fis h.but :), (congrArg Chip.cfg h.but :),
    (congrArg Chip.rep h.but :)⟩

/-- The unit with every booking served whole. -/
def Chip.servedWhole (c : Chip) : Chip := { c with mctl := { c.mctl with p3Zero := false, f2 := (1, 1), f1 := (1, 1), p0Stop := [] } }

/-- The same, with the record of the change. -/
def Chip.servedNoted (c : Chip) : Chip :=
  if c.mctl.p3Zero = false ∧ c.mctl.f2 = (1, 1) ∧ c.mctl.f1 = (1, 1) ∧ c.mctl.p0Stop = [] then c.servedWhole
  else c.servedWhole.record 177 0 [fSym "P3" "FULL", ⟨"F2", .ratio 1 1⟩, ⟨"F1", .ratio 1 1⟩, ⟨"P0STOP", .none⟩]

theorem servedNoted_kept (c : Chip) : c.GovernKept c.servedNoted ∧ c.servedNoted.mctl = c.servedWhole.mctl := by
  unfold Chip.servedNoted
  split
  · exact ⟨⟨rfl, rfl, rfl⟩, rfl⟩
  · exact ⟨⟨rfl, rfl, rfl⟩, rfl⟩

/-- A copy's rate is set to what it is guaranteed. -/
def Chip.copyRated (c : Chip) (p : Nat × Nat) : Chip := c.modGov p.1 p.2 (fun g => { g with rate := c.guaranteed p.1 })

theorem govern_served {c : Chip} (h : c.shedding = (false, (1, 1), (1, 1), [])) :
    c.govern = c.servedNoted.allCopies.foldl Chip.copyRated c.servedNoted := by
  unfold Chip.govern
  rw [h]
  rfl

theorem shedding_fits {c : Chip} (h : c.booked 0 + c.booked 1 + c.booked 2 + c.booked 3 ≤ c.rateCap) : c.shedding = (false, (1, 1), (1, 1), []) := by
  unfold Chip.shedding
  exact if_pos h

theorem booked_idle {c : Chip} (h : c.fis = []) (k : Nat) : c.booked k = 0 := by
  unfold Chip.booked Chip.runningOf
  rw [h]
  rfl

theorem govern_idle {c : Chip} (h : c.fis = []) : c.govern = c.servedNoted := by
  have hb := booked_idle h
  have hf : c.servedNoted.allCopies = [] := by
    obtain ⟨-, -, -, hfis, -⟩ := (servedNoted_kept c).1.parts
    unfold Chip.allCopies
    rw [hfis, h]
    rfl
  rw [govern_served (shedding_fits (by rw [hb, hb, hb, hb]; exact Nat.zero_le _)), hf]
  rfl

/-- What the check of the capacity leaves with no FI. -/
theorem capCheck_idle {c : Chip} (h : c.fis = []) : c.capCheck.sup = c.sup ∧ c.capCheck.coll = c.coll ∧ c.capCheck.clk = c.clk ∧
    c.capCheck.rep = c.rep ∧ c.capCheck.mctl.cap = c.capacity := by
  unfold Chip.capCheck
  split
  next hc =>
    obtain ⟨hk, -⟩ := servedNoted_kept c
    obtain ⟨h1, h2, h3, -, -, h6⟩ := hk.parts
    rw [govern_idle h]
    exact ⟨h1, h2, h3, h6, hk.cap.trans hc.symm⟩
  next =>
    dsimp only
    generalize hd : Chip.record _ 176 0 _ = d
    have hd1 : d.sup = c.sup ∧ d.coll = c.coll ∧ d.clk = c.clk ∧ d.rep = c.rep ∧ d.mctl.cap = c.capacity ∧ d.fis = c.fis := by
      rw [← hd]
      exact ⟨rfl, rfl, rfl, rfl, rfl, rfl⟩
    obtain ⟨d1, d2, d3, d4, d5, d6⟩ := hd1
    obtain ⟨hk, -⟩ := servedNoted_kept d
    obtain ⟨h1, h2, h3, -, -, h6⟩ := hk.parts
    rw [govern_idle (d6.trans h)]
    exact ⟨h1.trans d1, h2.trans d2, h3.trans d3, h6.trans d4, hk.cap.trans d5⟩

/-! ### The throttle -/

theorem foldl_max_le {α : Type} (f : α → Nat) {k : Nat} (l : List α) (a : Nat) (ha : a ≤ k) (h : ∀ i, i ∈ l → f i ≤ k) :
    l.foldl (fun n i => max n (f i)) a ≤ k := by
  refine List.foldlRecOn (motive := fun n => n ≤ k) _ _ ha ?_
  exact fun n hn i hi => Nat.max_le.mpr ⟨hn, h i hi⟩

theorem le_foldl_max {α : Type} (f : α → Nat) (l : List α) (a : Nat) : a ≤ l.foldl (fun n i => max n (f i)) a ∧
    ∀ i, i ∈ l → f i ≤ l.foldl (fun n i => max n (f i)) a := by
  induction l generalizing a with
  | nil => exact ⟨Nat.le_refl a, fun i hi => absurd hi List.not_mem_nil⟩
  | cons x l ih =>
    obtain ⟨h1, h2⟩ := ih (max a (f x))
    rw [List.foldl_cons]
    refine ⟨(Nat.le_max_left a (f x)).trans h1, fun i hi => ?_⟩
    rcases List.mem_cons.mp hi with rfl | hi
    · exact (Nat.le_max_right a (f i)).trans h1
    · exact h2 i hi

/-- The throttle asks for the highest state of a sensor. -/
theorem throttle_one {c : Chip} {n : Nat} (hl : c.sup.limitHeld = false) (hn : n < 22) (h : ∀ m, m ≠ n → (c.sensor m).st = .normal) :
    c.throttle = (c.sensor n).st.code := by
  unfold Chip.throttle
  rw [hl, if_neg (by decide)]
  refine Nat.le_antisymm (foldl_max_le (fun i => (c.sensor i).st.code) _ 0 (Nat.zero_le _) (fun i _ => ?_))
    ((le_foldl_max (fun i => (c.sensor i).st.code) (List.range 22) 0).2 n (List.mem_range.mpr hn))
  by_cases he : i = n
  · rw [he]
  · rw [h i he]
    exact Nat.zero_le _

theorem throttleCheck_same {cm : CM} (h : cm.1.throttle = cm.1.sup.step) : CM.throttleCheck cm = (cm.1.capCheck, cm.2) := by
  unfold CM.throttleCheck
  exact if_pos h

/-- The throttle's step changes, with its record. -/
def Chip.throttled (c : Chip) (s : Nat) : Chip := (c.sup' (fun x => { x with step := s, limitHeld := x.limitHeld || s == 3 })).record 235 0 [fNat "STEP" s]

/-- Step 2 or above is entered: the fault of it. -/
def Chip.throttleRaised (c : Chip) (old s : Nat) : Chip := if old < 2 ∧ 2 ≤ s then c.raise 390 0 none [fNat "STEP" s] else c

theorem throttleCheck_moved {cm : CM} (h : cm.1.throttle ≠ cm.1.sup.step) (h3 : cm.1.throttle ≠ 3) :
    CM.throttleCheck cm = (((cm.1.throttled cm.1.throttle).throttleRaised cm.1.sup.step cm.1.throttle).capCheck, cm.2) := by
  unfold CM.throttleCheck
  dsimp only
  rw [if_neg h, if_neg h3]
  rfl

/-! ### Sensors -/

/-- A sensor's state is written. -/
def Chip.sensorSet (c : Chip) (n : Nat) (y : Sensor) : Chip := c.sup' (fun s => { s with sensors := s.sensors.put Sensor.init n y })

/-- The record of a sensor's new state. -/
def Chip.sensorMoved (c : Chip) (n : Nat) (old st : TempSt) (v : Val) : Chip :=
  if st = old then c else c.record 234 n [⟨"SENSOR", sensorName n⟩, fSym "STATE" st.name, ⟨"T", v⟩]

theorem Chip.sensor_sensorSet (c : Chip) (n : Nat) (y : Sensor) : (c.sensorSet n y).sensor n = y := Tbl.get_put_same Sensor.init y c.sup.sensors n
theorem Chip.sensor_sensorSet_ne (c : Chip) (n m : Nat) (y : Sensor) (h : m ≠ n) : (c.sensorSet n y).sensor m = c.sensor m :=
  Tbl.get_put_ne Sensor.init y c.sup.sensors h

theorem sensorMoved_leaves (c : Chip) (n : Nat) (old st : TempSt) (v : Val) : (c.sensorMoved n old st v).sup = c.sup ∧
    (c.sensorMoved n old st v).coll = c.coll ∧ (c.sensorMoved n old st v).clk = c.clk ∧ (c.sensorMoved n old st v).fis = c.fis ∧
    (c.sensorMoved n old st v).rep = c.rep := by
  unfold Chip.sensorMoved
  split
  · exact ⟨rfl, rfl, rfl, rfl, rfl⟩
  · exact ⟨rfl, rfl, rfl, rfl, rfl⟩

/-- The times since which a reading has been below the levels of return. -/
def Sensor.sinceNow (x : Sensor) (n : Nat) (v : Int) (now : Nat) : List (Option Nat) :=
  (List.range 3).map (fun i => if v ≤ returnLevel n i then some ((x.since.getD i none).getD now) else none)

/-- A sensor after a good reading. -/
def Sensor.readGood (x : Sensor) (n : Nat) (v : Int) (now : Nat) : Sensor :=
  { st := x.next n v (x.sinceNow n v now) now, temp := v, bad := false, readAt := now, since := x.sinceNow n v now }

/-- A sensor that does not answer. -/
def Sensor.readNone (x : Sensor) (now : Nat) : Sensor := { x with st := .warm, bad := true, readAt := now, since := [none, none, none] }

/-- The unit after a good reading, before the throttle follows. -/
def Chip.goodRead (c : Chip) (n : Nat) (x : Sensor) (v : Int) : Chip :=
  (c.sensorSet n (x.readGood n v c.clk.cycle)).sensorMoved n x.st (x.readGood n v c.clk.cycle).st (.int v)

/-- The unit after a reading that did not come. -/
def Chip.badRead (c : Chip) (n : Nat) (x : Sensor) : Chip :=
  ((c.sensorSet n (x.readNone c.clk.cycle)).sensorMoved n x.st .warm .none).raise 390 n none [⟨"SENSOR", sensorName n⟩, fSym "CAUSE" "SENSOR"]

theorem sensorRead_good {cm : CM} {n : Nat} {v : Int} (h : -55 ≤ v ∧ v ≤ 150) :
    CM.sensorRead cm n (some v) = CM.throttleCheck ((cm.1.advanceTo (1000000 + (cm.1.sensor n).readAt)).goodRead n (cm.1.sensor n) v, cm.2) := by
  unfold CM.sensorRead
  dsimp only
  rw [if_pos h]
  rfl

theorem sensorRead_none {cm : CM} {n : Nat} (h : (cm.1.sensor n).bad = false) :
    CM.sensorRead cm n none = CM.throttleCheck ((cm.1.advanceTo (1000000 + (cm.1.sensor n).readAt)).badRead n (cm.1.sensor n), cm.2) := by
  unfold CM.sensorRead
  dsimp only
  rw [h, if_neg (by decide)]
  rfl

theorem next_normal {x : Sensor} (h : x.st = .normal) (n : Nat) (v : Int) (since : List (Option Nat)) (now : Nat) :
    x.next n v since now = tempOf ((thresholds n).filter (fun t => decide (t ≤ v))).length := by
  unfold Sensor.next
  rw [h]
  simp [TempSt.code]

theorem thresholds_form (n : Nat) : ∃ a b d : Int, thresholds n = [a, b, d] ∧ a < b ∧ b < d ∧ -55 ≤ a := by
  unfold thresholds
  split
  · exact ⟨95, 105, 115, rfl, by decide, by decide, by decide⟩
  · split
    · exact ⟨85, 95, 105, rfl, by decide, by decide, by decide⟩
    · split
      · exact ⟨100, 110, 125, rfl, by decide, by decide, by decide⟩
      · exact ⟨75, 85, 95, rfl, by decide, by decide, by decide⟩

theorem reach_none {n : Nat} {v : Int} (h : v < (thresholds n).getD 0 0) : ((thresholds n).filter (fun t => decide (t ≤ v))).length = 0 := by
  obtain ⟨a, b, d, ht, hab, hbd, -⟩ := thresholds_form n
  rw [ht] at h ⊢
  have ha : v < a := h
  simp [show ¬ a ≤ v by omega, show ¬ b ≤ v by omega, show ¬ d ≤ v by omega]

theorem reach_over {n : Nat} {v : Int} (h1 : (thresholds n).getD 1 0 ≤ v) (h2 : v < (thresholds n).getD 2 0) :
    ((thresholds n).filter (fun t => decide (t ≤ v))).length = 2 ∧ -55 ≤ v := by
  obtain ⟨a, b, d, ht, hab, hbd, ha⟩ := thresholds_form n
  rw [ht] at h1 h2 ⊢
  have hb : b ≤ v := h1
  have hd : v < d := h2
  refine ⟨?_, by omega⟩
  simp [show a ≤ v by omega, hb, show ¬ d ≤ v by omega]

end Sys2Proof.Machine
end

section
/-!
PROOFS. The sensors' readings, the cooling of a stack and the governor's window, and with these the power events (R169–R198, R434–R441, R761–R781).
-/
namespace Sys2Proof.Machine

/-! ### A reading -/

theorem sensor_congr {a b : Chip} (h : a.sup = b.sup) (n : Nat) : a.sensor n = b.sensor n := by
  unfold Chip.sensor
  rw [h]

theorem goodRead_leaves (c : Chip) (n : Nat) (x : Sensor) (v : Int) : (c.goodRead n x v).sup = (c.sensorSet n (x.readGood n v c.clk.cycle)).sup ∧
    (c.goodRead n x v).coll = c.coll ∧ (c.goodRead n x v).clk = c.clk ∧ (c.goodRead n x v).fis = c.fis := by
  obtain ⟨h1, h2, h3, h4, -⟩ := sensorMoved_leaves (c.sensorSet n (x.readGood n v c.clk.cycle)) n x.st (x.readGood n v c.clk.cycle).st (.int v)
  exact ⟨h1, h2, h3, h4⟩

theorem badRead_leaves (c : Chip) (n : Nat) (x : Sensor) : (c.badRead n x).sup = (c.sensorSet n (x.readNone c.clk.cycle)).sup ∧
    Raised c.coll (c.badRead n x).coll 390 n ∧ (c.badRead n x).fis = c.fis := by
  obtain ⟨h1, h2, -, h4, -⟩ := sensorMoved_leaves (c.sensorSet n (x.readNone c.clk.cycle)) n x.st .warm .none
  unfold Chip.badRead
  generalize (c.sensorSet n (x.readNone c.clk.cycle)).sensorMoved n x.st .warm .none = d at *
  have hr := raised_raise d 390 n none [⟨"SENSOR", sensorName n⟩, fSym "CAUSE" "SENSOR"]
  exact ⟨h1, hr.of_eq h2, h4⟩

/-- What a unit is whose sensors but one are normal, that has no FI, and whose throttle stands at step 0. -/
structure Chip.Temperate (c : Chip) : Prop where
  fis : c.fis = []
  held : c.sup.limitHeld = false
  step : c.sup.step = 0
  normal : ∀ m, (c.sensor m).st = .normal

theorem temperate_advanceTo {c : Chip} (h : c.Temperate) (t : Nat) : (c.advanceTo t).Temperate := by
  have hs := c.advanceTo_sup t
  refine ⟨(c.advanceTo_fis t).trans h.fis, (congrArg Supply.limitHeld hs).trans h.held, (congrArg Supply.step hs).trans h.step, fun m => ?_⟩
  rw [sensor_congr hs]
  exact h.normal m

/-- A sensor's new state is what the throttle asks for. -/
theorem throttle_sensorSet {c u : Chip} {n : Nat} {y : Sensor} (h : c.Temperate) (hn : n < 22) (hu : u.sup = (c.sensorSet n y).sup) : u.throttle = y.st.code := by
  have hs : ∀ m, u.sensor m = (c.sensorSet n y).sensor m := fun m => sensor_congr hu m
  have hl : u.sup.limitHeld = false := (congrArg Supply.limitHeld hu).trans h.held
  rw [throttle_one hl hn (fun m hm => by rw [hs m, c.sensor_sensorSet_ne n m y hm]; exact h.normal m), hs n, c.sensor_sensorSet]

/-- A sensor stays normal: the throttle stands. -/
theorem readNormal_leaves {c : Chip} {n : Nat} {v : Int} {x : Sensor} (m : Mem) (h : c.Temperate) (hn : n < 22) (hx : x.st = .normal)
    (hv : v < (thresholds n).getD 0 0) : ∃ u, CM.throttleCheck (c.goodRead n x v, m) = (u, m) ∧ (u.sensor n).st = .normal ∧ (u.sensor n).temp = v ∧
      (u.sensor n).bad = false ∧ u.sup.step = 0 ∧ u.coll = c.coll ∧ u.clk = c.clk := by
  obtain ⟨h1, h2, h3, h4⟩ := goodRead_leaves c n x v
  have hst : (x.readGood n v c.clk.cycle).st = .normal := (next_normal hx n v _ _).trans (by rw [reach_none hv]; rfl)
  have ht := throttle_sensorSet h hn h1
  generalize c.goodRead n x v = d at *
  have hstep : d.sup.step = 0 := (congrArg Supply.step h1).trans h.step
  have he := throttleCheck_same (cm := (d, m)) (ht.trans (by rw [hst, hstep]; rfl))
  obtain ⟨k1, k2, k3, -⟩ := capCheck_idle (c := d) (h4.trans h.fis)
  have hsens : d.capCheck.sensor n = x.readGood n v c.clk.cycle := (sensor_congr (k1.trans h1) n).trans (c.sensor_sensorSet n _)
  refine ⟨_, he, ?_, ?_, ?_, (congrArg Supply.step k1).trans hstep, k2.trans h2, k3.trans h3⟩
  · rw [hsens]; exact hst
  · rw [hsens]; rfl
  · rw [hsens]; rfl

/-- What a change of the throttle below its last step leaves. -/
theorem throttleMoved_leaves {d : Chip} {k : Nat} (m : Mem) (hf : d.fis = []) (h0 : d.sup.step = 0) (ht : d.throttle = k) (hk : k ≠ 0) (h3 : k ≠ 3) :
    ∃ u, CM.throttleCheck (d, m) = (u, m) ∧ u.sup.sensors = d.sup.sensors ∧ u.sup.step = k ∧ u.sup.doms = d.sup.doms ∧
      (2 ≤ k → Raised d.coll u.coll 390 0) ∧ (k < 2 → u.coll = d.coll) := by
  have he := throttleCheck_moved (cm := (d, m)) (by rw [ht, h0]; exact hk) (by rw [ht]; exact h3)
  rw [ht, h0] at he
  have hr : ((d.throttled k).throttleRaised 0 k).sup = (d.throttled k).sup ∧ ((d.throttled k).throttleRaised 0 k).fis = d.fis ∧
      (2 ≤ k → Raised d.coll ((d.throttled k).throttleRaised 0 k).coll 390 0) ∧ (k < 2 → ((d.throttled k).throttleRaised 0 k).coll = d.coll) := by
    unfold Chip.throttleRaised
    split
    next hx =>
      have hr := raised_raise (d.throttled k) 390 0 none [fNat "STEP" k]
      exact ⟨rfl, rfl, fun _ => hr, fun hlt => absurd hx.2 (Nat.not_le.mpr hlt)⟩
    next hx => exact ⟨rfl, rfl, fun hge => absurd ⟨by decide, hge⟩ hx, fun _ => rfl⟩
  obtain ⟨r1, r2, r3, r4⟩ := hr
  have hdef : (d.throttled k).sup.sensors = d.sup.sensors ∧ (d.throttled k).sup.step = k ∧ (d.throttled k).sup.doms = d.sup.doms := ⟨rfl, rfl, rfl⟩
  obtain ⟨s1, s2, s3⟩ := hdef
  generalize d.throttled k = e at *
  obtain ⟨k1, k2, -⟩ := capCheck_idle (c := e.throttleRaised 0 k) (r2.trans hf)
  have hsup := k1.trans r1
  refine ⟨_, he, (congrArg Supply.sensors hsup).trans s1, (congrArg Supply.step hsup).trans s2, (congrArg Supply.doms hsup).trans s3, fun h => ?_, fun h => ?_⟩
  · rw [k2]; exact r3 h
  · rw [k2]; exact r4 h

theorem readOver_leaves {c : Chip} {n : Nat} {v : Int} {x : Sensor} (m : Mem) (h : c.Temperate) (hn : n < 22) (hx : x.st = .normal)
    (h1 : (thresholds n).getD 1 0 ≤ v) (h2 : v < (thresholds n).getD 2 0) : ∃ u, CM.throttleCheck (c.goodRead n x v, m) = (u, m) ∧
      (u.sensor n).st = .overTemp ∧ u.sup.step = 2 ∧ Raised c.coll u.coll 390 0 ∧ u.sup.doms = c.sup.doms := by
  obtain ⟨g1, g2, -, g4⟩ := goodRead_leaves c n x v
  have hst : (x.readGood n v c.clk.cycle).st = .overTemp := (next_normal hx n v _ _).trans (by rw [(reach_over h1 h2).1]; rfl)
  have ht := throttle_sensorSet h hn g1
  generalize c.goodRead n x v = d at *
  rw [hst] at ht
  obtain ⟨u, he, hs, hstep, hdoms, hr, -⟩ := throttleMoved_leaves m (g4.trans h.fis) ((congrArg Supply.step g1).trans h.step) ht (by decide) (by decide)
  have hsens : u.sensor n = x.readGood n v c.clk.cycle :=
    (congrArg (fun t : Tbl Sensor => t.get Sensor.init n) (hs.trans (congrArg Supply.sensors g1))).trans (c.sensor_sensorSet n _)
  exact ⟨u, he, by rw [hsens]; exact hst, hstep, (hr (by decide)).of_eq g2, hdoms.trans ((congrArg Supply.doms g1).trans rfl)⟩

theorem readNone_leaves {c : Chip} {n : Nat} {x : Sensor} (m : Mem) (h : c.Temperate) (hn : n < 22) : ∃ u, CM.throttleCheck (c.badRead n x, m) = (u, m) ∧
      (u.sensor n).st = .warm ∧ (u.sensor n).bad = true ∧ u.sup.step = 1 ∧ Raised c.coll u.coll 390 n := by
  obtain ⟨g1, g2, g3⟩ := badRead_leaves c n x
  have ht : (c.badRead n x).throttle = 1 := throttle_sensorSet h hn g1
  generalize c.badRead n x = d at *
  obtain ⟨u, he, hs, hstep, -, -, hcoll⟩ := throttleMoved_leaves m (g3.trans h.fis) ((congrArg Supply.step g1).trans h.step) ht (by decide) (by decide)
  have hsens : u.sensor n = x.readNone c.clk.cycle :=
    (congrArg (fun t : Tbl Sensor => t.get Sensor.init n) (hs.trans (congrArg Supply.sensors g1))).trans (c.sensor_sensorSet n _)
  refine ⟨u, he, by rw [hsens]; rfl, by rw [hsens]; rfl, hstep, ?_⟩
  rw [hcoll (by decide)]
  exact g2

theorem sensorRead_lines {s : State} {n : Fin 22} (hp : s.u.sup.powered = true) (h : s.u.Temperate) :
    (∀ v : Int, -55 ≤ v → v ≤ 150 → v < (thresholds n).getD 0 0 → CompletesChip (.sensorRead n (some v)) s (fun u => (u.sensor n).st = .normal ∧
      (u.sensor n).temp = v ∧ (u.sensor n).bad = false ∧ u.sup.step = 0 ∧ u.coll = s.u.coll ∧
      u.clk.cycle = max s.u.clk.cycle (1000000 + (s.u.sensor n).readAt))) ∧
    (∀ v : Int, v ≤ 150 → (thresholds n).getD 1 0 ≤ v → v < (thresholds n).getD 2 0 → CompletesChip (.sensorRead n (some v)) s (fun u =>
      (u.sensor n).st = .overTemp ∧ u.sup.step = 2 ∧ Raised s.u.coll u.coll 390 0 ∧ u.sup.doms = s.u.sup.doms)) ∧
    ((s.u.sensor n).bad = false → CompletesChip (.sensorRead n none) s (fun u => (u.sensor n).st = .warm ∧ (u.sensor n).bad = true ∧ u.sup.step = 1 ∧
      Raised s.u.coll u.coll 390 n)) := by
  have ha := temperate_advanceTo h (1000000 + (s.u.sensor n).readAt)
  have hcoll := s.u.advanceTo_coll (1000000 + (s.u.sensor n).readAt)
  have hsup := s.u.advanceTo_sup (1000000 + (s.u.sensor n).readAt)
  have hcyc := s.u.advanceTo_cycle (1000000 + (s.u.sensor n).readAt)
  have hgood := fun v hv => sensorRead_good (cm := (s.u, s.mem)) (n := n) (v := v) hv
  have hnone := sensorRead_none (cm := (s.u, s.mem)) (n := n)
  dsimp only at hgood hnone
  generalize s.u.advanceTo (1000000 + (s.u.sensor n).readAt) = d at *
  refine ⟨fun v hlo hhi hv => ?_, fun v hhi h1 h2 => ?_, fun hb => ?_⟩
  · obtain ⟨u, he, h1, h2, h3, h4, h5, h6⟩ := readNormal_leaves s.mem ha n.isLt (h.normal n) hv
    exact completesChip_onCM (exec_sensorRead s n (some v)) hp ((hgood v ⟨hlo, hhi⟩).trans he)
      ⟨h1, h2, h3, h4, h5.trans hcoll, (congrArg Clk.cycle h6).trans hcyc⟩
  · obtain ⟨u, he, k1, k2, k3, k4⟩ := readOver_leaves s.mem ha n.isLt (h.normal n) h1 h2
    exact completesChip_onCM (exec_sensorRead s n (some v)) hp ((hgood v ⟨(reach_over h1 h2).2, hhi⟩).trans he)
      ⟨k1, k2, k3.of_eq hcoll, k4.trans (congrArg Supply.doms hsup)⟩
  · obtain ⟨u, he, k1, k2, k3, k4⟩ := readNone_leaves (x := s.u.sensor n) s.mem ha n.isLt
    exact completesChip_onCM (exec_sensorRead s n none) hp ((hnone hb).trans he) ⟨k1, k2, k3, k4.of_eq hcoll⟩

/-! ### The cooling of a stack -/

/-- A stack's sensor returns to normal, with its record. -/
def Chip.cooled (c : Chip) (n : Nat) (x : Sensor) : Chip :=
  (c.sensorSet n { x with st := .normal }).record 234 n [⟨"SENSOR", sensorName n⟩, fSym "STATE" "NORMAL", ⟨"T", .int x.temp⟩]

theorem stackCool_eq {cm : CM} {i t : Nat} {rest : List (Option Nat)} (hw : (cm.1.sensor (16 + i)).st = .warm) (hs : (cm.1.sensor (16 + i)).since = some t :: rest) :
    CM.stackCool cm i = CM.throttleCheck ((cm.1.advanceTo (10000000000 + t)).cooled (16 + i) (cm.1.sensor (16 + i)), cm.2) := by
  unfold CM.stackCool Chip.cooled Chip.sensorSet
  dsimp only
  rw [hw, hs, List.getD_cons_zero]

theorem capacity_cool {c : Chip} (h : ∀ m, (c.sensor m).st = .normal) : c.capacity = 16000 * (64 - c.rep.retired.length) := by
  have hc : c.stackHot = false := by
    unfold Chip.stackHot
    refine List.any_eq_false.mpr (fun i _ => ?_)
    rw [h]
    decide
  unfold Chip.capacity
  rw [hc, if_neg (by decide)]
  omega

theorem throttle_normal {c : Chip} (hl : c.sup.limitHeld = false) (h : ∀ m, (c.sensor m).st = .normal) : c.throttle = 0 := by
  rw [throttle_one (n := 0) hl (by decide) (fun m _ => h m), h]
  rfl

/-- The throttle of a unit with every sensor normal falls to step 0. -/
theorem throttleFalls_leaves {d : Chip} (m : Mem) (hf : d.fis = []) (h1 : d.sup.step = 1) (hl : d.sup.limitHeld = false) (h : ∀ k, (d.sensor k).st = .normal) :
    ∃ u, CM.throttleCheck (d, m) = (u, m) ∧ (∀ k, (u.sensor k).st = .normal) ∧ u.sup.step = 0 ∧ u.mctl.cap = 16000 * (64 - d.rep.retired.length) ∧ u.clk = d.clk := by
  have ht := throttle_normal hl h
  have he := throttleCheck_moved (cm := (d, m)) (by rw [ht, h1]; decide) (by rw [ht]; decide)
  rw [ht, h1] at he
  have hraised : (d.throttled 0).throttleRaised 1 0 = d.throttled 0 := by
    unfold Chip.throttleRaised
    exact if_neg (by decide)
  rw [hraised] at he
  have hdef : (d.throttled 0).fis = d.fis ∧ (d.throttled 0).sup.step = 0 ∧ (d.throttled 0).rep = d.rep ∧ (d.throttled 0).clk = d.clk ∧
      ∀ k, (d.throttled 0).sensor k = d.sensor k := ⟨rfl, rfl, rfl, rfl, fun _ => rfl⟩
  obtain ⟨e1, e2, e3, e4, e5⟩ := hdef
  generalize d.throttled 0 = e at *
  have hn : ∀ k, (e.sensor k).st = .normal := fun k => by rw [e5]; exact h k
  obtain ⟨k1, -, k3, -, k5⟩ := capCheck_idle (c := e) (e1.trans hf)
  refine ⟨_, he, fun k => ?_, (congrArg Supply.step k1).trans e2, k5.trans ?_, k3.trans e4⟩
  · rw [sensor_congr k1]
    exact hn k
  · rw [capacity_cool hn, e3]

theorem stackCool_line {s : State} {i : Fin 4} {t : Nat} {rest : List (Option Nat)} (hp : s.u.sup.powered = true) (hf : s.u.fis = [])
    (hl : s.u.sup.limitHeld = false) (hn : ∀ m, m ≠ 16 + i.val → (s.u.sensor m).st = .normal) (h1 : s.u.sup.step = 1)
    (hw : (s.u.sensor (16 + i.val)).st = .warm) (hs : (s.u.sensor (16 + i.val)).since = some t :: rest) :
    CompletesChip (.stackCool i) s (fun u => (u.sensor (16 + i.val)).st = .normal ∧ u.sup.step = 0 ∧ u.mctl.cap = 16000 * (64 - s.u.rep.retired.length) ∧
      u.clk.cycle = max s.u.clk.cycle (10000000000 + t)) := by
  have heq := stackCool_eq (cm := (s.u, s.mem)) hw hs
  have hsup := s.u.advanceTo_sup (10000000000 + t)
  have hfis := s.u.advanceTo_fis (10000000000 + t)
  have hrep := s.u.advanceTo_rep (10000000000 + t)
  have hcyc := s.u.advanceTo_cycle (10000000000 + t)
  dsimp only at heq
  generalize s.u.advanceTo (10000000000 + t) = d at *
  have hdef : (d.cooled (16 + i) (s.u.sensor (16 + i))).sup = (d.sensorSet (16 + i) { s.u.sensor (16 + i) with st := .normal }).sup ∧
      (d.cooled (16 + i) (s.u.sensor (16 + i))).fis = d.fis ∧ (d.cooled (16 + i) (s.u.sensor (16 + i))).rep = d.rep ∧
      (d.cooled (16 + i) (s.u.sensor (16 + i))).clk = d.clk := ⟨rfl, rfl, rfl, rfl⟩
  obtain ⟨e1, e2, e3, e4⟩ := hdef
  generalize d.cooled (16 + i) (s.u.sensor (16 + i)) = e at *
  have hnormal : ∀ m, (e.sensor m).st = .normal := fun m => by
    rw [sensor_congr e1]
    by_cases hm : m = 16 + i.val
    · rw [hm, d.sensor_sensorSet]
    · rw [d.sensor_sensorSet_ne _ _ _ hm, sensor_congr hsup]
      exact hn m hm
  obtain ⟨u, he, k1, k2, k3, k4⟩ := throttleFalls_leaves s.mem (e2.trans (hfis.trans hf)) ((congrArg Supply.step e1).trans ((congrArg Supply.step hsup).trans h1))
    ((congrArg Supply.limitHeld e1).trans ((congrArg Supply.limitHeld hsup).trans hl)) hnormal
  refine completesChip_onCM (exec_stackCool s i) hp (heq.trans he) ⟨k1 _, k2, k3.trans ?_, (congrArg Clk.cycle (k4.trans e4)).trans hcyc⟩
  rw [e3, hrep]

/-! ### The governor's window -/

/-- A unit with one FI, one copy of it, that runs in class 0. -/
structure Chip.OneRuns (c : Chip) (fi : Nat) (x : Fi) : Prop where
  fis : c.fis = [(fi, x)]
  copies : x.copies.length = 1
  acts : x.st.acts = true
  cls : (c.fiCfg fi).cls = 0

theorem runningOf_one {c : Chip} {fi : Nat} {x : Fi} (h : c.OneRuns fi x) : c.runningOf 0 = [fi] ∧ ∀ k, k ≠ 0 → c.runningOf k = [] := by
  unfold Chip.runningOf
  rw [h.fis]
  refine ⟨?_, fun k hk => ?_⟩
  · simp [h.acts, h.cls]
  · simp [h.acts, h.cls, Ne.symm hk]

theorem booked_one {c : Chip} {fi : Nat} {x : Fi} (h : c.OneRuns fi x) : c.booked 0 = (c.fiCfg fi).booked ∧ ∀ k, k ≠ 0 → c.booked k = 0 := by
  obtain ⟨h0, hk⟩ := runningOf_one h
  unfold Chip.booked
  refine ⟨?_, fun k hne => ?_⟩
  · rw [h0]
    exact Nat.zero_add _
  · rw [hk k hne]
    rfl

theorem allCopies_one {c : Chip} {fi : Nat} {x : Fi} (hf : c.fis = [(fi, x)]) (hc : x.copies.length = 1) : c.allCopies = [(fi, 0)] := by
  unfold Chip.allCopies
  rw [hf, List.flatMap_cons, List.flatMap_nil, hc]
  rfl

theorem guaranteed_one {c : Chip} {fi : Nat} {x : Fi} (h : c.OneRuns fi x) : c.guaranteed fi = (c.fiCfg fi).bw := by
  have hx : c.fi fi = x := by
    unfold Chip.fi
    rw [h.fis]
    exact if_pos rfl
  unfold Chip.guaranteed
  rw [hx, h.acts]
  dsimp only
  rw [if_neg (by decide), if_pos (.inl h.cls)]

/-- The governor's entry of a copy. -/
def Chip.govOf (c : Chip) (fi k : Nat) : Gov := c.mctl.gov.get Gov.init (2 * fi + k)

theorem govOf_modGov (c : Chip) (fi k : Nat) (g : Gov → Gov) : (c.modGov fi k g).govOf fi k = g (c.govOf fi k) := Tbl.get_put_same Gov.init _ c.mctl.gov _

/-- What setting the rates of that unit leaves. -/
theorem govern_one {c : Chip} {fi : Nat} {x : Fi} (h : c.OneRuns fi x) (hb : (c.fiCfg fi).booked ≤ c.rateCap) :
    (c.govern).govOf fi 0 = { c.govOf fi 0 with rate := (c.fiCfg fi).bw } ∧ c.govern.mctl.p3Zero = false ∧ c.govern.fis = c.fis ∧ c.govern.clk = c.clk := by
  obtain ⟨h0, hk⟩ := booked_one h
  have hs := shedding_fits (c := c) (by rw [h0, hk 1 (by decide), hk 2 (by decide), hk 3 (by decide)]; exact hb)
  obtain ⟨hkept, hmctl⟩ := servedNoted_kept c
  obtain ⟨-, -, hclk, hfis, hcfg, -⟩ := hkept.parts
  have hgov : c.servedNoted.govOf fi 0 = c.govOf fi 0 := (congrArg (fun t : MemCtl => t.gov.get Gov.init (2 * fi + 0)) hmctl).trans rfl
  have hp : c.servedNoted.mctl.p3Zero = false := congrArg MemCtl.p3Zero hmctl
  have hfi : c.servedNoted.fiCfg fi = c.fiCfg fi := congrArg (fun t : Cfg => t.fis.get FiCfg.init fi) hcfg
  rw [govern_served hs]
  generalize c.servedNoted = d at *
  have hd : d.OneRuns fi x := ⟨hfis.trans h.fis, h.copies, h.acts, by rw [hfi]; exact h.cls⟩
  rw [allCopies_one hd.fis hd.copies, List.foldl_cons, List.foldl_nil]
  have hg := govOf_modGov d fi 0 (fun g => { g with rate := d.guaranteed fi })
  rw [guaranteed_one hd, hfi, hgov] at hg
  have hr : d.copyRated (fi, 0) = d.modGov fi 0 (fun g => { g with rate := (c.fiCfg fi).bw }) := by
    unfold Chip.copyRated
    dsimp only
    rw [guaranteed_one hd, hfi]
  rw [hr]
  exact ⟨hg, hp, hfis, hclk⟩

/-- A copy's credit after a window. -/
def Gov.credited (g : Gov) : Gov := { g with credit := min (g.credit + windowCredit g.rate) (max 8192 (16 * windowCredit g.rate) : Nat) }

/-- The window of one copy ends. -/
theorem refill_one {c : Chip} {fi : Nat} {x : Fi} (hf : c.fis = [(fi, x)]) (hc : x.copies.length = 1) (at' : Nat) :
    (({ c with mctl := { c.mctl with refillAt := at' } } : Chip).allCopies.foldl (fun c p => c.modGov p.1 p.2 Gov.credited)
      { c with mctl := { c.mctl with refillAt := at' } }) = ({ c with mctl := { c.mctl with refillAt := at' } } : Chip).modGov fi 0 Gov.credited := by
  rw [allCopies_one (c := { c with mctl := { c.mctl with refillAt := at' } }) hf hc]
  rfl

theorem rateCap_congr {a b : Chip} (hs : a.sup = b.sup) (hr : a.rep = b.rep) (hf : a.fis = b.fis) (hc : a.cfg = b.cfg) : a.rateCap = b.rateCap := by
  unfold Chip.rateCap Chip.capacity Chip.stackHot Chip.sensor Chip.booked Chip.runningOf Chip.fiCfg
  rw [hs, hr, hf, hc]

theorem governorRefill_eq (c : Chip) : c.governorRefill =
    ({ (c.advanceTo (1024 + c.mctl.refillAt)).govern with mctl := { (c.advanceTo (1024 + c.mctl.refillAt)).govern.mctl with
        refillAt := (c.advanceTo (1024 + c.mctl.refillAt)).govern.clk.cycle } } : Chip).allCopies.foldl (fun c p => c.modGov p.1 p.2 Gov.credited)
      { (c.advanceTo (1024 + c.mctl.refillAt)).govern with mctl := { (c.advanceTo (1024 + c.mctl.refillAt)).govern.mctl with
        refillAt := (c.advanceTo (1024 + c.mctl.refillAt)).govern.clk.cycle } } := by
  unfold Chip.governorRefill Gov.credited
  rfl

theorem governorRefill_line {s : State} {fi : Fin 1024} {x : Fi} {k : Copy} (hp : s.u.sup.powered = true) (hf : s.u.fis = [(fi.val, x)]) (hk : x.copies = [k])
    (ha : x.st.acts = true) (hc : (s.u.fiCfg fi).cls = 0) (hb : (s.u.fiCfg fi).booked ≤ s.u.rateCap) : CompletesChip .governorRefill s (fun u =>
      let g := u.mctl.gov.get Gov.init (2 * fi.val)
      let w : Nat := windowCredit (s.u.fiCfg fi).bw
      g.rate = (s.u.fiCfg fi).bw ∧ g.credit = min ((s.u.mctl.gov.get Gov.init (2 * fi.val)).credit + w) (max 8192 (16 * w) : Nat) ∧
      u.mctl.p3Zero = false ∧ u.fis = s.u.fis ∧ u.clk.cycle = max s.u.clk.cycle (1024 + s.u.mctl.refillAt)) := by
  refine completes_onChip (exec_governorRefill s) hp ?_
  rw [governorRefill_eq]
  have hsup := s.u.advanceTo_sup (1024 + s.u.mctl.refillAt)
  have hrep := s.u.advanceTo_rep (1024 + s.u.mctl.refillAt)
  have hfis := s.u.advanceTo_fis (1024 + s.u.mctl.refillAt)
  have hcfg := s.u.advanceTo_cfg (1024 + s.u.mctl.refillAt)
  have hcyc := s.u.advanceTo_cycle (1024 + s.u.mctl.refillAt)
  have hmctl := s.u.advanceTo_mctl (1024 + s.u.mctl.refillAt)
  generalize s.u.advanceTo (1024 + s.u.mctl.refillAt) = d at *
  have hfi : d.fiCfg fi = s.u.fiCfg fi := congrArg (fun t : Cfg => t.fis.get FiCfg.init fi) hcfg
  have hlen : x.copies.length = 1 := by rw [hk]; rfl
  have hd : d.OneRuns fi x := ⟨hfis.trans hf, hlen, ha, by rw [hfi]; exact hc⟩
  obtain ⟨h1, h2, h3, h4⟩ := govern_one hd (by rw [hfi, rateCap_congr hsup hrep hfis hcfg]; exact hb)
  have hgov : d.govOf fi 0 = s.u.mctl.gov.get Gov.init (2 * fi.val) := congrArg (fun t : MemCtl => t.gov.get Gov.init (2 * fi.val)) hmctl
  generalize d.govern = e at *
  rw [refill_one (h3.trans hd.fis) hlen]
  have hcred := govOf_modGov { e with mctl := { e.mctl with refillAt := e.clk.cycle } } fi 0 Gov.credited
  have he : ({ e with mctl := { e.mctl with refillAt := e.clk.cycle } } : Chip).govOf fi 0 = e.govOf fi 0 := rfl
  rw [he, h1, hfi, hgov] at hcred
  have hg : (({ e with mctl := { e.mctl with refillAt := e.clk.cycle } } : Chip).modGov fi 0 Gov.credited).mctl.gov.get Gov.init (2 * fi.val) =
      Gov.credited { s.u.mctl.gov.get Gov.init (2 * fi.val) with rate := (s.u.fiCfg fi).bw } := hcred
  dsimp only
  rw [hg]
  exact ⟨rfl, rfl, h2, h3.trans hfis, (congrArg Clk.cycle h4).trans hcyc⟩

/-- Settles O59: each event of the supply, the starts, the domains and the sensors by the equation of its case. -/
theorem powerEvents : Obligations.PowerEvents := by
  unfold Obligations.PowerEvents
  exact ⟨fun s f => powerOn_line, fun s f hp hc hr => coldRestart_line hp hc hr, fun s => warmRestart_line, fun s => startEdge_lines, fun s => supplyWarning_line,
    fun s hp hw => ⟨shutdown_line hp hw, fun ms hs => supplyRestored_line hp hw hs⟩, fun s ms => supplyDip_line,
    fun s n hp => ⟨domainRise_line hp, domainFall_line hp, domainFault_line hp, fun t => domainRetry_line hp⟩,
    fun s n hp hf hl h0 hn => sensorRead_lines hp ⟨hf, hl, h0, hn⟩, fun s i t rest => stackCool_line, fun s fi x k => governorRefill_line⟩

end Sys2Proof.Machine
end

section
/-!
PROOFS. The scrub, the patrol and the clearing of an FI's poisoned lines (R425–R427).
-/
namespace Sys2Proof.Machine

/-! ### The ends of the passes -/

/-- The unit at the end of a scrub, of a patrol. -/
def Chip.scrubbed (c : Chip) : Chip :=
  { c with mctl := { c.mctl with scrubAt := c.clk.cycle }, unit := { c.unit with regs := { c.unit.regs with sramPasses := sat32 c.unit.regs.sramPasses } } }
def Chip.patrolled (c : Chip) : Chip := { c with mctl := { c.mctl with patrolAt := c.clk.cycle } }

theorem sramScrub_eq (c : Chip) (m : Mem) (l : List Finding) :
    CM.sramScrub (c, m) l = l.foldl CM.finding ((c.advanceTo (30000000000 + c.mctl.scrubAt)).scrubbed, m) := by
  unfold CM.sramScrub Chip.scrubbed
  rfl

theorem dramPatrol_eq (c : Chip) (m : Mem) (l : List Finding) :
    CM.dramPatrol (c, m) l = l.foldl CM.finding ((c.advanceTo (c.mctl.patrolAt + day)).patrolled, m) := by
  unfold CM.dramPatrol Chip.patrolled
  rfl

theorem dramPatrol_quiet (c : Chip) (m : Mem) : CM.dramPatrol (c, m) [] = ((c.advanceTo (c.mctl.patrolAt + day)).patrolled, m) := by
  rw [dramPatrol_eq, List.foldl_nil]

/-- What the end of a scrub leaves of the unit before it. -/
theorem scrubbed_leaves {c d : Chip} (ha : ClockAlone c d) (hm : d.mctl = c.mctl) (hu : d.unit = c.unit) :
    ClockAlone { c with mctl := { c.mctl with scrubAt := d.scrubbed.clk.cycle }, unit := d.scrubbed.unit } d.scrubbed ∧
    d.scrubbed.unit = { c.unit with regs := { c.unit.regs with sramPasses := sat32 c.unit.regs.sramPasses } } := by
  rw [← hm, ← hu]
  refine ⟨?_, rfl⟩
  unfold ClockAlone at *
  rw [← ha]
  rfl

theorem patrolled_leaves {c d : Chip} (ha : ClockAlone c d) (hm : d.mctl = c.mctl) :
    ClockAlone { c with mctl := { c.mctl with patrolAt := d.patrolled.clk.cycle } } d.patrolled := by
  rw [← hm]
  unfold ClockAlone at *
  rw [← ha]
  rfl

theorem scrub_quiet {s : State} (hp : s.u.sup.powered = true) :
    CompletesChip (.sramScrub []) s (fun u => ClockAlone { s.u with mctl := { s.u.mctl with scrubAt := u.clk.cycle }, unit := u.unit } u ∧
      u.unit = { s.u.unit with regs := { s.u.unit.regs with sramPasses := sat32 s.u.unit.regs.sramPasses } } ∧ u.coll = s.u.coll ∧
      u.clk.cycle = max s.u.clk.cycle (30000000000 + s.u.mctl.scrubAt)) := by
  refine completesChip_onCM (exec_sramScrub s []) hp (sramScrub_eq s.u s.mem []) ?_
  have ha := clockAlone_advanceTo s.u (30000000000 + s.u.mctl.scrubAt)
  have hm := s.u.advanceTo_mctl (30000000000 + s.u.mctl.scrubAt)
  have hu := s.u.advanceTo_unit (30000000000 + s.u.mctl.scrubAt)
  have hcoll := s.u.advanceTo_coll (30000000000 + s.u.mctl.scrubAt)
  have hcyc := s.u.advanceTo_cycle (30000000000 + s.u.mctl.scrubAt)
  generalize s.u.advanceTo (30000000000 + s.u.mctl.scrubAt) = d at *
  obtain ⟨h1, h2⟩ := scrubbed_leaves ha hm hu
  exact ⟨h1, h2, hcoll, hcyc⟩

theorem patrolled_due (c : Chip) (t : Nat) : ClockAlone { c with mctl := { c.mctl with patrolAt := (c.advanceTo t).patrolled.clk.cycle } } (c.advanceTo t).patrolled ∧
    (c.advanceTo t).patrolled.coll = c.coll ∧ (c.advanceTo t).patrolled.clk.cycle = max c.clk.cycle t := by
  have ha := clockAlone_advanceTo c t
  have hm := c.advanceTo_mctl t
  have hcoll := c.advanceTo_coll t
  have hcyc := c.advanceTo_cycle t
  generalize c.advanceTo t = d at *
  exact ⟨patrolled_leaves ha hm, hcoll, hcyc⟩

theorem patrol_quiet {s : State} (hp : s.u.sup.powered = true) :
    CompletesChip (.dramPatrol []) s (fun u => ClockAlone { s.u with mctl := { s.u.mctl with patrolAt := u.clk.cycle } } u ∧ u.coll = s.u.coll ∧
      u.clk.cycle = max s.u.clk.cycle (s.u.mctl.patrolAt + day)) := by
  have h := patrolled_due s.u (s.u.mctl.patrolAt + day)
  exact completesChip_onCM (exec_dramPatrol s []) hp (dramPatrol_quiet s.u s.mem) h

/-! ### Findings -/

/-- A corrected error of a half is counted. -/
def Chip.halfCounted (c : Chip) (h : Nat) : Chip := { c with mctl := { c.mctl with halfCorr := c.mctl.halfCorr.put 0 h (sat32 (c.mctl.halfCorr.get 0 h)) } }

/-- A row's error is noted with its time. -/
def Chip.rowNoted (c : Chip) (r : Nat) : Chip := c.rep' (fun x => { x with rowErr := x.rowErr.set r c.clk.cycle })

theorem rowError_first {c : Chip} {r : Nat} (h : c.rep.rowErr.find r = none) : c.rowError false r = c.rowNoted r := by
  unfold Chip.rowError
  simp only [Bool.false_eq_true, if_false, h]
  rfl

/-- A corrected word, the first error of its row. -/
def Chip.wordCorrected (c : Chip) (w r : Nat) : Chip :=
  ((c.halfCounted (wordHalf w)).rowNoted r).raise 64 0 none [fSym "HALF" (if wordHalf w = 0 then "A" else "B")]

theorem finding_word {c : Chip} {w r : Nat} (m : Mem) (h : c.rep.rowErr.find r = none) : CM.finding (c, m) (.word w r) = (c.wordCorrected w r, m) := by
  have hr := rowError_first (c := c.halfCounted (wordHalf w)) h
  unfold Chip.wordCorrected
  rw [← hr]
  rfl

theorem wordCorrected_leaves (c : Chip) (w r : Nat) : Raised c.coll (c.wordCorrected w r).coll 64 0 ∧
    (c.wordCorrected w r).rep.rowErr.find r = some (c.wordCorrected w r).clk.cycle ∧
    (c.wordCorrected w r).mctl.halfCorr.get 0 (wordHalf w) = sat32 (c.mctl.halfCorr.get 0 (wordHalf w)) := by
  have hr := raised_raise ((c.halfCounted (wordHalf w)).rowNoted r) 64 0 none [fSym "HALF" (if wordHalf w = 0 then "A" else "B")]
  exact ⟨hr, Tbl.find_set_same _ _ _, Tbl.get_put_same _ _ _ _⟩

theorem scrub_word {s : State} {w r : Nat} (hp : s.u.sup.powered = true) (h : s.u.rep.rowErr.find r = none) :
    CompletesChip (.sramScrub [.word w r]) s (fun u => Raised s.u.coll u.coll 64 0 ∧ u.rep.rowErr.find r = some u.clk.cycle ∧
      u.mctl.halfCorr.get 0 (wordHalf w) = sat32 (s.u.mctl.halfCorr.get 0 (wordHalf w))) := by
  have he := sramScrub_eq s.u s.mem [.word w r]
  have hrep := s.u.advanceTo_rep (30000000000 + s.u.mctl.scrubAt)
  have hm := s.u.advanceTo_mctl (30000000000 + s.u.mctl.scrubAt)
  have hcoll := s.u.advanceTo_coll (30000000000 + s.u.mctl.scrubAt)
  generalize s.u.advanceTo (30000000000 + s.u.mctl.scrubAt) = d at *
  have hf : CM.finding (d.scrubbed, s.mem) (.word w r) = (d.scrubbed.wordCorrected w r, s.mem) :=
    finding_word s.mem ((congrArg (fun x : Repair => x.rowErr.find r) hrep).trans h)
  obtain ⟨h1, h2, h3⟩ := wordCorrected_leaves d.scrubbed w r
  have hh : d.scrubbed.mctl.halfCorr = d.mctl.halfCorr := rfl
  rw [hh, hm] at h3
  exact completesChip_onCM (exec_sramScrub s _) hp (he.trans hf) ⟨h1.of_eq hcoll, h2, h3⟩

/-- The last raise of a list of raises. -/
theorem raise_inbound (c : Chip) (src inst : Nat) (fi : Option Nat) (d : Fields) : (src, inst) ∈ (c.raise src inst fi d).coll.inbound.map (fun r => (r.src, r.inst)) :=
  List.mem_map.mpr ⟨_, List.mem_append_right _ List.mem_cons_self, rfl⟩

theorem scrub_wordBad {s : State} {w r : Nat} (hp : s.u.sup.powered = true) : Completes (.sramScrub [.wordBad w r]) s (fun t =>
    t.mem = s.mem.spoisonWord w 65 ∧ t.pending = s.pending ∧ (65, w) ∈ t.u.coll.inbound.map (fun r => (r.src, r.inst))) := by
  refine completes_onCM (exec_sramScrub s [.wordBad w r]) hp ?_
  rw [sramScrub_eq]
  dsimp only
  generalize (s.u.advanceTo (30000000000 + s.u.mctl.scrubAt)).scrubbed = d
  have hr := raise_inbound (d.suspect false r) 65 w (s.mem.wordFi w) [⟨"ADDR", .hex 8 (8 * w)⟩]
  exact ⟨rfl, rfl, hr⟩

theorem patrol_lineBad {s : State} {l r : Nat} (hp : s.u.sup.powered = true) : Completes (.dramPatrol [.lineBad l r]) s (fun t =>
    t.mem = { s.mem with dpoison := s.mem.dpoison.set l 67 } ∧ t.pending = s.pending ∧ (67, l) ∈ t.u.coll.inbound.map (fun r => (r.src, r.inst))) := by
  refine completes_onCM (exec_dramPatrol s [.lineBad l r]) hp ?_
  rw [dramPatrol_eq]
  dsimp only
  generalize (s.u.advanceTo (s.u.mctl.patrolAt + day)).patrolled = d
  have hr := raise_inbound ((d.suspect true r).groupError (groupOf (64 * l))) 67 l
    (match s.mem.pgranules.get .free (l / 16384) with | .priv f => some f | .free => none) [⟨"LINE", .hex 9 (64 * l)⟩]
  exact ⟨rfl, rfl, hr⟩

/-! ### Clearing poison -/

/-- A line rewritten with zero data. -/
def Mem.zeroLine (m : Mem) (l : Nat) : Mem := (m.dwrite l ((List.range 8).map (fun i => (i, 0)))).cleanLine l

theorem zeroLine_dpoison (m : Mem) (l : Nat) : (m.zeroLine l).dpoison = m.dpoison.del l := by unfold Mem.zeroLine Mem.cleanLine Mem.dwrite; dsimp only
theorem zeroLine_dbad (m : Mem) (l : Nat) : (m.zeroLine l).dbad = m.dbad := by unfold Mem.zeroLine Mem.cleanLine Mem.dwrite; dsimp only
theorem zeroLine_sram (m : Mem) (l : Nat) : (m.zeroLine l).sram = m.sram := by unfold Mem.zeroLine Mem.cleanLine Mem.dwrite; dsimp only
theorem mem_dclean_cleanLine {m : Mem} (l : Nat) {x : Nat} (h : x ∈ m.dclean) : x ∈ (m.cleanLine l).dclean := by
  unfold Mem.cleanLine
  dsimp only
  split
  · exact mem_insNat.2 (.inr h)
  · exact h

theorem dwrite_dclean (m : Mem) (l : Nat) (ws : Tbl Word) : (m.dwrite l ws).dclean = m.dclean := rfl

theorem mem_dclean_zeroLine {m : Mem} (l : Nat) {x : Nat} (h : x ∈ m.dclean) : x ∈ (m.zeroLine l).dclean := by
  unfold Mem.zeroLine
  refine mem_dclean_cleanLine l ?_
  rw [dwrite_dclean]
  exact h

theorem linePoison_zeroLine (m : Mem) (l : Nat) : (m.zeroLine l).linePoison l = none := Mem.linePoison_cleanLine _ l

theorem linePoison_zeroLine_kept {m : Mem} {k l : Nat} (h : m.linePoison k = none) : (m.zeroLine l).linePoison k = none := by
  by_cases hk : k = l
  · rw [hk]
    exact linePoison_zeroLine m l
  · have hp : (m.zeroLine l).dpoison.find k = m.dpoison.find k := by rw [zeroLine_dpoison, Tbl.find_del_ne _ hk]
    have hclean := fun x => mem_dclean_zeroLine (m := m) l (x := x)
    unfold Mem.linePoison at *
    rw [hp, zeroLine_dbad]
    split at h
    next => exact absurd h (Option.some_ne_none _)
    next =>
      refine if_neg (fun hx => ?_)
      rw [Bool.and_eq_true, Bool.not_eq_true'] at hx
      have hkd : m.dclean.contains k = true := by
        by_contra hc
        rw [Bool.not_eq_true] at hc
        rw [hx.1, hc] at h
        exact absurd h (by decide)
      have hmem := hclean k (List.contains_iff_mem.mp hkd)
      exact absurd (List.contains_iff_mem.mpr hmem) (by rw [hx.2]; decide)

/-- Rewritten lines are sound, whatever the others are. -/
theorem linePoison_zeroLines (l : List Nat) (m : Mem) : (∀ k, m.linePoison k = none ∨ k ∈ l → (l.foldl Mem.zeroLine m).linePoison k = none) ∧
    (l.foldl Mem.zeroLine m).sram = m.sram := by
  induction l generalizing m with
  | nil => exact ⟨fun k hk => hk.resolve_right List.not_mem_nil, rfl⟩
  | cons x l ih =>
    obtain ⟨h1, h2⟩ := ih (m.zeroLine x)
    rw [List.foldl_cons]
    refine ⟨fun k hk => h1 k ?_, h2.trans (zeroLine_sram m x)⟩
    rcases hk with hk | hk
    · exact .inl (linePoison_zeroLine_kept hk)
    · rcases List.mem_cons.mp hk with rfl | hk
      · exact .inl (linePoison_zeroLine m k)
      · exact .inr hk

theorem poisonClear_line {s : State} {fi : Fin 1024} {ls : List Nat} (hp : s.u.sup.powered = true) (hm : s.u.mctl.marked.find fi = some ls) :
    Completes (.poisonClearDone fi) s (fun t => (∀ l, l ∈ ls → t.mem.linePoison l = none) ∧ t.u.mctl.marked.find fi = none ∧ t.pending = s.pending ∧
      t.mem.sram = s.mem.sram ∧ t.u.fab = s.u.fab ∧ Recorded s.u.cairn t.u.cairn 178 fi
        [fFi fi, fNat "LINES" (ls.filter (fun l => (s.mem.linePoison l).isSome)).length]) := by
  have he : CM.poisonClearDone (s.u, s.mem) fi =
      (({ s.u with mctl := { s.u.mctl with marked := s.u.mctl.marked.del fi } } : Chip).record 178 fi
        [fFi fi, fNat "LINES" (ls.filter (fun l => (s.mem.linePoison l).isSome)).length],
        (ls.filter (fun l => (s.mem.linePoison l).isSome)).foldl Mem.zeroLine s.mem) := by
    unfold CM.poisonClearDone
    dsimp only
    rw [hm]
    rfl
  obtain ⟨h1, h2⟩ := linePoison_zeroLines (ls.filter (fun l => (s.mem.linePoison l).isSome)) s.mem
  have hrec := recorded_record ({ s.u with mctl := { s.u.mctl with marked := s.u.mctl.marked.del fi } } : Chip) 178 fi
    [fFi fi, fNat "LINES" (ls.filter (fun l => (s.mem.linePoison l).isSome)).length]
  refine completes_onCM (exec_poisonClearDone s fi) hp ?_
  rw [he]
  refine ⟨fun l hl => h1 l ?_, Tbl.find_del_same _ _, rfl, h2, rfl, hrec⟩
  cases hx : s.mem.linePoison l with
  | none => exact .inl rfl
  | some v => exact .inr (List.mem_filter.mpr ⟨hl, by rw [hx]; rfl⟩)

end Sys2Proof.Machine
end

section
/-!
PROOFS. The traverse: the start of a step, its phases, the switch of a slot, the test and the failed comparison (R742–R751).
-/
namespace Sys2Proof.Machine

/-! ### What requests to a domain and the wear of the flash keep -/

theorem domLatch_alone (c : Chip) (n : Nat) (v : Option Bool) : c.SupplyAlone (c.domLatch n v) := by
  unfold Chip.domLatch
  split
  · rfl
  · rfl

theorem domLeave_engine (c : Chip) (b : Bool) : c.domLeave 23 b = c := by
  unfold Chip.domLeave
  exact if_neg (by decide)

theorem domRequest_engine (c : Chip) (on : Bool) (cause : String) : c.SupplyAlone (c.domRequest 23 on cause) := by
  have hmove : ∀ x k, c.SupplyAlone ((c.domLatch 23 none).domMove 23 x k) := fun x k => (domLatch_alone c 23 none).trans (domMove_leaves _ 23 x k).1
  unfold Chip.domRequest Chip.domRising Chip.domFalling
  dsimp only
  split
  · rfl
  · split
    · split
      · exact hmove _ _
      · exact domLatch_alone c 23 _
    · split
      · rw [domLeave_engine]
        exact hmove _ _
      · exact domLatch_alone c 23 _
    · exact domLatch_alone c 23 _
    · exact domLatch_alone c 23 _
    · exact domLatch_alone c 23 _
    · exact domLatch_alone c 23 _
    · exact domLatch_alone c 23 _
    · exact domLatch_alone c 23 _

/-- What records, the wear of the flash and a margin's fault keep of the repair. -/
structure Chip.TilesKept (c d : Chip) : Prop where
  tiles : d.rep.tiles = c.rep.tiles
  soft : d.rep.soft = c.rep.soft
  fab : d.fab = c.fab
  fis : d.fis = c.fis

theorem Chip.TilesKept.refl (c : Chip) : c.TilesKept c := ⟨rfl, rfl, rfl, rfl⟩
theorem Chip.TilesKept.trans {a b d : Chip} (h1 : a.TilesKept b) (h2 : b.TilesKept d) : a.TilesKept d :=
  ⟨h2.tiles.trans h1.tiles, h2.soft.trans h1.soft, h2.fab.trans h1.fab, h2.fis.trans h1.fis⟩

theorem Chip.SupplyAlone.tilesKept {c d : Chip} (h : c.SupplyAlone d) : c.TilesKept d :=
  ⟨(congrArg (fun x : Chip => x.rep.tiles) h :), (congrArg (fun x : Chip => x.rep.soft) h :), (congrArg Chip.fab h :), (congrArg Chip.fis h :)⟩

theorem Chip.TilesKept.tileRep {c d : Chip} (h : c.TilesKept d) (t : Nat) : d.tileRep t = c.tileRep t := by
  unfold Chip.tileRep
  rw [h.tiles]

theorem tilesKept_wear (c : Chip) (area sub : Nat) : c.TilesKept (c.wear area sub) := by
  unfold Chip.wear
  dsimp only
  split
  · exact ⟨rfl, rfl, rfl, rfl⟩
  · split
    · exact ⟨rfl, rfl, rfl, rfl⟩
    · exact ⟨rfl, rfl, rfl, rfl⟩

theorem tilesKept_marginCheck (c : Chip) (cl : Nat) : c.TilesKept (c.marginCheck cl) := by
  unfold Chip.marginCheck
  split
  · exact ⟨rfl, rfl, rfl, rfl⟩
  · exact .refl c

/-! ### The test of a tile -/

/-- A tile written down as spliced. -/
def Chip.spliceNoted (c : Chip) (t : Nat) (cause : SpliceCause) : Chip :=
  (c.modTileRep t (fun x => { x with st := .spliced })).rep' (fun r => { r with soft := r.soft.set t (cause, c.now.1, c.now.2) })

theorem splice_eq {c : Chip} {t : Nat} {cause : SpliceCause} (h : (c.tileRep t).st ≠ .spliced) : c.splice t cause =
    (((c.spliceNoted t cause).record 203 t [fNat "TILE" t, fSym "KIND" "SOFT", fSym "CAUSE" cause.name]).wear 4 0).marginCheck (clusterOf t) := by
  unfold Chip.splice
  exact if_neg h

theorem splice_leaves {c : Chip} {t : Nat} {cause : SpliceCause} (h : (c.tileRep t).st ≠ .spliced) :
    (c.splice t cause).tileRep t = { c.tileRep t with st := .spliced } ∧ (c.splice t cause).rep.soft.find t = some (cause, c.now.1, c.now.2) ∧
    (c.splice t cause).fab = c.fab ∧ (c.splice t cause).fis = c.fis := by
  have hk : (c.spliceNoted t cause).TilesKept (c.splice t cause) := by
    rw [splice_eq h]
    have hrec : (c.spliceNoted t cause).TilesKept ((c.spliceNoted t cause).record 203 t [fNat "TILE" t, fSym "KIND" "SOFT", fSym "CAUSE" cause.name]) :=
      ⟨rfl, rfl, rfl, rfl⟩
    exact (hrec.trans (tilesKept_wear _ 4 0)).trans (tilesKept_marginCheck _ _)
  have ht : (c.spliceNoted t cause).tileRep t = { c.tileRep t with st := .spliced } := tileRep_modTileRep c t (fun x => { x with st := .spliced })
  have hs : (c.spliceNoted t cause).rep.soft.find t = some (cause, c.now.1, c.now.2) := Tbl.find_set_same _ _ _
  exact ⟨(hk.tileRep t).trans ht, (congrArg (fun x : Tbl (SpliceCause × Nat × Nat) => x.find t) hk.soft).trans hs, hk.fab, hk.fis⟩

/-- A tile's test noted, and its mark taken away. -/
def Chip.testNoted (c : Chip) (t : Nat) (r : Option Nat) : Chip :=
  ((c.modTileRep t (fun y => { y with last := some c.now, passed := r.isSome, st := .spare })).record 202 t
    [fNat "TILE" t, fSym "RESULT" (testName r), fNat "ROWS" (r.getD 0)]).fab' (fun g => { g with marks := g.marks.filter (· != t) })

theorem testNoted_leaves (c : Chip) (t : Nat) (r : Option Nat) : (c.testNoted t r).tileRep t = { c.tileRep t with last := some c.now, passed := r.isSome, st := .spare } ∧
    t ∉ (c.testNoted t r).fab.marks ∧ (c.testNoted t r).fis = c.fis := by
  have h := tileRep_modTileRep c t (fun y => { y with last := some c.now, passed := r.isSome, st := .spare })
  refine ⟨h, fun hm => ?_, rfl⟩
  have hm : t ∈ c.fab.marks.filter (· != t) := hm
  simpa using (List.mem_filter.1 hm).2

/-- The rows that a test replaced are counted. -/
def Chip.rowsReplaced (c : Chip) (t n : Nat) : Chip := c.rep' (fun x => { x with rows := x.rows.put 0 t (x.rows.get 0 t + n) })

theorem tileTested_some (c : Chip) (t n : Nat) (cause : SpliceCause) : c.tileTested t (some n) cause = (c.testNoted t (some n)).rowsReplaced t n := rfl
theorem tileTested_none (c : Chip) (t : Nat) (cause : SpliceCause) : c.tileTested t none cause = (c.testNoted t none).splice t cause := rfl

/-- What a tile's test leaves, whatever its outcome. -/
theorem tileTested_leaves (c : Chip) (t : Nat) (r : Option Nat) (cause : SpliceCause) : ((c.tileTested t r cause).tileRep t).passed = r.isSome ∧
    (r ≠ none → ((c.tileTested t r cause).tileRep t).st = .spare) ∧
    (r = none → ((c.tileTested t r cause).tileRep t).st = .spliced ∧ ∃ w, (c.tileTested t r cause).rep.soft.find t = some w ∧ w.1 = cause) ∧
    t ∉ (c.tileTested t r cause).fab.marks ∧ (c.tileTested t r cause).fis = c.fis := by
  obtain ⟨h1, h2, h3⟩ := testNoted_leaves c t r
  cases r with
  | none =>
    rw [tileTested_none]
    obtain ⟨k1, k2, k3, k4⟩ := splice_leaves (cause := cause) (show ((c.testNoted t none).tileRep t).st ≠ .spliced by rw [h1]; exact TileSt.noConfusion)
    rw [k1, k2, k3, k4, h1]
    exact ⟨rfl, fun h => absurd rfl h, fun _ => ⟨rfl, _, rfl, rfl⟩, h2, h3⟩
  | some n =>
    have ht : (c.tileTested t (some n) cause).tileRep t = (c.testNoted t (some n)).tileRep t := rfl
    rw [ht, h1]
    exact ⟨rfl, fun _ => rfl, fun h => absurd h (Option.some_ne_none _), h2, h3⟩

/-- What the end of a step leaves: no step in its cluster, the tiles as they were. -/
theorem stepEnd_leaves (c : Chip) (cl : Nat) (done : Bool) (cause : Option String) :
    (c.stepEnd cl done cause).step' cl = none ∧ c.TilesKept (c.stepEnd cl done cause) := by
  unfold Chip.stepEnd
  extract_lets sched c0 c1
  have hs : c1.step' cl = none := Tbl.find_del_same _ _
  have hk : c.TilesKept c1 := ⟨rfl, rfl, rfl, rfl⟩
  clear_value c1
  split
  · have ha := domRequest_engine c1 false "TRAVERSE"
    have hr : (c1.domRequest 23 false "TRAVERSE").rep = c1.rep := (congrArg Chip.rep ha :)
    exact ⟨(congrArg (fun r : Repair => r.steps.find cl) hr).trans hs, hk.trans ha.tilesKept⟩
  · exact ⟨hs, hk⟩

theorem testDone_eq {c : Chip} {cl : Nat} {x : Step} {r : Option Nat} (hx : c.step' cl = some x) (hp : x.phase = .test) (ha : x.accused = none)
    (hd : c.domOn 23 = true) :
    c.testDone cl r = ((c.advanceTo (max x.since (c.dom 23).since + 20000000)).tileTested x.cand r .traverse).stepEnd cl true none := by
  unfold Chip.testDone
  rw [hx]
  dsimp only
  rw [if_neg (by rw [hp, hd]; decide), ha]

/-- What the end of a step's test leaves. -/
theorem stepTested_leaves (c : Chip) (cl t : Nat) (r : Option Nat) : ((c.tileTested t r .traverse).stepEnd cl true none).step' cl = none ∧
    (((c.tileTested t r .traverse).stepEnd cl true none).tileRep t).passed = r.isSome ∧
    (r ≠ none → (((c.tileTested t r .traverse).stepEnd cl true none).tileRep t).st = .spare) ∧
    (r = none → (((c.tileTested t r .traverse).stepEnd cl true none).tileRep t).st = .spliced ∧
      ∃ w, ((c.tileTested t r .traverse).stepEnd cl true none).rep.soft.find t = some w ∧ w.1 = .traverse) ∧
    t ∉ ((c.tileTested t r .traverse).stepEnd cl true none).fab.marks ∧ ((c.tileTested t r .traverse).stepEnd cl true none).fis = c.fis := by
  obtain ⟨h1, h2, h3, h4, h5⟩ := tileTested_leaves c t r .traverse
  generalize c.tileTested t r .traverse = d at *
  obtain ⟨k1, k2⟩ := stepEnd_leaves d cl true none
  rw [k2.tileRep t, k2.soft, k2.fab, k2.fis]
  exact ⟨k1, h1, h2, h3, h4, h5⟩

theorem tileTestDone_line {s : State} {cl : Fin 8} {x : Step} (hp : s.u.sup.powered = true) (hx : s.u.step' cl = some x) (r : Option Nat) (ht : x.phase = .test)
    (ha : x.accused = none) (hd : s.u.domOn 23 = true) : CompletesChip (.tileTestDone cl r) s (fun u =>
      u.step' cl = none ∧ (u.tileRep x.cand).passed = r.isSome ∧ (r ≠ none → (u.tileRep x.cand).st = .spare) ∧
      (r = none → (u.tileRep x.cand).st = .spliced ∧ ∃ w, u.rep.soft.find x.cand = some w ∧ w.1 = .traverse) ∧ x.cand ∉ u.fab.marks ∧ u.fis = s.u.fis) := by
  refine completes_onChip (exec_tileTestDone s cl r) hp ?_
  rw [testDone_eq hx ht ha hd]
  have hfis := s.u.advanceTo_fis (max x.since (s.u.dom 23).since + 20000000)
  generalize s.u.advanceTo (max x.since (s.u.dom 23).since + 20000000) = d at *
  obtain ⟨h1, h2, h3, h4, h5, h6⟩ := stepTested_leaves d cl x.cand r
  exact ⟨h1, h2, h3, h4, h5, h6.trans hfis⟩

/-! ### The start of a step -/

theorem candidateTile_congr {a b : Chip} (hf : a.fab = b.fab) (ht : a.rep.tiles = b.rep.tiles) (cl : Nat) : a.candidateTile cl = b.candidateTile cl := by
  unfold Chip.candidateTile Chip.oldestTest Chip.tileRep
  rw [hf, ht]

theorem slotsOn_congr {a b : Chip} (h : a.fis = b.fis) (t : Nat) : a.slotsOn t = b.slotsOn t := by
  unfold Chip.slotsOn
  rw [h]

/-- A cluster's turn of the traverse. -/
def Chip.turnTaken (c : Chip) (cl : Nat) : Chip := c.rep' (fun r => { r with next := (cl + 1) % 8, from? := c.clk.cycle })

theorem traverseStep_eq {c : Chip} (ht : c.cfg.traverse = true) (hs : c.rep.steps = []) (hh : c.stepsHeld = false) (hd : c.domOn (c.rep.next % 8) = true) :
    c.traverseStep = ((c.advanceTo (c.rep.from? + c.cfg.interval)).turnTaken (c.rep.next % 8)).stepStart (c.rep.next % 8) true := by
  have hstep : c.step' (c.rep.next % 8) = none := by
    unfold Chip.step'
    rw [hs]
    rfl
  have hf : (List.range 8).find? (fun i => c.domOn ((c.rep.next + i) % 8) && (c.step' ((c.rep.next + i) % 8)).isNone) = some 0 := by
    rw [show List.range 8 = 0 :: [1, 2, 3, 4, 5, 6, 7] from rfl]
    exact List.find?_cons_of_pos (by rw [Nat.add_zero, hd, hstep]; rfl)
  unfold Chip.traverseStep
  rw [if_neg (by rw [ht, hs, hh]; decide), hf]
  rfl

/-- What a step that begins with a test leaves. -/
theorem stepTests_leaves (c : Chip) (cl t : Nat) : ((c.stepTests cl t true).domRequest 23 true "TRAVERSE").rep.next = c.rep.next ∧
    ((((c.stepTests cl t true).domRequest 23 true "TRAVERSE").tileRep t).st = .testing) ∧
    (∃ x, ((c.stepTests cl t true).domRequest 23 true "TRAVERSE").step' cl = some x ∧ x.cand = t ∧ x.target = none ∧ x.phase = .test ∧ x.scheduled = true ∧
      x.accused = none) ∧
    ((c.stepTests cl t true).domRequest 23 true "TRAVERSE").clk = c.clk ∧ ((c.stepTests cl t true).domRequest 23 true "TRAVERSE").fis = c.fis ∧
    ((c.stepTests cl t true).domRequest 23 true "TRAVERSE").fab = c.fab := by
  have h1 : (c.stepTests cl t true).tileRep t = { c.tileRep t with st := .testing } :=
    tileRep_modTileRep (c.record 200 cl [fNat "CLUSTER" cl, fNat "TILE" t, fOpt "TO" none]) t (fun x => { x with st := .testing })
  have h2 : (c.stepTests cl t true).step' cl =
      some { cand := t, target := none, phase := .test, since := c.clk.cycle, copied := 0, lastSwitch := 0, slots := [], scheduled := true, accused := none } :=
    Tbl.find_set_same _ _ _
  have h3 : (c.stepTests cl t true).rep.next = c.rep.next := rfl
  have h4 : (c.stepTests cl t true).clk = c.clk ∧ (c.stepTests cl t true).fis = c.fis ∧ (c.stepTests cl t true).fab = c.fab := ⟨rfl, rfl, rfl⟩
  obtain ⟨h4, h5, h6⟩ := h4
  generalize c.stepTests cl t true = d at *
  have ha := domRequest_engine d true "TRAVERSE"
  obtain ⟨-, kfab, kfis, kclk⟩ := ha.parts
  have hr : (d.domRequest 23 true "TRAVERSE").rep = d.rep := domRequest_rep d 23 "TRAVERSE"
  refine ⟨(congrArg Repair.next hr).trans h3, ?_, ⟨_, (congrArg (fun r : Repair => r.steps.find cl) hr).trans h2, rfl, rfl, rfl, rfl, rfl⟩, kclk.trans h4,
    kfis.trans h5, kfab.trans h6⟩
  rw [ha.tilesKept.tileRep t, h1]

theorem traverseStep_line {s : State} {t : Nat} (hp : s.u.sup.powered = true) (ht : s.u.cfg.traverse = true) (hs : s.u.rep.steps = [])
    (hh : s.u.stepsHeld = false) (hd : s.u.domOn (s.u.rep.next % 8) = true) (hc : s.u.candidateTile (s.u.rep.next % 8) = some t) (hslots : s.u.slotsOn t = []) :
    CompletesChip .traverseStep s (fun u => u.rep.next = (s.u.rep.next % 8 + 1) % 8 ∧ (u.tileRep t).st = .testing ∧
      (∃ x, u.step' (s.u.rep.next % 8) = some x ∧ x.cand = t ∧ x.target = none ∧ x.phase = .test ∧ x.scheduled = true ∧ x.accused = none) ∧
      u.clk.cycle = max s.u.clk.cycle (s.u.rep.from? + s.u.cfg.interval) ∧ u.fis = s.u.fis ∧ u.fab = s.u.fab) := by
  refine completes_onChip (exec_traverseStep s) hp ?_
  rw [traverseStep_eq ht hs hh hd]
  have hfis := s.u.advanceTo_fis (s.u.rep.from? + s.u.cfg.interval)
  have hfab := s.u.advanceTo_fab (s.u.rep.from? + s.u.cfg.interval)
  have hrep := s.u.advanceTo_rep (s.u.rep.from? + s.u.cfg.interval)
  have hcyc := s.u.advanceTo_cycle (s.u.rep.from? + s.u.cfg.interval)
  generalize s.u.advanceTo (s.u.rep.from? + s.u.cfg.interval) = d at *
  have hdef : (d.turnTaken (s.u.rep.next % 8)).fis = d.fis ∧ (d.turnTaken (s.u.rep.next % 8)).fab = d.fab ∧
      (d.turnTaken (s.u.rep.next % 8)).rep.tiles = d.rep.tiles ∧ (d.turnTaken (s.u.rep.next % 8)).clk = d.clk ∧
      (d.turnTaken (s.u.rep.next % 8)).rep.next = (s.u.rep.next % 8 + 1) % 8 := ⟨rfl, rfl, rfl, rfl, rfl⟩
  obtain ⟨e1, e2, e3, e4, e5⟩ := hdef
  generalize d.turnTaken (s.u.rep.next % 8) = e at *
  have hcand := (candidateTile_congr (e2.trans hfab) (e3.trans (congrArg Repair.tiles hrep)) (s.u.rep.next % 8)).trans hc
  have hfree := (slotsOn_congr (e1.trans hfis) t).trans hslots
  rw [stepStart_empty hcand hfree]
  obtain ⟨k1, k2, k3, k4, k5, k6⟩ := stepTests_leaves e (s.u.rep.next % 8) t
  exact ⟨k1.trans e5, k2, k3, (congrArg Clk.cycle (k4.trans e4)).trans hcyc, k5.trans (e1.trans hfis), k6.trans (e2.trans hfab)⟩

/-! ### The switch of a slot -/

theorem copy_modCopy {c : Chip} {fi k : Nat} (g : Copy → Copy) (h : k < c.nCopies fi) : (c.modCopy fi k g).copy fi k = g (c.copy fi k) := by
  unfold Chip.nCopies at h
  unfold Chip.copy Chip.modCopy
  rw [Chip.fi_modFi, List.getElem?_modify_eq, List.getElem?_eq_getElem h]
  rfl

/-- The tile map of a copy whose slot moves. -/
def Copy.remapped (p : Copy) (fr dest : Nat) : Copy := { p with map := p.map.map (fun t => if t = fr then dest else t) }

theorem moveSlot_eq (c : Chip) (fi k fr dest : Nat) : ∃ d : Chip, c.moveSlot fi k fr dest =
    (d.modCopy fi k (fun p => p.remapped fr dest)).record 201 fi [fFi fi, fSym "COPY" (copyName k), fNat "FROM" fr, fNat "TO" dest] ∧
    d.fis = c.fis ∧ d.clk = c.clk := by
  unfold Chip.moveSlot Copy.remapped
  extract_lets x mine n ents held filt c1 c2 mv ln c3 c4
  have h1 : c1.fis = c.fis ∧ c1.clk = c.clk := ⟨c.modTile_fis fr _, c.modTile_clk fr _⟩
  have h2 : c2.fis = c1.fis ∧ c2.clk = c1.clk := ⟨c1.modTile_fis dest _, c1.modTile_clk dest _⟩
  have h3 : c3.fis = c2.fis ∧ c3.clk = c2.clk := ⟨c2.fab_prime_fis _, c2.fab_prime_clk _⟩
  have h4 : c4.fis = c3.fis ∧ c4.clk = c3.clk := ⟨c3.modDeep_fis fi _, c3.modDeep_clk fi _⟩
  exact ⟨c4, rfl, h4.1.trans (h3.1.trans (h2.1.trans h1.1)), h4.2.trans (h3.2.trans (h2.2.trans h1.2))⟩

theorem moveSlot_leaves {c : Chip} {fi k : Nat} (fr dest : Nat) (h : k < c.nCopies fi) :
    (c.moveSlot fi k fr dest).copy fi k = (c.copy fi k).remapped fr dest ∧ (c.moveSlot fi k fr dest).clk = c.clk := by
  obtain ⟨d, he, hf, hc⟩ := moveSlot_eq c fi k fr dest
  have hn : d.nCopies fi = c.nCopies fi := congrArg (fun t : Tbl Fi => (t.get Fi.init fi).copies.length) hf
  have hcopy : d.copy fi k = c.copy fi k := congrArg (fun t : Tbl Fi => ((t.get Fi.init fi).copies[k]?).getD Copy.init) hf
  have hm := copy_modCopy (c := d) (fun p => p.remapped fr dest) (by rw [hn]; exact h)
  rw [he]
  rw [hcopy] at hm
  exact ⟨hm, hc⟩

/-- A step with a slot switched. -/
def Step.switchedAt (x : Step) (fi k now : Nat) : Step :=
  { x with lastSwitch := now, slots := x.slots.map (fun y => if y.fi = fi ∧ y.copy = k then { y with switched := true } else y) }

theorem slotSwitch_eq {c : Chip} {cl fi k dest : Nat} {x : Step} {m : SlotMove} (hx : c.step' cl = some x) (hp : x.phase = .shadow) (ht : x.target = some dest)
    (hm : m ∈ x.slots) (hf : m.fi = fi) (hk : m.copy = k) (hs : m.switched = false) :
    ∃ d : Chip, d.fis = c.fis ∧ c.slotSwitch cl fi k = (d.moveSlot fi k x.cand dest).setStep cl (x.switchedAt fi k d.clk.cycle) := by
  have hfind : ∃ y, x.slots.find? (fun s => s.fi == fi && s.copy == k && !s.switched) = some y := by
    refine Option.isSome_iff_exists.mp (List.find?_isSome.mpr ⟨m, hm, ?_⟩)
    simp [hf, hk, hs]
  obtain ⟨y, hy⟩ := hfind
  unfold Chip.slotSwitch
  rw [hx]
  dsimp only
  rw [ht, hy]
  dsimp only
  rw [if_neg (fun h => h hp)]
  split
  · refine ⟨c, rfl, ?_⟩
    unfold Step.switchedAt
    rw [ht]
  · have hfis := c.advanceTo_fis (2000000000 + x.copied)
    generalize c.advanceTo (2000000000 + x.copied) = d at *
    refine ⟨d, hfis, ?_⟩
    unfold Step.switchedAt
    rw [ht]

theorem slotSwitch_line {s : State} {cl : Fin 8} {x : Step} (hp : s.u.sup.powered = true) (hx : s.u.step' cl = some x) (fi : Fin 1024) (k : Fin 2) (dest : Nat)
    (m : SlotMove) (hph : x.phase = .shadow) (ht : x.target = some dest) (hm : m ∈ x.slots) (hf : m.fi = fi.val) (hk : m.copy = k.val)
    (hs : m.switched = false) (hn : k.val < s.u.nCopies fi) : CompletesChip (.slotSwitch cl fi k) s (fun u =>
        (u.copy fi k).map = (s.u.copy fi k).map.map (fun t => if t = x.cand then dest else t) ∧
        (∃ y, u.step' cl = some y ∧ y.phase = .shadow ∧ y.lastSwitch = u.clk.cycle ∧
          y.slots = x.slots.map (fun z => if z.fi = fi.val ∧ z.copy = k.val then { z with switched := true } else z))) := by
  refine completes_onChip (exec_slotSwitch s cl fi k) hp ?_
  obtain ⟨d, hfis, he⟩ := slotSwitch_eq hx hph ht hm hf hk hs
  have hn' : k.val < d.nCopies fi := by
    rw [show d.nCopies fi = s.u.nCopies fi from congrArg (fun t : Tbl Fi => (t.get Fi.init fi).copies.length) hfis]
    exact hn
  have hcopy : d.copy fi k = s.u.copy fi k := congrArg (fun t : Tbl Fi => ((t.get Fi.init fi).copies[k.val]?).getD Copy.init) hfis
  obtain ⟨h1, h2⟩ := moveSlot_leaves x.cand dest hn'
  rw [he]
  generalize d.moveSlot fi k x.cand dest = e at *
  have hstep : (e.setStep cl (x.switchedAt fi k d.clk.cycle)).step' cl = some (x.switchedAt fi k d.clk.cycle) := Tbl.find_set_same _ _ _
  have hc : (e.setStep cl (x.switchedAt fi k d.clk.cycle)).copy fi k = e.copy fi k := rfl
  rw [hstep, hc, h1, hcopy]
  exact ⟨rfl, _, rfl, hph, (congrArg Clk.cycle h2).symm, rfl⟩

/-! ### A failed comparison -/

/-- A mismatch found: the fault, the candidate marked, the target tested at once. -/
def Chip.compareFailed (c : Chip) (cl : Nat) (x : Step) (dest : Nat) : Chip :=
  (((c.raise 419 cl none [fNat "CLUSTER" cl, fNat "TILE" x.cand, fNat "TO" dest]).markTile x.cand).modTileRep dest
    (fun y => { y with st := .testing, suspect := true })).setStep cl
      { x with cand := dest, target := none, slots := [], phase := .test, since := c.clk.cycle, accused := some x.cand }

theorem compareFail_eq {c : Chip} {cl dest : Nat} {x : Step} (hx : c.step' cl = some x) (hp : x.phase = .shadow) (ht : x.target = some dest)
    (hs : ∀ m, m ∈ x.slots → m.switched = false) : c.compareFail cl = c.compareFailed cl x dest := by
  have hany : x.slots.any SlotMove.switched = false := List.any_eq_false.mpr (fun m hm => by rw [hs m hm]; decide)
  unfold Chip.compareFail
  rw [hx]
  dsimp only
  rw [ht]
  dsimp only
  rw [if_neg (by rw [hp, hany]; decide)]
  rfl

theorem mem_marks_markTile (c : Chip) (t : Nat) : t ∈ (c.markTile t).fab.marks := by
  have hm : (c.markTile t).fab.marks = if c.fab.marks.contains t then c.fab.marks else c.fab.marks ++ [t] := rfl
  rw [hm]
  split
  next h => exact List.contains_iff_mem.mp h
  next => exact List.mem_append_right _ List.mem_cons_self

theorem compareFail_line {s : State} {cl : Fin 8} {x : Step} (hp : s.u.sup.powered = true) (hx : s.u.step' cl = some x) (dest : Nat) (hph : x.phase = .shadow)
    (ht : x.target = some dest) (hs : ∀ m, m ∈ x.slots → m.switched = false) : CompletesChip (.traverseCompareFail cl) s (fun u =>
      Raised s.u.coll u.coll 419 cl ∧ x.cand ∈ u.fab.marks ∧ (u.tileRep dest).st = .testing ∧ (u.tileRep dest).suspect = true ∧ u.fis = s.u.fis ∧
      ∃ y, u.step' cl = some y ∧ y.cand = dest ∧ y.phase = .test ∧ y.accused = some x.cand) := by
  refine completes_onChip (exec_traverseCompareFail s cl) hp ?_
  rw [compareFail_eq hx hph ht hs]
  have hr := raised_raise s.u 419 cl none [fNat "CLUSTER" cl, fNat "TILE" x.cand, fNat "TO" dest]
  have hm := mem_marks_markTile (s.u.raise 419 cl none [fNat "CLUSTER" cl, fNat "TILE" x.cand, fNat "TO" dest]) x.cand
  have htile : (s.u.compareFailed cl x dest).tileRep dest = _ :=
    tileRep_modTileRep ((s.u.raise 419 cl none [fNat "CLUSTER" cl, fNat "TILE" x.cand, fNat "TO" dest]).markTile x.cand) dest
      (fun y => { y with st := .testing, suspect := true })
  have hstep : (s.u.compareFailed cl x dest).step' cl =
      some { x with cand := dest, target := none, slots := [], phase := .test, since := s.u.clk.cycle, accused := some x.cand } := Tbl.find_set_same _ _ _
  rw [htile, hstep]
  exact ⟨hr, hm, rfl, rfl, rfl, _, rfl, rfl, rfl, rfl⟩

/-! ### The ends of the phases -/

/-- A step enters its next phase in the present cycle. -/
def Chip.phased (c : Chip) (cl : Nat) (x : Step) (p : Phase) : Chip := c.setStep cl { x with phase := p, since := c.clk.cycle }

/-- What the entry to a phase at a due cycle leaves. -/
theorem phased_due (c : Chip) (t cl : Nat) (x : Step) (p : Phase) : ((c.advanceTo t).phased cl x p).clk.cycle = max c.clk.cycle t ∧
    ((c.advanceTo t).phased cl x p).step' cl = some { x with phase := p, since := ((c.advanceTo t).phased cl x p).clk.cycle } ∧
    ((c.advanceTo t).phased cl x p).fab = c.fab ∧ ((c.advanceTo t).phased cl x p).fis = c.fis := by
  have hcyc := c.advanceTo_cycle t
  have hfab := c.advanceTo_fab t
  have hfis := c.advanceTo_fis t
  generalize c.advanceTo t = d at *
  exact ⟨hcyc, Tbl.find_set_same _ _ _, hfab, hfis⟩

theorem phaseEnd_prepare {c : Chip} {cl : Nat} {x : Step} (hx : c.step' cl = some x) (hp : x.phase = .prepare) :
    c.phaseEnd cl = (c.advanceTo (x.since + ((c.tile x.cand).pages.length + 3) / 4 * 363)).phased cl x .copy := by
  unfold Chip.phaseEnd
  rw [hx]
  dsimp only
  rw [hp]
  rfl

/-- The slots of a step with the periods after which each switches. -/
def Step.shadowed (x : Step) (c : Chip) : Step :=
  { x with phase := .shadow, since := c.clk.cycle, copied := c.clk.cycle,
           slots := x.slots.map (fun s => { s with periods := (c.fi s.fi).periods + ((c.fi s.fi).opens.filter Period.started).length + 8 }) }

theorem phaseEnd_copy {c : Chip} {cl : Nat} {x : Step} (hx : c.step' cl = some x) (hp : x.phase = .copy) :
    c.phaseEnd cl = (c.advanceTo (x.since + 512)).setStep cl (x.shadowed (c.advanceTo (x.since + 512))) := by
  unfold Chip.phaseEnd
  rw [hx]
  dsimp only
  rw [hp]
  rfl

theorem phaseEnd_shadow {c : Chip} {cl : Nat} {x : Step} (hx : c.step' cl = some x) (hp : x.phase = .shadow) (hs : ∀ m, m ∈ x.slots → m.switched = true) :
    c.phaseEnd cl = (c.advanceTo (10000 + x.lastSwitch)).phased cl x .vacate := by
  have hall : x.slots.all SlotMove.switched = true := List.all_eq_true.mpr hs
  unfold Chip.phaseEnd
  rw [hx]
  dsimp only
  rw [hp]
  dsimp only
  rw [if_pos hall]
  rfl

/-- The candidate of a step is under test. -/
def Chip.candTesting (c : Chip) (t : Nat) : Chip := c.modTileRep t (fun y => { y with st := .testing })

theorem phaseEnd_vacate {c : Chip} {cl : Nat} {x : Step} (hx : c.step' cl = some x) (hp : x.phase = .vacate) (hs : (c.tileRep x.cand).suspect = false) :
    c.phaseEnd cl = ((c.advanceTo (x.since + 256)).candTesting x.cand).phased cl x .test := by
  have hs' : ((c.advanceTo (x.since + 256)).tileRep x.cand).suspect = false := by
    rw [show (c.advanceTo (x.since + 256)).tileRep x.cand = c.tileRep x.cand from
      congrArg (fun r : Repair => r.tiles.get (TileRep.initOf x.cand) x.cand) (c.advanceTo_rep (x.since + 256))]
    exact hs
  unfold Chip.phaseEnd
  rw [hx]
  dsimp only
  rw [hp]
  dsimp only
  rw [hs', if_neg (by decide)]
  rfl

theorem phaseEnd_lines {s : State} {cl : Fin 8} {x : Step} (hp : s.u.sup.powered = true) (hx : s.u.step' cl = some x) :
    (x.phase = .prepare → CompletesChip (.traversePhaseEnd cl) s (fun u => u.clk.cycle = max s.u.clk.cycle (x.since + ((s.u.tile x.cand).pages.length + 3) / 4 * 363) ∧
      u.step' cl = some { x with phase := .copy, since := u.clk.cycle } ∧ u.fab = s.u.fab ∧ u.fis = s.u.fis)) ∧
    (x.phase = .copy → CompletesChip (.traversePhaseEnd cl) s (fun u => u.clk.cycle = max s.u.clk.cycle (x.since + 512) ∧
      (∃ y, u.step' cl = some y ∧ y.phase = .shadow ∧ y.copied = u.clk.cycle ∧ y.target = x.target ∧ y.cand = x.cand) ∧ u.fab = s.u.fab ∧ u.fis = s.u.fis)) ∧
    (x.phase = .shadow → (∀ m, m ∈ x.slots → m.switched = true) → CompletesChip (.traversePhaseEnd cl) s (fun u =>
      u.clk.cycle = max s.u.clk.cycle (10000 + x.lastSwitch) ∧ u.step' cl = some { x with phase := .vacate, since := u.clk.cycle } ∧ u.fis = s.u.fis)) ∧
    (x.phase = .vacate → (s.u.tileRep x.cand).suspect = false → CompletesChip (.traversePhaseEnd cl) s (fun u =>
      u.clk.cycle = max s.u.clk.cycle (x.since + 256) ∧ u.step' cl = some { x with phase := .test, since := u.clk.cycle } ∧
      (u.tileRep x.cand).st = .testing ∧ u.fis = s.u.fis)) := by
  refine ⟨fun h => ?_, fun h => ?_, fun h hs => ?_, fun h hs => ?_⟩
  · refine completes_onChip (exec_traversePhaseEnd s cl) hp ?_
    rw [phaseEnd_prepare hx h]
    exact phased_due s.u _ cl x .copy
  · refine completes_onChip (exec_traversePhaseEnd s cl) hp ?_
    rw [phaseEnd_copy hx h]
    have hcyc := s.u.advanceTo_cycle (x.since + 512)
    have hfab := s.u.advanceTo_fab (x.since + 512)
    have hfis := s.u.advanceTo_fis (x.since + 512)
    generalize s.u.advanceTo (x.since + 512) = d at *
    exact ⟨hcyc, ⟨_, Tbl.find_set_same _ _ _, rfl, rfl, rfl, rfl⟩, hfab, hfis⟩
  · refine completes_onChip (exec_traversePhaseEnd s cl) hp ?_
    rw [phaseEnd_shadow hx h hs]
    obtain ⟨h1, h2, -, h4⟩ := phased_due s.u (10000 + x.lastSwitch) cl x .vacate
    exact ⟨h1, h2, h4⟩
  · refine completes_onChip (exec_traversePhaseEnd s cl) hp ?_
    rw [phaseEnd_vacate hx h hs]
    have hcyc := s.u.advanceTo_cycle (x.since + 256)
    have hfis := s.u.advanceTo_fis (x.since + 256)
    generalize s.u.advanceTo (x.since + 256) = d at *
    have ht := tileRep_modTileRep d x.cand (fun y => { y with st := .testing })
    exact ⟨hcyc, Tbl.find_set_same _ _ _, congrArg TileRep.st ht, hfis⟩

end Sys2Proof.Machine
end

section
/-!
PROOFS. The retirement of DRAM groups, the mesh links, and with these the repair events (R425–R427, R735–R756).
-/
namespace Sys2Proof.Machine

/-! ### DRAM groups -/

/-- A group written down as retired, its place in the reserve taken. -/
def Chip.groupGone (c : Chip) (g : Nat) : Chip :=
  (c.rep' (fun r => { r with retired := insNat r.retired g, retiring := r.retiring.filter (· != g), groupErr := r.groupErr.del g })).rep'
    (fun r => { r with reloc := r.reloc + 1 })

/-- The record and the fault of a retirement. -/
def Chip.retireNoted (c : Chip) (g : Nat) : Chip := (c.record 204 g [fNat "GROUP" g, fSym "KIND" "RETIRE"]).raise 76 g none [fNat "GROUP" g]

theorem takeReserve_place {c : Chip} (h : c.rep.reloc < 3) : c.takeReserve = c.rep' (fun r => { r with reloc := r.reloc + 1 }) := by
  have hr : ((c.rep' (fun r => { r with reloc := r.reloc + 1 })).rep.reloc) ≠ 4 := by
    show c.rep.reloc + 1 ≠ 4
    omega
  unfold Chip.takeReserve
  dsimp only
  rw [if_pos (by omega), if_neg hr]

theorem groupRetire_eq {c : Chip} {g : Nat} (hg : g ∉ c.rep.retired) (h64 : g < 64) (hr : c.rep.reloc < 3) :
    c.groupRetire g = ((c.groupGone g).retireNoted g).capCheck := by
  have hres : (c.rep' (fun r => { r with retired := insNat r.retired g, retiring := r.retiring.filter (· != g), groupErr := r.groupErr.del g })).takeReserve =
      c.groupGone g := takeReserve_place hr
  unfold Chip.groupRetire
  dsimp only
  rw [if_neg (not_or.mpr ⟨fun h => hg (List.contains_iff_mem.mp h), Nat.not_le.mpr h64⟩), hres]
  rfl

theorem groupRetire_done {c : Chip} {g : Nat} (hg : g ∈ c.rep.retired) : c.groupRetire g = c := by
  unfold Chip.groupRetire
  exact if_pos (.inl (List.contains_iff_mem.mpr hg))

theorem capacity_congr {a b : Chip} (hs : a.sup = b.sup) (hr : a.rep = b.rep) : a.capacity = b.capacity := by
  unfold Chip.capacity Chip.stackHot Chip.sensor
  rw [hs, hr]

theorem groupRetire_lines {s : State} {g : Fin 64} (hp : s.u.sup.powered = true) :
    (g.val ∈ s.u.rep.retired → CompletesChip (.dramGroupRetire g) s (fun u => u = s.u)) ∧
    (g.val ∉ s.u.rep.retired → s.u.rep.reloc < 3 → s.u.fis = [] → CompletesChip (.dramGroupRetire g) s (fun u => u.rep.retired = insNat s.u.rep.retired g ∧
      u.rep.reloc = s.u.rep.reloc + 1 ∧ Raised s.u.coll u.coll 76 g ∧ u.mctl.cap = u.capacity)) := by
  refine ⟨fun hg => completes_onChip (exec_dramGroupRetire s g) hp (groupRetire_done hg), fun hg hr hf => ?_⟩
  refine completes_onChip (exec_dramGroupRetire s g) hp ?_
  rw [groupRetire_eq hg g.isLt hr]
  have hraised : Raised s.u.coll ((s.u.groupGone g).retireNoted g).coll 76 g :=
    raised_raise ((s.u.groupGone g).record 204 g [fNat "GROUP" g, fSym "KIND" "RETIRE"]) 76 g none [fNat "GROUP" g]
  have hdef : ((s.u.groupGone g).retireNoted g).fis = s.u.fis ∧ ((s.u.groupGone g).retireNoted g).rep.retired = insNat s.u.rep.retired g ∧
      ((s.u.groupGone g).retireNoted g).rep.reloc = s.u.rep.reloc + 1 := ⟨rfl, rfl, rfl⟩
  obtain ⟨e1, e2, e3⟩ := hdef
  generalize (s.u.groupGone g).retireNoted g = e at *
  obtain ⟨k1, k2, -, k4, k5⟩ := capCheck_idle (c := e) (e1.trans hf)
  refine ⟨(congrArg Repair.retired k4).trans e2, (congrArg Repair.reloc k4).trans e3, ?_, k5.trans (capacity_congr k1 k4).symm⟩
  rw [k2]
  exact hraised

/-! ### Links -/

theorem repLink_setLink (c : Chip) (n : Nat) (x : Link) : (c.setLink n x).repLink n = x := Tbl.get_put_same _ _ _ _

theorem linkSpare_line {s : State} {n : Nat} (hp : s.u.sup.powered = true) (hs : (s.u.repLink n).spares < 2) (ho : (s.u.repLink n).out = false) :
    CompletesChip (.bitLaneSpare n) s (fun u => u.repLink n = { s.u.repLink n with spares := (s.u.repLink n).spares + 1 } ∧ u.coll = s.u.coll ∧
      u.fab = s.u.fab ∧ Recorded s.u.cairn u.cairn 207 n [fNat "LINK" n, fSym "ACTION" "SPARE"]) := by
  refine completes_onChip (exec_bitLaneSpare s n) hp ?_
  have he : s.u.bitLaneSpare n = (s.u.setLink n { s.u.repLink n with spares := (s.u.repLink n).spares + 1 }).linkRecord n "SPARE" := by
    unfold Chip.bitLaneSpare
    exact if_pos ⟨hs, by rw [ho]; decide⟩
  have hl := repLink_setLink s.u n { s.u.repLink n with spares := (s.u.repLink n).spares + 1 }
  have hrec := recorded_record (s.u.setLink n { s.u.repLink n with spares := (s.u.repLink n).spares + 1 }) 207 n [fNat "LINK" n, fSym "ACTION" "SPARE"]
  rw [he]
  exact ⟨hl, rfl, rfl, hrec⟩

/-- A link at half width, with its fault and its record. -/
def Chip.linkHalved (c : Chip) (n : Nat) (ends : List (Nat × Nat)) : Chip :=
  ((c.setLink n { c.repLink n with half := true, ends := ends }).raise 1 n none [fNat "LINK" n]).linkRecord n "HALF"

theorem linkHalf_first {c : Chip} {n : Nat} {ends : List (Nat × Nat)} (hs : 2 ≤ (c.repLink n).spares) (ho : (c.repLink n).out = false)
    (hh : (c.repLink n).half = false) : c.linkHalf n ends = c.linkHalved n ends := by
  unfold Chip.linkHalf
  dsimp only
  rw [if_neg (not_or.mpr ⟨Nat.not_lt.mpr hs, by rw [ho]; decide⟩), if_neg (by rw [hh]; decide)]
  rfl

theorem linkHalf_second {c : Chip} {n : Nat} (hs : 2 ≤ (c.repLink n).spares) (ho : (c.repLink n).out = false) (hh : (c.repLink n).half = true) :
    c.linkHalf n [] = c.setLink n { c.repLink n with out := true } := by
  unfold Chip.linkHalf
  dsimp only
  rw [if_neg (not_or.mpr ⟨Nat.not_lt.mpr hs, by rw [ho]; decide⟩), if_pos hh]
  rfl

theorem linkHalf_lines {s : State} {n : Nat} {ends : List (Fin 416 × Fin 4)} (hp : s.u.sup.powered = true) :
    (2 ≤ (s.u.repLink n).spares → (s.u.repLink n).out = false → (s.u.repLink n).half = false → CompletesChip (.linkHalfWidth n ends) s (fun u =>
      (u.repLink n).half = true ∧ (u.repLink n).out = false ∧ Raised s.u.coll u.coll 1 n ∧ u.fab = s.u.fab ∧
      Recorded s.u.cairn u.cairn 207 n [fNat "LINK" n, fSym "ACTION" "HALF"])) ∧
    (2 ≤ (s.u.repLink n).spares → (s.u.repLink n).out = false → (s.u.repLink n).half = true → ends = [] → CompletesChip (.linkHalfWidth n ends) s (fun u =>
      (u.repLink n).out = true ∧ u.coll = s.u.coll ∧ u.fab = s.u.fab ∧ u.cairn = s.u.cairn)) := by
  refine ⟨fun hs ho hh => ?_, fun hs ho hh he => ?_⟩
  · refine completes_onChip (exec_linkHalfWidth s n ends) hp ?_
    rw [linkHalf_first hs ho hh]
    generalize ends.map (fun e => (e.1.val, e.2.val)) = l
    have hl : (s.u.linkHalved n l).repLink n = _ := repLink_setLink s.u n { s.u.repLink n with half := true, ends := l }
    have hr := raised_raise (s.u.setLink n { s.u.repLink n with half := true, ends := l }) 1 n none [fNat "LINK" n]
    have hrec := recorded_record ((s.u.setLink n { s.u.repLink n with half := true, ends := l }).raise 1 n none [fNat "LINK" n]) 207 n
      [fNat "LINK" n, fSym "ACTION" "HALF"]
    rw [hl]
    exact ⟨rfl, ho, hr, rfl, hrec⟩
  · subst he
    refine completes_onChip (exec_linkHalfWidth s n []) hp ?_
    have he : s.u.linkHalf n (([] : List (Fin 416 × Fin 4)).map (fun e => (e.1.val, e.2.val))) = s.u.setLink n { s.u.repLink n with out := true } :=
      linkHalf_second hs ho hh
    rw [he, repLink_setLink]
    exact ⟨rfl, rfl, rfl, rfl⟩

/-- Settles O60: the scrub, the traverse, the groups and the links, each event by the equation of its case. -/
theorem repairEvents : Obligations.RepairEvents := by
  unfold Obligations.RepairEvents
  exact ⟨fun s hp => ⟨scrub_quiet hp, patrol_quiet hp, fun w r => scrub_word hp, fun w r => scrub_wordBad hp, fun l r => patrol_lineBad hp⟩,
    fun s fi ls => poisonClear_line, fun s t => traverseStep_line,
    fun s cl x hp hx => ⟨slotSwitch_line hp hx, tileTestDone_line hp hx, compareFail_line hp hx, phaseEnd_lines hp hx⟩,
    fun s g => groupRetire_lines, fun s n ends hp => ⟨linkSpare_line hp, linkHalf_lines hp⟩⟩

end Sys2Proof.Machine
end
